-- ==== Sys2Proof/Word.lean ====
section
/-! DEFINITION. Words and bytes, and the plain numeric helpers every layer uses. -/

namespace Sys2Proof

/-- A register word (R23). -/
abbrev Word := BitVec 32

/-- A byte of a packet, frame or memory. -/
abbrev Byte := BitVec 8

/-- One byte of memory at an address. -/
abbrev Cell := Host.Cell

end Sys2Proof
end

