-- ==== Sys2Proof/Syntax.lean ====
section
/-! DEFINITION. The commands of the block: one constructor per row of spec/opcode_table.json, in the table's order.
An operand carries what the surroundings decide: which unit the event belongs to, the bits received, what was measured. -/

namespace Sys2Proof

/-- The two masters of the register bus (02_registers.md, before R23). -/
inductive Master where
  | consort
  | siding
  deriving DecidableEq, Repr

/-- A machine with an ENABLE field (R38 to R41). -/
inductive Mach where
  | port (p : Nat)
  | lane (l : Nat)
  | die (d : Nat)
  | sect (s : Nat)
  | line (g : Nat)
  | station (s : Nat)
  | window (w : Nat)
  | stack (n : Nat)
  deriving DecidableEq, Repr

/-- The commands. -/
inductive Instr where
  /-- REGISTER_WRITE (R36): A 32-bit write to a register that has no row of its own takes effect on the next clock edge of its domain, or ends in a bus error. Here width is in bits. -/
  | registerWrite (m : Master) (addr width : Nat) (v : Word)
  /-- CORE_PLL_LOCKED (R44): The core PLL completes its lock and CORE_PLL_LOCK reads 1. -/
  | corePllLocked
  /-- CORE_PLL_STOP (R474): The core PLL stops 1 ms after no lane, keep bit, processor or access needs it. -/
  | corePllStop
  /-- RESP_TIMEOUT (R45): A register access not completed within 10 µs ends with a bus error of kind TIMEOUT. Here applied tells whether a timed-out write took effect (R45 leaves it open). -/
  | respTimeout (m : Master) (addr : Nat) (write applied : Bool) (v : Word)
  /-- W1C_WRITE (R29): A write to a W1C field clears each bit set in the value written, except bits set by an event on the same edge. Here events are the bits that events set on the same edge (R30), and the line, section, die or domain that the events of a shared page are of (R412). -/
  | w1cWrite (m : Master) (addr : Nat) (v : Word) (events : Word × Nat)
  /-- SQC_WRITE (R32): A write to an SQC register clears its status when SEQ matches, and otherwise counts SQC_STALE. -/
  | sqcWrite (m : Master) (addr : Nat) (v : Word)
  /-- RWV_WRITE (R29): A write to an RWV register stores the value in all three copies on one edge. -/
  | rwvWrite (m : Master) (addr : Nat) (v : Word)
  /-- RWV_SCRUB (R35): Once per millisecond the scrubber reads every RWV register. -/
  | rwvScrub
  /-- TABLE_ENTRY_LOWER_WRITE (R37): A write to a lower word of a multi-word entry loads or updates the master's staging register. -/
  | tableEntryLowerWrite (m : Master) (addr : Nat) (v : Word)
  /-- TABLE_ENTRY_COMMIT (R37): A write to the highest word of a multi-word entry moves the whole entry into its table on the next edge. -/
  | tableEntryCommit (m : Master) (addr : Nat) (v : Word)
  /-- ENABLE_WRITE (R525): A write of an ENABLE field requests its state machine, clears a held start-up refusal, and starts a drain when 0 is written in UP. -/
  | enableWrite (m : Master) (addr : Nat) (v : Word)
  /-- DOWN_TIME_ELAPSED (R38): After at least 1 µs in DOWN with ENABLE 1 and no refusal held, a machine enters STARTING and validates its settings. -/
  | downTimeElapsed (u : Mach)
  /-- STARTUP_COMPLETE (R38): At the end of STARTING a machine enters UP if ENABLE is 1 and DRAINING otherwise. -/
  | startupComplete (u : Mach)
  /-- DRAIN_COMPLETE (R38): At the end of DRAINING a machine enters DOWN, and a latched re-enable then starts it again. -/
  | drainComplete (u : Mach)
  /-- DRAIN_TIMEOUT (R41): A drain that exceeds its block's drain limit sets DRAIN_TIMEOUT, and the domain is treated as hung. -/
  | drainTimeout (u : Mach)
  /-- LANE_TRAIN_START (R100): A lane whose enables allow it leaves electrical idle and sends training frames. -/
  | laneTrainStart (l : Nat)
  /-- TRAINING_FRAME_RX (R99): A received training frame delivers the partner's coefficient request, readiness and precoding request. Here marker, ctrlSyms and prbsSyms are its symbols 0 to 63, 64 to 127 and 128 to 1023 as they come in. -/
  | trainingFrameRx (l : Nat) (marker ctrlSyms prbsSyms : List Nat)
  /-- LANE_SIGNAL_DETECT (R100): The receiver detects the partner's signal and the lane enters CDR. -/
  | laneSignalDetect (l : Nat)
  /-- LANE_CDR_LOCK (R100): Clock recovery locks and the lane enters RX_ADAPT. -/
  | laneCdrLock (l : Nat)
  /-- LANE_RX_ADAPTED (R100): The receiver equaliser finishes adapting and the lane enters TX_TUNE. Here snr is the estimated signal-to-noise ratio. -/
  | laneRxAdapted (l snr : Nat)
  /-- LANE_TX_TUNED (R100): Both ends show RX_READY and the lane switches to the coded block stream. -/
  | laneTxTuned (l : Nat)
  /-- LANE_CW_LOCK (R100): The lane gains codeword lock and enters MARKER_LOCK. -/
  | laneCwLock (l : Nat)
  /-- LANE_MARKER_LOCK (R116): The lane receives two markers at the expected spacing and, once its domain is SERVING, sends LANE_READY. Here the operands are what the markers carry and the skew measured [ns]. -/
  | laneMarkerLock (l logical check count skew : Nat)
  /-- LANE_RUN (R100): The lane is deskewed and joins its port in RUN. -/
  | laneRun (l : Nat)
  /-- TRAIN_FAIL (R101): A lane that spends more than TRAIN_LIMIT in steps 3 to 8 sets TRAIN_FAIL and idles its transmitter for 1 ms. -/
  | trainFail (l : Nat)
  /-- TRAIN_RESTART (R101): After 1 ms of electrical idle following TRAIN_FAIL, the lane starts training again at step 1. -/
  | trainRestart (l : Nat)
  /-- CODEWORD_RX (R95): A received RS(544,514) codeword is corrected, or delivered with all of its blocks marked bad. Here res is the number of symbols corrected, none if uncorrectable, with the units of the port's stream in it, numbered from the next one to come, and unknown the control blocks of other TYPE or code in it. -/
  | codewordRx (l : Nat) (res : Option Nat × List Nat) (unknown : Nat)
  /-- MARKER_RX (R96): A received MARKER pair is compared with the logical lane and port check to which the lane locked. Here ok0 and ok1 tell which block of the pair lies in a correctable codeword. -/
  | markerRx (l logical check count : Nat) (ok0 ok1 : Bool)
  /-- FILLER_RX (R97): A FILLER pair is deleted before the clock-crossing buffer. -/
  | fillerRx (l : Nat)
  /-- FILLER_TX (R97): A transmitter sends a FILLER pair at least once in every 4,096 blocks on all active lanes. -/
  | fillerTx (p : Nat)
  /-- MARKER_TX (R96): A transmitter sends a MARKER pair every 4,096 codewords on every lane of a port. -/
  | markerTx (p : Nat)
  /-- WIDTH_REQ (R112): On a received WIDTH_REQ the partner sends SWITCH on all active lanes and stripes over the reduced mask. -/
  | widthReq (p mask : Nat) (ok0 ok1 : Bool)
  /-- SWITCH (R112): A received SWITCH changes the receive mask at the unit count that it names. Here units is the unit count named. -/
  | switch (p mask units : Nat) (ok0 ok1 : Bool)
  /-- LANE_READY (R116): On a received LANE_READY the end adds the lane to its transmit mask by SWITCH. -/
  | laneReady (p mask : Nat) (ok0 ok1 : Bool)
  /-- COEF_REQ (R103): On a received COEF_REQ the end applies one transmitter coefficient step and answers with COEF_ACK. Here l is the lane whose transmitter is asked. -/
  | coefReq (l tap action : Nat) (ok0 ok1 : Bool)
  /-- COEF_ACK (R103): A received COEF_ACK confirms a requested coefficient step and reports AT_LIMIT. -/
  | coefAck (l : Nat) (atLimit ok0 ok1 : Bool)
  /-- GOODBYE (R118): A received GOODBYE takes the port's LINK DOWN at once. -/
  | goodbye (p : Nat) (ok0 ok1 : Bool)
  /-- ADAPT_STEP (R103): At most once per millisecond, a lane in RUN asks the partner for one transmitter coefficient step. Here tap and action are what the receiver asks for. -/
  | adaptStep (l tap action : Nat)
  /-- ADAPT_REVERT (R103): When the 1 ms after a step shows twice the corrected symbols of the 1 ms before it, the asking end reverses the step. -/
  | adaptRevert (l : Nat)
  /-- EYE_START (R105): START written to LANE.EYE_CMD with no point running starts an eye-scan point. -/
  | eyeStart (m : Master) (l : Nat)
  /-- EYE_ABORT (R105): ABORT written to LANE.EYE_CMD ends the running point and sets ABORTED. -/
  | eyeAbort (m : Master) (l : Nat)
  /-- EYE_POINT_DONE (R105): A point ends, its bits and mismatches are added to the counters, POINT_SEQ increments and DONE is set. Here moved tells whether the equaliser changed during the point. -/
  | eyePointDone (l mismatches : Nat) (moved : Bool)
  /-- EYE_HOLD_RELEASE (R106): An adaptation hold under FREEZE that would exceed 10 ms is released, and the point completes with ADAPT_MOVED. -/
  | eyeHoldRelease (l : Nat)
  /-- LAYOUT_CONFLICT_CLEAR (R108): A port waiting with LAYOUT_CONFLICT continues start-up once the conflicting port is DOWN. -/
  | layoutConflictClear (p : Nat)
  /-- LINK_UP (R111): All lanes of a port reach RUN in both directions, or at TRAIN_LIMIT at least MIN_WIDTH do, and LINK comes up, sending LINK and HELLO. Here back is the mask of own transmit lanes that the partner's receivers run on. -/
  | linkUp (p back : Nat)
  /-- LANE_FAULT (R112): A lane fault of a receiving lane removes it from the receive mask, sends WIDTH_REQ and withdraws the matching transmit lane. Here kind is the LANE.CAUSE bit, 0 LOS, 1 CW_LOCK_LOSS, 2 MARKER_LOSS, 3 UNCORR_LIMIT. -/
  | laneFault (l kind : Nat)
  /-- LANE_WITHDRAW (R115): ENABLE 0 or a nonzero TEST on a lane in RUN withdraws it from both masks by plan. -/
  | laneWithdraw (l : Nat)
  /-- LINK_DOWN (R117): A mask below MIN_WIDTH takes LINK DOWN, starts the flush of the port and retrains every lane. -/
  | linkDown (p : Nat)
  /-- PACKET_HEADER_RX (R137): A header unit that passes the header checks is charged, gets its cells and has its route looked up. Here unit is the 64 bytes received on port p, bad whether the in-package link met an uncorrectable error in it; a unit in an uncorrectable codeword is bad by CODEWORD_RX. -/
  | packetHeaderRx (p : Nat) (unit : List Byte) (bad : Bool)
  /-- PACKET_RX_COMPLETE (R145): A whole received packet is checked and then enqueued, consumed or discarded. Here payload is the packet's payload units as received, bad whether the in-package link met an uncorrectable error in them; units in an uncorrectable codeword are bad by CODEWORD_RX. -/
  | packetRxComplete (p : Nat) (payload : List Byte) (bad : Bool)
  /-- LINK_UNIT_RX (R142): A good LINK unit updates the partner's totals and grants, and reconciles lost credits or raises CREDIT_PROTOCOL. -/
  | linkUnitRx (p : Nat) (unit : List Byte) (bad : Bool)
  /-- LINK_UNIT_TX (R139): A transmitter sends a LINK unit after changed totals and LINK_EVERY units, after LINK_MAX_GAP, or when idle. -/
  | linkUnitTx (p : Nat)
  /-- PACKET_TX_START (R192): An output chooses a class head allowed by credit, gate and bucket, and starts sending that packet whole. Here p is a fabric port. -/
  | packetTxStart (p : Nat)
  /-- PACKET_READ_OUT (R168): A copy finishes leaving its output, and its header cell and one payload reference return. Here o is the output and tc the class read at an internal one, room whether its consumer has room (R131). -/
  | packetReadOut (o tc : Nat) (room : Bool)
  /-- LIMIT_WRITE (R161): A write of LIMIT raises EFF as far as UNCOMMITTED allows or lowers it at once. -/
  | limitWrite (m : Master) (p c : Nat) (v : Word)
  /-- LIMIT_RELEASE (R162): An old fabric limit is released once HELD fits and 200 µs have passed since the new grant was sent. -/
  | limitRelease (p c : Nat)
  /-- LIMIT_PENDING_RAISE (R161): A pending account's EFF rises as cells become uncommitted. -/
  | limitPendingRaise (p c : Nat)
  /-- MULTICAST_ADMIT (R167): A multicast packet from a station or firmware port is resolved, allocated and placed all or none. Here offer is a packet (header, payload, copy list) that a processor hands to the firmware port. -/
  | multicastAdmit (o : Nat) (offer : Option (List Byte × List Byte × List Nat))
  /-- MC_BLOCKED (R167): A multicast packet that waits 10 µs for its account sets MC_BLOCKED. -/
  | mcBlocked (o : Nat)
  /-- ORIGINATED_SEND (R164): A station or firmware port allocation that waited for its account is granted when cells are released. Here offer is a packet (header, payload) that a processor hands to the firmware port. -/
  | originatedSend (o tc : Nat) (offer : Option (List Byte × List Byte × Nat))
  /-- STATION_TAKEOVER (R171): A station port consumes a packet or parks it, and its cells move to the station account. Here o is a station port. -/
  | stationTakeover (o tc : Nat)
  /-- FLUSH_COMPLETE (R170): The flush of a port ends, with every copy removed and HELD 0 in every class. -/
  | flushComplete (p : Nat)
  /-- FLUSH_OVERRUN (R170): A flush that runs longer than 12 µs sets FLUSH_OVERRUN, and the lane die domain is treated as hung. -/
  | flushOverrun (p : Nat)
  /-- POOL_REQUEST (R174): A requester asks a pool for n entries, granted all or none within quota, or left to wait. Here k is the pool, r the requester kind, n the entries and tag the requester's name for the request. -/
  | poolRequest (k r n tag : Nat)
  /-- POOL_GRANT (R174): A waiting pool request is granted once entries and quota allow. -/
  | poolGrant (k : Nat)
  /-- POOL_FREE (R175): A freed entry returns to its sub-list tail, or a double free is refused and captured. -/
  | poolFree (k e r : Nat)
  /-- QUOTA_WRITE (R176): A write of a pool quota sets QUOTA_OVERCOMMIT when the quotas exceed SIZE. -/
  | quotaWrite (m : Master) (k r : Nat) (v : Word)
  /-- POOL_WALK (R177): Each slow cycle the walker follows one entry of every sub-list and checks its state bit. Here errs are the free entries whose stored link has become uncorrectable. -/
  | poolWalk (k : Nat) (errs : List Nat)
  /-- POOL_RELINK_DONE (R177): A sub-list rebuild ends and the sub-list grants again. -/
  | poolRelinkDone (k sub : Nat)
  /-- CONSERVATION_AUDIT (R178): Once per millisecond the audit engine checks every conservation identity on one edge and raises CONSERVATION on a failure. -/
  | conservationAudit
  /-- PATH_REMOVED (R189): A port stops being live, and every set stops choosing its positions. -/
  | pathRemoved (p : Nat)
  /-- PATH_RETURN (R190): A port becomes live again and returns to every LIVE mask. -/
  | pathReturn (p : Nat)
  /-- BUCKET_REFILL (R198): Each slow cycle every bucket level gains RATE, up to its cap, and reopens its class at level 0. -/
  | bucketRefill
  /-- BUCKET_ENABLE (R200): EN going from 0 to 1 starts the bucket level at 800 × BURST. -/
  | bucketEnable (m : Master) (p c : Nat) (v : Word)
  /-- TIME_SYNC_TX (R203): Every SYNC_US an enabled port sends a TIME_SYNC with t1 inserted in hardware. -/
  | timeSyncTx (p : Nat)
  /-- TIME_SYNC (R203): A received TIME_SYNC is answered with TIME_REPLY carrying t2 and t3. -/
  | timeSync
  /-- TIME_REPLY (R204): A received TIME_REPLY gives delay and offset, then NOW is stepped or slewed and the servo state updated. -/
  | timeReply
  /-- TIME_EXCHANGE_MISSED (R205): An exchange not answered before the next TIME_SYNC is due counts as missing, and four in a row enter HOLDOVER. -/
  | timeExchangeMissed
  /-- TIME_PARENT_LOST (R205): The parent link goes down, and the unit enters HOLDOVER or takes BACKUP_PORT within 1 ms. -/
  | timeParentLost
  /-- PPS_IN_EDGE (R206): A rising TIME_PPS_IN edge captures PPS_CAP and disciplines NOW on a GM module. -/
  | ppsInEdge
  /-- PPS_MISSING (R206): With PPS_IN_EN and no edge for 1.1 s, PPS_MISSING is set and the module runs free. -/
  | ppsMissing
  /-- PPS_OUT_PULSE (R207): At each second of NOW, TIME_PPS_OUT is driven low for 100 µs. -/
  | ppsOutPulse
  /-- LATCH (R202): TIME.CMD LATCH copies NOW into LATCH_NS and LATCH_FRAC on one edge. -/
  | timeLatch (m : Master)
  /-- SET (R206): TIME.CMD SET loads NOW from SET_NS with fraction 0. -/
  | timeSet (m : Master)
  /-- RESTART (R205): TIME.CMD RESTART puts the servo in ACQUIRE, or in GM when GM is 1. -/
  | timeRestart (m : Master)
  /-- GATE_ENABLE (R210): GATE_EN written 1 checks the active bank and starts gating, or sets GATE_INVALID. -/
  | gateEnable (m : Master) (p : Nat)
  /-- SWAP_AT_WRITE (R211): A write of SWAP_AT requests a bank swap and sets SWAP_PENDING. Here the two words of SWAP_AT are written, lowest first. -/
  | swapAtWrite (m : Master) (p lo hi : Nat)
  /-- GATE_SWAP (R211): At the first cycle start at or after SWAP_AT, the other bank becomes active from entry 0. -/
  | gateSwap (p : Nat)
  /-- GATE_ENTRY_ADVANCE (R209): The running gate entry's DURATION ends and the next entry comes into force. -/
  | gateEntryAdvance (p : Nat)
  /-- PLAN_COMMIT (R215): A committed plan entry takes effect on the next edge, re-evaluates TOPO and sends a HELLO. Here v is written to PLAN_CTL. -/
  | planCommit (m : Master) (p : Nat) (v : Word)
  /-- MODULE_NUM_WRITE (R217): A write of TOP.MODULE_NUM renumbers the module and sends a HELLO on every port that is up. -/
  | moduleNumWrite (m : Master) (v : Word)
  /-- HELLO_TX (R217): Every HELLO_US a port that is up sends a HELLO. -/
  | helloTx (p : Nat)
  /-- HELLO (R219): A good HELLO is copied into the neighbour record, and TOPO is re-evaluated. -/
  | hello
  /-- NEIGHBOUR_DEAD (R219): DEAD_COUNT × HELLO_US passes with no good HELLO, and NB_NODE.VALID clears. -/
  | neighbourDead (p : Nat)
  /-- ABSENT_TIMEOUT (R221): ABSENT_MS passes since STARTING with no neighbour heard, and an EXPECT port becomes ABSENT. -/
  | absentTimeout (p : Nat)
  /-- TICKET (R242): A collective ticket is tested and joins its queue entry, or is refused or discarded. Here o is the port whose head packet is taken. -/
  | ticket (o : Nat)
  /-- STATION_TICKET (R355): A DISPATCH or COMBINE station ticket is tested and joins its queue entry. -/
  | stationTicket (o : Nat)
  /-- ENTRY_ACTIVATE (R247): A MATCHED entry becomes ACTIVE when fewer than two entries are ACTIVE and its own conditions allow. -/
  | entryActivate (g : Nat)
  /-- CHUNK_ADMIT (R270): A chunk with an ACTIVE entry and a packet at the station port requests slots and record cells together. -/
  | chunkAdmit (g step sub c : Nat)
  /-- TIMETABLE (R276): A timetable packet is tested and held in the arrival record, fixing the anchors when it is the last. -/
  | timetable (o : Nat)
  /-- CONTRIBUTION (R276): A contribution packet is tested, then added, parked or discarded. -/
  | contribution (o : Nat)
  /-- PLATFORM_RELEASE (R279): When the condition that parked a chunk's packets clears, they leave in parking order to be tested and added. -/
  | platformRelease (o : Nat)
  /-- PLATFORM_EXPIRY (R279): Packets parked for a collective with no entry are discarded when CHUNK_TIMER expires. Here fam is 0, or the OP of a station ticket. -/
  | platformExpiry (g step sub fam c : Nat)
  /-- CONTRIBUTION_ADD (R280): The reduction unit finishes adding a contribution packet, after testing its blocks against their timetable entries. Here L is the logical coach. -/
  | contributionAdd (L : Nat)
  /-- STAGING_SCAN (R252): When every contribution has landed in a staging line, the exponents are scanned, M is fixed and the chunk is combined. -/
  | stagingScan (g step sub c : Nat)
  /-- CHUNK_SEND_UP (R250): A LEAF or INNER line with a complete sum narrows it and sends timetable, flags and contribution to the parent. -/
  | chunkSendUp (g step sub c : Nat)
  /-- CHUNK_ROUND (R284): The ROOT rounds a complete chunk into OUT_FMT, or hands it to APPLY or NORM, and packs the result. -/
  | chunkRound (g step sub c : Nat)
  /-- UPDATE_APPLY (R334): The update pipe applies the rule set to each element, writes the other slot and forms the publication. -/
  | updateApply (g step sub c : Nat)
  /-- PRECOND_READY (R340): A tile's APPLY that waited for its refresh or statistics copy proceeds. -/
  | precondReady (g step sub c : Nat)
  /-- RESULT_EMIT (R285): A line emits a result as multicast packets in ascending BLK to its recipients. Here poison tells that an uncorrectable granule was met while the packet was written. -/
  | resultEmit (g step sub c : Nat) (poison : Bool)
  /-- RESULT (R286): A result packet from the parent is taken over, held and re-emitted to the line's own recipients. -/
  | result (o : Nat)
  /-- RESULT_ACK (R287): A RESULT_ACK marks a recipient as holding the chunk. -/
  | resultAck (o : Nat)
  /-- RESULT_REQ (R289): A RESULT_REQ is answered with every held packet naming the blocks, or with ERROR NOT_HELD. Here the port and the packet of the answer, if any, whose write met an uncorrectable granule. -/
  | resultReq (o : Nat × Option Nat)
  /-- RESULT_RESEND_TIMER (R288): A recipient that has not acknowledged RESEND_US after the last copy gets the result again. Here c is the chunk and the packet, if any, whose write met an uncorrectable granule. -/
  | resultResendTimer (g step sub : Nat) (c : Nat × Option Nat)
  /-- DONE (R290): The parent's DONE for a chunk reaches a child line, which releases its sum and forwards DONE after its hold. -/
  | done (o : Nat)
  /-- ABORT_UP (R261): An ABORT_UP ends the collective with COLL_TIMEOUT and names the child in the missing map. -/
  | abortUp (o : Nat)
  /-- RESEND_REQ (R262): A line acting as a source receives RESEND_REQ and resends the ticket, timetable or contribution asked for. -/
  | resendReq (o : Nat)
  /-- RESEND_TIMER (R262): Every RESEND_US while an awaited item is missing, the line sends RESEND_REQ to each source that owes it. -/
  | resendTimer (g step sub fam : Nat)
  /-- CHUNK_TIMER_EXPIRY (R260): A chunk or ticket-phase timer expires, the collective ends with COLL_TIMEOUT, and DONE and ABORT_UP are sent. -/
  | chunkTimerExpiry (g step sub fam : Nat)
  /-- LINE_HANG (R267): A line that makes no progress on ready work for WATCHDOG_US sets LINE_HANG and is treated as hung. -/
  | lineHang (g : Nat)
  /-- ENDED_MEMORY_EXPIRY (R247): The line forgets a step counter one duplicate window after its entry returned to FREE. -/
  | endedMemoryExpiry (g : Nat)
  /-- WITHDRAW (R292): A WITHDRAW ends the chunk with RESULT_LOST and passes it on with REASON 0x3. -/
  | withdraw (o : Nat)
  /-- STORE_SCRUB (R283): Once per millisecond every allocated slot, class cell and arrival record cell of a coach is read. Here met is how many errors the scrub corrects and the chunks in whose cells it meets an uncorrectable one. -/
  | storeScrub (n p : Nat) (met : Nat × List (Nat × Nat × Nat × Nat))
  /-- SLIVER_SCRUB (R297): Every 10 ms of awake time every sliver store granule is read, and an uncorrectable one is poisoned. Here section n, physical coach p; the granules whose data and check bits have flipped since they were last read, and those that another address has overwritten, with the address bits that differ. -/
  | sliverScrub (n p : Nat) (flips : List (Nat × Nat × Nat)) (moved : List (Nat × Nat))
  /-- RUN_SUBMIT (R308): A write of GO to RUN_SUBMIT queues a firmware run, or discards it with RUNQ_FULL. -/
  | runSubmit (m : Master) (n p : Nat) (v : Word)
  /-- RUN_START (R309): The coach arbiter starts a queue's head run once its cores are free. -/
  | runStart (n p : Nat)
  /-- DESCRIPTOR_ISSUE (R300): A fetched descriptor is checked and issues once its dependences and units allow. Here the running run of that index; throttled core cycles that held array issue. -/
  | descriptorIssue (n p run throttled : Nat)
  /-- RUN_COMPLETE (R314): A run ends, its completion record is written and the requester is signalled. Here the running run of that index. -/
  | runComplete (n p run : Nat)
  /-- SEQ_HANG (R317): A sequencer that issues nothing with ready work for WATCHDOG_US sets SEQ_HANG. Here coach is section and physical coach; run the running run's index and the slow cycles that it waited for power tokens or the throttle. -/
  | seqHang (coach run : Nat × Nat)
  /-- SUBST (R305): SECTION.CMD SUBST starts a planned substitution of a logical coach. -/
  | subst (m : Master) (n logical : Nat)
  /-- RETURN (R307): SECTION.CMD RETURN starts a planned return of a repaired physical coach. -/
  | returnCoach (m : Master) (n logical phys : Nat)
  /-- SUBST_REMAP (R305): When the pending logical coach holds no slot and no run, the remap to the spare is made on one edge. -/
  | substRemap (n : Nat)
  /-- RETURN_REMAP (R307): When the pending logical coach is free, REMAP names the repaired coach and SPARE_IN_USE clears. -/
  | returnRemap (n : Nat)
  /-- SUBST_TIMEOUT (R305): SUBST_LIMIT_MS passes while a substitution or return is pending. -/
  | substTimeout (n : Nat)
  /-- REMAP_WRITE (R306): A write of a REMAP entry is stored while the section is DOWN, and otherwise refused. -/
  | remapWrite (m : Master) (n l : Nat) (v : Word)
  /-- SECTION_CLOCK_GATE (R318): A section idle for IDLE_US stops its fast clock. -/
  | sectionClockGate (n : Nat)
  /-- SECTION_WAKE (R319): A packet, run submission or access wakes a gated section. -/
  | sectionWake (n : Nat)
  /-- SHARD_COMMIT (R328): When the last chunk of a shard's step ends and its slot writes are acknowledged, the completion record and commit word are written. -/
  | shardCommit (tensor : Nat)
  /-- REFRESH_COMPLETE (R340): A tile's refresh of PL and PR ends and its bank is usable. -/
  | refreshComplete (tensor tile bank : Nat)
  /-- LOCAL_UPDATE (R345): A station's request starts a local update of an expert tensor from its gradient buffer. -/
  | localUpdate (tensor : Nat)
  /-- ARENA_GRANT (R372): A station entry takes its arena blocks all or none, sends ADMIT to members, or waits with ACT_WAIT. -/
  | arenaGrant (g : Nat)
  /-- TOKEN (R362): A TOKEN packet is tested and written to its expert row. -/
  | token (o : Nat)
  /-- TILE_COMPUTE (R363): Once every admitted row of a 512-row tile has landed, the station starts its forward or backward computation. Here coach is the logical coach of the section, runs the runs that the tile takes, core the core of each, 16 for runs of the whole coach. -/
  | tileCompute (g step sub op k tile coach runs core : Nat)
  /-- TOKEN_COMBINE (R365): Once every contribution of a token is present, its coach adds them exactly and emits the RETURN. -/
  | tokenCombine (g step sub op member tok : Nat)
  /-- RETURN_ACK (R367): A RETURN_ACK frees acknowledged tokens from the return ring. -/
  | returnAck (o : Nat)
  /-- RETURN_RESEND_TIMER (R367): A RETURN unacknowledged RESEND_US after emission is sent again. -/
  | returnResendTimer (g step sub op : Nat)
  /-- STATION_CHUNK_END (R368): Chunk 0 of a station collective ends OK when rows are computed and returns acknowledged, and DONE follows. -/
  | stationChunkEnd (g step sub op : Nat)
  /-- WEIGHT_REBUILD (R371): Before an entry naming a STALE expert becomes ACTIVE, its weights are rewritten from slot LIVE. -/
  | weightRebuild (x : Nat)
  /-- ACT_EXPIRED (R373): ACT_HOLD_MS after a saving DISPATCH ended with no COMBINE, its blocks return and ACT_EXPIRED is set. -/
  | actExpired (g step sub : Nat)
  /-- READ (R389): A fabric memory READ is tested and answered with READ_DATA or an ERROR. Here the head request of station port o. -/
  | read (o : Nat)
  /-- WRITE (R389): A fabric memory WRITE is tested, entered in the reply cache and executed. -/
  | write (o : Nat)
  /-- FETCH_ADD (R389): A FETCH_ADD atomically adds to a 64-bit integer and returns the old value. -/
  | fetchAdd (o : Nat)
  /-- CAS (R389): A CAS stores SWAP when the value equals COMPARE and returns the old value. -/
  | cas (o : Nat)
  /-- FENCE (R393): A FENCE is answered when its epoch count reaches COUNT, and otherwise waits. -/
  | fence (o : Nat)
  /-- FENCE_TIMEOUT (R393): FENCE_US passes and the FENCE is answered with STATUS incomplete. -/
  | fenceTimeout (src tag : Nat)
  /-- FENCE_ENTRY_IDLE (R393): A fence counter entry ages out FENCE_IDLE_MS after its last request. -/
  | fenceEntryIdle (src epoch : Nat)
  /-- STACK_WRITE_ACK (R391): The stack controller acknowledges a write, and the WRITE_ACK or ATOMIC_REPLY is sent. -/
  | stackWriteAck (id : Nat)
  /-- SPACE_LAYOUT_WRITE (R387): A write of a space layout acts at once, or is refused with LAYOUT_INVALID. Here the space: SPACE_BASE, then SPACE_SIZE. -/
  | spaceLayoutWrite (m : Master) (space base size : Nat)
  /-- PATROL_SCRUB (R382): The patrol scrub reads stack granules, corrects CE in place and poisons uncorrectable granules. Here stack n reads granule g, of which the bits data and check flipped; race: a write came between. -/
  | patrolScrub (n g data check : Nat) (race : Bool)
  /-- REFRESH (R383): The controller refreshes one bank of one pseudo-channel per bank, at twice the rate above 85 °C. Here waits: core cycles in which accesses waited. -/
  | refresh (n pc bank waits : Nat)
  /-- START (R384): HBM.REPAIR_CMD START copies the named row to a shelter entry and begins a live soft repair. Here flips: granules of the named row whose data and check bits have flipped since they were last read. -/
  | startRepair (m : Master) (n : Nat) (flips : List (Nat × Nat × Nat))
  /-- REPAIR_PPR_DONE (R384): The post-package repair finishes and the row is written back from the shelter. Here left: repair resources left; exhausted: the bank had none. -/
  | repairPprDone (n left : Nat) (exhausted : Bool)
  /-- REPAIR_DONE (R384): The write-back finishes, the shelter entry is released and the repair is listed. -/
  | repairDone (n : Nat)
  /-- STACK_INIT_STEP (R378): A stack initialisation step completes, up to training, repair and fill. Here step k of stack n ends; left: resources that step 2 reads. -/
  | stackInitStep (n k : Nat) (ok : Bool) (left : Nat)
  /-- FAULT_EVENT (R416): A reported CAUSE bit triggers its domain's reaction by severity and fills or merges its pending slot. Here the oldest event reported, or ext: source, instances, detail of an event from outside. -/
  | faultEvent (ext : Option (Nat × Nat × Nat × List Nat))
  /-- COLLECTOR_TAKE (R419): Each slow cycle the collector takes one full pending slot and offers its record to the ring. -/
  | collectorTake
  /-- RING_RD_WRITE (R420): A write of RING_RD consumes fault records unless it is out of range. -/
  | ringRdWrite (m : Master) (v : Word)
  /-- DOMAIN_RESET_COMPLETE (R425): A domain's reset completes, and it enters QUIET, or SERVING after a release or command. -/
  | domainResetComplete (d : Nat)
  /-- QUIET_PERIOD_END (R425): QUIET_MS passes with no event, and the domain returns to SERVING or enters STOP by the threshold. -/
  | quietPeriodEnd (d : Nat)
  /-- RECOVERY_WINDOW_CLOSE (R426): WINDOW_S after it opened, a domain's recovery window closes. -/
  | recoveryWindowClose (d : Nat)
  /-- RELEASE (R427): FAULT.CMD RELEASE starts a reset of a domain in STOP that ends in SERVING. -/
  | release (m : Master) (domain : Nat)
  /-- DEADLINE_MISS (R437): A reset that misses its deadline stops the domain and escalates to its parent. -/
  | deadlineMiss (d : Nat)
  /-- PROC_HANG (R436): A processor that writes no KICK within PROC_WD_MS is reset. -/
  | procHang (p : Nat)
  /-- KICK (R436): A write of RESET.KICK restarts the processor watchdogs of the bits set. -/
  | kick (m : Master) (v : Word)
  /-- RESET (R439): RESET.CMD OP RESET fences and resets a SERVING domain, which then goes straight to SERVING. -/
  | resetCmd (m : Master) (domain : Nat)
  /-- MODULE_RESET (R440): RESET.CMD MODULE_RESET with CONFIRM 0xA5 resets the whole module. -/
  | moduleReset (m : Master) (confirm domain : Nat)
  /-- MODULE_RESET_START (R442): A module reset begins, idles transmitters, fences every domain and records its cause. -/
  | moduleResetStart (modEnFalls resetNFalls : Bool) (contain : Option Nat) (command : Bool) (escalation : Option Nat)
  /-- BOOT_STEP (R492): A boot code step completes: PUF and key, manifest, sections, grade, certificate. Here inp: whether the helper data reproduce the secret, and the SLOT_ID straps. -/
  | bootStep (inp : Bool × Nat)
  /-- REGISTER_BUS_RELEASE (R499): Boot code locks protection and releases the register bus to the siding link. -/
  | registerBusRelease
  /-- MODULE_READY (R512): Consort processors have started and the arbiter has granted, so READY is asserted. -/
  | moduleReady
  /-- BEGIN (R451): IMG_CMD BEGIN opens a bank for staging, unless it is in use. -/
  | beginImage (m : Master) (bank : Nat)
  /-- END (R451): IMG_CMD END passes a staged bank to the loader for verification. -/
  | endImage (m : Master) (bank : Nat)
  /-- ABORT (R451): IMG_CMD ABORT returns a STAGING bank to EMPTY. -/
  | abortImage (m : Master) (bank : Nat)
  /-- RESUME (R459): IMG_CMD RESUME continues a paused staging from STAGED_BYTES. -/
  | resumeImage (m : Master) (bank : Nat)
  /-- BOOT_BANK (R451): IMG_CMD BOOT_BANK selects a VERIFIED bank for the next module reset. -/
  | bootBank (m : Master) (bank : Nat)
  /-- IMAGE_VERIFY_DONE (R451): The loader finishes checking a bank, which becomes VERIFIED or INVALID. -/
  | imageVerifyDone (b : Nat)
  /-- ACTIVATE (R452): ACT_CMD ACTIVATE requests activation of a processor's section, or is refused. -/
  | activateImage (m : Master) (p bank : Nat)
  /-- CANCEL (R454): ACT_CMD CANCEL returns a pending activation to IDLE. -/
  | cancelImage (m : Master) (p : Nat)
  /-- EMERGENCY_HOLDOFF_END (R453): A pending activation enters LOADING once no emergency or reallocation holds it back, and asks for a safe point. -/
  | emergencyHoldoffEnd (p : Nat)
  /-- SAFE_POINT (R453): The old image reports ready, or 2 ms pass, and the loader stops it or returns to pending. Here ready: the old image reports ready. -/
  | safePoint (p : Nat) (ready : Bool)
  /-- IMAGE_START (R455): The section is copied and its digest checked, and the image starts at ENTRY. -/
  | imageStart (p : Nat)
  /-- PROBATION_END (R455): PROBATION_S passes without revert and the activation ends ACTIVATED. -/
  | probationEnd (p : Nat)
  /-- START_LIMIT_EXPIRY (R456): START_LIMIT_MS passes without a KICK and the activation is reverted. -/
  | startLimitExpiry (p : Nat)
  /-- HEARTBEAT_WRITE (R458): A changed HEARTBEAT value restarts the host timer and ends a host absence. -/
  | heartbeatWrite (m : Master) (v : Word)
  /-- HOST_ABSENT (R458): No counted heartbeat for HB_TIMEOUT_MS sets HOST_ABSENT and pauses host-started operations. -/
  | hostAbsent
  /-- HEV_RD_WRITE (R460): A write of HEV_RD consumes host event entries unless it is out of range. -/
  | hevRdWrite (m : Master) (v : Word)
  /-- HOST_EVENT_PUSH (R461): An event is pushed into the host event ring, or counted as overflow. -/
  | hostEventPush (p kind : Nat) (data : List Byte)
  /-- LOG_ENTRY_WRITE (R447): An enabled trace point writes one entry to its processor's log ring. -/
  | logEntryWrite (p point level : Nat) (args : List Word)
  /-- EPOCH_BOUNDARY (R467): Every 10 µs the arbiter takes returns, budget changes, revocations, section shares and grants. -/
  | epochBoundary
  /-- TOKEN_REQUEST (R466): A recipient's request for tokens is granted from FREE within 1 µs, or the recipient paces with BUDGET_SHORT. Here recipient r predicts a draw of demand watts. -/
  | tokenRequest (r demand : Nat)
  /-- BUDGET_WRITE (R468): A change of BUDGET starts a reallocation at the next epoch boundary. -/
  | budgetWrite (m : Master) (v : Word)
  /-- EMERGENCY_ONSET (R471): A UV, OC or THERM onset throttles array issue within 200 ns. Here 0 UV, 1 OC, 2 THERM. -/
  | emergencyOnset (k : Nat)
  /-- EMERGENCY_CLEAR (R471): The last emergency cause clears, the throttle is released and EMERG_CLEAR_MS starts. -/
  | emergencyClear (k : Nat)
  /-- TRIP (R472): A sensor above 115 °C for 1 µs or OC lasting 1 ms turns off every rail except the always-on rail. Here oc: by overcurrent, else by temperature. -/
  | trip (oc : Bool)
  /-- SENSOR_READ (R475): Every 10 µs the module reads its temperature sensors. Here also the input's levels as measured from now
  on, with the thousandths, less 10, by which the measures of power and energy are off. -/
  | sensorRead (junction dies hbms : List Nat) (coolant vin iin powerDev energyDev : Nat)
  /-- SIDING_LINK_UP (R481): With all lanes aligned and eight ALL_ALIGNED TS received, the siding link goes UP. Here
  the mask of lanes beyond the deskew limit, and the TS received, each by the D1 of its eight lanes. -/
  | sidingLinkUp (inp : Nat × List (List Nat))
  /-- SIDING_LINK_DOWN (R482): Loss of signal, code errors or loss of deskew takes the siding link out of UP. Here 0 loss of signal on
  lanes, 1 the 17th code error in 1 µs on lanes, 2 loss of deskew, 3 elastic buffer. -/
  | sidingLinkDown (reason lanes : Nat)
  /-- SIDING_SKIP_TX (R483): Every 1,024 symbol times the transmitter sends SKIP on all lanes. -/
  | sidingSkipTx
  /-- ACK (R485): A received ACK releases acknowledged frames, and a NAK triggers a replay. -/
  | ack (seq : Nat) (nak : Bool) (rxFree : Nat)
  /-- SIDING_ACK_TIMER (R485): Every 256 symbol times with unacknowledged frames, the receiver sends an ACK. -/
  | sidingAckTimer
  /-- REG_RD (R487): A REG_RD frame performs COUNT reads and returns REG_CPL. Here with the words whose target does not answer in 10 µs. -/
  | regRd (inp : List Byte × List Nat)
  /-- REG_WR (R487): A REG_WR frame performs COUNT writes and returns WR_CPL when asked. Here with the words whose target does not answer in
  10 µs, and whether each took effect. -/
  | regWr (inp : List Byte × List (Nat × Bool))
  /-- FLASH_WR (R489): A FLASH_WR frame writes staged bytes to flash and returns FLASH_CPL. Here flashErr: the flash write failed. -/
  | flashWr (frame : List Byte) (flashErr : Bool)
  /-- BAD_FRAME (R485): A frame out of sequence or with a bad CRC is discarded and NAKed. -/
  | badFrame (frame : List Byte)
  /-- NOTIFY (R490): A change of ring indices, TOP.STATE or pins sends a NOTIFY no sooner than NOTIFY_US. -/
  | notify
  /-- SIDING_EYE_START (R491): START on a siding EYE_CMD starts an eye-scan point. -/
  | sidingEyeStart (m : Master) (n : Nat)
  /-- SIDING_EYE_ABORT (R491): ABORT on a siding EYE_CMD ends the running point. -/
  | sidingEyeAbort (m : Master) (n : Nat)
  /-- SIDING_EYE_DONE (R491): A siding eye-scan point completes. -/
  | sidingEyeDone (n mismatches : Nat)
  /-- MAN_BEGIN (R496): MAN_CMD BEGIN opens the manifest slot not in use for staging. -/
  | manBegin (m : Master)
  /-- MAN_END (R496): MAN_CMD END verifies the staged manifest slot. -/
  | manEnd (m : Master)
  /-- MAN_ABORT (R496): MAN_CMD ABORT returns a STAGING manifest slot to EMPTY. -/
  | manAbort (m : Master)
  /-- GO (R501): ATTEST_CMD GO latches the measurements, nonce and time, and starts a signed report. -/
  | go (m : Master)
  /-- REPORT_DONE (R501): The attestation report is written and signed, so DONE sets and REPORT_SEQ increments. -/
  | reportDone
  /-- HOT_SWAP_ON (R516): VSENSE at or above 36 V for 10 ms turns the hot-swap controller on, which is a power-up. -/
  | hotSwapOn
  /-- HOT_SWAP_OFF (R516): VSENSE below 33 V for 1 ms or above 55 V for 10 µs turns the controller off, which is a power loss. -/
  | hotSwapOff
  /-- MOD_EN_RISE (R517): A rise of MOD_EN ramps the main rails. -/
  | modEnRise
  /-- MOD_EN_FALL (R517): A fall of MOD_EN turns the main rails off and starts a module reset. -/
  | modEnFall
  /-- RESET_N_FALL (R517): A fall of RESET_N starts a module reset. -/
  | resetNFall
  /-- RESET_N_RISE (R517): A rise of RESET_N lets the module reset end once the main rails are good. Here slot: the SLOT_ID straps. -/
  | resetNRise (slot : Nat)
  /-- MAIN_RAILS_GOOD (R517): The main rails become good and the module reset ends when RESET_N is high, sampling SLOT_ID. -/
  | mainRailsGood (slot : Nat)
  /-- TELEMETRY_READ (R515): An SMBus Read Word to the telemetry controller returns the POWER value named by the command.
  Here any SMBus Read Word: 7-bit address, command code or offset, and whether P3V3_AUX is present. -/
  | telemetryRead (read : Nat × Nat × Bool)
  /-- SRC_CFG_WRITE (R417): A write of a source's severity stores at least its floor. -/
  | srcCfgWrite (m : Master) (n : Nat) (v : Word)
  /-- MANIFEST_VERIFY_DONE (R496): Verification of a staged manifest slot ends, and the slot becomes VERIFIED or INVALID with its reason and MAN_INVALID. -/
  | manifestVerifyDone
  /-- GATE_BASE_REACHED (R209): With GATE_EN 1, NOW reaches GATE_BASE, and the active bank's entry 0 comes into force in place of every class open. -/
  | gateBaseReached (p : Nat)
  /-- SIDING_LANE_REALIGN (R482): After the siding link leaves UP, a lane whose held SLIP gives comma hits and no code errors for 2 µs re-aligns without software, and with every lane aligned the receiver deskews and sends ALL_ALIGNED. Here
  commas of 2 µs with the mask of lanes beyond the deskew limit, and code errors. -/
  | sidingLaneRealign (n : Nat) (seen : Nat × Nat) (errs : Nat)
  deriving DecidableEq, Repr

end Sys2Proof
end

