-- ==== Sys2Proof/Config.lean ====
section
/-! DEFINITION. Values that an implementation fixes or the spec leaves open. Each is a constant without a body, so no
proof can rest on its value. -/

namespace Sys2Proof.Config

/-- A fresh value the spec leaves open, indexed by a counter that State holds (log 3). -/
opaque free : Nat → Nat

/-- TX_EQ word of a transmitter preset, which the spec does not give (log 28). -/
opaque txPreset : Nat → Nat

/-- Whether a coefficient stands at its limit: tap, six-bit value, and whether the step raises it (log 28). -/
opaque tapLimit : Nat → Nat → Bool → Bool

/-- Symbols of the test pattern SSPRQ, which the spec names by its standard only (R92; log 123). -/
opaque ssprq : Nat → Nat

/-- Bank of a granule of module memory, by the hash that Horn sets at initialisation (R377; log 120). -/
opaque bankOf : Nat → Nat

/-- Row of a granule of module memory, by that hash (R377; log 120). -/
opaque rowOf : Nat → Nat

/-- Slow cycles between two refreshes of one bank at the standard rate (R383 names the HBM3 standard for it; log 130). -/
opaque refreshTime : Nat

/-- Byte of the FRU EEPROM at an offset, for a part number and a serial number, in the layout of the IPMI Platform Management FRU
Information Storage Definition, which the spec names for it (R514; log 85). -/
opaque fruByte : List Byte → List Byte → Nat → Byte

/-- Whether a signature verifies: public key, message, signature (ECDSA P-521 over SHA-512; R449, R493; log 50). -/
opaque verifies : List Byte → List Byte → List Byte → Bool

/-- The Ihlurn manifest key held in the boot ROM (R493; log 50). -/
opaque romKey : List Byte

/-- The boot ROM's version (20_siding_boot.md, SIDING fields; log 50). -/
opaque romVersion : Nat

/-- The identity public key that the module's PUF secret gives, 133 bytes (R497; log 50). -/
opaque idPub : List Byte

/-- The public key that a certificate holds (R498; log 50). -/
opaque certKey : List Byte → List Byte

/-- The signature that the attestation engine forms over a message (R501; log 50). -/
opaque sign : List Byte → List Byte

end Sys2Proof.Config
end

