-- ==== Sys2Proof/Machine/Assoc.lean ====
section
/-! DEFINITION. Sparse tables as lists of key and value in one canonical form: keys strictly rising, and no entry
equal to what an unlisted key reads as. Registers and memories are held so. -/

namespace Sys2Proof.Machine.Tab

variable {β : Type}

/-- The value at a key; `d` where the key is not listed. -/
def get (d : β) : List (Nat × β) → Nat → β
  | [], _ => d
  | (k', v) :: l, k => if k = k' then v else get d l k

/-- The value at a key, if listed. -/
def find : List (Nat × β) → Nat → Option β
  | [], _ => none
  | (k', v) :: l, k => if k = k' then some v else find l k

/-- Drops a key. -/
def erase : List (Nat × β) → Nat → List (Nat × β)
  | [], _ => []
  | (k', v) :: l, k => if k = k' then erase l k else (k', v) :: erase l k

/-- Lists `v` at a key, keeping the keys strictly rising. -/
def insert : List (Nat × β) → Nat → β → List (Nat × β)
  | [], k, v => [(k, v)]
  | (k', v') :: l, k, v =>
    if k < k' then (k, v) :: (k', v') :: l
    else if k = k' then (k, v) :: l
    else (k', v') :: insert l k v

/-- Stores `v` at a key whose unlisted value is `d`. -/
def put [DecidableEq β] (d : β) (l : List (Nat × β)) (k : Nat) (v : β) : List (Nat × β) :=
  if v = d then erase l k else insert l k v

/-- Keys strictly rising from above `lo`. -/
def rising : Option Nat → List (Nat × β) → Bool
  | _, [] => true
  | none, (k, _) :: l => rising (some k) l
  | some lo, (k, _) :: l => decide (lo < k) && rising (some k) l

/-- The canonical form: keys strictly rising, no entry equal to the unlisted value `d k`. -/
def canon [DecidableEq β] (d : Nat → β) (l : List (Nat × β)) : Bool :=
  rising none l && l.all fun e => decide (e.2 ≠ d e.1)

end Sys2Proof.Machine.Tab
end

