-- ==== Sys2Proof/Machine/RegMap.lean ====
section
/-! DEFINITION. The register map: every block, register and field of the register tables of 02_registers.md to
21_module.md, with its address, access type, write mask and reset value (R24 to R29). Names are the spec's. -/

namespace Sys2Proof.Machine

/-- The blocks with a primary page, in the order of their fault source slots (R24, R412). -/
inductive Blk where
  | TOP | PROT | FAULT | RESET | POWER | TIME | CONSORT | SIDING | DIE | LANE | PORT | SWITCH | POOL | ROUTE | SHAPE | COLL | SECTION | COACH | UPDATE | STATION | HBM | WINDOW
  deriving DecidableEq, Repr

/-- How the register bus treats a register (R29, R32, R37). -/
inductive Ty where
  /-- read only, but for its W1C bits -/
  | ro
  /-- read-write, and RWV where `rwv` lists the word -/
  | rw
  /-- cleared by writing back SEQ -/
  | sqc
  /-- command, reads 0 -/
  | wo
  /-- 64-bit counter -/
  | ctr
  /-- multi-word entry that commits at its highest word -/
  | ent
  /-- multi-word command entry, reads 0 -/
  | woe
  deriving DecidableEq, Repr

/-- One register of a page: offset, two array dimensions (stride, count), words of one instance and what a write keeps. -/
structure Reg where
  id : Nat
  off : Nat
  s1 : Nat
  n1 : Nat
  s2 : Nat
  n2 : Nat
  words : Nat
  ty : Ty
  /-- per word, the bits a write stores -/
  wmask : List Nat
  /-- per word, the bits a write of 1 clears -/
  w1c : List Nat
  /-- per word, the reset value -/
  reset : List Nat
  /-- the words held in three copies (R34) -/
  rwv : List Nat
  /-- present on page 0 of the block only -/
  p0 : Bool
  deriving DecidableEq, Repr

/-- A field: byte address of its first word, lowest bit, width. -/
structure Fld where
  addr : Nat
  lo : Nat
  width : Nat
  deriving DecidableEq, Repr

/-- Extent and common-header facts of a block (R24, R26). -/
structure BlkInfo where
  base : Nat
  s1 : Nat
  n1 : Nat
  s2 : Nat
  n2 : Nat
  size : Nat
  code : Nat
  ctlMask : Nat
  ctlReset : Nat
  stateReset : Nat
  causeMask : Nat
  deriving DecidableEq, Repr

/-- The page map (R24). -/
def Blk.info : Blk → BlkInfo
  | .TOP => ⟨0x0, 0x1000, 1, 0x1000, 1, 0x1000, 0xBD07, 0x1, 0x0, 0x0, 0x7F⟩
  | .PROT => ⟨0x1000, 0x1000, 1, 0x1000, 1, 0x1000, 0x1, 0x0, 0x0, 0x2, 0x1⟩
  | .FAULT => ⟨0x2000, 0x6000, 1, 0x6000, 1, 0x6000, 0x2, 0x0, 0x0, 0x2, 0x0⟩
  | .RESET => ⟨0x10000, 0x10000, 1, 0x10000, 1, 0x10000, 0x3, 0x0, 0x0, 0x2, 0x1F⟩
  | .POWER => ⟨0x20000, 0x10000, 1, 0x10000, 1, 0x10000, 0x4, 0x0, 0x0, 0x2, 0xFF⟩
  | .TIME => ⟨0x30000, 0x10000, 1, 0x10000, 1, 0x10000, 0x5, 0x0, 0x0, 0x2, 0xF⟩
  | .CONSORT => ⟨0x40000, 0x1000, 8, 0x1000, 1, 0x1000, 0x6, 0x0, 0x0, 0x0, 0x3F⟩
  | .SIDING => ⟨0x100000, 0x10000, 1, 0x10000, 1, 0x10000, 0x7, 0x0, 0x0, 0x2, 0x3F⟩
  | .DIE => ⟨0x1000000, 0x200000, 8, 0x200000, 1, 0x1000, 0x10, 0x1, 0x0, 0x0, 0x1F⟩
  | .LANE => ⟨0x1001000, 0x200000, 8, 0x1000, 128, 0x1000, 0x11, 0x3, 0x3, 0x0, 0xFF⟩
  | .PORT => ⟨0x2000000, 0x1000, 256, 0x1000, 1, 0x1000, 0x20, 0x1, 0x0, 0x0, 0xFFFF⟩
  | .SWITCH => ⟨0x2100000, 0x10000, 1, 0x10000, 1, 0x10000, 0x21, 0x0, 0x0, 0x2, 0xF⟩
  | .POOL => ⟨0x2110000, 0xF0000, 1, 0xF0000, 1, 0xF0000, 0x22, 0x0, 0x0, 0x2, 0x7⟩
  | .ROUTE => ⟨0x2200000, 0x200000, 1, 0x200000, 1, 0x200000, 0x23, 0x0, 0x0, 0x2, 0x3⟩
  | .SHAPE => ⟨0x2400000, 0x1000, 256, 0x1000, 1, 0x1000, 0x24, 0x0, 0x0, 0x2, 0x3⟩
  | .COLL => ⟨0x2800000, 0x800000, 1, 0x800000, 1, 0x800000, 0x30, 0x0, 0x0, 0x2, 0x3F⟩
  | .SECTION => ⟨0x303F000, 0x40000, 16, 0x40000, 1, 0x1000, 0x40, 0x1, 0x0, 0x0, 0x3F⟩
  | .COACH => ⟨0x3000000, 0x40000, 16, 0x1000, 33, 0x1000, 0x41, 0x0, 0x0, 0x0, 0x3F1F⟩
  | .UPDATE => ⟨0x3800000, 0x200000, 1, 0x200000, 1, 0x200000, 0x50, 0x0, 0x0, 0x2, 0xFF⟩
  | .STATION => ⟨0x3A00000, 0x200000, 1, 0x200000, 1, 0x200000, 0x60, 0x0, 0x0, 0x2, 0x3FF⟩
  | .HBM => ⟨0x3C00000, 0x10000, 8, 0x10000, 1, 0x10000, 0x70, 0x1, 0x1, 0x0, 0x7F⟩
  | .WINDOW => ⟨0x3E00000, 0x200000, 1, 0x200000, 1, 0x200000, 0x80, 0x0, 0x0, 0x2, 0xF⟩

/-- All blocks, in slot order. -/
def Blk.all : List Blk :=
  [.TOP, .PROT, .FAULT, .RESET, .POWER, .TIME, .CONSORT, .SIDING, .DIE, .LANE, .PORT, .SWITCH, .POOL, .ROUTE, .SHAPE, .COLL, .SECTION, .COACH, .UPDATE, .STATION, .HBM, .WINDOW]

/-- Slot number of a block. -/
def Blk.slot : Blk → Nat
  | .TOP => 0
  | .PROT => 1
  | .FAULT => 2
  | .RESET => 3
  | .POWER => 4
  | .TIME => 5
  | .CONSORT => 6
  | .SIDING => 7
  | .DIE => 8
  | .LANE => 9
  | .PORT => 10
  | .SWITCH => 11
  | .POOL => 12
  | .ROUTE => 13
  | .SHAPE => 14
  | .COLL => 15
  | .SECTION => 16
  | .COACH => 17
  | .UPDATE => 18
  | .STATION => 19
  | .HBM => 20
  | .WINDOW => 21

/-- Registers of the TOP page beyond the common header. -/
def regsTOP : List Reg :=
  [⟨8, 0x20, 0x0, 1, 0x0, 1, 1, .ro, [], [], [], [], false⟩,
   ⟨9, 0x24, 0x0, 1, 0x0, 1, 1, .ro, [], [], [], [], false⟩,
   ⟨10, 0x28, 0x0, 1, 0x0, 1, 1, .ro, [], [], [], [], false⟩,
   ⟨11, 0x2C, 0x0, 1, 0x0, 1, 1, .rw, [0x80000FFF], [], [], [0], false⟩,
   ⟨12, 0x30, 0x0, 1, 0x0, 1, 1, .ro, [], [], [], [], false⟩,
   ⟨13, 0x40, 0x0, 1, 0x0, 1, 1, .ro, [], [0x80000000], [], [], false⟩,
   ⟨14, 0x44, 0x0, 1, 0x0, 1, 1, .ro, [], [], [], [], false⟩,
   ⟨15, 0x48, 0x0, 1, 0x0, 1, 1, .ro, [], [], [], [], false⟩,
   ⟨16, 0x50, 0x4, 4, 0x0, 1, 1, .rw, [0xFFFFFFFF], [], [], [], false⟩,
   ⟨17, 0x80, 0x0, 1, 0x0, 1, 2, .ctr, [], [], [], [], false⟩,
   ⟨18, 0x88, 0x0, 1, 0x0, 1, 2, .ctr, [], [], [], [], false⟩,
   ⟨19, 0x90, 0x0, 1, 0x0, 1, 2, .ctr, [], [], [], [], false⟩,
   ⟨20, 0x98, 0x0, 1, 0x0, 1, 2, .ctr, [], [], [], [], false⟩,
   ⟨21, 0xA0, 0x0, 1, 0x0, 1, 2, .ctr, [], [], [], [], false⟩,
   ⟨22, 0xA8, 0x0, 1, 0x0, 1, 2, .ctr, [], [], [], [], false⟩]

/-- Registers of the PROT page beyond the common header. -/
def regsPROT : List Reg :=
  [⟨414, 0x20, 0x0, 1, 0x0, 1, 1, .ro, [], [], [], [], false⟩,
   ⟨415, 0x40, 0x4, 16, 0x0, 1, 1, .ro, [], [], [], [], false⟩,
   ⟨416, 0x80, 0x0, 1, 0x0, 1, 2, .ctr, [], [], [], [], false⟩,
   ⟨417, 0x100, 0xC, 32, 0x0, 1, 1, .rw, [0x3FFFFFC], [], [], [], false⟩,
   ⟨418, 0x104, 0xC, 32, 0x0, 1, 1, .rw, [0x3FFFFFC], [], [], [], false⟩,
   ⟨419, 0x108, 0xC, 32, 0x0, 1, 1, .rw, [0x1F], [], [], [], false⟩]

/-- Registers of the FAULT page beyond the common header. -/
def regsFAULT : List Reg :=
  [⟨301, 0x20, 0x0, 1, 0x0, 1, 1, .sqc, [0xFFFFFFFF], [], [], [], false⟩,
   ⟨302, 0x24, 0x0, 1, 0x0, 1, 1, .ro, [], [], [], [], false⟩,
   ⟨303, 0x28, 0x0, 1, 0x0, 1, 1, .rw, [0xFFFFFFFF], [], [], [], false⟩,
   ⟨304, 0x2C, 0x0, 1, 0x0, 1, 1, .rw, [0x7], [], [], [], false⟩,
   ⟨305, 0x30, 0x0, 1, 0x0, 1, 1, .rw, [0x7], [], [0x4], [], false⟩,
   ⟨306, 0x34, 0x0, 1, 0x0, 1, 1, .wo, [0x8003FFFF], [], [], [], false⟩,
   ⟨307, 0x80, 0x0, 1, 0x0, 1, 2, .ctr, [], [], [], [], false⟩,
   ⟨308, 0x88, 0x0, 1, 0x0, 1, 2, .ctr, [], [], [], [], false⟩,
   ⟨309, 0x90, 0x0, 1, 0x0, 1, 2, .ctr, [], [], [], [], false⟩,
   ⟨310, 0x98, 0x0, 1, 0x0, 1, 2, .ctr, [], [], [], [], false⟩,
   ⟨311, 0xA0, 0x0, 1, 0x0, 1, 2, .ctr, [], [], [], [], false⟩,
   ⟨312, 0xA8, 0x0, 1, 0x0, 1, 2, .ctr, [], [], [], [], false⟩,
   ⟨313, 0xB0, 0x0, 1, 0x0, 1, 2, .ctr, [], [], [], [], false⟩,
   ⟨314, 0xB8, 0x0, 1, 0x0, 1, 2, .ctr, [], [], [], [], false⟩,
   ⟨315, 0x100, 0x8, 9, 0x0, 1, 1, .rw, [0xFF3FFF], [], [0x30064], [], false⟩,
   ⟨316, 0x104, 0x8, 9, 0x0, 1, 1, .rw, [0xFFFF], [], [0xE10], [], false⟩,
   ⟨317, 0x1000, 0x8, 512, 0x0, 1, 1, .rw, [0xFF07], [], [0xA00], [], false⟩,
   ⟨318, 0x1004, 0x8, 512, 0x0, 1, 1, .ro, [], [], [], [], false⟩,
   ⟨319, 0x2000, 0x4, 4096, 0x0, 1, 1, .ro, [], [], [], [], false⟩]

/-- Registers of the RESET page beyond the common header. -/
def regsRESET : List Reg :=
  [⟨320, 0x20, 0x0, 1, 0x0, 1, 1, .rw, [0xFFFF], [], [0x64], [], false⟩,
   ⟨321, 0x24, 0x0, 1, 0x0, 1, 1, .wo, [0xFFF3FFFF], [], [], [], false⟩,
   ⟨322, 0x28, 0x0, 1, 0x0, 1, 1, .rw, [0x3FF], [], [], [], false⟩,
   ⟨323, 0x2C, 0x0, 1, 0x0, 1, 1, .wo, [0xFF], [], [], [], false⟩,
   ⟨324, 0x30, 0x0, 1, 0x0, 1, 1, .ro, [], [0x80000000], [], [], false⟩,
   ⟨325, 0x34, 0x0, 1, 0x0, 1, 1, .ro, [], [], [], [], false⟩,
   ⟨326, 0x80, 0x0, 1, 0x0, 1, 2, .ctr, [], [], [], [], false⟩,
   ⟨327, 0x88, 0x0, 1, 0x0, 1, 2, .ctr, [], [], [], [], false⟩,
   ⟨328, 0x90, 0x0, 1, 0x0, 1, 2, .ctr, [], [], [], [], false⟩,
   ⟨329, 0x98, 0x0, 1, 0x0, 1, 2, .ctr, [], [], [], [], false⟩,
   ⟨330, 0x1000, 0x8, 41, 0x0, 1, 1, .ro, [], [], [], [], false⟩,
   ⟨331, 0x1004, 0x8, 41, 0x0, 1, 1, .sqc, [0xFFFFFFFF], [], [], [], false⟩,
   ⟨332, 0x2000, 0x8, 1024, 0x0, 1, 1, .ro, [], [], [], [], false⟩,
   ⟨333, 0x2004, 0x8, 1024, 0x0, 1, 1, .sqc, [0xFFFFFFFF], [], [], [], false⟩,
   ⟨334, 0x4000, 0x8, 1024, 0x0, 1, 1, .ro, [], [], [], [], false⟩,
   ⟨335, 0x4004, 0x8, 1024, 0x0, 1, 1, .sqc, [0xFFFFFFFF], [], [], [], false⟩,
   ⟨336, 0x6000, 0x8, 16, 0x0, 1, 1, .ro, [], [], [], [], false⟩,
   ⟨337, 0x6004, 0x8, 16, 0x0, 1, 1, .sqc, [0xFFFFFFFF], [], [], [], false⟩,
   ⟨338, 0x8000, 0x8, 4096, 0x0, 1, 1, .ro, [], [], [], [], false⟩,
   ⟨339, 0x8004, 0x8, 4096, 0x0, 1, 1, .sqc, [0xFFFFFFFF], [], [], [], false⟩]

/-- Registers of the POWER page beyond the common header. -/
def regsPOWER : List Reg :=
  [⟨367, 0x20, 0x0, 1, 0x0, 1, 1, .rw, [0xFFF], [], [0xA28], [0], false⟩,
   ⟨368, 0x24, 0x0, 1, 0x0, 1, 1, .rw, [0x7F], [], [0x46], [], false⟩,
   ⟨369, 0x28, 0x0, 1, 0x0, 1, 1, .rw, [0xFF], [], [0x5F], [], false⟩,
   ⟨370, 0x2C, 0x0, 1, 0x0, 1, 1, .ro, [], [], [], [], false⟩,
   ⟨371, 0x30, 0x0, 1, 0x0, 1, 1, .ro, [], [], [], [], false⟩,
   ⟨372, 0x34, 0x0, 1, 0x0, 1, 1, .ro, [], [], [], [], false⟩,
   ⟨373, 0x38, 0x0, 1, 0x0, 1, 1, .ro, [], [], [], [], false⟩,
   ⟨374, 0x3C, 0x0, 1, 0x0, 1, 1, .ro, [], [], [], [], false⟩,
   ⟨375, 0x40, 0x0, 1, 0x0, 1, 1, .ro, [], [], [], [], false⟩,
   ⟨376, 0x44, 0x0, 1, 0x0, 1, 1, .ro, [], [], [], [], false⟩,
   ⟨377, 0x48, 0x0, 1, 0x0, 1, 1, .ro, [], [], [], [], false⟩,
   ⟨378, 0x4C, 0x0, 1, 0x0, 1, 1, .ro, [], [], [], [], false⟩,
   ⟨379, 0x80, 0x0, 1, 0x0, 1, 2, .ctr, [], [], [], [], false⟩,
   ⟨380, 0x88, 0x0, 1, 0x0, 1, 2, .ctr, [], [], [], [], false⟩,
   ⟨381, 0x90, 0x0, 1, 0x0, 1, 2, .ctr, [], [], [], [], false⟩,
   ⟨382, 0x98, 0x0, 1, 0x0, 1, 2, .ctr, [], [], [], [], false⟩,
   ⟨383, 0xA0, 0x0, 1, 0x0, 1, 2, .ctr, [], [], [], [], false⟩,
   ⟨384, 0xA8, 0x0, 1, 0x0, 1, 2, .ctr, [], [], [], [], false⟩,
   ⟨385, 0x100, 0x8, 34, 0x0, 1, 1, .rw, [0xFFF], [], [], [0], false⟩,
   ⟨386, 0x104, 0x8, 34, 0x0, 1, 1, .ro, [], [], [], [], false⟩]

/-- Registers of the TIME page beyond the common header. -/
def regsTIME : List Reg :=
  [⟨145, 0x20, 0x0, 1, 0x0, 1, 1, .rw, [0xFFFF1F], [], [], [], false⟩,
   ⟨146, 0x24, 0x0, 1, 0x0, 1, 1, .rw, [0xFFF], [], [0xFA], [], false⟩,
   ⟨147, 0x28, 0x0, 1, 0x0, 1, 1, .rw, [0xFFFF], [], [0x3E8], [], false⟩,
   ⟨148, 0x2C, 0x0, 1, 0x0, 1, 1, .rw, [0xFFFF], [], [0x32], [], false⟩,
   ⟨149, 0x30, 0x0, 1, 0x0, 1, 1, .ro, [], [], [], [], false⟩,
   ⟨150, 0x34, 0x0, 1, 0x0, 1, 1, .wo, [0x7], [], [], [], false⟩,
   ⟨151, 0x38, 0x0, 1, 0x0, 1, 2, .ent, [0xFFFFFFFF, 0xFFFFFFFF], [], [], [], false⟩,
   ⟨152, 0x40, 0x0, 1, 0x0, 1, 2, .ro, [], [], [], [], false⟩,
   ⟨153, 0x48, 0x0, 1, 0x0, 1, 1, .ro, [], [], [], [], false⟩,
   ⟨154, 0x4C, 0x0, 1, 0x0, 1, 1, .ro, [], [], [], [], false⟩,
   ⟨155, 0x50, 0x0, 1, 0x0, 1, 1, .ro, [], [], [], [], false⟩,
   ⟨156, 0x54, 0x0, 1, 0x0, 1, 1, .rw, [0xFFFFFFFF], [], [], [], false⟩,
   ⟨157, 0x58, 0x0, 1, 0x0, 1, 2, .ro, [], [], [], [], false⟩,
   ⟨158, 0x80, 0x0, 1, 0x0, 1, 2, .ctr, [], [], [], [], false⟩,
   ⟨159, 0x88, 0x0, 1, 0x0, 1, 2, .ctr, [], [], [], [], false⟩,
   ⟨160, 0x90, 0x0, 1, 0x0, 1, 2, .ctr, [], [], [], [], false⟩,
   ⟨161, 0x98, 0x0, 1, 0x0, 1, 2, .ctr, [], [], [], [], false⟩,
   ⟨162, 0x100, 0x4, 256, 0x0, 1, 1, .rw, [0xFFFFFFFF], [], [], [], false⟩,
   ⟨163, 0x500, 0x4, 8, 0x0, 1, 1, .rw, [0xFFFFFFFF], [], [], [], false⟩]

/-- Registers of the CONSORT page beyond the common header. -/
def regsCONSORT : List Reg :=
  [⟨340, 0x20, 0x0, 1, 0x0, 1, 1, .ro, [], [], [], [], false⟩,
   ⟨341, 0x24, 0x0, 1, 0x0, 1, 1, .ro, [], [], [], [], false⟩,
   ⟨342, 0x28, 0x0, 1, 0x0, 1, 1, .ro, [], [], [], [], false⟩,
   ⟨343, 0x2C, 0x0, 1, 0x0, 1, 1, .ro, [], [], [], [], false⟩,
   ⟨344, 0x30, 0x0, 1, 0x0, 1, 1, .wo, [0x13], [], [], [], false⟩,
   ⟨345, 0x34, 0x0, 1, 0x0, 1, 1, .rw, [0x7], [], [0x2], [], false⟩,
   ⟨346, 0x38, 0x0, 1, 0x0, 1, 1, .ro, [], [], [], [], false⟩,
   ⟨347, 0x3C, 0x0, 1, 0x0, 1, 1, .rw, [0x3F], [], [], [], false⟩,
   ⟨348, 0x40, 0x0, 1, 0x0, 1, 1, .rw, [0xFFFFFFFF], [], [0xA01F4], [], false⟩,
   ⟨349, 0x50, 0x0, 1, 0x0, 1, 1, .rw, [0xFFFFFFFF], [], [], [], true⟩,
   ⟨350, 0x54, 0x0, 1, 0x0, 1, 1, .rw, [0xFFFF], [], [0x7D0], [], true⟩,
   ⟨351, 0x58, 0x0, 1, 0x0, 1, 1, .ro, [], [], [], [], true⟩,
   ⟨352, 0x5C, 0x0, 1, 0x0, 1, 1, .rw, [0xFFFFFFFF], [], [], [], true⟩,
   ⟨353, 0x60, 0x0, 1, 0x0, 1, 1, .rw, [0x7F], [], [], [], true⟩,
   ⟨354, 0x64, 0x0, 1, 0x0, 1, 1, .wo, [0x1F], [], [], [], true⟩,
   ⟨355, 0x68, 0x0, 1, 0x0, 1, 1, .ro, [], [], [], [], true⟩,
   ⟨356, 0x6C, 0x0, 1, 0x0, 1, 1, .ro, [], [], [], [], true⟩,
   ⟨357, 0x70, 0x0, 1, 0x0, 1, 1, .ro, [], [], [], [], true⟩,
   ⟨358, 0x80, 0x0, 1, 0x0, 1, 2, .ctr, [], [], [], [], false⟩,
   ⟨359, 0x88, 0x0, 1, 0x0, 1, 2, .ctr, [], [], [], [], false⟩,
   ⟨360, 0x90, 0x0, 1, 0x0, 1, 2, .ctr, [], [], [], [], false⟩,
   ⟨361, 0x98, 0x0, 1, 0x0, 1, 2, .ctr, [], [], [], [], false⟩,
   ⟨362, 0xA0, 0x0, 1, 0x0, 1, 2, .ctr, [], [], [], [], true⟩,
   ⟨363, 0xA8, 0x0, 1, 0x0, 1, 2, .ctr, [], [], [], [], true⟩,
   ⟨364, 0x100, 0x4, 32, 0x0, 1, 1, .rw, [0xFFFFFFFF], [], [0xFFFFFFFF], [], false⟩,
   ⟨365, 0x400, 0x4, 512, 0x0, 1, 1, .ro, [], [], [], [], true⟩,
   ⟨366, 0xC00, 0x4, 256, 0x0, 1, 1, .ro, [], [], [], [], false⟩]

/-- Registers of the SIDING page beyond the common header. -/
def regsSIDING : List Reg :=
  [⟨387, 0x20, 0x0, 1, 0x0, 1, 1, .rw, [0x1FFFF], [], [0x1000A], [], false⟩,
   ⟨388, 0x24, 0x0, 1, 0x0, 1, 1, .ro, [], [], [], [], false⟩,
   ⟨389, 0x28, 0x0, 1, 0x0, 1, 1, .wo, [0x3], [], [], [], false⟩,
   ⟨390, 0x2C, 0x0, 1, 0x0, 1, 1, .ro, [], [], [], [], false⟩,
   ⟨391, 0x30, 0x0, 1, 0x0, 1, 1, .wo, [0x1], [], [], [], false⟩,
   ⟨392, 0x34, 0x0, 1, 0x0, 1, 1, .ro, [], [], [], [], false⟩,
   ⟨393, 0x38, 0x0, 1, 0x0, 1, 1, .ro, [], [], [], [], false⟩,
   ⟨394, 0x3C, 0x0, 1, 0x0, 1, 1, .ro, [], [], [], [], false⟩,
   ⟨395, 0x80, 0x0, 1, 0x0, 1, 2, .ctr, [], [], [], [], false⟩,
   ⟨396, 0x88, 0x0, 1, 0x0, 1, 2, .ctr, [], [], [], [], false⟩,
   ⟨397, 0x90, 0x0, 1, 0x0, 1, 2, .ctr, [], [], [], [], false⟩,
   ⟨398, 0x98, 0x0, 1, 0x0, 1, 2, .ctr, [], [], [], [], false⟩,
   ⟨399, 0xA0, 0x0, 1, 0x0, 1, 2, .ctr, [], [], [], [], false⟩,
   ⟨400, 0xA8, 0x0, 1, 0x0, 1, 2, .ctr, [], [], [], [], false⟩,
   ⟨401, 0xB0, 0x0, 1, 0x0, 1, 2, .ctr, [], [], [], [], false⟩,
   ⟨402, 0x100, 0x20, 8, 0x0, 1, 1, .rw, [0x71F], [], [0x300], [], false⟩,
   ⟨403, 0x104, 0x20, 8, 0x0, 1, 1, .ro, [], [], [], [], false⟩,
   ⟨404, 0x108, 0x20, 8, 0x0, 1, 1, .rw, [0xF1F3F], [], [0x40000], [], false⟩,
   ⟨405, 0x10C, 0x20, 8, 0x0, 1, 1, .wo, [0x3], [], [], [], false⟩,
   ⟨406, 0x110, 0x20, 8, 0x0, 1, 1, .ro, [], [], [], [], false⟩,
   ⟨407, 0x114, 0x20, 8, 0x0, 1, 1, .ro, [], [], [], [], false⟩,
   ⟨408, 0x118, 0x20, 8, 0x0, 1, 1, .ro, [], [], [], [], false⟩,
   ⟨409, 0x11C, 0x20, 8, 0x0, 1, 1, .ro, [], [], [], [], false⟩,
   ⟨410, 0x1000, 0x4, 16, 0x0, 1, 1, .rw, [0xFFFFFFFF], [], [], [], false⟩,
   ⟨411, 0x1100, 0x4, 34, 0x0, 1, 1, .ro, [], [], [], [], false⟩,
   ⟨412, 0x2000, 0x4, 1024, 0x0, 1, 1, .ro, [], [], [], [], false⟩,
   ⟨413, 0x3000, 0x4, 256, 0x0, 1, 1, .ro, [], [], [], [], false⟩]

/-- Registers of the DIE page beyond the common header. -/
def regsDIE : List Reg :=
  [⟨23, 0x20, 0x0, 1, 0x0, 1, 1, .ro, [], [], [], [], false⟩,
   ⟨24, 0x24, 0x0, 1, 0x0, 1, 1, .ro, [], [], [], [], false⟩,
   ⟨25, 0x80, 0x0, 1, 0x0, 1, 2, .ctr, [], [], [], [], false⟩,
   ⟨26, 0x88, 0x0, 1, 0x0, 1, 2, .ctr, [], [], [], [], false⟩]

/-- Registers of the LANE page beyond the common header. -/
def regsLANE : List Reg :=
  [⟨27, 0x20, 0x0, 1, 0x0, 1, 1, .rw, [0x7FFFFF7], [], [0x280406], [], false⟩,
   ⟨28, 0x24, 0x0, 1, 0x0, 1, 1, .ro, [], [], [], [], false⟩,
   ⟨29, 0x28, 0x0, 1, 0x0, 1, 1, .ro, [], [], [], [], false⟩,
   ⟨30, 0x30, 0x0, 1, 0x0, 1, 1, .rw, [0x1F37F7F], [], [0x410000], [], false⟩,
   ⟨31, 0x34, 0x0, 1, 0x0, 1, 1, .wo, [0x3], [], [], [], false⟩,
   ⟨32, 0x38, 0x0, 1, 0x0, 1, 1, .ro, [], [], [], [], false⟩,
   ⟨33, 0x80, 0x0, 1, 0x0, 1, 2, .ctr, [], [], [], [], false⟩,
   ⟨34, 0x88, 0x0, 1, 0x0, 1, 2, .ctr, [], [], [], [], false⟩,
   ⟨35, 0x90, 0x0, 1, 0x0, 1, 2, .ctr, [], [], [], [], false⟩,
   ⟨36, 0x98, 0x0, 1, 0x0, 1, 2, .ctr, [], [], [], [], false⟩,
   ⟨37, 0xA0, 0x0, 1, 0x0, 1, 2, .ctr, [], [], [], [], false⟩,
   ⟨38, 0xA8, 0x0, 1, 0x0, 1, 2, .ctr, [], [], [], [], false⟩,
   ⟨39, 0xB0, 0x0, 1, 0x0, 1, 2, .ctr, [], [], [], [], false⟩,
   ⟨40, 0xB8, 0x0, 1, 0x0, 1, 2, .ctr, [], [], [], [], false⟩,
   ⟨41, 0xC0, 0x0, 1, 0x0, 1, 2, .ctr, [], [], [], [], false⟩,
   ⟨42, 0xC8, 0x0, 1, 0x0, 1, 2, .ctr, [], [], [], [], false⟩,
   ⟨43, 0xD0, 0x0, 1, 0x0, 1, 2, .ctr, [], [], [], [], false⟩,
   ⟨44, 0xD8, 0x0, 1, 0x0, 1, 2, .ctr, [], [], [], [], false⟩,
   ⟨45, 0x100, 0x8, 16, 0x0, 1, 2, .ctr, [], [], [], [], false⟩]

/-- Registers of the PORT page beyond the common header. -/
def regsPORT : List Reg :=
  [⟨46, 0x20, 0x0, 1, 0x0, 1, 1, .rw, [0x1F1F7F07], [], [0x1000000], [], false⟩,
   ⟨47, 0x24, 0x0, 1, 0x0, 1, 1, .ro, [], [], [], [], false⟩,
   ⟨48, 0x28, 0x0, 1, 0x0, 1, 1, .ro, [], [], [], [], false⟩,
   ⟨49, 0x40, 0x0, 1, 0x0, 1, 1, .rw, [0xFFFFFF], [], [0xC8FF], [], false⟩,
   ⟨50, 0x44, 0x0, 1, 0x0, 1, 1, .rw, [0x3F], [], [0x3F], [], false⟩,
   ⟨51, 0x80, 0x0, 1, 0x0, 1, 2, .ctr, [], [], [], [], false⟩,
   ⟨52, 0x88, 0x0, 1, 0x0, 1, 2, .ctr, [], [], [], [], false⟩,
   ⟨53, 0x90, 0x0, 1, 0x0, 1, 2, .ctr, [], [], [], [], false⟩,
   ⟨54, 0x98, 0x0, 1, 0x0, 1, 2, .ctr, [], [], [], [], false⟩,
   ⟨55, 0xA0, 0x0, 1, 0x0, 1, 2, .ctr, [], [], [], [], false⟩,
   ⟨56, 0xA8, 0x0, 1, 0x0, 1, 2, .ctr, [], [], [], [], false⟩,
   ⟨57, 0xB0, 0x0, 1, 0x0, 1, 2, .ctr, [], [], [], [], false⟩,
   ⟨58, 0xB8, 0x0, 1, 0x0, 1, 2, .ctr, [], [], [], [], false⟩,
   ⟨59, 0xC0, 0x0, 1, 0x0, 1, 2, .ctr, [], [], [], [], false⟩,
   ⟨60, 0xC8, 0x0, 1, 0x0, 1, 2, .ctr, [], [], [], [], false⟩,
   ⟨61, 0xD0, 0x0, 1, 0x0, 1, 2, .ctr, [], [], [], [], false⟩,
   ⟨62, 0xD8, 0x0, 1, 0x0, 1, 2, .ctr, [], [], [], [], false⟩,
   ⟨63, 0xE0, 0x0, 1, 0x0, 1, 2, .ctr, [], [], [], [], false⟩,
   ⟨64, 0xE8, 0x0, 1, 0x0, 1, 2, .ctr, [], [], [], [], false⟩,
   ⟨65, 0xF0, 0x0, 1, 0x0, 1, 2, .ctr, [], [], [], [], false⟩,
   ⟨66, 0xF8, 0x0, 1, 0x0, 1, 2, .ctr, [], [], [], [], false⟩,
   ⟨67, 0x100, 0x0, 1, 0x0, 1, 4, .ent, [0x3FFFF, 0xFFFF, 0xFFFFFFFF, 0x33], [], [], [], false⟩,
   ⟨68, 0x110, 0x0, 1, 0x0, 1, 1, .rw, [0xFFFFFF], [], [0x324064], [], false⟩,
   ⟨69, 0x120, 0x0, 1, 0x0, 1, 1, .ro, [], [], [], [], false⟩,
   ⟨70, 0x124, 0x0, 1, 0x0, 1, 1, .ro, [], [], [], [], false⟩,
   ⟨71, 0x128, 0x0, 1, 0x0, 1, 1, .ro, [], [], [], [], false⟩,
   ⟨72, 0x12C, 0x0, 1, 0x0, 1, 1, .ro, [], [], [], [], false⟩,
   ⟨73, 0x130, 0x0, 1, 0x0, 1, 1, .ro, [], [], [], [], false⟩,
   ⟨74, 0x134, 0x0, 1, 0x0, 1, 1, .ro, [], [], [], [], false⟩,
   ⟨75, 0x200, 0x20, 6, 0x0, 1, 1, .ro, [], [], [], [], false⟩,
   ⟨76, 0x204, 0x20, 6, 0x0, 1, 1, .ro, [], [], [], [], false⟩,
   ⟨77, 0x208, 0x20, 6, 0x0, 1, 1, .ro, [], [], [], [], false⟩,
   ⟨78, 0x20C, 0x20, 6, 0x0, 1, 1, .ro, [], [], [], [], false⟩,
   ⟨79, 0x210, 0x20, 6, 0x0, 1, 1, .ro, [], [], [], [], false⟩,
   ⟨80, 0x214, 0x20, 6, 0x0, 1, 1, .ro, [], [], [], [], false⟩,
   ⟨81, 0x218, 0x20, 6, 0x0, 1, 1, .ro, [], [], [], [], false⟩,
   ⟨82, 0x21C, 0x20, 6, 0x0, 1, 1, .ro, [], [], [], [], false⟩]

/-- Registers of the SWITCH page beyond the common header. -/
def regsSWITCH : List Reg :=
  [⟨83, 0x20, 0x0, 1, 0x0, 1, 1, .ro, [], [], [0xC0000], [], false⟩,
   ⟨84, 0x24, 0x0, 1, 0x0, 1, 1, .ro, [], [], [0x1180], [], false⟩,
   ⟨85, 0x28, 0x0, 1, 0x0, 1, 1, .ro, [], [], [0xBEE80], [], false⟩,
   ⟨86, 0x2C, 0x0, 1, 0x0, 1, 1, .ro, [], [], [], [], false⟩,
   ⟨87, 0x30, 0x0, 1, 0x0, 1, 1, .ro, [], [], [], [], false⟩,
   ⟨88, 0x40, 0x0, 1, 0x0, 1, 1, .ro, [], [0x80000000], [], [], false⟩,
   ⟨89, 0x44, 0x0, 1, 0x0, 1, 1, .ro, [], [], [], [], false⟩,
   ⟨90, 0x48, 0x0, 1, 0x0, 1, 1, .ro, [], [], [], [], false⟩,
   ⟨91, 0x80, 0x0, 1, 0x0, 1, 2, .ctr, [], [], [], [], false⟩,
   ⟨92, 0x88, 0x0, 1, 0x0, 1, 2, .ctr, [], [], [], [], false⟩,
   ⟨93, 0x90, 0x0, 1, 0x0, 1, 2, .ctr, [], [], [], [], false⟩,
   ⟨94, 0x98, 0x0, 1, 0x0, 1, 2, .ctr, [], [], [], [], false⟩,
   ⟨95, 0xA0, 0x0, 1, 0x0, 1, 2, .ctr, [], [], [], [], false⟩,
   ⟨96, 0xA8, 0x0, 1, 0x0, 1, 2, .ctr, [], [], [], [], false⟩,
   ⟨97, 0xB0, 0x0, 1, 0x0, 1, 2, .ctr, [], [], [], [], false⟩,
   ⟨98, 0xB8, 0x0, 1, 0x0, 1, 2, .ctr, [], [], [], [], false⟩,
   ⟨99, 0xC0, 0x0, 1, 0x0, 1, 2, .ctr, [], [], [], [], false⟩,
   ⟨100, 0x1000, 0x20, 289, 0x4, 6, 1, .rw, [0xFFFF], [], [], [], false⟩,
   ⟨101, 0x4000, 0x20, 289, 0x4, 6, 1, .ro, [], [], [], [], false⟩,
   ⟨102, 0x7000, 0x20, 289, 0x4, 6, 1, .ro, [], [], [], [], false⟩]

/-- Registers of the POOL page beyond the common header. -/
def regsPOOL : List Reg :=
  [⟨103, 0x20, 0x0, 1, 0x0, 1, 1, .ro, [], [0x80000000], [], [], false⟩,
   ⟨104, 0x24, 0x0, 1, 0x0, 1, 1, .ro, [], [], [], [], false⟩,
   ⟨105, 0x28, 0x0, 1, 0x0, 1, 1, .ro, [], [], [], [], false⟩,
   ⟨106, 0x80, 0x0, 1, 0x0, 1, 2, .ctr, [], [], [], [], false⟩,
   ⟨107, 0x88, 0x0, 1, 0x0, 1, 2, .ctr, [], [], [], [], false⟩,
   ⟨108, 0x90, 0x0, 1, 0x0, 1, 2, .ctr, [], [], [], [], false⟩,
   ⟨109, 0x98, 0x0, 1, 0x0, 1, 2, .ctr, [], [], [], [], false⟩,
   ⟨110, 0x1000, 0x40, 1057, 0x0, 1, 1, .ro, [], [], [], [], false⟩,
   ⟨111, 0x1004, 0x40, 1057, 0x0, 1, 1, .ro, [], [], [], [], false⟩,
   ⟨112, 0x1008, 0x40, 1057, 0x0, 1, 1, .ro, [], [], [], [], false⟩,
   ⟨113, 0x100C, 0x40, 1057, 0x0, 1, 1, .ro, [], [], [], [], false⟩,
   ⟨114, 0x1010, 0x40, 1057, 0x4, 4, 1, .rw, [0xFFFFF], [], [], [], false⟩,
   ⟨115, 0x1020, 0x40, 1057, 0x4, 4, 1, .ro, [], [], [], [], false⟩]

/-- Registers of the ROUTE page beyond the common header. -/
def regsROUTE : List Reg :=
  [⟨116, 0x20, 0x0, 1, 0x0, 1, 1, .rw, [0xF1], [], [0x50], [], false⟩,
   ⟨117, 0x24, 0x0, 1, 0x0, 1, 1, .rw, [0xFFFFFFFF], [], [0xFFFFFFFF], [], false⟩,
   ⟨118, 0x28, 0x0, 1, 0x0, 1, 1, .ro, [], [0x80000000], [], [], false⟩,
   ⟨119, 0x80, 0x0, 1, 0x0, 1, 2, .ctr, [], [], [], [], false⟩,
   ⟨120, 0x88, 0x0, 1, 0x0, 1, 2, .ctr, [], [], [], [], false⟩,
   ⟨121, 0x90, 0x0, 1, 0x0, 1, 2, .ctr, [], [], [], [], false⟩,
   ⟨122, 0x98, 0x0, 1, 0x0, 1, 2, .ctr, [], [], [], [], false⟩,
   ⟨123, 0xA0, 0x0, 1, 0x0, 1, 2, .ctr, [], [], [], [], false⟩,
   ⟨124, 0xA8, 0x0, 1, 0x0, 1, 2, .ctr, [], [], [], [], false⟩,
   ⟨125, 0x100, 0x4, 8, 0x0, 1, 1, .ro, [], [], [], [], false⟩,
   ⟨126, 0x10000, 0x4, 65535, 0x0, 1, 1, .rw, [0x80000FFF], [], [], [], false⟩,
   ⟨127, 0x60000, 0x20, 4096, 0x0, 1, 5, .ent, [0xFFFFFFFF, 0xFFFFFFFF, 0xFFFFFFFF, 0xFFFFFFFF, 0xFFFF], [], [], [], false⟩,
   ⟨128, 0x80000, 0x4, 4096, 0x0, 1, 1, .ro, [], [], [], [], false⟩]

/-- Registers of the SHAPE page beyond the common header. -/
def regsSHAPE : List Reg :=
  [⟨129, 0x20, 0x4, 6, 0x0, 1, 1, .rw, [0x803FFFFF], [], [], [], false⟩,
   ⟨130, 0x38, 0x4, 6, 0x0, 1, 1, .rw, [0x1FFFFFF], [], [0x10000], [], false⟩,
   ⟨131, 0x50, 0x4, 2, 0x0, 1, 1, .rw, [0xFFFFFFFF], [], [], [], false⟩,
   ⟨132, 0x58, 0x0, 1, 0x0, 1, 1, .rw, [0x1], [], [], [], false⟩,
   ⟨133, 0x5C, 0x0, 1, 0x0, 1, 1, .rw, [0x7F7F], [], [], [], false⟩,
   ⟨134, 0x60, 0x0, 1, 0x0, 1, 2, .ent, [0xFFFFFFFF, 0xFFFFFFFF], [], [], [], false⟩,
   ⟨135, 0x68, 0x0, 1, 0x0, 1, 2, .ent, [0xFFFFFFFF, 0xFFFFFFFF], [], [], [], false⟩,
   ⟨136, 0x70, 0x0, 1, 0x0, 1, 1, .rw, [0xFF], [], [0x28], [], false⟩,
   ⟨137, 0x74, 0x0, 1, 0x0, 1, 1, .rw, [0xFFFFFFFF], [], [0x80208020], [], false⟩,
   ⟨138, 0x78, 0x0, 1, 0x0, 1, 1, .ro, [], [], [], [], false⟩,
   ⟨139, 0x80, 0x0, 1, 0x0, 1, 2, .ctr, [], [], [], [], false⟩,
   ⟨140, 0x88, 0x0, 1, 0x0, 1, 2, .ctr, [], [], [], [], false⟩,
   ⟨141, 0x90, 0x8, 6, 0x0, 1, 2, .ctr, [], [], [], [], false⟩,
   ⟨142, 0x100, 0x4, 64, 0x0, 1, 1, .rw, [0xFFFFFF3F], [], [], [], false⟩,
   ⟨143, 0x200, 0x4, 64, 0x0, 1, 1, .rw, [0xFFFFFF3F], [], [], [], false⟩,
   ⟨144, 0x300, 0x4, 6, 0x0, 1, 1, .ro, [], [], [], [], false⟩]

/-- Registers of the COLL page beyond the common header. -/
def regsCOLL : List Reg :=
  [⟨164, 0x20, 0x0, 1, 0x0, 1, 1, .rw, [0xFFF], [], [0x64], [], false⟩,
   ⟨165, 0x24, 0x0, 1, 0x0, 1, 1, .rw, [0xFFFF], [], [0x1388], [], false⟩,
   ⟨166, 0x28, 0x0, 1, 0x0, 1, 1, .ro, [], [0x80000000], [], [], false⟩,
   ⟨167, 0x80, 0x0, 1, 0x0, 1, 2, .ctr, [], [], [], [], false⟩,
   ⟨168, 0x88, 0x0, 1, 0x0, 1, 2, .ctr, [], [], [], [], false⟩,
   ⟨169, 0x90, 0x0, 1, 0x0, 1, 2, .ctr, [], [], [], [], false⟩,
   ⟨170, 0x98, 0x0, 1, 0x0, 1, 2, .ctr, [], [], [], [], false⟩,
   ⟨171, 0xA0, 0x0, 1, 0x0, 1, 2, .ctr, [], [], [], [], false⟩,
   ⟨172, 0xA8, 0x0, 1, 0x0, 1, 2, .ctr, [], [], [], [], false⟩,
   ⟨173, 0xB0, 0x0, 1, 0x0, 1, 2, .ctr, [], [], [], [], false⟩,
   ⟨174, 0xB8, 0x0, 1, 0x0, 1, 2, .ctr, [], [], [], [], false⟩,
   ⟨175, 0xC0, 0x0, 1, 0x0, 1, 2, .ctr, [], [], [], [], false⟩,
   ⟨176, 0xC8, 0x0, 1, 0x0, 1, 2, .ctr, [], [], [], [], false⟩,
   ⟨177, 0x10000, 0x20, 4096, 0x0, 1, 8, .ent, [0xB7FFFFFF, 0x7F3FFF, 0xFFF3F7F, 0xFFFF, 0xFFFFFFFF, 0xFFFFFFFF, 0xFFFFFFFF, 0xFFFF], [], [0x0, 0x0, 0x310001, 0x0, 0x0, 0x0, 0x0, 0x0], [0], false⟩,
   ⟨178, 0x40000, 0x40, 4096, 0x0, 1, 1, .rw, [0x1FFFF01], [], [0x1F400], [], false⟩,
   ⟨179, 0x40004, 0x40, 4096, 0x0, 1, 1, .ro, [], [], [], [], false⟩,
   ⟨180, 0x40008, 0x40, 4096, 0x0, 1, 2, .ro, [], [], [], [], false⟩,
   ⟨181, 0x40010, 0x40, 4096, 0x0, 1, 1, .ro, [], [0x3000000], [], [], false⟩,
   ⟨182, 0x40018, 0x40, 4096, 0x0, 1, 2, .ro, [], [], [], [], false⟩,
   ⟨183, 0x40020, 0x40, 4096, 0x0, 1, 2, .ctr, [], [], [], [], false⟩,
   ⟨184, 0x40028, 0x40, 4096, 0x0, 1, 2, .ctr, [], [], [], [], false⟩,
   ⟨185, 0x40030, 0x40, 4096, 0x0, 1, 2, .ctr, [], [], [], [], false⟩,
   ⟨186, 0x40038, 0x40, 4096, 0x0, 1, 2, .ctr, [], [], [], [], false⟩,
   ⟨187, 0x100000, 0x100, 4096, 0x4, 32, 1, .ro, [], [], [], [], false⟩,
   ⟨188, 0x100080, 0x100, 4096, 0x4, 32, 1, .ro, [], [], [], [], false⟩,
   ⟨189, 0x200000, 0x8, 65536, 0x0, 1, 2, .ent, [0xFFFFFFFF, 0xFFFF0001], [], [0x0, 0x10000], [], false⟩,
   ⟨190, 0x280000, 0x4, 16384, 0x0, 1, 1, .rw, [0xFFFF], [], [], [], false⟩,
   ⟨191, 0x300000, 0x8, 65536, 0x0, 1, 2, .ctr, [], [], [], [], false⟩]

/-- Registers of the SECTION page beyond the common header. -/
def regsSECTION : List Reg :=
  [⟨192, 0x20, 0x0, 1, 0x0, 1, 1, .rw, [0xFF0FFF], [], [0xA000A], [], false⟩,
   ⟨193, 0x24, 0x0, 1, 0x0, 1, 1, .wo, [0x1F031F], [], [], [], false⟩,
   ⟨194, 0x28, 0x0, 1, 0x0, 1, 1, .ro, [], [], [], [], false⟩,
   ⟨195, 0x80, 0x0, 1, 0x0, 1, 2, .ctr, [], [], [], [], false⟩,
   ⟨196, 0x88, 0x0, 1, 0x0, 1, 2, .ctr, [], [], [], [], false⟩,
   ⟨197, 0x90, 0x0, 1, 0x0, 1, 2, .ctr, [], [], [], [], false⟩,
   ⟨198, 0x100, 0x4, 32, 0x0, 1, 1, .rw, [0x3F], [], [], [0], false⟩]

/-- Registers of the COACH page beyond the common header. -/
def regsCOACH : List Reg :=
  [⟨199, 0x20, 0x0, 1, 0x0, 1, 1, .ro, [], [], [], [], false⟩,
   ⟨200, 0x24, 0x0, 1, 0x0, 1, 1, .ro, [], [], [], [], false⟩,
   ⟨201, 0x28, 0x0, 1, 0x0, 1, 1, .rw, [0xFFFF], [], [0x3E8], [], false⟩,
   ⟨202, 0x2C, 0x0, 1, 0x0, 1, 1, .ro, [], [], [], [], false⟩,
   ⟨203, 0x40, 0x0, 1, 0x0, 1, 1, .ro, [], [], [0x10000], [], false⟩,
   ⟨204, 0x44, 0x0, 1, 0x0, 1, 1, .ro, [], [0x80000000], [], [], false⟩,
   ⟨205, 0x48, 0x0, 1, 0x0, 1, 2, .ro, [], [], [], [], false⟩,
   ⟨206, 0x50, 0x0, 1, 0x0, 1, 12, .woe, [0xFFFFFFFF, 0xFFFFFFFF, 0xFFFFFFFF, 0xFFFFFFFF, 0xFFFFFFFF, 0xFFFFFFFF, 0xFFFFFFFF, 0xFFFFFFFF, 0xFFFFFFFF, 0xFFFFFFFF, 0xFFFFFFFF, 0xFFFFFFFF], [], [], [], false⟩,
   ⟨207, 0x80, 0x0, 1, 0x0, 1, 2, .ctr, [], [], [], [], false⟩,
   ⟨208, 0x88, 0x0, 1, 0x0, 1, 2, .ctr, [], [], [], [], false⟩,
   ⟨209, 0x90, 0x0, 1, 0x0, 1, 2, .ctr, [], [], [], [], false⟩,
   ⟨210, 0x98, 0x0, 1, 0x0, 1, 2, .ctr, [], [], [], [], false⟩,
   ⟨211, 0xA0, 0x0, 1, 0x0, 1, 2, .ctr, [], [], [], [], false⟩,
   ⟨212, 0xA8, 0x0, 1, 0x0, 1, 2, .ctr, [], [], [], [], false⟩,
   ⟨213, 0xB0, 0x0, 1, 0x0, 1, 2, .ctr, [], [], [], [], false⟩,
   ⟨214, 0xB8, 0x0, 1, 0x0, 1, 2, .ctr, [], [], [], [], false⟩,
   ⟨215, 0xC0, 0x0, 1, 0x0, 1, 2, .ctr, [], [], [], [], false⟩,
   ⟨216, 0xC8, 0x0, 1, 0x0, 1, 2, .ctr, [], [], [], [], false⟩,
   ⟨217, 0xD0, 0x0, 1, 0x0, 1, 2, .ctr, [], [], [], [], false⟩,
   ⟨218, 0xD8, 0x0, 1, 0x0, 1, 2, .ctr, [], [], [], [], false⟩,
   ⟨219, 0xE0, 0x0, 1, 0x0, 1, 2, .ctr, [], [], [], [], false⟩,
   ⟨220, 0xE8, 0x0, 1, 0x0, 1, 2, .ctr, [], [], [], [], false⟩,
   ⟨221, 0xF0, 0x0, 1, 0x0, 1, 2, .ctr, [], [], [], [], false⟩,
   ⟨222, 0xF8, 0x0, 1, 0x0, 1, 2, .ctr, [], [], [], [], false⟩,
   ⟨223, 0x100, 0x8, 16, 0x0, 1, 2, .ctr, [], [], [], [], false⟩]

/-- Registers of the UPDATE page beyond the common header. -/
def regsUPDATE : List Reg :=
  [⟨224, 0x20, 0x0, 1, 0x0, 1, 1, .rw, [0xFFFFFFF], [], [], [], false⟩,
   ⟨225, 0x24, 0x0, 1, 0x0, 1, 1, .ro, [], [0x80000000], [], [], false⟩,
   ⟨226, 0x28, 0x0, 1, 0x0, 1, 1, .ro, [], [], [], [], false⟩,
   ⟨227, 0x30, 0x0, 1, 0x0, 1, 2, .ro, [], [], [], [], false⟩,
   ⟨228, 0x80, 0x0, 1, 0x0, 1, 2, .ctr, [], [], [], [], false⟩,
   ⟨229, 0x88, 0x0, 1, 0x0, 1, 2, .ctr, [], [], [], [], false⟩,
   ⟨230, 0x90, 0x0, 1, 0x0, 1, 2, .ctr, [], [], [], [], false⟩,
   ⟨231, 0x98, 0x0, 1, 0x0, 1, 2, .ctr, [], [], [], [], false⟩,
   ⟨232, 0xA0, 0x0, 1, 0x0, 1, 2, .ctr, [], [], [], [], false⟩,
   ⟨233, 0xA8, 0x0, 1, 0x0, 1, 2, .ctr, [], [], [], [], false⟩,
   ⟨234, 0xB0, 0x0, 1, 0x0, 1, 2, .ctr, [], [], [], [], false⟩,
   ⟨235, 0xB8, 0x0, 1, 0x0, 1, 2, .ctr, [], [], [], [], false⟩,
   ⟨236, 0xC0, 0x0, 1, 0x0, 1, 2, .ctr, [], [], [], [], false⟩,
   ⟨237, 0xC8, 0x0, 1, 0x0, 1, 2, .ctr, [], [], [], [], false⟩,
   ⟨238, 0x10000, 0x4, 4096, 0x0, 1, 1, .rw, [0x80000FFF], [], [], [], false⟩,
   ⟨239, 0x20000, 0x20, 4096, 0x0, 1, 8, .ent, [0xFFFFFFF, 0xFFFFFFF, 0xFFFFFFF, 0xFFFFFFFF, 0xFFFFFFFF, 0xFFFFFFFF, 0x1FFFF, 0xFFFF0001], [], [], [], false⟩,
   ⟨240, 0x40000, 0x20, 64, 0x0, 1, 8, .ent, [0xFFFFFFFF, 0xFFFFFFFF, 0xFFFFFFFF, 0xFFFFFFFF, 0x0, 0x0, 0x0, 0xFFFFFFFF], [], [], [], false⟩]

/-- Registers of the STATION page beyond the common header. -/
def regsSTATION : List Reg :=
  [⟨241, 0x20, 0x0, 1, 0x0, 1, 1, .rw, [0xFFFFFFF], [], [], [], false⟩,
   ⟨242, 0x24, 0x0, 1, 0x0, 1, 1, .rw, [0x1FFFF], [], [], [], false⟩,
   ⟨243, 0x28, 0x0, 1, 0x0, 1, 1, .ro, [], [], [], [], false⟩,
   ⟨244, 0x2C, 0x0, 1, 0x0, 1, 1, .rw, [0xFFFF], [], [0x3E8], [], false⟩,
   ⟨245, 0x30, 0x0, 1, 0x0, 1, 1, .ro, [], [0x80000000], [], [], false⟩,
   ⟨246, 0x38, 0x0, 1, 0x0, 1, 2, .ro, [], [], [], [], false⟩,
   ⟨247, 0x80, 0x0, 1, 0x0, 1, 2, .ctr, [], [], [], [], false⟩,
   ⟨248, 0x88, 0x0, 1, 0x0, 1, 2, .ctr, [], [], [], [], false⟩,
   ⟨249, 0x90, 0x0, 1, 0x0, 1, 2, .ctr, [], [], [], [], false⟩,
   ⟨250, 0x98, 0x0, 1, 0x0, 1, 2, .ctr, [], [], [], [], false⟩,
   ⟨251, 0xA0, 0x0, 1, 0x0, 1, 2, .ctr, [], [], [], [], false⟩,
   ⟨252, 0xA8, 0x0, 1, 0x0, 1, 2, .ctr, [], [], [], [], false⟩,
   ⟨253, 0xB0, 0x0, 1, 0x0, 1, 2, .ctr, [], [], [], [], false⟩,
   ⟨254, 0xB8, 0x0, 1, 0x0, 1, 2, .ctr, [], [], [], [], false⟩,
   ⟨255, 0xC0, 0x0, 1, 0x0, 1, 2, .ctr, [], [], [], [], false⟩,
   ⟨256, 0xC8, 0x0, 1, 0x0, 1, 2, .ctr, [], [], [], [], false⟩,
   ⟨257, 0xD0, 0x0, 1, 0x0, 1, 2, .ctr, [], [], [], [], false⟩,
   ⟨258, 0x1000, 0x40, 16, 0x0, 1, 1, .rw, [0x1], [], [], [], false⟩,
   ⟨259, 0x1004, 0x40, 16, 0x0, 1, 1, .ro, [], [], [], [], false⟩,
   ⟨260, 0x1008, 0x40, 16, 0x0, 1, 1, .rw, [0xFFFFFFF], [], [], [], false⟩,
   ⟨261, 0x100C, 0x40, 16, 0x0, 1, 1, .rw, [0x1F], [], [0x10], [], false⟩,
   ⟨262, 0x1010, 0x40, 16, 0x0, 1, 2, .ctr, [], [], [], [], false⟩,
   ⟨263, 0x1018, 0x40, 16, 0x0, 1, 2, .ctr, [], [], [], [], false⟩,
   ⟨264, 0x1020, 0x40, 16, 0x0, 1, 2, .ctr, [], [], [], [], false⟩,
   ⟨265, 0x10000, 0x20, 1024, 0x0, 1, 8, .ent, [0x37FFFFFF, 0x3FF03FF, 0xFFF, 0xF, 0xFFFF8FFF, 0x0, 0x0, 0x1], [], [], [], false⟩,
   ⟨266, 0x20000, 0x4, 4096, 0x0, 1, 1, .rw, [0x81FFFFFF], [], [], [], false⟩]

/-- Registers of the HBM page beyond the common header. -/
def regsHBM : List Reg :=
  [⟨267, 0x20, 0x0, 1, 0x0, 1, 1, .rw, [0xFF], [], [0x18], [], false⟩,
   ⟨268, 0x24, 0x0, 1, 0x0, 1, 1, .ro, [], [], [], [], false⟩,
   ⟨269, 0x28, 0x0, 1, 0x0, 1, 1, .rw, [0x7FFF3F1F], [], [], [], false⟩,
   ⟨270, 0x2C, 0x0, 1, 0x0, 1, 1, .wo, [0x1], [], [], [], false⟩,
   ⟨271, 0x30, 0x0, 1, 0x0, 1, 1, .ro, [], [], [], [], false⟩,
   ⟨272, 0x38, 0x0, 1, 0x0, 1, 2, .ro, [], [0x0, 0x80000000], [], [], false⟩,
   ⟨273, 0x80, 0x0, 1, 0x0, 1, 2, .ctr, [], [], [], [], false⟩,
   ⟨274, 0x88, 0x0, 1, 0x0, 1, 2, .ctr, [], [], [], [], false⟩,
   ⟨275, 0x90, 0x0, 1, 0x0, 1, 2, .ctr, [], [], [], [], false⟩,
   ⟨276, 0x98, 0x0, 1, 0x0, 1, 2, .ctr, [], [], [], [], false⟩,
   ⟨277, 0xA0, 0x0, 1, 0x0, 1, 2, .ctr, [], [], [], [], false⟩,
   ⟨278, 0xA8, 0x0, 1, 0x0, 1, 2, .ctr, [], [], [], [], false⟩,
   ⟨279, 0xB0, 0x0, 1, 0x0, 1, 2, .ctr, [], [], [], [], false⟩,
   ⟨280, 0xB8, 0x0, 1, 0x0, 1, 2, .ctr, [], [], [], [], false⟩]

/-- Registers of the WINDOW page beyond the common header. -/
def regsWINDOW : List Reg :=
  [⟨281, 0x20, 0x8, 5, 0x0, 1, 1, .rw, [0x1FFFF], [], [], [], false⟩,
   ⟨282, 0x24, 0x8, 5, 0x0, 1, 1, .rw, [0x1FFFF], [], [], [], false⟩,
   ⟨283, 0x50, 0x0, 1, 0x0, 1, 1, .rw, [0x1FFFF], [], [0x3E8], [], false⟩,
   ⟨284, 0x54, 0x0, 1, 0x0, 1, 1, .rw, [0xFFFFFF], [], [0x6403E8], [], false⟩,
   ⟨285, 0x58, 0x0, 1, 0x0, 1, 1, .ro, [], [0x80000000], [], [], false⟩,
   ⟨286, 0x60, 0x0, 1, 0x0, 1, 2, .ro, [], [], [], [], false⟩,
   ⟨287, 0x80, 0x0, 1, 0x0, 1, 2, .ctr, [], [], [], [], false⟩,
   ⟨288, 0x88, 0x0, 1, 0x0, 1, 2, .ctr, [], [], [], [], false⟩,
   ⟨289, 0x90, 0x0, 1, 0x0, 1, 2, .ctr, [], [], [], [], false⟩,
   ⟨290, 0x98, 0x0, 1, 0x0, 1, 2, .ctr, [], [], [], [], false⟩,
   ⟨291, 0xA0, 0x0, 1, 0x0, 1, 2, .ctr, [], [], [], [], false⟩,
   ⟨292, 0xA8, 0x0, 1, 0x0, 1, 2, .ctr, [], [], [], [], false⟩,
   ⟨293, 0xB0, 0x0, 1, 0x0, 1, 2, .ctr, [], [], [], [], false⟩,
   ⟨294, 0xB8, 0x0, 1, 0x0, 1, 2, .ctr, [], [], [], [], false⟩,
   ⟨295, 0xC0, 0x0, 1, 0x0, 1, 2, .ctr, [], [], [], [], false⟩,
   ⟨296, 0xC8, 0x0, 1, 0x0, 1, 2, .ctr, [], [], [], [], false⟩,
   ⟨297, 0xD0, 0x0, 1, 0x0, 1, 1, .ro, [], [], [], [], false⟩,
   ⟨298, 0x10000, 0x20, 256, 0x0, 1, 4, .ent, [0xFFFFFFFF, 0xFFFFFFF, 0xFFFFFFFF, 0x1FFFFFFF], [], [0x0, 0x0, 0xFFFF, 0x0], [], false⟩,
   ⟨299, 0x10010, 0x20, 256, 0x0, 1, 1, .ro, [], [], [], [], false⟩,
   ⟨300, 0x20000, 0x4, 4096, 0x0, 1, 1, .rw, [0xFFFF], [], [0xFFFF], [], false⟩]

/-- The registers of a block. -/
def Blk.regs : Blk → List Reg
  | .TOP => regsTOP
  | .PROT => regsPROT
  | .FAULT => regsFAULT
  | .RESET => regsRESET
  | .POWER => regsPOWER
  | .TIME => regsTIME
  | .CONSORT => regsCONSORT
  | .SIDING => regsSIDING
  | .DIE => regsDIE
  | .LANE => regsLANE
  | .PORT => regsPORT
  | .SWITCH => regsSWITCH
  | .POOL => regsPOOL
  | .ROUTE => regsROUTE
  | .SHAPE => regsSHAPE
  | .COLL => regsCOLL
  | .SECTION => regsSECTION
  | .COACH => regsCOACH
  | .UPDATE => regsUPDATE
  | .STATION => regsSTATION
  | .HBM => regsHBM
  | .WINDOW => regsWINDOW

/-! ## Register numbers -/

/-- TOP.GRADE -/
abbrev Id.TOP_GRADE : Nat := 8
/-- TOP.LANE_SLOTS -/
abbrev Id.TOP_LANE_SLOTS : Nat := 9
/-- TOP.STACKS -/
abbrev Id.TOP_STACKS : Nat := 10
/-- TOP.MODULE_NUM -/
abbrev Id.TOP_MODULE_NUM : Nat := 11
/-- TOP.SLOT_ID -/
abbrev Id.TOP_SLOT_ID : Nat := 12
/-- TOP.BUS_ERR_ADDR -/
abbrev Id.TOP_BUS_ERR_ADDR : Nat := 13
/-- TOP.BUS_ERR_KIND -/
abbrev Id.TOP_BUS_ERR_KIND : Nat := 14
/-- TOP.VOTE_ADDR -/
abbrev Id.TOP_VOTE_ADDR : Nat := 15
/-- TOP.SCRATCH -/
abbrev Id.TOP_SCRATCH : Nat := 16
/-- DIE.DIE_INFO -/
abbrev Id.DIE_DIE_INFO : Nat := 23
/-- DIE.DIE_TEMP -/
abbrev Id.DIE_DIE_TEMP : Nat := 24
/-- LANE.CFG -/
abbrev Id.LANE_CFG : Nat := 27
/-- LANE.TX_EQ -/
abbrev Id.LANE_TX_EQ : Nat := 28
/-- LANE.RX_QUALITY -/
abbrev Id.LANE_RX_QUALITY : Nat := 29
/-- LANE.EYE_CTL -/
abbrev Id.LANE_EYE_CTL : Nat := 30
/-- LANE.EYE_CMD -/
abbrev Id.LANE_EYE_CMD : Nat := 31
/-- LANE.EYE_STATUS -/
abbrev Id.LANE_EYE_STATUS : Nat := 32
/-- PORT.LAYOUT -/
abbrev Id.PORT_LAYOUT : Nat := 46
/-- PORT.MASKS -/
abbrev Id.PORT_MASKS : Nat := 47
/-- PORT.SKEW -/
abbrev Id.PORT_SKEW : Nat := 48
/-- PORT.FC_CFG -/
abbrev Id.PORT_FC_CFG : Nat := 49
/-- PORT.TC_ALLOW -/
abbrev Id.PORT_TC_ALLOW : Nat := 50
/-- PORT.PLAN -/
abbrev Id.PORT_PLAN : Nat := 67
/-- PORT.DISC_CFG -/
abbrev Id.PORT_DISC_CFG : Nat := 68
/-- PORT.NB_NODE -/
abbrev Id.PORT_NB_NODE : Nat := 69
/-- PORT.NB_PORT -/
abbrev Id.PORT_NB_PORT : Nat := 70
/-- PORT.NB_TAG -/
abbrev Id.PORT_NB_TAG : Nat := 71
/-- PORT.NB_EXPECT -/
abbrev Id.PORT_NB_EXPECT : Nat := 72
/-- PORT.NB_SEQ -/
abbrev Id.PORT_NB_SEQ : Nat := 73
/-- PORT.TOPO_REASON -/
abbrev Id.PORT_TOPO_REASON : Nat := 74
/-- PORT.CR_RX_GRANT -/
abbrev Id.PORT_CR_RX_GRANT : Nat := 75
/-- PORT.CR_RX_TOTAL -/
abbrev Id.PORT_CR_RX_TOTAL : Nat := 76
/-- PORT.CR_RETURN_TOTAL -/
abbrev Id.PORT_CR_RETURN_TOTAL : Nat := 77
/-- PORT.CR_HELD -/
abbrev Id.PORT_CR_HELD : Nat := 78
/-- PORT.CR_TX_GRANT -/
abbrev Id.PORT_CR_TX_GRANT : Nat := 79
/-- PORT.CR_DEBIT_TOTAL -/
abbrev Id.PORT_CR_DEBIT_TOTAL : Nat := 80
/-- PORT.CR_RETURN_RX -/
abbrev Id.PORT_CR_RETURN_RX : Nat := 81
/-- PORT.CR_TX_AVAIL -/
abbrev Id.PORT_CR_TX_AVAIL : Nat := 82
/-- SWITCH.CELLS -/
abbrev Id.SWITCH_CELLS : Nat := 83
/-- SWITCH.COMMITTED -/
abbrev Id.SWITCH_COMMITTED : Nat := 84
/-- SWITCH.UNCOMMITTED -/
abbrev Id.SWITCH_UNCOMMITTED : Nat := 85
/-- SWITCH.ORDER_PTR -/
abbrev Id.SWITCH_ORDER_PTR : Nat := 86
/-- SWITCH.FLUSHING -/
abbrev Id.SWITCH_FLUSHING : Nat := 87
/-- SWITCH.AUDIT_CHECK -/
abbrev Id.SWITCH_AUDIT_CHECK : Nat := 88
/-- SWITCH.AUDIT_LEFT -/
abbrev Id.SWITCH_AUDIT_LEFT : Nat := 89
/-- SWITCH.AUDIT_RIGHT -/
abbrev Id.SWITCH_AUDIT_RIGHT : Nat := 90
/-- SWITCH.LIMIT -/
abbrev Id.SWITCH_LIMIT : Nat := 100
/-- SWITCH.EFF -/
abbrev Id.SWITCH_EFF : Nat := 101
/-- SWITCH.HELD -/
abbrev Id.SWITCH_HELD : Nat := 102
/-- POOL.DF_POOL -/
abbrev Id.POOL_DF_POOL : Nat := 103
/-- POOL.DF_ENTRY -/
abbrev Id.POOL_DF_ENTRY : Nat := 104
/-- POOL.DF_REQ -/
abbrev Id.POOL_DF_REQ : Nat := 105
/-- POOL.SIZE -/
abbrev Id.POOL_SIZE : Nat := 110
/-- POOL.FREE -/
abbrev Id.POOL_FREE : Nat := 111
/-- POOL.ALLOCATED -/
abbrev Id.POOL_ALLOCATED : Nat := 112
/-- POOL.SUB -/
abbrev Id.POOL_SUB : Nat := 113
/-- POOL.QUOTA -/
abbrev Id.POOL_QUOTA : Nat := 114
/-- POOL.USED -/
abbrev Id.POOL_USED : Nat := 115
/-- ROUTE.CFG -/
abbrev Id.ROUTE_CFG : Nat := 116
/-- ROUTE.HASH_SALT -/
abbrev Id.ROUTE_HASH_SALT : Nat := 117
/-- ROUTE.EMPTY_SET -/
abbrev Id.ROUTE_EMPTY_SET : Nat := 118
/-- ROUTE.PORT_LIVE -/
abbrev Id.ROUTE_PORT_LIVE : Nat := 125
/-- ROUTE.NODE -/
abbrev Id.ROUTE_NODE : Nat := 126
/-- ROUTE.SET -/
abbrev Id.ROUTE_SET : Nat := 127
/-- ROUTE.LIVE -/
abbrev Id.ROUTE_LIVE : Nat := 128
/-- SHAPE.RATE -/
abbrev Id.SHAPE_RATE : Nat := 129
/-- SHAPE.BURST -/
abbrev Id.SHAPE_BURST : Nat := 130
/-- SHAPE.OVH -/
abbrev Id.SHAPE_OVH : Nat := 131
/-- SHAPE.GATE_CTL -/
abbrev Id.SHAPE_GATE_CTL : Nat := 132
/-- SHAPE.GATE_LEN -/
abbrev Id.SHAPE_GATE_LEN : Nat := 133
/-- SHAPE.GATE_BASE -/
abbrev Id.SHAPE_GATE_BASE : Nat := 134
/-- SHAPE.SWAP_AT -/
abbrev Id.SHAPE_SWAP_AT : Nat := 135
/-- SHAPE.GATE_GUARD -/
abbrev Id.SHAPE_GATE_GUARD : Nat := 136
/-- SHAPE.QUANTUM -/
abbrev Id.SHAPE_QUANTUM : Nat := 137
/-- SHAPE.GATE_POS -/
abbrev Id.SHAPE_GATE_POS : Nat := 138
/-- SHAPE.GATE0 -/
abbrev Id.SHAPE_GATE0 : Nat := 142
/-- SHAPE.GATE1 -/
abbrev Id.SHAPE_GATE1 : Nat := 143
/-- SHAPE.LEVEL -/
abbrev Id.SHAPE_LEVEL : Nat := 144
/-- TIME.CFG -/
abbrev Id.TIME_CFG : Nat := 145
/-- TIME.INTERVAL -/
abbrev Id.TIME_INTERVAL : Nat := 146
/-- TIME.STEP_LIMIT -/
abbrev Id.TIME_STEP_LIMIT : Nat := 147
/-- TIME.LOCK_NS -/
abbrev Id.TIME_LOCK_NS : Nat := 148
/-- TIME.RATE_ADJ -/
abbrev Id.TIME_RATE_ADJ : Nat := 149
/-- TIME.CMD -/
abbrev Id.TIME_CMD : Nat := 150
/-- TIME.SET_NS -/
abbrev Id.TIME_SET_NS : Nat := 151
/-- TIME.LATCH_NS -/
abbrev Id.TIME_LATCH_NS : Nat := 152
/-- TIME.LATCH_FRAC -/
abbrev Id.TIME_LATCH_FRAC : Nat := 153
/-- TIME.OFFSET -/
abbrev Id.TIME_OFFSET : Nat := 154
/-- TIME.DELAY -/
abbrev Id.TIME_DELAY : Nat := 155
/-- TIME.PPS_DELAY -/
abbrev Id.TIME_PPS_DELAY : Nat := 156
/-- TIME.PPS_CAP -/
abbrev Id.TIME_PPS_CAP : Nat := 157
/-- TIME.ASYM -/
abbrev Id.TIME_ASYM : Nat := 162
/-- TIME.PORT_EN -/
abbrev Id.TIME_PORT_EN : Nat := 163
/-- COLL.CFG -/
abbrev Id.COLL_CFG : Nat := 164
/-- COLL.WATCHDOG -/
abbrev Id.COLL_WATCHDOG : Nat := 165
/-- COLL.CAUSE_LINE -/
abbrev Id.COLL_CAUSE_LINE : Nat := 166
/-- COLL.GROUP -/
abbrev Id.COLL_GROUP : Nat := 177
/-- COLL.LINE_CTL -/
abbrev Id.COLL_LINE_CTL : Nat := 178
/-- COLL.LINE_STATE -/
abbrev Id.COLL_LINE_STATE : Nat := 179
/-- COLL.HEAD_STEP -/
abbrev Id.COLL_HEAD_STEP : Nat := 180
/-- COLL.LINE_INFO -/
abbrev Id.COLL_LINE_INFO : Nat := 181
/-- COLL.MAP_STEP -/
abbrev Id.COLL_MAP_STEP : Nat := 182
/-- COLL.MISMATCH_MAP -/
abbrev Id.COLL_MISMATCH_MAP : Nat := 187
/-- COLL.MISSING_MAP -/
abbrev Id.COLL_MISSING_MAP : Nat := 188
/-- COLL.MEMBER -/
abbrev Id.COLL_MEMBER : Nat := 189
/-- COLL.PARENT -/
abbrev Id.COLL_PARENT : Nat := 190
/-- SECTION.CFG -/
abbrev Id.SECTION_CFG : Nat := 192
/-- SECTION.CMD -/
abbrev Id.SECTION_CMD : Nat := 193
/-- SECTION.SUBST_STATE -/
abbrev Id.SECTION_SUBST_STATE : Nat := 194
/-- SECTION.REMAP -/
abbrev Id.SECTION_REMAP : Nat := 198
/-- COACH.COACH_INFO -/
abbrev Id.COACH_COACH_INFO : Nat := 199
/-- COACH.RUNQ -/
abbrev Id.COACH_RUNQ : Nat := 200
/-- COACH.SEQ_CFG -/
abbrev Id.COACH_SEQ_CFG : Nat := 201
/-- COACH.LAST_FW_TAG -/
abbrev Id.COACH_LAST_FW_TAG : Nat := 202
/-- COACH.RED_STATE -/
abbrev Id.COACH_RED_STATE : Nat := 203
/-- COACH.RED_CAPTURE -/
abbrev Id.COACH_RED_CAPTURE : Nat := 204
/-- COACH.RED_CAPTURE_STEP -/
abbrev Id.COACH_RED_CAPTURE_STEP : Nat := 205
/-- COACH.RUN_SUBMIT -/
abbrev Id.COACH_RUN_SUBMIT : Nat := 206
/-- UPDATE.CFG -/
abbrev Id.UPDATE_CFG : Nat := 224
/-- UPDATE.CAPTURE -/
abbrev Id.UPDATE_CAPTURE : Nat := 225
/-- UPDATE.CAPTURE_ELEM -/
abbrev Id.UPDATE_CAPTURE_ELEM : Nat := 226
/-- UPDATE.CAPTURE_STEP -/
abbrev Id.UPDATE_CAPTURE_STEP : Nat := 227
/-- UPDATE.LINE_TENSOR -/
abbrev Id.UPDATE_LINE_TENSOR : Nat := 238
/-- UPDATE.TENSOR -/
abbrev Id.UPDATE_TENSOR : Nat := 239
/-- UPDATE.RULE -/
abbrev Id.UPDATE_RULE : Nat := 240
/-- STATION.ACT_PAGE -/
abbrev Id.STATION_ACT_PAGE : Nat := 241
/-- STATION.ACT_BLOCKS -/
abbrev Id.STATION_ACT_BLOCKS : Nat := 242
/-- STATION.ACT_FREE -/
abbrev Id.STATION_ACT_FREE : Nat := 243
/-- STATION.CFG -/
abbrev Id.STATION_CFG : Nat := 244
/-- STATION.CAPTURE -/
abbrev Id.STATION_CAPTURE : Nat := 245
/-- STATION.CAPTURE_STEP -/
abbrev Id.STATION_CAPTURE_STEP : Nat := 246
/-- STATION.STN_CTL -/
abbrev Id.STATION_STN_CTL : Nat := 258
/-- STATION.STN_STATE -/
abbrev Id.STATION_STN_STATE : Nat := 259
/-- STATION.RET_PAGE -/
abbrev Id.STATION_RET_PAGE : Nat := 260
/-- STATION.RET_CFG -/
abbrev Id.STATION_RET_CFG : Nat := 261
/-- STATION.EXPERT -/
abbrev Id.STATION_EXPERT : Nat := 265
/-- STATION.STATION_LINE -/
abbrev Id.STATION_STATION_LINE : Nat := 266
/-- HBM.CFG -/
abbrev Id.HBM_CFG : Nat := 267
/-- HBM.INFO -/
abbrev Id.HBM_INFO : Nat := 268
/-- HBM.REPAIR_ADDR -/
abbrev Id.HBM_REPAIR_ADDR : Nat := 269
/-- HBM.REPAIR_CMD -/
abbrev Id.HBM_REPAIR_CMD : Nat := 270
/-- HBM.REPAIR_STATE -/
abbrev Id.HBM_REPAIR_STATE : Nat := 271
/-- HBM.UE_ADDR -/
abbrev Id.HBM_UE_ADDR : Nat := 272
/-- WINDOW.SPACE_BASE -/
abbrev Id.WINDOW_SPACE_BASE : Nat := 281
/-- WINDOW.SPACE_SIZE -/
abbrev Id.WINDOW_SPACE_SIZE : Nat := 282
/-- WINDOW.DUP_CFG -/
abbrev Id.WINDOW_DUP_CFG : Nat := 283
/-- WINDOW.FENCE_CFG -/
abbrev Id.WINDOW_FENCE_CFG : Nat := 284
/-- WINDOW.ACC_NODE -/
abbrev Id.WINDOW_ACC_NODE : Nat := 285
/-- WINDOW.ACC_ADDR -/
abbrev Id.WINDOW_ACC_ADDR : Nat := 286
/-- WINDOW.CACHE_USED -/
abbrev Id.WINDOW_CACHE_USED : Nat := 297
/-- WINDOW.WIN -/
abbrev Id.WINDOW_WIN : Nat := 298
/-- WINDOW.WIN_STATE -/
abbrev Id.WINDOW_WIN_STATE : Nat := 299
/-- WINDOW.LIST -/
abbrev Id.WINDOW_LIST : Nat := 300
/-- FAULT.STATUS -/
abbrev Id.FAULT_STATUS : Nat := 301
/-- FAULT.RING_WR -/
abbrev Id.FAULT_RING_WR : Nat := 302
/-- FAULT.RING_RD -/
abbrev Id.FAULT_RING_RD : Nat := 303
/-- FAULT.RING_VIEW -/
abbrev Id.FAULT_RING_VIEW : Nat := 304
/-- FAULT.CFG -/
abbrev Id.FAULT_CFG : Nat := 305
/-- FAULT.CMD -/
abbrev Id.FAULT_CMD : Nat := 306
/-- FAULT.POLICY_A -/
abbrev Id.FAULT_POLICY_A : Nat := 315
/-- FAULT.POLICY_B -/
abbrev Id.FAULT_POLICY_B : Nat := 316
/-- FAULT.SRC_CFG -/
abbrev Id.FAULT_SRC_CFG : Nat := 317
/-- FAULT.SRC_COUNT -/
abbrev Id.FAULT_SRC_COUNT : Nat := 318
/-- FAULT.RING_WINDOW -/
abbrev Id.FAULT_RING_WINDOW : Nat := 319
/-- RESET.CFG -/
abbrev Id.RESET_CFG : Nat := 320
/-- RESET.CMD -/
abbrev Id.RESET_CMD : Nat := 321
/-- RESET.CORE_VIEW -/
abbrev Id.RESET_CORE_VIEW : Nat := 322
/-- RESET.KICK -/
abbrev Id.RESET_KICK : Nat := 323
/-- RESET.CAPTURE -/
abbrev Id.RESET_CAPTURE : Nat := 324
/-- RESET.LAST_MODULE_RESET -/
abbrev Id.RESET_LAST_MODULE_RESET : Nat := 325
/-- RESET.DFAULT -/
abbrev Id.RESET_DFAULT : Nat := 330
/-- RESET.RECOVERY -/
abbrev Id.RESET_RECOVERY : Nat := 331
/-- RESET.COACH_DFAULT -/
abbrev Id.RESET_COACH_DFAULT : Nat := 332
/-- RESET.COACH_RECOVERY -/
abbrev Id.RESET_COACH_RECOVERY : Nat := 333
/-- RESET.LANE_DFAULT -/
abbrev Id.RESET_LANE_DFAULT : Nat := 334
/-- RESET.LANE_RECOVERY -/
abbrev Id.RESET_LANE_RECOVERY : Nat := 335
/-- RESET.CORE_DFAULT -/
abbrev Id.RESET_CORE_DFAULT : Nat := 336
/-- RESET.CORE_RECOVERY -/
abbrev Id.RESET_CORE_RECOVERY : Nat := 337
/-- RESET.LINE_DFAULT -/
abbrev Id.RESET_LINE_DFAULT : Nat := 338
/-- RESET.LINE_RECOVERY -/
abbrev Id.RESET_LINE_RECOVERY : Nat := 339
/-- CONSORT.RUN_INFO -/
abbrev Id.CONSORT_RUN_INFO : Nat := 340
/-- CONSORT.RUN_VERSION -/
abbrev Id.CONSORT_RUN_VERSION : Nat := 341
/-- CONSORT.RUN_SVN -/
abbrev Id.CONSORT_RUN_SVN : Nat := 342
/-- CONSORT.ACT_STATE -/
abbrev Id.CONSORT_ACT_STATE : Nat := 343
/-- CONSORT.ACT_CMD -/
abbrev Id.CONSORT_ACT_CMD : Nat := 344
/-- CONSORT.TRACE_CFG -/
abbrev Id.CONSORT_TRACE_CFG : Nat := 345
/-- CONSORT.LOG_WR -/
abbrev Id.CONSORT_LOG_WR : Nat := 346
/-- CONSORT.LOG_VIEW -/
abbrev Id.CONSORT_LOG_VIEW : Nat := 347
/-- CONSORT.START_CFG -/
abbrev Id.CONSORT_START_CFG : Nat := 348
/-- CONSORT.HEARTBEAT -/
abbrev Id.CONSORT_HEARTBEAT : Nat := 349
/-- CONSORT.HB_CFG -/
abbrev Id.CONSORT_HB_CFG : Nat := 350
/-- CONSORT.HEV_WR -/
abbrev Id.CONSORT_HEV_WR : Nat := 351
/-- CONSORT.HEV_RD -/
abbrev Id.CONSORT_HEV_RD : Nat := 352
/-- CONSORT.HEV_VIEW -/
abbrev Id.CONSORT_HEV_VIEW : Nat := 353
/-- CONSORT.IMG_CMD -/
abbrev Id.CONSORT_IMG_CMD : Nat := 354
/-- CONSORT.BANK_STATE -/
abbrev Id.CONSORT_BANK_STATE : Nat := 355
/-- CONSORT.STAGED_BYTES -/
abbrev Id.CONSORT_STAGED_BYTES : Nat := 356
/-- CONSORT.EMERG_CLEAR_MS -/
abbrev Id.CONSORT_EMERG_CLEAR_MS : Nat := 357
/-- CONSORT.TRACE_EN -/
abbrev Id.CONSORT_TRACE_EN : Nat := 364
/-- CONSORT.HEV_WINDOW -/
abbrev Id.CONSORT_HEV_WINDOW : Nat := 365
/-- CONSORT.LOG_WINDOW -/
abbrev Id.CONSORT_LOG_WINDOW : Nat := 366
/-- POWER.BUDGET -/
abbrev Id.POWER_BUDGET : Nat := 367
/-- POWER.OC_CFG -/
abbrev Id.POWER_OC_CFG : Nat := 368
/-- POWER.THERM_CFG -/
abbrev Id.POWER_THERM_CFG : Nat := 369
/-- POWER.VIN -/
abbrev Id.POWER_VIN : Nat := 370
/-- POWER.IIN -/
abbrev Id.POWER_IIN : Nat := 371
/-- POWER.PIN -/
abbrev Id.POWER_PIN : Nat := 372
/-- POWER.TEMP_MAX -/
abbrev Id.POWER_TEMP_MAX : Nat := 373
/-- POWER.COOLANT -/
abbrev Id.POWER_COOLANT : Nat := 374
/-- POWER.TOTAL -/
abbrev Id.POWER_TOTAL : Nat := 375
/-- POWER.FREE -/
abbrev Id.POWER_FREE : Nat := 376
/-- POWER.EMERG_CLEAR_MS -/
abbrev Id.POWER_EMERG_CLEAR_MS : Nat := 377
/-- POWER.TRIP_LOG -/
abbrev Id.POWER_TRIP_LOG : Nat := 378
/-- POWER.REC_CAP -/
abbrev Id.POWER_REC_CAP : Nat := 385
/-- POWER.REC_STATE -/
abbrev Id.POWER_REC_STATE : Nat := 386
/-- SIDING.CFG -/
abbrev Id.SIDING_CFG : Nat := 387
/-- SIDING.BOOT_STATUS -/
abbrev Id.SIDING_BOOT_STATUS : Nat := 388
/-- SIDING.MAN_CMD -/
abbrev Id.SIDING_MAN_CMD : Nat := 389
/-- SIDING.MAN_STATE -/
abbrev Id.SIDING_MAN_STATE : Nat := 390
/-- SIDING.ATTEST_CMD -/
abbrev Id.SIDING_ATTEST_CMD : Nat := 391
/-- SIDING.ATTEST_STATUS -/
abbrev Id.SIDING_ATTEST_STATUS : Nat := 392
/-- SIDING.DEVICE_TAG -/
abbrev Id.SIDING_DEVICE_TAG : Nat := 393
/-- SIDING.ID_INFO -/
abbrev Id.SIDING_ID_INFO : Nat := 394
/-- SIDING.LANE_CTL -/
abbrev Id.SIDING_LANE_CTL : Nat := 402
/-- SIDING.LANE_STATE -/
abbrev Id.SIDING_LANE_STATE : Nat := 403
/-- SIDING.EYE_CTL -/
abbrev Id.SIDING_EYE_CTL : Nat := 404
/-- SIDING.EYE_CMD -/
abbrev Id.SIDING_EYE_CMD : Nat := 405
/-- SIDING.EYE_STATUS -/
abbrev Id.SIDING_EYE_STATUS : Nat := 406
/-- SIDING.COMMA_HITS -/
abbrev Id.SIDING_COMMA_HITS : Nat := 407
/-- SIDING.CODE_ERRS -/
abbrev Id.SIDING_CODE_ERRS : Nat := 408
/-- SIDING.EYE_ERRS -/
abbrev Id.SIDING_EYE_ERRS : Nat := 409
/-- SIDING.NONCE -/
abbrev Id.SIDING_NONCE : Nat := 410
/-- SIDING.ID_PUB -/
abbrev Id.SIDING_ID_PUB : Nat := 411
/-- SIDING.CERT -/
abbrev Id.SIDING_CERT : Nat := 412
/-- SIDING.REPORT -/
abbrev Id.SIDING_REPORT : Nat := 413
/-- PROT.LOCK -/
abbrev Id.PROT_LOCK : Nat := 414
/-- PROT.PROT_HASH -/
abbrev Id.PROT_PROT_HASH : Nat := 415
/-- PROT.REGION_BASE -/
abbrev Id.PROT_REGION_BASE : Nat := 417
/-- PROT.REGION_LIMIT -/
abbrev Id.PROT_REGION_LIMIT : Nat := 418
/-- PROT.REGION_RIGHTS -/
abbrev Id.PROT_REGION_RIGHTS : Nat := 419

/-! ## Addresses -/

/-- Page of TOP. -/
def A.TOP : Nat := 0x0
/-- Page of PROT. -/
def A.PROT : Nat := 0x1000
/-- Page of FAULT. -/
def A.FAULT : Nat := 0x2000
/-- Page of RESET. -/
def A.RESET : Nat := 0x10000
/-- Page of POWER. -/
def A.POWER : Nat := 0x20000
/-- Page of TIME. -/
def A.TIME : Nat := 0x30000
/-- Page of CONSORT. -/
def A.CONSORT (q : Nat) : Nat := 0x40000 + q * 0x1000
/-- Page of SIDING. -/
def A.SIDING : Nat := 0x100000
/-- Page of DIE. -/
def A.DIE (d : Nat) : Nat := 0x1000000 + d * 0x200000
/-- Page of LANE. -/
def A.LANE (l : Nat) : Nat := 0x1001000 + (l / 128) * 0x200000 + (l % 128) * 0x1000
/-- Page of PORT. -/
def A.PORT (p : Nat) : Nat := 0x2000000 + p * 0x1000
/-- Page of SWITCH. -/
def A.SWITCH : Nat := 0x2100000
/-- Page of POOL. -/
def A.POOL : Nat := 0x2110000
/-- Page of ROUTE. -/
def A.ROUTE : Nat := 0x2200000
/-- Page of SHAPE. -/
def A.SHAPE (p : Nat) : Nat := 0x2400000 + p * 0x1000
/-- Page of COLL. -/
def A.COLL : Nat := 0x2800000
/-- Page of SECTION. -/
def A.SECTION (s : Nat) : Nat := 0x303F000 + s * 0x40000
/-- Page of COACH. -/
def A.COACH (s : Nat) (p : Nat) : Nat := 0x3000000 + s * 0x40000 + p * 0x1000
/-- Page of UPDATE. -/
def A.UPDATE : Nat := 0x3800000
/-- Page of STATION. -/
def A.STATION : Nat := 0x3A00000
/-- Page of HBM. -/
def A.HBM (n : Nat) : Nat := 0x3C00000 + n * 0x10000
/-- Page of WINDOW. -/
def A.WINDOW : Nat := 0x3E00000
/-- Address of TOP.GRADE. -/
def A.TOP_GRADE : Nat := A.TOP + 0x20
/-- Address of TOP.LANE_SLOTS. -/
def A.TOP_LANE_SLOTS : Nat := A.TOP + 0x24
/-- Address of TOP.STACKS. -/
def A.TOP_STACKS : Nat := A.TOP + 0x28
/-- Address of TOP.MODULE_NUM. -/
def A.TOP_MODULE_NUM : Nat := A.TOP + 0x2C
/-- Address of TOP.SLOT_ID. -/
def A.TOP_SLOT_ID : Nat := A.TOP + 0x30
/-- Address of TOP.BUS_ERR_ADDR. -/
def A.TOP_BUS_ERR_ADDR : Nat := A.TOP + 0x40
/-- Address of TOP.BUS_ERR_KIND. -/
def A.TOP_BUS_ERR_KIND : Nat := A.TOP + 0x44
/-- Address of TOP.VOTE_ADDR. -/
def A.TOP_VOTE_ADDR : Nat := A.TOP + 0x48
/-- Address of TOP.SCRATCH. -/
def A.TOP_SCRATCH (i : Nat) : Nat := A.TOP + 0x50 + i * 0x4
/-- Address of TOP.UPTIME. -/
def A.TOP_UPTIME : Nat := A.TOP + 0x80
/-- Address of TOP.ACCESS_CONSORT. -/
def A.TOP_ACCESS_CONSORT : Nat := A.TOP + 0x88
/-- Address of TOP.ACCESS_SIDING. -/
def A.TOP_ACCESS_SIDING : Nat := A.TOP + 0x90
/-- Address of TOP.BUS_ERR. -/
def A.TOP_BUS_ERR : Nat := A.TOP + 0x98
/-- Address of TOP.VOTE_MISMATCH. -/
def A.TOP_VOTE_MISMATCH : Nat := A.TOP + 0xA0
/-- Address of TOP.SQC_STALE. -/
def A.TOP_SQC_STALE : Nat := A.TOP + 0xA8
/-- Address of DIE.DIE_INFO. -/
def A.DIE_DIE_INFO (d : Nat) : Nat := A.DIE d + 0x20
/-- Address of DIE.DIE_TEMP. -/
def A.DIE_DIE_TEMP (d : Nat) : Nat := A.DIE d + 0x24
/-- Address of DIE.PKG_CORRECTED. -/
def A.DIE_PKG_CORRECTED (d : Nat) : Nat := A.DIE d + 0x80
/-- Address of DIE.PKG_UNCORRECTABLE. -/
def A.DIE_PKG_UNCORRECTABLE (d : Nat) : Nat := A.DIE d + 0x88
/-- Address of LANE.CFG. -/
def A.LANE_CFG (l : Nat) : Nat := A.LANE l + 0x20
/-- Address of LANE.TX_EQ. -/
def A.LANE_TX_EQ (l : Nat) : Nat := A.LANE l + 0x24
/-- Address of LANE.RX_QUALITY. -/
def A.LANE_RX_QUALITY (l : Nat) : Nat := A.LANE l + 0x28
/-- Address of LANE.EYE_CTL. -/
def A.LANE_EYE_CTL (l : Nat) : Nat := A.LANE l + 0x30
/-- Address of LANE.EYE_CMD. -/
def A.LANE_EYE_CMD (l : Nat) : Nat := A.LANE l + 0x34
/-- Address of LANE.EYE_STATUS. -/
def A.LANE_EYE_STATUS (l : Nat) : Nat := A.LANE l + 0x38
/-- Address of LANE.CW_TOTAL. -/
def A.LANE_CW_TOTAL (l : Nat) : Nat := A.LANE l + 0x80
/-- Address of LANE.CW_CORRECTED. -/
def A.LANE_CW_CORRECTED (l : Nat) : Nat := A.LANE l + 0x88
/-- Address of LANE.CW_UNCORRECTABLE. -/
def A.LANE_CW_UNCORRECTABLE (l : Nat) : Nat := A.LANE l + 0x90
/-- Address of LANE.SYM_CORRECTED. -/
def A.LANE_SYM_CORRECTED (l : Nat) : Nat := A.LANE l + 0x98
/-- Address of LANE.FILLER_TX. -/
def A.LANE_FILLER_TX (l : Nat) : Nat := A.LANE l + 0xA0
/-- Address of LANE.FILLER_RX. -/
def A.LANE_FILLER_RX (l : Nat) : Nat := A.LANE l + 0xA8
/-- Address of LANE.LOCK_LOSS. -/
def A.LANE_LOCK_LOSS (l : Nat) : Nat := A.LANE l + 0xB0
/-- Address of LANE.TRAINS. -/
def A.LANE_TRAINS (l : Nat) : Nat := A.LANE l + 0xB8
/-- Address of LANE.ADAPT_STEPS. -/
def A.LANE_ADAPT_STEPS (l : Nat) : Nat := A.LANE l + 0xC0
/-- Address of LANE.ADAPT_REVERTS. -/
def A.LANE_ADAPT_REVERTS (l : Nat) : Nat := A.LANE l + 0xC8
/-- Address of LANE.EYE_BITS. -/
def A.LANE_EYE_BITS (l : Nat) : Nat := A.LANE l + 0xD0
/-- Address of LANE.EYE_ERRS. -/
def A.LANE_EYE_ERRS (l : Nat) : Nat := A.LANE l + 0xD8
/-- Address of LANE.FEC_HIST. -/
def A.LANE_FEC_HIST (l : Nat) (i : Nat) : Nat := A.LANE l + 0x100 + i * 0x8
/-- Address of PORT.LAYOUT. -/
def A.PORT_LAYOUT (p : Nat) : Nat := A.PORT p + 0x20
/-- Address of PORT.MASKS. -/
def A.PORT_MASKS (p : Nat) : Nat := A.PORT p + 0x24
/-- Address of PORT.SKEW. -/
def A.PORT_SKEW (p : Nat) : Nat := A.PORT p + 0x28
/-- Address of PORT.FC_CFG. -/
def A.PORT_FC_CFG (p : Nat) : Nat := A.PORT p + 0x40
/-- Address of PORT.TC_ALLOW. -/
def A.PORT_TC_ALLOW (p : Nat) : Nat := A.PORT p + 0x44
/-- Address of PORT.UNITS_TX. -/
def A.PORT_UNITS_TX (p : Nat) : Nat := A.PORT p + 0x80
/-- Address of PORT.UNITS_RX. -/
def A.PORT_UNITS_RX (p : Nat) : Nat := A.PORT p + 0x88
/-- Address of PORT.LINK_DOWNS. -/
def A.PORT_LINK_DOWNS (p : Nat) : Nat := A.PORT p + 0x90
/-- Address of PORT.WIDTH_CHANGES. -/
def A.PORT_WIDTH_CHANGES (p : Nat) : Nat := A.PORT p + 0x98
/-- Address of PORT.CW_UNCORRECTABLE. -/
def A.PORT_CW_UNCORRECTABLE (p : Nat) : Nat := A.PORT p + 0xA0
/-- Address of PORT.SWITCH_TX. -/
def A.PORT_SWITCH_TX (p : Nat) : Nat := A.PORT p + 0xA8
/-- Address of PORT.SWITCH_RX. -/
def A.PORT_SWITCH_RX (p : Nat) : Nat := A.PORT p + 0xB0
/-- Address of PORT.TOPO_CHANGES. -/
def A.PORT_TOPO_CHANGES (p : Nat) : Nat := A.PORT p + 0xB8
/-- Address of PORT.PKT_RX. -/
def A.PORT_PKT_RX (p : Nat) : Nat := A.PORT p + 0xC0
/-- Address of PORT.PKT_TX. -/
def A.PORT_PKT_TX (p : Nat) : Nat := A.PORT p + 0xC8
/-- Address of PORT.DISC_HDR. -/
def A.PORT_DISC_HDR (p : Nat) : Nat := A.PORT p + 0xD0
/-- Address of PORT.DISC_PAYLOAD_CRC. -/
def A.PORT_DISC_PAYLOAD_CRC (p : Nat) : Nat := A.PORT p + 0xD8
/-- Address of PORT.DISC_FEC. -/
def A.PORT_DISC_FEC (p : Nat) : Nat := A.PORT p + 0xE0
/-- Address of PORT.DISC_FORMAT. -/
def A.PORT_DISC_FORMAT (p : Nat) : Nat := A.PORT p + 0xE8
/-- Address of PORT.DISC_POLICY. -/
def A.PORT_DISC_POLICY (p : Nat) : Nat := A.PORT p + 0xF0
/-- Address of PORT.RECONCILED_CELLS. -/
def A.PORT_RECONCILED_CELLS (p : Nat) : Nat := A.PORT p + 0xF8
/-- Address of PORT.PLAN. -/
def A.PORT_PLAN (p : Nat) : Nat := A.PORT p + 0x100
/-- Address of PORT.DISC_CFG. -/
def A.PORT_DISC_CFG (p : Nat) : Nat := A.PORT p + 0x110
/-- Address of PORT.NB_NODE. -/
def A.PORT_NB_NODE (p : Nat) : Nat := A.PORT p + 0x120
/-- Address of PORT.NB_PORT. -/
def A.PORT_NB_PORT (p : Nat) : Nat := A.PORT p + 0x124
/-- Address of PORT.NB_TAG. -/
def A.PORT_NB_TAG (p : Nat) : Nat := A.PORT p + 0x128
/-- Address of PORT.NB_EXPECT. -/
def A.PORT_NB_EXPECT (p : Nat) : Nat := A.PORT p + 0x12C
/-- Address of PORT.NB_SEQ. -/
def A.PORT_NB_SEQ (p : Nat) : Nat := A.PORT p + 0x130
/-- Address of PORT.TOPO_REASON. -/
def A.PORT_TOPO_REASON (p : Nat) : Nat := A.PORT p + 0x134
/-- Address of PORT.CR_RX_GRANT. -/
def A.PORT_CR_RX_GRANT (p : Nat) (i : Nat) : Nat := A.PORT p + 0x200 + i * 0x20
/-- Address of PORT.CR_RX_TOTAL. -/
def A.PORT_CR_RX_TOTAL (p : Nat) (i : Nat) : Nat := A.PORT p + 0x204 + i * 0x20
/-- Address of PORT.CR_RETURN_TOTAL. -/
def A.PORT_CR_RETURN_TOTAL (p : Nat) (i : Nat) : Nat := A.PORT p + 0x208 + i * 0x20
/-- Address of PORT.CR_HELD. -/
def A.PORT_CR_HELD (p : Nat) (i : Nat) : Nat := A.PORT p + 0x20C + i * 0x20
/-- Address of PORT.CR_TX_GRANT. -/
def A.PORT_CR_TX_GRANT (p : Nat) (i : Nat) : Nat := A.PORT p + 0x210 + i * 0x20
/-- Address of PORT.CR_DEBIT_TOTAL. -/
def A.PORT_CR_DEBIT_TOTAL (p : Nat) (i : Nat) : Nat := A.PORT p + 0x214 + i * 0x20
/-- Address of PORT.CR_RETURN_RX. -/
def A.PORT_CR_RETURN_RX (p : Nat) (i : Nat) : Nat := A.PORT p + 0x218 + i * 0x20
/-- Address of PORT.CR_TX_AVAIL. -/
def A.PORT_CR_TX_AVAIL (p : Nat) (i : Nat) : Nat := A.PORT p + 0x21C + i * 0x20
/-- Address of SWITCH.CELLS. -/
def A.SWITCH_CELLS : Nat := A.SWITCH + 0x20
/-- Address of SWITCH.COMMITTED. -/
def A.SWITCH_COMMITTED : Nat := A.SWITCH + 0x24
/-- Address of SWITCH.UNCOMMITTED. -/
def A.SWITCH_UNCOMMITTED : Nat := A.SWITCH + 0x28
/-- Address of SWITCH.ORDER_PTR. -/
def A.SWITCH_ORDER_PTR : Nat := A.SWITCH + 0x2C
/-- Address of SWITCH.FLUSHING. -/
def A.SWITCH_FLUSHING : Nat := A.SWITCH + 0x30
/-- Address of SWITCH.AUDIT_CHECK. -/
def A.SWITCH_AUDIT_CHECK : Nat := A.SWITCH + 0x40
/-- Address of SWITCH.AUDIT_LEFT. -/
def A.SWITCH_AUDIT_LEFT : Nat := A.SWITCH + 0x44
/-- Address of SWITCH.AUDIT_RIGHT. -/
def A.SWITCH_AUDIT_RIGHT : Nat := A.SWITCH + 0x48
/-- Address of SWITCH.UNITS_WRITTEN. -/
def A.SWITCH_UNITS_WRITTEN : Nat := A.SWITCH + 0x80
/-- Address of SWITCH.UNITS_READ. -/
def A.SWITCH_UNITS_READ : Nat := A.SWITCH + 0x88
/-- Address of SWITCH.MC_PACKETS. -/
def A.SWITCH_MC_PACKETS : Nat := A.SWITCH + 0x90
/-- Address of SWITCH.MC_COPIES. -/
def A.SWITCH_MC_COPIES : Nat := A.SWITCH + 0x98
/-- Address of SWITCH.MC_PRUNED. -/
def A.SWITCH_MC_PRUNED : Nat := A.SWITCH + 0xA0
/-- Address of SWITCH.FLUSHED_CELLS. -/
def A.SWITCH_FLUSHED_CELLS : Nat := A.SWITCH + 0xA8
/-- Address of SWITCH.AUDITS. -/
def A.SWITCH_AUDITS : Nat := A.SWITCH + 0xB0
/-- Address of SWITCH.AUDIT_FAILS. -/
def A.SWITCH_AUDIT_FAILS : Nat := A.SWITCH + 0xB8
/-- Address of SWITCH.SLOT_WAITS. -/
def A.SWITCH_SLOT_WAITS : Nat := A.SWITCH + 0xC0
/-- Address of SWITCH.LIMIT. -/
def A.SWITCH_LIMIT (i : Nat) (k : Nat) : Nat := A.SWITCH + 0x1000 + i * 0x20 + k * 0x4
/-- Address of SWITCH.EFF. -/
def A.SWITCH_EFF (i : Nat) (k : Nat) : Nat := A.SWITCH + 0x4000 + i * 0x20 + k * 0x4
/-- Address of SWITCH.HELD. -/
def A.SWITCH_HELD (i : Nat) (k : Nat) : Nat := A.SWITCH + 0x7000 + i * 0x20 + k * 0x4
/-- Address of POOL.DF_POOL. -/
def A.POOL_DF_POOL : Nat := A.POOL + 0x20
/-- Address of POOL.DF_ENTRY. -/
def A.POOL_DF_ENTRY : Nat := A.POOL + 0x24
/-- Address of POOL.DF_REQ. -/
def A.POOL_DF_REQ : Nat := A.POOL + 0x28
/-- Address of POOL.DOUBLE_FREES. -/
def A.POOL_DOUBLE_FREES : Nat := A.POOL + 0x80
/-- Address of POOL.RELINKS. -/
def A.POOL_RELINKS : Nat := A.POOL + 0x88
/-- Address of POOL.WALKS. -/
def A.POOL_WALKS : Nat := A.POOL + 0x90
/-- Address of POOL.QUOTA_WAITS. -/
def A.POOL_QUOTA_WAITS : Nat := A.POOL + 0x98
/-- Address of POOL.SIZE. -/
def A.POOL_SIZE (i : Nat) : Nat := A.POOL + 0x1000 + i * 0x40
/-- Address of POOL.FREE. -/
def A.POOL_FREE (i : Nat) : Nat := A.POOL + 0x1004 + i * 0x40
/-- Address of POOL.ALLOCATED. -/
def A.POOL_ALLOCATED (i : Nat) : Nat := A.POOL + 0x1008 + i * 0x40
/-- Address of POOL.SUB. -/
def A.POOL_SUB (i : Nat) : Nat := A.POOL + 0x100C + i * 0x40
/-- Address of POOL.QUOTA. -/
def A.POOL_QUOTA (i : Nat) (k : Nat) : Nat := A.POOL + 0x1010 + i * 0x40 + k * 0x4
/-- Address of POOL.USED. -/
def A.POOL_USED (i : Nat) (k : Nat) : Nat := A.POOL + 0x1020 + i * 0x40 + k * 0x4
/-- Address of ROUTE.CFG. -/
def A.ROUTE_CFG : Nat := A.ROUTE + 0x20
/-- Address of ROUTE.HASH_SALT. -/
def A.ROUTE_HASH_SALT : Nat := A.ROUTE + 0x24
/-- Address of ROUTE.EMPTY_SET. -/
def A.ROUTE_EMPTY_SET : Nat := A.ROUTE + 0x28
/-- Address of ROUTE.LOOKUPS. -/
def A.ROUTE_LOOKUPS : Nat := A.ROUTE + 0x80
/-- Address of ROUTE.SPRAYED. -/
def A.ROUTE_SPRAYED : Nat := A.ROUTE + 0x88
/-- Address of ROUTE.HASHED. -/
def A.ROUTE_HASHED : Nat := A.ROUTE + 0x90
/-- Address of ROUTE.NO_ROUTE. -/
def A.ROUTE_NO_ROUTE : Nat := A.ROUTE + 0x98
/-- Address of ROUTE.PATH_REMOVALS. -/
def A.ROUTE_PATH_REMOVALS : Nat := A.ROUTE + 0xA0
/-- Address of ROUTE.PATH_RETURNS. -/
def A.ROUTE_PATH_RETURNS : Nat := A.ROUTE + 0xA8
/-- Address of ROUTE.PORT_LIVE. -/
def A.ROUTE_PORT_LIVE (i : Nat) : Nat := A.ROUTE + 0x100 + i * 0x4
/-- Address of ROUTE.NODE. -/
def A.ROUTE_NODE (i : Nat) : Nat := A.ROUTE + 0x10000 + i * 0x4
/-- Address of ROUTE.SET. -/
def A.ROUTE_SET (i : Nat) : Nat := A.ROUTE + 0x60000 + i * 0x20
/-- Address of ROUTE.LIVE. -/
def A.ROUTE_LIVE (i : Nat) : Nat := A.ROUTE + 0x80000 + i * 0x4
/-- Address of SHAPE.RATE. -/
def A.SHAPE_RATE (p : Nat) (i : Nat) : Nat := A.SHAPE p + 0x20 + i * 0x4
/-- Address of SHAPE.BURST. -/
def A.SHAPE_BURST (p : Nat) (i : Nat) : Nat := A.SHAPE p + 0x38 + i * 0x4
/-- Address of SHAPE.OVH. -/
def A.SHAPE_OVH (p : Nat) (i : Nat) : Nat := A.SHAPE p + 0x50 + i * 0x4
/-- Address of SHAPE.GATE_CTL. -/
def A.SHAPE_GATE_CTL (p : Nat) : Nat := A.SHAPE p + 0x58
/-- Address of SHAPE.GATE_LEN. -/
def A.SHAPE_GATE_LEN (p : Nat) : Nat := A.SHAPE p + 0x5C
/-- Address of SHAPE.GATE_BASE. -/
def A.SHAPE_GATE_BASE (p : Nat) : Nat := A.SHAPE p + 0x60
/-- Address of SHAPE.SWAP_AT. -/
def A.SHAPE_SWAP_AT (p : Nat) : Nat := A.SHAPE p + 0x68
/-- Address of SHAPE.GATE_GUARD. -/
def A.SHAPE_GATE_GUARD (p : Nat) : Nat := A.SHAPE p + 0x70
/-- Address of SHAPE.QUANTUM. -/
def A.SHAPE_QUANTUM (p : Nat) : Nat := A.SHAPE p + 0x74
/-- Address of SHAPE.GATE_POS. -/
def A.SHAPE_GATE_POS (p : Nat) : Nat := A.SHAPE p + 0x78
/-- Address of SHAPE.GATE_CYCLES. -/
def A.SHAPE_GATE_CYCLES (p : Nat) : Nat := A.SHAPE p + 0x80
/-- Address of SHAPE.GUARD_HOLDS. -/
def A.SHAPE_GUARD_HOLDS (p : Nat) : Nat := A.SHAPE p + 0x88
/-- Address of SHAPE.BUCKET_HOLDS. -/
def A.SHAPE_BUCKET_HOLDS (p : Nat) (i : Nat) : Nat := A.SHAPE p + 0x90 + i * 0x8
/-- Address of SHAPE.GATE0. -/
def A.SHAPE_GATE0 (p : Nat) (i : Nat) : Nat := A.SHAPE p + 0x100 + i * 0x4
/-- Address of SHAPE.GATE1. -/
def A.SHAPE_GATE1 (p : Nat) (i : Nat) : Nat := A.SHAPE p + 0x200 + i * 0x4
/-- Address of SHAPE.LEVEL. -/
def A.SHAPE_LEVEL (p : Nat) (i : Nat) : Nat := A.SHAPE p + 0x300 + i * 0x4
/-- Address of TIME.CFG. -/
def A.TIME_CFG : Nat := A.TIME + 0x20
/-- Address of TIME.INTERVAL. -/
def A.TIME_INTERVAL : Nat := A.TIME + 0x24
/-- Address of TIME.STEP_LIMIT. -/
def A.TIME_STEP_LIMIT : Nat := A.TIME + 0x28
/-- Address of TIME.LOCK_NS. -/
def A.TIME_LOCK_NS : Nat := A.TIME + 0x2C
/-- Address of TIME.RATE_ADJ. -/
def A.TIME_RATE_ADJ : Nat := A.TIME + 0x30
/-- Address of TIME.CMD. -/
def A.TIME_CMD : Nat := A.TIME + 0x34
/-- Address of TIME.SET_NS. -/
def A.TIME_SET_NS : Nat := A.TIME + 0x38
/-- Address of TIME.LATCH_NS. -/
def A.TIME_LATCH_NS : Nat := A.TIME + 0x40
/-- Address of TIME.LATCH_FRAC. -/
def A.TIME_LATCH_FRAC : Nat := A.TIME + 0x48
/-- Address of TIME.OFFSET. -/
def A.TIME_OFFSET : Nat := A.TIME + 0x4C
/-- Address of TIME.DELAY. -/
def A.TIME_DELAY : Nat := A.TIME + 0x50
/-- Address of TIME.PPS_DELAY. -/
def A.TIME_PPS_DELAY : Nat := A.TIME + 0x54
/-- Address of TIME.PPS_CAP. -/
def A.TIME_PPS_CAP : Nat := A.TIME + 0x58
/-- Address of TIME.SYNC_TX. -/
def A.TIME_SYNC_TX : Nat := A.TIME + 0x80
/-- Address of TIME.REPLY_RX. -/
def A.TIME_REPLY_RX : Nat := A.TIME + 0x88
/-- Address of TIME.EXCH_BAD. -/
def A.TIME_EXCH_BAD : Nat := A.TIME + 0x90
/-- Address of TIME.STEPS. -/
def A.TIME_STEPS : Nat := A.TIME + 0x98
/-- Address of TIME.ASYM. -/
def A.TIME_ASYM (i : Nat) : Nat := A.TIME + 0x100 + i * 0x4
/-- Address of TIME.PORT_EN. -/
def A.TIME_PORT_EN (i : Nat) : Nat := A.TIME + 0x500 + i * 0x4
/-- Address of COLL.CFG. -/
def A.COLL_CFG : Nat := A.COLL + 0x20
/-- Address of COLL.WATCHDOG. -/
def A.COLL_WATCHDOG : Nat := A.COLL + 0x24
/-- Address of COLL.CAUSE_LINE. -/
def A.COLL_CAUSE_LINE : Nat := A.COLL + 0x28
/-- Address of COLL.TICKETS. -/
def A.COLL_TICKETS : Nat := A.COLL + 0x80
/-- Address of COLL.TICKETS_DUP. -/
def A.COLL_TICKETS_DUP : Nat := A.COLL + 0x88
/-- Address of COLL.TICKETS_REFUSED. -/
def A.COLL_TICKETS_REFUSED : Nat := A.COLL + 0x90
/-- Address of COLL.CHUNKS. -/
def A.COLL_CHUNKS : Nat := A.COLL + 0x98
/-- Address of COLL.MISMATCHES. -/
def A.COLL_MISMATCHES : Nat := A.COLL + 0xA0
/-- Address of COLL.TIMEOUTS. -/
def A.COLL_TIMEOUTS : Nat := A.COLL + 0xA8
/-- Address of COLL.RESEND_REQS. -/
def A.COLL_RESEND_REQS : Nat := A.COLL + 0xB0
/-- Address of COLL.ABORTS_UP. -/
def A.COLL_ABORTS_UP : Nat := A.COLL + 0xB8
/-- Address of COLL.VARIES. -/
def A.COLL_VARIES : Nat := A.COLL + 0xC0
/-- Address of COLL.MEMORY_EVICTS. -/
def A.COLL_MEMORY_EVICTS : Nat := A.COLL + 0xC8
/-- Address of COLL.GROUP. -/
def A.COLL_GROUP (i : Nat) : Nat := A.COLL + 0x10000 + i * 0x20
/-- Address of COLL.LINE_CTL. -/
def A.COLL_LINE_CTL (i : Nat) : Nat := A.COLL + 0x40000 + i * 0x40
/-- Address of COLL.LINE_STATE. -/
def A.COLL_LINE_STATE (i : Nat) : Nat := A.COLL + 0x40004 + i * 0x40
/-- Address of COLL.HEAD_STEP. -/
def A.COLL_HEAD_STEP (i : Nat) : Nat := A.COLL + 0x40008 + i * 0x40
/-- Address of COLL.LINE_INFO. -/
def A.COLL_LINE_INFO (i : Nat) : Nat := A.COLL + 0x40010 + i * 0x40
/-- Address of COLL.MAP_STEP. -/
def A.COLL_MAP_STEP (i : Nat) : Nat := A.COLL + 0x40018 + i * 0x40
/-- Address of COLL.LINE_VARIES. -/
def A.COLL_LINE_VARIES (i : Nat) : Nat := A.COLL + 0x40020 + i * 0x40
/-- Address of COLL.LINE_CHUNKS. -/
def A.COLL_LINE_CHUNKS (i : Nat) : Nat := A.COLL + 0x40028 + i * 0x40
/-- Address of COLL.LINE_TIMEOUTS. -/
def A.COLL_LINE_TIMEOUTS (i : Nat) : Nat := A.COLL + 0x40030 + i * 0x40
/-- Address of COLL.LINE_MISMATCHES. -/
def A.COLL_LINE_MISMATCHES (i : Nat) : Nat := A.COLL + 0x40038 + i * 0x40
/-- Address of COLL.MISMATCH_MAP. -/
def A.COLL_MISMATCH_MAP (i : Nat) (k : Nat) : Nat := A.COLL + 0x100000 + i * 0x100 + k * 0x4
/-- Address of COLL.MISSING_MAP. -/
def A.COLL_MISSING_MAP (i : Nat) (k : Nat) : Nat := A.COLL + 0x100080 + i * 0x100 + k * 0x4
/-- Address of COLL.MEMBER. -/
def A.COLL_MEMBER (i : Nat) : Nat := A.COLL + 0x200000 + i * 0x8
/-- Address of COLL.PARENT. -/
def A.COLL_PARENT (i : Nat) : Nat := A.COLL + 0x280000 + i * 0x4
/-- Address of COLL.DROPPED. -/
def A.COLL_DROPPED (i : Nat) : Nat := A.COLL + 0x300000 + i * 0x8
/-- Address of SECTION.CFG. -/
def A.SECTION_CFG (s : Nat) : Nat := A.SECTION s + 0x20
/-- Address of SECTION.CMD. -/
def A.SECTION_CMD (s : Nat) : Nat := A.SECTION s + 0x24
/-- Address of SECTION.SUBST_STATE. -/
def A.SECTION_SUBST_STATE (s : Nat) : Nat := A.SECTION s + 0x28
/-- Address of SECTION.SUBSTITUTIONS. -/
def A.SECTION_SUBSTITUTIONS (s : Nat) : Nat := A.SECTION s + 0x80
/-- Address of SECTION.WAKES. -/
def A.SECTION_WAKES (s : Nat) : Nat := A.SECTION s + 0x88
/-- Address of SECTION.GATED_CYCLES. -/
def A.SECTION_GATED_CYCLES (s : Nat) : Nat := A.SECTION s + 0x90
/-- Address of SECTION.REMAP. -/
def A.SECTION_REMAP (s : Nat) (i : Nat) : Nat := A.SECTION s + 0x100 + i * 0x4
/-- Address of COACH.COACH_INFO. -/
def A.COACH_COACH_INFO (s : Nat) (p : Nat) : Nat := A.COACH s p + 0x20
/-- Address of COACH.RUNQ. -/
def A.COACH_RUNQ (s : Nat) (p : Nat) : Nat := A.COACH s p + 0x24
/-- Address of COACH.SEQ_CFG. -/
def A.COACH_SEQ_CFG (s : Nat) (p : Nat) : Nat := A.COACH s p + 0x28
/-- Address of COACH.LAST_FW_TAG. -/
def A.COACH_LAST_FW_TAG (s : Nat) (p : Nat) : Nat := A.COACH s p + 0x2C
/-- Address of COACH.RED_STATE. -/
def A.COACH_RED_STATE (s : Nat) (p : Nat) : Nat := A.COACH s p + 0x40
/-- Address of COACH.RED_CAPTURE. -/
def A.COACH_RED_CAPTURE (s : Nat) (p : Nat) : Nat := A.COACH s p + 0x44
/-- Address of COACH.RED_CAPTURE_STEP. -/
def A.COACH_RED_CAPTURE_STEP (s : Nat) (p : Nat) : Nat := A.COACH s p + 0x48
/-- Address of COACH.RUN_SUBMIT. -/
def A.COACH_RUN_SUBMIT (s : Nat) (p : Nat) : Nat := A.COACH s p + 0x50
/-- Address of COACH.RUNS. -/
def A.COACH_RUNS (s : Nat) (p : Nat) : Nat := A.COACH s p + 0x80
/-- Address of COACH.DESCRIPTORS. -/
def A.COACH_DESCRIPTORS (s : Nat) (p : Nat) : Nat := A.COACH s p + 0x88
/-- Address of COACH.ARRAY_BUSY. -/
def A.COACH_ARRAY_BUSY (s : Nat) (p : Nat) : Nat := A.COACH s p + 0x90
/-- Address of COACH.VECTOR_BUSY. -/
def A.COACH_VECTOR_BUSY (s : Nat) (p : Nat) : Nat := A.COACH s p + 0x98
/-- Address of COACH.VARIES_DESC. -/
def A.COACH_VARIES_DESC (s : Nat) (p : Nat) : Nat := A.COACH s p + 0xA0
/-- Address of COACH.RUNS_REFUSED. -/
def A.COACH_RUNS_REFUSED (s : Nat) (p : Nat) : Nat := A.COACH s p + 0xA8
/-- Address of COACH.RUNS_ABORTED. -/
def A.COACH_RUNS_ABORTED (s : Nat) (p : Nat) : Nat := A.COACH s p + 0xB0
/-- Address of COACH.THROTTLED. -/
def A.COACH_THROTTLED (s : Nat) (p : Nat) : Nat := A.COACH s p + 0xB8
/-- Address of COACH.CONTRIB_PKTS. -/
def A.COACH_CONTRIB_PKTS (s : Nat) (p : Nat) : Nat := A.COACH s p + 0xC0
/-- Address of COACH.DUP_PKTS. -/
def A.COACH_DUP_PKTS (s : Nat) (p : Nat) : Nat := A.COACH s p + 0xC8
/-- Address of COACH.PARKED_PKTS. -/
def A.COACH_PARKED_PKTS (s : Nat) (p : Nat) : Nat := A.COACH s p + 0xD0
/-- Address of COACH.PLATFORM_DISCARDS. -/
def A.COACH_PLATFORM_DISCARDS (s : Nat) (p : Nat) : Nat := A.COACH s p + 0xD8
/-- Address of COACH.REFUSED_PKTS. -/
def A.COACH_REFUSED_PKTS (s : Nat) (p : Nat) : Nat := A.COACH s p + 0xE0
/-- Address of COACH.TT_DISCARDED. -/
def A.COACH_TT_DISCARDED (s : Nat) (p : Nat) : Nat := A.COACH s p + 0xE8
/-- Address of COACH.RESULT_RESENDS. -/
def A.COACH_RESULT_RESENDS (s : Nat) (p : Nat) : Nat := A.COACH s p + 0xF0
/-- Address of COACH.WITHDRAWS. -/
def A.COACH_WITHDRAWS (s : Nat) (p : Nat) : Nat := A.COACH s p + 0xF8
/-- Address of COACH.VX_INVALID. -/
def A.COACH_VX_INVALID (s : Nat) (p : Nat) (i : Nat) : Nat := A.COACH s p + 0x100 + i * 0x8
/-- Address of UPDATE.CFG. -/
def A.UPDATE_CFG : Nat := A.UPDATE + 0x20
/-- Address of UPDATE.CAPTURE. -/
def A.UPDATE_CAPTURE : Nat := A.UPDATE + 0x24
/-- Address of UPDATE.CAPTURE_ELEM. -/
def A.UPDATE_CAPTURE_ELEM : Nat := A.UPDATE + 0x28
/-- Address of UPDATE.CAPTURE_STEP. -/
def A.UPDATE_CAPTURE_STEP : Nat := A.UPDATE + 0x30
/-- Address of UPDATE.CHUNKS_APPLIED. -/
def A.UPDATE_CHUNKS_APPLIED : Nat := A.UPDATE + 0x80
/-- Address of UPDATE.ELEMS_APPLIED. -/
def A.UPDATE_ELEMS_APPLIED : Nat := A.UPDATE + 0x88
/-- Address of UPDATE.FROZEN_SKIPPED. -/
def A.UPDATE_FROZEN_SKIPPED : Nat := A.UPDATE + 0x90
/-- Address of UPDATE.HELD_ELEMS. -/
def A.UPDATE_HELD_ELEMS : Nat := A.UPDATE + 0x98
/-- Address of UPDATE.COMMITS. -/
def A.UPDATE_COMMITS : Nat := A.UPDATE + 0xA0
/-- Address of UPDATE.STEPS_UNCOMMITTED. -/
def A.UPDATE_STEPS_UNCOMMITTED : Nat := A.UPDATE + 0xA8
/-- Address of UPDATE.REFRESHES. -/
def A.UPDATE_REFRESHES : Nat := A.UPDATE + 0xB0
/-- Address of UPDATE.PRECOND_WAITS. -/
def A.UPDATE_PRECOND_WAITS : Nat := A.UPDATE + 0xB8
/-- Address of UPDATE.WRITES_REFUSED. -/
def A.UPDATE_WRITES_REFUSED : Nat := A.UPDATE + 0xC0
/-- Address of UPDATE.LOCAL_CHUNKS. -/
def A.UPDATE_LOCAL_CHUNKS : Nat := A.UPDATE + 0xC8
/-- Address of UPDATE.LINE_TENSOR. -/
def A.UPDATE_LINE_TENSOR (i : Nat) : Nat := A.UPDATE + 0x10000 + i * 0x4
/-- Address of UPDATE.TENSOR. -/
def A.UPDATE_TENSOR (i : Nat) : Nat := A.UPDATE + 0x20000 + i * 0x20
/-- Address of UPDATE.RULE. -/
def A.UPDATE_RULE (i : Nat) : Nat := A.UPDATE + 0x40000 + i * 0x20
/-- Address of STATION.ACT_PAGE. -/
def A.STATION_ACT_PAGE : Nat := A.STATION + 0x20
/-- Address of STATION.ACT_BLOCKS. -/
def A.STATION_ACT_BLOCKS : Nat := A.STATION + 0x24
/-- Address of STATION.ACT_FREE. -/
def A.STATION_ACT_FREE : Nat := A.STATION + 0x28
/-- Address of STATION.CFG. -/
def A.STATION_CFG : Nat := A.STATION + 0x2C
/-- Address of STATION.CAPTURE. -/
def A.STATION_CAPTURE : Nat := A.STATION + 0x30
/-- Address of STATION.CAPTURE_STEP. -/
def A.STATION_CAPTURE_STEP : Nat := A.STATION + 0x38
/-- Address of STATION.DISPATCHES. -/
def A.STATION_DISPATCHES : Nat := A.STATION + 0x80
/-- Address of STATION.COMBINES. -/
def A.STATION_COMBINES : Nat := A.STATION + 0x88
/-- Address of STATION.TOKENS_ADMITTED. -/
def A.STATION_TOKENS_ADMITTED : Nat := A.STATION + 0x90
/-- Address of STATION.TOKENS_DROPPED. -/
def A.STATION_TOKENS_DROPPED : Nat := A.STATION + 0x98
/-- Address of STATION.RETURNS. -/
def A.STATION_RETURNS : Nat := A.STATION + 0xA0
/-- Address of STATION.RETURN_RESENDS. -/
def A.STATION_RETURN_RESENDS : Nat := A.STATION + 0xA8
/-- Address of STATION.ACT_WAITS. -/
def A.STATION_ACT_WAITS : Nat := A.STATION + 0xB0
/-- Address of STATION.ACT_EXPIRED. -/
def A.STATION_ACT_EXPIRED : Nat := A.STATION + 0xB8
/-- Address of STATION.LOCAL_UPDATES. -/
def A.STATION_LOCAL_UPDATES : Nat := A.STATION + 0xC0
/-- Address of STATION.WEIGHT_REBUILDS. -/
def A.STATION_WEIGHT_REBUILDS : Nat := A.STATION + 0xC8
/-- Address of STATION.RUN_RESUBMITS. -/
def A.STATION_RUN_RESUBMITS : Nat := A.STATION + 0xD0
/-- Address of STATION.STN_CTL. -/
def A.STATION_STN_CTL (i : Nat) : Nat := A.STATION + 0x1000 + i * 0x40
/-- Address of STATION.STN_STATE. -/
def A.STATION_STN_STATE (i : Nat) : Nat := A.STATION + 0x1004 + i * 0x40
/-- Address of STATION.RET_PAGE. -/
def A.STATION_RET_PAGE (i : Nat) : Nat := A.STATION + 0x1008 + i * 0x40
/-- Address of STATION.RET_CFG. -/
def A.STATION_RET_CFG (i : Nat) : Nat := A.STATION + 0x100C + i * 0x40
/-- Address of STATION.STN_VARIES. -/
def A.STATION_STN_VARIES (i : Nat) : Nat := A.STATION + 0x1010 + i * 0x40
/-- Address of STATION.STN_RUNS. -/
def A.STATION_STN_RUNS (i : Nat) : Nat := A.STATION + 0x1018 + i * 0x40
/-- Address of STATION.STN_ROWS. -/
def A.STATION_STN_ROWS (i : Nat) : Nat := A.STATION + 0x1020 + i * 0x40
/-- Address of STATION.EXPERT. -/
def A.STATION_EXPERT (i : Nat) : Nat := A.STATION + 0x10000 + i * 0x20
/-- Address of STATION.STATION_LINE. -/
def A.STATION_STATION_LINE (i : Nat) : Nat := A.STATION + 0x20000 + i * 0x4
/-- Address of HBM.CFG. -/
def A.HBM_CFG (n : Nat) : Nat := A.HBM n + 0x20
/-- Address of HBM.INFO. -/
def A.HBM_INFO (n : Nat) : Nat := A.HBM n + 0x24
/-- Address of HBM.REPAIR_ADDR. -/
def A.HBM_REPAIR_ADDR (n : Nat) : Nat := A.HBM n + 0x28
/-- Address of HBM.REPAIR_CMD. -/
def A.HBM_REPAIR_CMD (n : Nat) : Nat := A.HBM n + 0x2C
/-- Address of HBM.REPAIR_STATE. -/
def A.HBM_REPAIR_STATE (n : Nat) : Nat := A.HBM n + 0x30
/-- Address of HBM.UE_ADDR. -/
def A.HBM_UE_ADDR (n : Nat) : Nat := A.HBM n + 0x38
/-- Address of HBM.CE. -/
def A.HBM_CE (n : Nat) : Nat := A.HBM n + 0x80
/-- Address of HBM.UE. -/
def A.HBM_UE (n : Nat) : Nat := A.HBM n + 0x88
/-- Address of HBM.ADDR_ERRS. -/
def A.HBM_ADDR_ERRS (n : Nat) : Nat := A.HBM n + 0x90
/-- Address of HBM.POISON_READS. -/
def A.HBM_POISON_READS (n : Nat) : Nat := A.HBM n + 0x98
/-- Address of HBM.REPAIRS. -/
def A.HBM_REPAIRS (n : Nat) : Nat := A.HBM n + 0xA0
/-- Address of HBM.BYTES_READ. -/
def A.HBM_BYTES_READ (n : Nat) : Nat := A.HBM n + 0xA8
/-- Address of HBM.BYTES_WRITTEN. -/
def A.HBM_BYTES_WRITTEN (n : Nat) : Nat := A.HBM n + 0xB0
/-- Address of HBM.REFRESH_WAITS. -/
def A.HBM_REFRESH_WAITS (n : Nat) : Nat := A.HBM n + 0xB8
/-- Address of WINDOW.SPACE_BASE. -/
def A.WINDOW_SPACE_BASE (i : Nat) : Nat := A.WINDOW + 0x20 + i * 0x8
/-- Address of WINDOW.SPACE_SIZE. -/
def A.WINDOW_SPACE_SIZE (i : Nat) : Nat := A.WINDOW + 0x24 + i * 0x8
/-- Address of WINDOW.DUP_CFG. -/
def A.WINDOW_DUP_CFG : Nat := A.WINDOW + 0x50
/-- Address of WINDOW.FENCE_CFG. -/
def A.WINDOW_FENCE_CFG : Nat := A.WINDOW + 0x54
/-- Address of WINDOW.ACC_NODE. -/
def A.WINDOW_ACC_NODE : Nat := A.WINDOW + 0x58
/-- Address of WINDOW.ACC_ADDR. -/
def A.WINDOW_ACC_ADDR : Nat := A.WINDOW + 0x60
/-- Address of WINDOW.READS. -/
def A.WINDOW_READS : Nat := A.WINDOW + 0x80
/-- Address of WINDOW.WRITES. -/
def A.WINDOW_WRITES : Nat := A.WINDOW + 0x88
/-- Address of WINDOW.ATOMICS. -/
def A.WINDOW_ATOMICS : Nat := A.WINDOW + 0x90
/-- Address of WINDOW.FENCES. -/
def A.WINDOW_FENCES : Nat := A.WINDOW + 0x98
/-- Address of WINDOW.ACCESS_REFUSED. -/
def A.WINDOW_ACCESS_REFUSED : Nat := A.WINDOW + 0xA0
/-- Address of WINDOW.REFUSED. -/
def A.WINDOW_REFUSED : Nat := A.WINDOW + 0xA8
/-- Address of WINDOW.RETRIES. -/
def A.WINDOW_RETRIES : Nat := A.WINDOW + 0xB0
/-- Address of WINDOW.DUP_REPLAYED. -/
def A.WINDOW_DUP_REPLAYED : Nat := A.WINDOW + 0xB8
/-- Address of WINDOW.MEM_ERRORS. -/
def A.WINDOW_MEM_ERRORS : Nat := A.WINDOW + 0xC0
/-- Address of WINDOW.FENCE_INCOMPLETE. -/
def A.WINDOW_FENCE_INCOMPLETE : Nat := A.WINDOW + 0xC8
/-- Address of WINDOW.CACHE_USED. -/
def A.WINDOW_CACHE_USED : Nat := A.WINDOW + 0xD0
/-- Address of WINDOW.WIN. -/
def A.WINDOW_WIN (i : Nat) : Nat := A.WINDOW + 0x10000 + i * 0x20
/-- Address of WINDOW.WIN_STATE. -/
def A.WINDOW_WIN_STATE (i : Nat) : Nat := A.WINDOW + 0x10010 + i * 0x20
/-- Address of WINDOW.LIST. -/
def A.WINDOW_LIST (i : Nat) : Nat := A.WINDOW + 0x20000 + i * 0x4
/-- Address of FAULT.STATUS. -/
def A.FAULT_STATUS : Nat := A.FAULT + 0x20
/-- Address of FAULT.RING_WR. -/
def A.FAULT_RING_WR : Nat := A.FAULT + 0x24
/-- Address of FAULT.RING_RD. -/
def A.FAULT_RING_RD : Nat := A.FAULT + 0x28
/-- Address of FAULT.RING_VIEW. -/
def A.FAULT_RING_VIEW : Nat := A.FAULT + 0x2C
/-- Address of FAULT.CFG. -/
def A.FAULT_CFG : Nat := A.FAULT + 0x30
/-- Address of FAULT.CMD. -/
def A.FAULT_CMD : Nat := A.FAULT + 0x34
/-- Address of FAULT.EVENTS. -/
def A.FAULT_EVENTS : Nat := A.FAULT + 0x80
/-- Address of FAULT.EVENT_RECORDS. -/
def A.FAULT_EVENT_RECORDS : Nat := A.FAULT + 0x88
/-- Address of FAULT.LOST. -/
def A.FAULT_LOST : Nat := A.FAULT + 0x90
/-- Address of FAULT.SUPPRESSED. -/
def A.FAULT_SUPPRESSED : Nat := A.FAULT + 0x98
/-- Address of FAULT.EVENT_DROPS. -/
def A.FAULT_EVENT_DROPS : Nat := A.FAULT + 0xA0
/-- Address of FAULT.RING_DROPS. -/
def A.FAULT_RING_DROPS : Nat := A.FAULT + 0xA8
/-- Address of FAULT.RECOVERIES. -/
def A.FAULT_RECOVERIES : Nat := A.FAULT + 0xB0
/-- Address of FAULT.STOPS. -/
def A.FAULT_STOPS : Nat := A.FAULT + 0xB8
/-- Address of FAULT.POLICY_A. -/
def A.FAULT_POLICY_A (i : Nat) : Nat := A.FAULT + 0x100 + i * 0x8
/-- Address of FAULT.POLICY_B. -/
def A.FAULT_POLICY_B (i : Nat) : Nat := A.FAULT + 0x104 + i * 0x8
/-- Address of FAULT.SRC_CFG. -/
def A.FAULT_SRC_CFG (i : Nat) : Nat := A.FAULT + 0x1000 + i * 0x8
/-- Address of FAULT.SRC_COUNT. -/
def A.FAULT_SRC_COUNT (i : Nat) : Nat := A.FAULT + 0x1004 + i * 0x8
/-- Address of FAULT.RING_WINDOW. -/
def A.FAULT_RING_WINDOW (i : Nat) : Nat := A.FAULT + 0x2000 + i * 0x4
/-- Address of RESET.CFG. -/
def A.RESET_CFG : Nat := A.RESET + 0x20
/-- Address of RESET.CMD. -/
def A.RESET_CMD : Nat := A.RESET + 0x24
/-- Address of RESET.CORE_VIEW. -/
def A.RESET_CORE_VIEW : Nat := A.RESET + 0x28
/-- Address of RESET.KICK. -/
def A.RESET_KICK : Nat := A.RESET + 0x2C
/-- Address of RESET.CAPTURE. -/
def A.RESET_CAPTURE : Nat := A.RESET + 0x30
/-- Address of RESET.LAST_MODULE_RESET. -/
def A.RESET_LAST_MODULE_RESET : Nat := A.RESET + 0x34
/-- Address of RESET.DOMAIN_RESETS. -/
def A.RESET_DOMAIN_RESETS : Nat := A.RESET + 0x80
/-- Address of RESET.DEADLINE_MISSES. -/
def A.RESET_DEADLINE_MISSES : Nat := A.RESET + 0x88
/-- Address of RESET.ESCALATIONS. -/
def A.RESET_ESCALATIONS : Nat := A.RESET + 0x90
/-- Address of RESET.CMD_RESETS. -/
def A.RESET_CMD_RESETS : Nat := A.RESET + 0x98
/-- Address of RESET.DFAULT. -/
def A.RESET_DFAULT (i : Nat) : Nat := A.RESET + 0x1000 + i * 0x8
/-- Address of RESET.RECOVERY. -/
def A.RESET_RECOVERY (i : Nat) : Nat := A.RESET + 0x1004 + i * 0x8
/-- Address of RESET.COACH_DFAULT. -/
def A.RESET_COACH_DFAULT (i : Nat) : Nat := A.RESET + 0x2000 + i * 0x8
/-- Address of RESET.COACH_RECOVERY. -/
def A.RESET_COACH_RECOVERY (i : Nat) : Nat := A.RESET + 0x2004 + i * 0x8
/-- Address of RESET.LANE_DFAULT. -/
def A.RESET_LANE_DFAULT (i : Nat) : Nat := A.RESET + 0x4000 + i * 0x8
/-- Address of RESET.LANE_RECOVERY. -/
def A.RESET_LANE_RECOVERY (i : Nat) : Nat := A.RESET + 0x4004 + i * 0x8
/-- Address of RESET.CORE_DFAULT. -/
def A.RESET_CORE_DFAULT (i : Nat) : Nat := A.RESET + 0x6000 + i * 0x8
/-- Address of RESET.CORE_RECOVERY. -/
def A.RESET_CORE_RECOVERY (i : Nat) : Nat := A.RESET + 0x6004 + i * 0x8
/-- Address of RESET.LINE_DFAULT. -/
def A.RESET_LINE_DFAULT (i : Nat) : Nat := A.RESET + 0x8000 + i * 0x8
/-- Address of RESET.LINE_RECOVERY. -/
def A.RESET_LINE_RECOVERY (i : Nat) : Nat := A.RESET + 0x8004 + i * 0x8
/-- Address of CONSORT.RUN_INFO. -/
def A.CONSORT_RUN_INFO (q : Nat) : Nat := A.CONSORT q + 0x20
/-- Address of CONSORT.RUN_VERSION. -/
def A.CONSORT_RUN_VERSION (q : Nat) : Nat := A.CONSORT q + 0x24
/-- Address of CONSORT.RUN_SVN. -/
def A.CONSORT_RUN_SVN (q : Nat) : Nat := A.CONSORT q + 0x28
/-- Address of CONSORT.ACT_STATE. -/
def A.CONSORT_ACT_STATE (q : Nat) : Nat := A.CONSORT q + 0x2C
/-- Address of CONSORT.ACT_CMD. -/
def A.CONSORT_ACT_CMD (q : Nat) : Nat := A.CONSORT q + 0x30
/-- Address of CONSORT.TRACE_CFG. -/
def A.CONSORT_TRACE_CFG (q : Nat) : Nat := A.CONSORT q + 0x34
/-- Address of CONSORT.LOG_WR. -/
def A.CONSORT_LOG_WR (q : Nat) : Nat := A.CONSORT q + 0x38
/-- Address of CONSORT.LOG_VIEW. -/
def A.CONSORT_LOG_VIEW (q : Nat) : Nat := A.CONSORT q + 0x3C
/-- Address of CONSORT.START_CFG. -/
def A.CONSORT_START_CFG (q : Nat) : Nat := A.CONSORT q + 0x40
/-- Address of CONSORT.HEARTBEAT. -/
def A.CONSORT_HEARTBEAT (q : Nat) : Nat := A.CONSORT q + 0x50
/-- Address of CONSORT.HB_CFG. -/
def A.CONSORT_HB_CFG (q : Nat) : Nat := A.CONSORT q + 0x54
/-- Address of CONSORT.HEV_WR. -/
def A.CONSORT_HEV_WR (q : Nat) : Nat := A.CONSORT q + 0x58
/-- Address of CONSORT.HEV_RD. -/
def A.CONSORT_HEV_RD (q : Nat) : Nat := A.CONSORT q + 0x5C
/-- Address of CONSORT.HEV_VIEW. -/
def A.CONSORT_HEV_VIEW (q : Nat) : Nat := A.CONSORT q + 0x60
/-- Address of CONSORT.IMG_CMD. -/
def A.CONSORT_IMG_CMD (q : Nat) : Nat := A.CONSORT q + 0x64
/-- Address of CONSORT.BANK_STATE. -/
def A.CONSORT_BANK_STATE (q : Nat) : Nat := A.CONSORT q + 0x68
/-- Address of CONSORT.STAGED_BYTES. -/
def A.CONSORT_STAGED_BYTES (q : Nat) : Nat := A.CONSORT q + 0x6C
/-- Address of CONSORT.EMERG_CLEAR_MS. -/
def A.CONSORT_EMERG_CLEAR_MS (q : Nat) : Nat := A.CONSORT q + 0x70
/-- Address of CONSORT.RESTARTS. -/
def A.CONSORT_RESTARTS (q : Nat) : Nat := A.CONSORT q + 0x80
/-- Address of CONSORT.ACTIVATIONS. -/
def A.CONSORT_ACTIVATIONS (q : Nat) : Nat := A.CONSORT q + 0x88
/-- Address of CONSORT.REVERTS. -/
def A.CONSORT_REVERTS (q : Nat) : Nat := A.CONSORT q + 0x90
/-- Address of CONSORT.LOG_ENTRIES. -/
def A.CONSORT_LOG_ENTRIES (q : Nat) : Nat := A.CONSORT q + 0x98
/-- Address of CONSORT.HEV_OVERFLOW. -/
def A.CONSORT_HEV_OVERFLOW (q : Nat) : Nat := A.CONSORT q + 0xA0
/-- Address of CONSORT.HOST_ABSENCES. -/
def A.CONSORT_HOST_ABSENCES (q : Nat) : Nat := A.CONSORT q + 0xA8
/-- Address of CONSORT.TRACE_EN. -/
def A.CONSORT_TRACE_EN (q : Nat) (i : Nat) : Nat := A.CONSORT q + 0x100 + i * 0x4
/-- Address of CONSORT.HEV_WINDOW. -/
def A.CONSORT_HEV_WINDOW (q : Nat) (i : Nat) : Nat := A.CONSORT q + 0x400 + i * 0x4
/-- Address of CONSORT.LOG_WINDOW. -/
def A.CONSORT_LOG_WINDOW (q : Nat) (i : Nat) : Nat := A.CONSORT q + 0xC00 + i * 0x4
/-- Address of POWER.BUDGET. -/
def A.POWER_BUDGET : Nat := A.POWER + 0x20
/-- Address of POWER.OC_CFG. -/
def A.POWER_OC_CFG : Nat := A.POWER + 0x24
/-- Address of POWER.THERM_CFG. -/
def A.POWER_THERM_CFG : Nat := A.POWER + 0x28
/-- Address of POWER.VIN. -/
def A.POWER_VIN : Nat := A.POWER + 0x2C
/-- Address of POWER.IIN. -/
def A.POWER_IIN : Nat := A.POWER + 0x30
/-- Address of POWER.PIN. -/
def A.POWER_PIN : Nat := A.POWER + 0x34
/-- Address of POWER.TEMP_MAX. -/
def A.POWER_TEMP_MAX : Nat := A.POWER + 0x38
/-- Address of POWER.COOLANT. -/
def A.POWER_COOLANT : Nat := A.POWER + 0x3C
/-- Address of POWER.TOTAL. -/
def A.POWER_TOTAL : Nat := A.POWER + 0x40
/-- Address of POWER.FREE. -/
def A.POWER_FREE : Nat := A.POWER + 0x44
/-- Address of POWER.EMERG_CLEAR_MS. -/
def A.POWER_EMERG_CLEAR_MS : Nat := A.POWER + 0x48
/-- Address of POWER.TRIP_LOG. -/
def A.POWER_TRIP_LOG : Nat := A.POWER + 0x4C
/-- Address of POWER.EMERGENCIES. -/
def A.POWER_EMERGENCIES : Nat := A.POWER + 0x80
/-- Address of POWER.THROTTLE_CYCLES. -/
def A.POWER_THROTTLE_CYCLES : Nat := A.POWER + 0x88
/-- Address of POWER.GRANTS. -/
def A.POWER_GRANTS : Nat := A.POWER + 0x90
/-- Address of POWER.REVOCATIONS. -/
def A.POWER_REVOCATIONS : Nat := A.POWER + 0x98
/-- Address of POWER.REALLOCATIONS. -/
def A.POWER_REALLOCATIONS : Nat := A.POWER + 0xA0
/-- Address of POWER.ENERGY_MJ. -/
def A.POWER_ENERGY_MJ : Nat := A.POWER + 0xA8
/-- Address of POWER.REC_CAP. -/
def A.POWER_REC_CAP (i : Nat) : Nat := A.POWER + 0x100 + i * 0x8
/-- Address of POWER.REC_STATE. -/
def A.POWER_REC_STATE (i : Nat) : Nat := A.POWER + 0x104 + i * 0x8
/-- Address of SIDING.CFG. -/
def A.SIDING_CFG : Nat := A.SIDING + 0x20
/-- Address of SIDING.BOOT_STATUS. -/
def A.SIDING_BOOT_STATUS : Nat := A.SIDING + 0x24
/-- Address of SIDING.MAN_CMD. -/
def A.SIDING_MAN_CMD : Nat := A.SIDING + 0x28
/-- Address of SIDING.MAN_STATE. -/
def A.SIDING_MAN_STATE : Nat := A.SIDING + 0x2C
/-- Address of SIDING.ATTEST_CMD. -/
def A.SIDING_ATTEST_CMD : Nat := A.SIDING + 0x30
/-- Address of SIDING.ATTEST_STATUS. -/
def A.SIDING_ATTEST_STATUS : Nat := A.SIDING + 0x34
/-- Address of SIDING.DEVICE_TAG. -/
def A.SIDING_DEVICE_TAG : Nat := A.SIDING + 0x38
/-- Address of SIDING.ID_INFO. -/
def A.SIDING_ID_INFO : Nat := A.SIDING + 0x3C
/-- Address of SIDING.FRAMES_RX. -/
def A.SIDING_FRAMES_RX : Nat := A.SIDING + 0x80
/-- Address of SIDING.FRAMES_TX. -/
def A.SIDING_FRAMES_TX : Nat := A.SIDING + 0x88
/-- Address of SIDING.REPLAYS. -/
def A.SIDING_REPLAYS : Nat := A.SIDING + 0x90
/-- Address of SIDING.BAD_FRAMES. -/
def A.SIDING_BAD_FRAMES : Nat := A.SIDING + 0x98
/-- Address of SIDING.NOTIFIES. -/
def A.SIDING_NOTIFIES : Nat := A.SIDING + 0xA0
/-- Address of SIDING.REPORTS. -/
def A.SIDING_REPORTS : Nat := A.SIDING + 0xA8
/-- Address of SIDING.LINK_DOWNS. -/
def A.SIDING_LINK_DOWNS : Nat := A.SIDING + 0xB0
/-- Address of SIDING.LANE_CTL. -/
def A.SIDING_LANE_CTL (i : Nat) : Nat := A.SIDING + 0x100 + i * 0x20
/-- Address of SIDING.LANE_STATE. -/
def A.SIDING_LANE_STATE (i : Nat) : Nat := A.SIDING + 0x104 + i * 0x20
/-- Address of SIDING.EYE_CTL. -/
def A.SIDING_EYE_CTL (i : Nat) : Nat := A.SIDING + 0x108 + i * 0x20
/-- Address of SIDING.EYE_CMD. -/
def A.SIDING_EYE_CMD (i : Nat) : Nat := A.SIDING + 0x10C + i * 0x20
/-- Address of SIDING.EYE_STATUS. -/
def A.SIDING_EYE_STATUS (i : Nat) : Nat := A.SIDING + 0x110 + i * 0x20
/-- Address of SIDING.COMMA_HITS. -/
def A.SIDING_COMMA_HITS (i : Nat) : Nat := A.SIDING + 0x114 + i * 0x20
/-- Address of SIDING.CODE_ERRS. -/
def A.SIDING_CODE_ERRS (i : Nat) : Nat := A.SIDING + 0x118 + i * 0x20
/-- Address of SIDING.EYE_ERRS. -/
def A.SIDING_EYE_ERRS (i : Nat) : Nat := A.SIDING + 0x11C + i * 0x20
/-- Address of SIDING.NONCE. -/
def A.SIDING_NONCE (i : Nat) : Nat := A.SIDING + 0x1000 + i * 0x4
/-- Address of SIDING.ID_PUB. -/
def A.SIDING_ID_PUB (i : Nat) : Nat := A.SIDING + 0x1100 + i * 0x4
/-- Address of SIDING.CERT. -/
def A.SIDING_CERT (i : Nat) : Nat := A.SIDING + 0x2000 + i * 0x4
/-- Address of SIDING.REPORT. -/
def A.SIDING_REPORT (i : Nat) : Nat := A.SIDING + 0x3000 + i * 0x4
/-- Address of PROT.LOCK. -/
def A.PROT_LOCK : Nat := A.PROT + 0x20
/-- Address of PROT.PROT_HASH. -/
def A.PROT_PROT_HASH (i : Nat) : Nat := A.PROT + 0x40 + i * 0x4
/-- Address of PROT.REFUSED. -/
def A.PROT_REFUSED : Nat := A.PROT + 0x80
/-- Address of PROT.REGION_BASE. -/
def A.PROT_REGION_BASE (i : Nat) : Nat := A.PROT + 0x100 + i * 0xC
/-- Address of PROT.REGION_LIMIT. -/
def A.PROT_REGION_LIMIT (i : Nat) : Nat := A.PROT + 0x104 + i * 0xC
/-- Address of PROT.REGION_RIGHTS. -/
def A.PROT_REGION_RIGHTS (i : Nat) : Nat := A.PROT + 0x108 + i * 0xC

/-! ## Fields -/

/-- TOP.GRADE[3:0] A_FIELD -/
def F.TOP_GRADE_A_FIELD : Fld :=
  ⟨A.TOP_GRADE, 0, 4⟩
/-- TOP.GRADE[7:4] M_FIELD -/
def F.TOP_GRADE_M_FIELD : Fld :=
  ⟨A.TOP_GRADE, 4, 4⟩
/-- TOP.GRADE[21:8] ARRAYS -/
def F.TOP_GRADE_ARRAYS : Fld :=
  ⟨A.TOP_GRADE, 8, 14⟩
/-- TOP.LANE_SLOTS[15:0] SLOT_TYPE -/
def F.TOP_LANE_SLOTS_SLOT_TYPE : Fld :=
  ⟨A.TOP_LANE_SLOTS, 0, 16⟩
/-- TOP.STACKS[7:0] PRESENT -/
def F.TOP_STACKS_PRESENT : Fld :=
  ⟨A.TOP_STACKS, 0, 8⟩
/-- TOP.MODULE_NUM[11:0] NUMBER -/
def F.TOP_MODULE_NUM_NUMBER : Fld :=
  ⟨A.TOP_MODULE_NUM, 0, 12⟩
/-- TOP.MODULE_NUM[31:31] VALID -/
def F.TOP_MODULE_NUM_VALID : Fld :=
  ⟨A.TOP_MODULE_NUM, 31, 1⟩
/-- TOP.SLOT_ID[5:0] SLOT -/
def F.TOP_SLOT_ID_SLOT : Fld :=
  ⟨A.TOP_SLOT_ID, 0, 6⟩
/-- TOP.BUS_ERR_ADDR[25:0] ADDR -/
def F.TOP_BUS_ERR_ADDR_ADDR : Fld :=
  ⟨A.TOP_BUS_ERR_ADDR, 0, 26⟩
/-- TOP.BUS_ERR_ADDR[29:28] MASTER -/
def F.TOP_BUS_ERR_ADDR_MASTER : Fld :=
  ⟨A.TOP_BUS_ERR_ADDR, 28, 2⟩
/-- TOP.BUS_ERR_ADDR[30:30] WRITE -/
def F.TOP_BUS_ERR_ADDR_WRITE : Fld :=
  ⟨A.TOP_BUS_ERR_ADDR, 30, 1⟩
/-- TOP.BUS_ERR_ADDR[31:31] VALID -/
def F.TOP_BUS_ERR_ADDR_VALID : Fld :=
  ⟨A.TOP_BUS_ERR_ADDR, 31, 1⟩
/-- TOP.BUS_ERR_KIND[3:0] KIND -/
def F.TOP_BUS_ERR_KIND_KIND : Fld :=
  ⟨A.TOP_BUS_ERR_KIND, 0, 4⟩
/-- TOP.VOTE_ADDR[25:0] ADDR -/
def F.TOP_VOTE_ADDR_ADDR : Fld :=
  ⟨A.TOP_VOTE_ADDR, 0, 26⟩
/-- DIE.DIE_INFO[1:0] TYPE -/
def F.DIE_DIE_INFO_TYPE (d : Nat) : Fld :=
  ⟨A.DIE_DIE_INFO d, 0, 2⟩
/-- DIE.DIE_INFO[31:16] ENGINE_OK -/
def F.DIE_DIE_INFO_ENGINE_OK (d : Nat) : Fld :=
  ⟨A.DIE_DIE_INFO d, 16, 16⟩
/-- DIE.DIE_TEMP[11:0] TEMP -/
def F.DIE_DIE_TEMP_TEMP (d : Nat) : Fld :=
  ⟨A.DIE_DIE_TEMP d, 0, 12⟩
/-- LANE.CFG[1:0] MEDIUM -/
def F.LANE_CFG_MEDIUM (l : Nat) : Fld :=
  ⟨A.LANE_CFG l, 0, 2⟩
/-- LANE.CFG[2:2] PRECODE_REQ -/
def F.LANE_CFG_PRECODE_REQ (l : Nat) : Fld :=
  ⟨A.LANE_CFG l, 2, 1⟩
/-- LANE.CFG[7:4] TX_PRESET -/
def F.LANE_CFG_TX_PRESET (l : Nat) : Fld :=
  ⟨A.LANE_CFG l, 4, 4⟩
/-- LANE.CFG[15:8] UNCORR_LIMIT -/
def F.LANE_CFG_UNCORR_LIMIT (l : Nat) : Fld :=
  ⟨A.LANE_CFG l, 8, 8⟩
/-- LANE.CFG[23:16] TRAIN_LIMIT -/
def F.LANE_CFG_TRAIN_LIMIT (l : Nat) : Fld :=
  ⟨A.LANE_CFG l, 16, 8⟩
/-- LANE.CFG[26:24] TEST -/
def F.LANE_CFG_TEST (l : Nat) : Fld :=
  ⟨A.LANE_CFG l, 24, 3⟩
/-- LANE.TX_EQ[5:0] PRE2 -/
def F.LANE_TX_EQ_PRE2 (l : Nat) : Fld :=
  ⟨A.LANE_TX_EQ l, 0, 6⟩
/-- LANE.TX_EQ[11:6] PRE1 -/
def F.LANE_TX_EQ_PRE1 (l : Nat) : Fld :=
  ⟨A.LANE_TX_EQ l, 6, 6⟩
/-- LANE.TX_EQ[17:12] MAIN -/
def F.LANE_TX_EQ_MAIN (l : Nat) : Fld :=
  ⟨A.LANE_TX_EQ l, 12, 6⟩
/-- LANE.TX_EQ[23:18] POST1 -/
def F.LANE_TX_EQ_POST1 (l : Nat) : Fld :=
  ⟨A.LANE_TX_EQ l, 18, 6⟩
/-- LANE.RX_QUALITY[15:0] SNR -/
def F.LANE_RX_QUALITY_SNR (l : Nat) : Fld :=
  ⟨A.LANE_RX_QUALITY l, 0, 16⟩
/-- LANE.EYE_CTL[6:0] PHASE -/
def F.LANE_EYE_CTL_PHASE (l : Nat) : Fld :=
  ⟨A.LANE_EYE_CTL l, 0, 7⟩
/-- LANE.EYE_CTL[14:8] VOFF -/
def F.LANE_EYE_CTL_VOFF (l : Nat) : Fld :=
  ⟨A.LANE_EYE_CTL l, 8, 7⟩
/-- LANE.EYE_CTL[17:16] EYE -/
def F.LANE_EYE_CTL_EYE (l : Nat) : Fld :=
  ⟨A.LANE_EYE_CTL l, 16, 2⟩
/-- LANE.EYE_CTL[23:20] DWELL -/
def F.LANE_EYE_CTL_DWELL (l : Nat) : Fld :=
  ⟨A.LANE_EYE_CTL l, 20, 4⟩
/-- LANE.EYE_CTL[24:24] FREEZE -/
def F.LANE_EYE_CTL_FREEZE (l : Nat) : Fld :=
  ⟨A.LANE_EYE_CTL l, 24, 1⟩
/-- LANE.EYE_CMD[0:0] START -/
def F.LANE_EYE_CMD_START (l : Nat) : Fld :=
  ⟨A.LANE_EYE_CMD l, 0, 1⟩
/-- LANE.EYE_CMD[1:1] ABORT -/
def F.LANE_EYE_CMD_ABORT (l : Nat) : Fld :=
  ⟨A.LANE_EYE_CMD l, 1, 1⟩
/-- LANE.EYE_STATUS[0:0] BUSY -/
def F.LANE_EYE_STATUS_BUSY (l : Nat) : Fld :=
  ⟨A.LANE_EYE_STATUS l, 0, 1⟩
/-- LANE.EYE_STATUS[1:1] DONE -/
def F.LANE_EYE_STATUS_DONE (l : Nat) : Fld :=
  ⟨A.LANE_EYE_STATUS l, 1, 1⟩
/-- LANE.EYE_STATUS[2:2] ADAPT_MOVED -/
def F.LANE_EYE_STATUS_ADAPT_MOVED (l : Nat) : Fld :=
  ⟨A.LANE_EYE_STATUS l, 2, 1⟩
/-- LANE.EYE_STATUS[3:3] ABORTED -/
def F.LANE_EYE_STATUS_ABORTED (l : Nat) : Fld :=
  ⟨A.LANE_EYE_STATUS l, 3, 1⟩
/-- LANE.EYE_STATUS[31:16] POINT_SEQ -/
def F.LANE_EYE_STATUS_POINT_SEQ (l : Nat) : Fld :=
  ⟨A.LANE_EYE_STATUS l, 16, 16⟩
/-- PORT.LAYOUT[2:0] DIE -/
def F.PORT_LAYOUT_DIE (p : Nat) : Fld :=
  ⟨A.PORT_LAYOUT p, 0, 3⟩
/-- PORT.LAYOUT[14:8] FIRST_LANE -/
def F.PORT_LAYOUT_FIRST_LANE (p : Nat) : Fld :=
  ⟨A.PORT_LAYOUT p, 8, 7⟩
/-- PORT.LAYOUT[20:16] WIDTH -/
def F.PORT_LAYOUT_WIDTH (p : Nat) : Fld :=
  ⟨A.PORT_LAYOUT p, 16, 5⟩
/-- PORT.LAYOUT[28:24] MIN_WIDTH -/
def F.PORT_LAYOUT_MIN_WIDTH (p : Nat) : Fld :=
  ⟨A.PORT_LAYOUT p, 24, 5⟩
/-- PORT.MASKS[15:0] RX_ACTIVE -/
def F.PORT_MASKS_RX_ACTIVE (p : Nat) : Fld :=
  ⟨A.PORT_MASKS p, 0, 16⟩
/-- PORT.MASKS[31:16] TX_ACTIVE -/
def F.PORT_MASKS_TX_ACTIVE (p : Nat) : Fld :=
  ⟨A.PORT_MASKS p, 16, 16⟩
/-- PORT.SKEW[15:0] MAX_SKEW -/
def F.PORT_SKEW_MAX_SKEW (p : Nat) : Fld :=
  ⟨A.PORT_SKEW p, 0, 16⟩
/-- PORT.FC_CFG[7:0] LINK_EVERY -/
def F.PORT_FC_CFG_LINK_EVERY (p : Nat) : Fld :=
  ⟨A.PORT_FC_CFG p, 0, 8⟩
/-- PORT.FC_CFG[23:8] LINK_MAX_GAP -/
def F.PORT_FC_CFG_LINK_MAX_GAP (p : Nat) : Fld :=
  ⟨A.PORT_FC_CFG p, 8, 16⟩
/-- PORT.TC_ALLOW[5:0] ALLOW -/
def F.PORT_TC_ALLOW_ALLOW (p : Nat) : Fld :=
  ⟨A.PORT_TC_ALLOW p, 0, 6⟩
/-- PORT.PLAN_NODE[15:0] NODE -/
def F.PORT_PLAN_NODE_NODE (p : Nat) : Fld :=
  ⟨A.PORT_PLAN p, 0, 16⟩
/-- PORT.PLAN_NODE[17:16] KIND -/
def F.PORT_PLAN_NODE_KIND (p : Nat) : Fld :=
  ⟨A.PORT_PLAN p, 16, 2⟩
/-- PORT.PLAN_PORT[15:0] PORT -/
def F.PORT_PLAN_PORT_PORT (p : Nat) : Fld :=
  ⟨A.PORT_PLAN p + 4, 0, 16⟩
/-- PORT.PLAN_TAG[31:0] TAG -/
def F.PORT_PLAN_TAG_TAG (p : Nat) : Fld :=
  ⟨A.PORT_PLAN p + 8, 0, 32⟩
/-- PORT.PLAN_CTL[1:0] MODE -/
def F.PORT_PLAN_CTL_MODE (p : Nat) : Fld :=
  ⟨A.PORT_PLAN p + 12, 0, 2⟩
/-- PORT.PLAN_CTL[4:4] CHECK_TAG -/
def F.PORT_PLAN_CTL_CHECK_TAG (p : Nat) : Fld :=
  ⟨A.PORT_PLAN p + 12, 4, 1⟩
/-- PORT.PLAN_CTL[5:5] CHECK_PORT -/
def F.PORT_PLAN_CTL_CHECK_PORT (p : Nat) : Fld :=
  ⟨A.PORT_PLAN p + 12, 5, 1⟩
/-- PORT.DISC_CFG[11:0] HELLO_US -/
def F.PORT_DISC_CFG_HELLO_US (p : Nat) : Fld :=
  ⟨A.PORT_DISC_CFG p, 0, 12⟩
/-- PORT.DISC_CFG[15:12] DEAD_COUNT -/
def F.PORT_DISC_CFG_DEAD_COUNT (p : Nat) : Fld :=
  ⟨A.PORT_DISC_CFG p, 12, 4⟩
/-- PORT.DISC_CFG[23:16] ABSENT_MS -/
def F.PORT_DISC_CFG_ABSENT_MS (p : Nat) : Fld :=
  ⟨A.PORT_DISC_CFG p, 16, 8⟩
/-- PORT.NB_NODE[15:0] NODE -/
def F.PORT_NB_NODE_NODE (p : Nat) : Fld :=
  ⟨A.PORT_NB_NODE p, 0, 16⟩
/-- PORT.NB_NODE[17:16] KIND -/
def F.PORT_NB_NODE_KIND (p : Nat) : Fld :=
  ⟨A.PORT_NB_NODE p, 16, 2⟩
/-- PORT.NB_NODE[31:31] VALID -/
def F.PORT_NB_NODE_VALID (p : Nat) : Fld :=
  ⟨A.PORT_NB_NODE p, 31, 1⟩
/-- PORT.NB_PORT[15:0] PORT -/
def F.PORT_NB_PORT_PORT (p : Nat) : Fld :=
  ⟨A.PORT_NB_PORT p, 0, 16⟩
/-- PORT.NB_PORT[18:16] TOPO -/
def F.PORT_NB_PORT_TOPO (p : Nat) : Fld :=
  ⟨A.PORT_NB_PORT p, 16, 3⟩
/-- PORT.NB_TAG[31:0] TAG -/
def F.PORT_NB_TAG_TAG (p : Nat) : Fld :=
  ⟨A.PORT_NB_TAG p, 0, 32⟩
/-- PORT.NB_EXPECT[15:0] NODE -/
def F.PORT_NB_EXPECT_NODE (p : Nat) : Fld :=
  ⟨A.PORT_NB_EXPECT p, 0, 16⟩
/-- PORT.NB_EXPECT[31:16] PORT -/
def F.PORT_NB_EXPECT_PORT (p : Nat) : Fld :=
  ⟨A.PORT_NB_EXPECT p, 16, 16⟩
/-- PORT.NB_SEQ[15:0] SEQ -/
def F.PORT_NB_SEQ_SEQ (p : Nat) : Fld :=
  ⟨A.PORT_NB_SEQ p, 0, 16⟩
/-- PORT.NB_SEQ[31:16] AGE -/
def F.PORT_NB_SEQ_AGE (p : Nat) : Fld :=
  ⟨A.PORT_NB_SEQ p, 16, 16⟩
/-- PORT.TOPO_REASON[3:0] REASON -/
def F.PORT_TOPO_REASON_REASON (p : Nat) : Fld :=
  ⟨A.PORT_TOPO_REASON p, 0, 4⟩
/-- PORT.CR_RX_GRANT[15:0] GRANT -/
def F.PORT_CR_RX_GRANT_GRANT (p : Nat) (i : Nat) : Fld :=
  ⟨A.PORT_CR_RX_GRANT p i, 0, 16⟩
/-- PORT.CR_RX_TOTAL[23:0] TOTAL -/
def F.PORT_CR_RX_TOTAL_TOTAL (p : Nat) (i : Nat) : Fld :=
  ⟨A.PORT_CR_RX_TOTAL p i, 0, 24⟩
/-- PORT.CR_RETURN_TOTAL[23:0] TOTAL -/
def F.PORT_CR_RETURN_TOTAL_TOTAL (p : Nat) (i : Nat) : Fld :=
  ⟨A.PORT_CR_RETURN_TOTAL p i, 0, 24⟩
/-- PORT.CR_HELD[19:0] CELLS -/
def F.PORT_CR_HELD_CELLS (p : Nat) (i : Nat) : Fld :=
  ⟨A.PORT_CR_HELD p i, 0, 20⟩
/-- PORT.CR_TX_GRANT[15:0] GRANT -/
def F.PORT_CR_TX_GRANT_GRANT (p : Nat) (i : Nat) : Fld :=
  ⟨A.PORT_CR_TX_GRANT p i, 0, 16⟩
/-- PORT.CR_DEBIT_TOTAL[23:0] TOTAL -/
def F.PORT_CR_DEBIT_TOTAL_TOTAL (p : Nat) (i : Nat) : Fld :=
  ⟨A.PORT_CR_DEBIT_TOTAL p i, 0, 24⟩
/-- PORT.CR_RETURN_RX[23:0] TOTAL -/
def F.PORT_CR_RETURN_RX_TOTAL (p : Nat) (i : Nat) : Fld :=
  ⟨A.PORT_CR_RETURN_RX p i, 0, 24⟩
/-- PORT.CR_TX_AVAIL[31:0] AVAIL -/
def F.PORT_CR_TX_AVAIL_AVAIL (p : Nat) (i : Nat) : Fld :=
  ⟨A.PORT_CR_TX_AVAIL p i, 0, 32⟩
/-- SWITCH.CELLS[19:0] TOTAL -/
def F.SWITCH_CELLS_TOTAL : Fld :=
  ⟨A.SWITCH_CELLS, 0, 20⟩
/-- SWITCH.COMMITTED[19:0] CELLS -/
def F.SWITCH_COMMITTED_CELLS : Fld :=
  ⟨A.SWITCH_COMMITTED, 0, 20⟩
/-- SWITCH.UNCOMMITTED[19:0] CELLS -/
def F.SWITCH_UNCOMMITTED_CELLS : Fld :=
  ⟨A.SWITCH_UNCOMMITTED, 0, 20⟩
/-- SWITCH.ORDER_PTR[8:0] PTR -/
def F.SWITCH_ORDER_PTR_PTR : Fld :=
  ⟨A.SWITCH_ORDER_PTR, 0, 9⟩
/-- SWITCH.FLUSHING[3:0] COUNT -/
def F.SWITCH_FLUSHING_COUNT : Fld :=
  ⟨A.SWITCH_FLUSHING, 0, 4⟩
/-- SWITCH.AUDIT_CHECK[3:0] CHECK -/
def F.SWITCH_AUDIT_CHECK_CHECK : Fld :=
  ⟨A.SWITCH_AUDIT_CHECK, 0, 4⟩
/-- SWITCH.AUDIT_CHECK[15:4] INDEX -/
def F.SWITCH_AUDIT_CHECK_INDEX : Fld :=
  ⟨A.SWITCH_AUDIT_CHECK, 4, 12⟩
/-- SWITCH.AUDIT_CHECK[31:31] VALID -/
def F.SWITCH_AUDIT_CHECK_VALID : Fld :=
  ⟨A.SWITCH_AUDIT_CHECK, 31, 1⟩
/-- SWITCH.AUDIT_LEFT[31:0] TOTAL -/
def F.SWITCH_AUDIT_LEFT_TOTAL : Fld :=
  ⟨A.SWITCH_AUDIT_LEFT, 0, 32⟩
/-- SWITCH.AUDIT_RIGHT[31:0] TOTAL -/
def F.SWITCH_AUDIT_RIGHT_TOTAL : Fld :=
  ⟨A.SWITCH_AUDIT_RIGHT, 0, 32⟩
/-- SWITCH.LIMIT[15:0] LIMIT -/
def F.SWITCH_LIMIT_LIMIT (i : Nat) (k : Nat) : Fld :=
  ⟨A.SWITCH_LIMIT i k, 0, 16⟩
/-- SWITCH.EFF[15:0] EFF -/
def F.SWITCH_EFF_EFF (i : Nat) (k : Nat) : Fld :=
  ⟨A.SWITCH_EFF i k, 0, 16⟩
/-- SWITCH.EFF[16:16] PENDING -/
def F.SWITCH_EFF_PENDING (i : Nat) (k : Nat) : Fld :=
  ⟨A.SWITCH_EFF i k, 16, 1⟩
/-- SWITCH.EFF[17:17] RELEASING -/
def F.SWITCH_EFF_RELEASING (i : Nat) (k : Nat) : Fld :=
  ⟨A.SWITCH_EFF i k, 17, 1⟩
/-- SWITCH.HELD[19:0] CELLS -/
def F.SWITCH_HELD_CELLS (i : Nat) (k : Nat) : Fld :=
  ⟨A.SWITCH_HELD i k, 0, 20⟩
/-- POOL.DF_POOL[10:0] POOL -/
def F.POOL_DF_POOL_POOL : Fld :=
  ⟨A.POOL_DF_POOL, 0, 11⟩
/-- POOL.DF_POOL[31:31] VALID -/
def F.POOL_DF_POOL_VALID : Fld :=
  ⟨A.POOL_DF_POOL, 31, 1⟩
/-- POOL.DF_ENTRY[19:0] ENTRY -/
def F.POOL_DF_ENTRY_ENTRY : Fld :=
  ⟨A.POOL_DF_ENTRY, 0, 20⟩
/-- POOL.DF_REQ[8:0] REQUESTER -/
def F.POOL_DF_REQ_REQUESTER : Fld :=
  ⟨A.POOL_DF_REQ, 0, 9⟩
/-- POOL.SIZE[19:0] ENTRIES -/
def F.POOL_SIZE_ENTRIES (i : Nat) : Fld :=
  ⟨A.POOL_SIZE i, 0, 20⟩
/-- POOL.FREE[19:0] ENTRIES -/
def F.POOL_FREE_ENTRIES (i : Nat) : Fld :=
  ⟨A.POOL_FREE i, 0, 20⟩
/-- POOL.ALLOCATED[19:0] ENTRIES -/
def F.POOL_ALLOCATED_ENTRIES (i : Nat) : Fld :=
  ⟨A.POOL_ALLOCATED i, 0, 20⟩
/-- POOL.SUB[8:0] SUBLISTS -/
def F.POOL_SUB_SUBLISTS (i : Nat) : Fld :=
  ⟨A.POOL_SUB i, 0, 9⟩
/-- POOL.QUOTA[19:0] ENTRIES -/
def F.POOL_QUOTA_ENTRIES (i : Nat) (k : Nat) : Fld :=
  ⟨A.POOL_QUOTA i k, 0, 20⟩
/-- POOL.USED[19:0] ENTRIES -/
def F.POOL_USED_ENTRIES (i : Nat) (k : Nat) : Fld :=
  ⟨A.POOL_USED i k, 0, 20⟩
/-- ROUTE.CFG[0:0] SPRAY_MODE -/
def F.ROUTE_CFG_SPRAY_MODE : Fld :=
  ⟨A.ROUTE_CFG, 0, 1⟩
/-- ROUTE.CFG[7:4] DEPTH_SHIFT -/
def F.ROUTE_CFG_DEPTH_SHIFT : Fld :=
  ⟨A.ROUTE_CFG, 4, 4⟩
/-- ROUTE.HASH_SALT[31:0] SALT -/
def F.ROUTE_HASH_SALT_SALT : Fld :=
  ⟨A.ROUTE_HASH_SALT, 0, 32⟩
/-- ROUTE.EMPTY_SET[11:0] SET -/
def F.ROUTE_EMPTY_SET_SET : Fld :=
  ⟨A.ROUTE_EMPTY_SET, 0, 12⟩
/-- ROUTE.EMPTY_SET[31:31] VALID -/
def F.ROUTE_EMPTY_SET_VALID : Fld :=
  ⟨A.ROUTE_EMPTY_SET, 31, 1⟩
/-- ROUTE.PORT_LIVE[31:0] LIVE -/
def F.ROUTE_PORT_LIVE_LIVE (i : Nat) : Fld :=
  ⟨A.ROUTE_PORT_LIVE i, 0, 32⟩
/-- ROUTE.NODE[11:0] SET -/
def F.ROUTE_NODE_SET (i : Nat) : Fld :=
  ⟨A.ROUTE_NODE i, 0, 12⟩
/-- ROUTE.NODE[31:31] VALID -/
def F.ROUTE_NODE_VALID (i : Nat) : Fld :=
  ⟨A.ROUTE_NODE i, 31, 1⟩
/-- ROUTE.SET[15:0] MEMBERS -/
def F.ROUTE_SET_MEMBERS (i : Nat) : Fld :=
  ⟨A.ROUTE_SET i + 16, 0, 16⟩
/-- ROUTE.SET[27:24] SPRAY_PTR -/
def F.ROUTE_SET_SPRAY_PTR (i : Nat) : Fld :=
  ⟨A.ROUTE_SET i + 16, 24, 4⟩
/-- ROUTE.SET[31:0] PORTS0 -/
def F.ROUTE_SET_PORTS0 (i : Nat) : Fld :=
  ⟨A.ROUTE_SET i, 0, 32⟩
/-- ROUTE.SET[31:0] PORTS1 -/
def F.ROUTE_SET_PORTS1 (i : Nat) : Fld :=
  ⟨A.ROUTE_SET i + 4, 0, 32⟩
/-- ROUTE.SET[31:0] PORTS2 -/
def F.ROUTE_SET_PORTS2 (i : Nat) : Fld :=
  ⟨A.ROUTE_SET i + 8, 0, 32⟩
/-- ROUTE.SET[31:0] PORTS3 -/
def F.ROUTE_SET_PORTS3 (i : Nat) : Fld :=
  ⟨A.ROUTE_SET i + 12, 0, 32⟩
/-- ROUTE.LIVE[15:0] POS -/
def F.ROUTE_LIVE_POS (i : Nat) : Fld :=
  ⟨A.ROUTE_LIVE i, 0, 16⟩
/-- ROUTE.LIVE[20:16] COUNT -/
def F.ROUTE_LIVE_COUNT (i : Nat) : Fld :=
  ⟨A.ROUTE_LIVE i, 16, 5⟩
/-- SHAPE.RATE[21:0] RATE -/
def F.SHAPE_RATE_RATE (p : Nat) (i : Nat) : Fld :=
  ⟨A.SHAPE_RATE p i, 0, 22⟩
/-- SHAPE.RATE[31:31] EN -/
def F.SHAPE_RATE_EN (p : Nat) (i : Nat) : Fld :=
  ⟨A.SHAPE_RATE p i, 31, 1⟩
/-- SHAPE.BURST[24:0] BURST -/
def F.SHAPE_BURST_BURST (p : Nat) (i : Nat) : Fld :=
  ⟨A.SHAPE_BURST p i, 0, 25⟩
/-- SHAPE.GATE_CTL[0:0] GATE_EN -/
def F.SHAPE_GATE_CTL_GATE_EN (p : Nat) : Fld :=
  ⟨A.SHAPE_GATE_CTL p, 0, 1⟩
/-- SHAPE.GATE_CTL[8:8] SWAP_PENDING -/
def F.SHAPE_GATE_CTL_SWAP_PENDING (p : Nat) : Fld :=
  ⟨A.SHAPE_GATE_CTL p, 8, 1⟩
/-- SHAPE.GATE_LEN[6:0] LEN0 -/
def F.SHAPE_GATE_LEN_LEN0 (p : Nat) : Fld :=
  ⟨A.SHAPE_GATE_LEN p, 0, 7⟩
/-- SHAPE.GATE_LEN[14:8] LEN1 -/
def F.SHAPE_GATE_LEN_LEN1 (p : Nat) : Fld :=
  ⟨A.SHAPE_GATE_LEN p, 8, 7⟩
/-- SHAPE.GATE_BASE[63:0] BASE -/
def F.SHAPE_GATE_BASE_BASE (p : Nat) : Fld :=
  ⟨A.SHAPE_GATE_BASE p, 0, 64⟩
/-- SHAPE.SWAP_AT[63:0] AT -/
def F.SHAPE_SWAP_AT_AT (p : Nat) : Fld :=
  ⟨A.SHAPE_SWAP_AT p, 0, 64⟩
/-- SHAPE.GATE_GUARD[7:0] GUARD -/
def F.SHAPE_GATE_GUARD_GUARD (p : Nat) : Fld :=
  ⟨A.SHAPE_GATE_GUARD p, 0, 8⟩
/-- SHAPE.QUANTUM[31:0] Q -/
def F.SHAPE_QUANTUM_Q (p : Nat) : Fld :=
  ⟨A.SHAPE_QUANTUM p, 0, 32⟩
/-- SHAPE.GATE_POS[5:0] ENTRY -/
def F.SHAPE_GATE_POS_ENTRY (p : Nat) : Fld :=
  ⟨A.SHAPE_GATE_POS p, 0, 6⟩
/-- SHAPE.GATE_POS[8:8] BANK -/
def F.SHAPE_GATE_POS_BANK (p : Nat) : Fld :=
  ⟨A.SHAPE_GATE_POS p, 8, 1⟩
/-- SHAPE.GATE0[5:0] OPEN -/
def F.SHAPE_GATE0_OPEN (p : Nat) (i : Nat) : Fld :=
  ⟨A.SHAPE_GATE0 p i, 0, 6⟩
/-- SHAPE.GATE0[31:8] DURATION -/
def F.SHAPE_GATE0_DURATION (p : Nat) (i : Nat) : Fld :=
  ⟨A.SHAPE_GATE0 p i, 8, 24⟩
/-- SHAPE.GATE1[5:0] OPEN -/
def F.SHAPE_GATE1_OPEN (p : Nat) (i : Nat) : Fld :=
  ⟨A.SHAPE_GATE1 p i, 0, 6⟩
/-- SHAPE.GATE1[31:8] DURATION -/
def F.SHAPE_GATE1_DURATION (p : Nat) (i : Nat) : Fld :=
  ⟨A.SHAPE_GATE1 p i, 8, 24⟩
/-- SHAPE.LEVEL[31:0] BYTES -/
def F.SHAPE_LEVEL_BYTES (p : Nat) (i : Nat) : Fld :=
  ⟨A.SHAPE_LEVEL p i, 0, 32⟩
/-- TIME.CFG[0:0] GM -/
def F.TIME_CFG_GM : Fld :=
  ⟨A.TIME_CFG, 0, 1⟩
/-- TIME.CFG[1:1] PPS_IN_EN -/
def F.TIME_CFG_PPS_IN_EN : Fld :=
  ⟨A.TIME_CFG, 1, 1⟩
/-- TIME.CFG[2:2] PPS_OUT_EN -/
def F.TIME_CFG_PPS_OUT_EN : Fld :=
  ⟨A.TIME_CFG, 2, 1⟩
/-- TIME.CFG[3:3] PARENT_EN -/
def F.TIME_CFG_PARENT_EN : Fld :=
  ⟨A.TIME_CFG, 3, 1⟩
/-- TIME.CFG[4:4] BACKUP_EN -/
def F.TIME_CFG_BACKUP_EN : Fld :=
  ⟨A.TIME_CFG, 4, 1⟩
/-- TIME.CFG[15:8] PARENT_PORT -/
def F.TIME_CFG_PARENT_PORT : Fld :=
  ⟨A.TIME_CFG, 8, 8⟩
/-- TIME.CFG[23:16] BACKUP_PORT -/
def F.TIME_CFG_BACKUP_PORT : Fld :=
  ⟨A.TIME_CFG, 16, 8⟩
/-- TIME.INTERVAL[11:0] SYNC_US -/
def F.TIME_INTERVAL_SYNC_US : Fld :=
  ⟨A.TIME_INTERVAL, 0, 12⟩
/-- TIME.STEP_LIMIT[15:0] NS -/
def F.TIME_STEP_LIMIT_NS : Fld :=
  ⟨A.TIME_STEP_LIMIT, 0, 16⟩
/-- TIME.LOCK_NS[15:0] NS -/
def F.TIME_LOCK_NS_NS : Fld :=
  ⟨A.TIME_LOCK_NS, 0, 16⟩
/-- TIME.RATE_ADJ[31:0] ADJ -/
def F.TIME_RATE_ADJ_ADJ : Fld :=
  ⟨A.TIME_RATE_ADJ, 0, 32⟩
/-- TIME.CMD[0:0] LATCH -/
def F.TIME_CMD_LATCH : Fld :=
  ⟨A.TIME_CMD, 0, 1⟩
/-- TIME.CMD[1:1] SET -/
def F.TIME_CMD_SET : Fld :=
  ⟨A.TIME_CMD, 1, 1⟩
/-- TIME.CMD[2:2] RESTART -/
def F.TIME_CMD_RESTART : Fld :=
  ⟨A.TIME_CMD, 2, 1⟩
/-- TIME.OFFSET[31:0] NS -/
def F.TIME_OFFSET_NS : Fld :=
  ⟨A.TIME_OFFSET, 0, 32⟩
/-- TIME.DELAY[31:0] NS -/
def F.TIME_DELAY_NS : Fld :=
  ⟨A.TIME_DELAY, 0, 32⟩
/-- TIME.PPS_DELAY[31:0] NS -/
def F.TIME_PPS_DELAY_NS : Fld :=
  ⟨A.TIME_PPS_DELAY, 0, 32⟩
/-- TIME.PPS_CAP[63:0] NS -/
def F.TIME_PPS_CAP_NS : Fld :=
  ⟨A.TIME_PPS_CAP, 0, 64⟩
/-- TIME.ASYM[31:0] NS -/
def F.TIME_ASYM_NS (i : Nat) : Fld :=
  ⟨A.TIME_ASYM i, 0, 32⟩
/-- TIME.PORT_EN[31:0] EN -/
def F.TIME_PORT_EN_EN (i : Nat) : Fld :=
  ⟨A.TIME_PORT_EN i, 0, 32⟩
/-- COLL.CFG[11:0] RESEND_US -/
def F.COLL_CFG_RESEND_US : Fld :=
  ⟨A.COLL_CFG, 0, 12⟩
/-- COLL.WATCHDOG[15:0] WATCHDOG_US -/
def F.COLL_WATCHDOG_WATCHDOG_US : Fld :=
  ⟨A.COLL_WATCHDOG, 0, 16⟩
/-- COLL.CAUSE_LINE[11:0] LINE -/
def F.COLL_CAUSE_LINE_LINE : Fld :=
  ⟨A.COLL_CAUSE_LINE, 0, 12⟩
/-- COLL.CAUSE_LINE[31:31] VALID -/
def F.COLL_CAUSE_LINE_VALID : Fld :=
  ⟨A.COLL_CAUSE_LINE, 31, 1⟩
/-- COLL.GROUP[15:0] MEMBER_BASE -/
def F.COLL_GROUP_MEMBER_BASE (i : Nat) : Fld :=
  ⟨A.COLL_GROUP i, 0, 16⟩
/-- COLL.GROUP[26:16] MEMBER_COUNT -/
def F.COLL_GROUP_MEMBER_COUNT (i : Nat) : Fld :=
  ⟨A.COLL_GROUP i, 16, 11⟩
/-- COLL.GROUP[29:28] ROLE -/
def F.COLL_GROUP_ROLE (i : Nat) : Fld :=
  ⟨A.COLL_GROUP i, 28, 2⟩
/-- COLL.GROUP[31:31] MODE -/
def F.COLL_GROUP_MODE (i : Nat) : Fld :=
  ⟨A.COLL_GROUP i, 31, 1⟩
/-- COLL.GROUP[13:0] PARENT_BASE -/
def F.COLL_GROUP_PARENT_BASE (i : Nat) : Fld :=
  ⟨A.COLL_GROUP i + 4, 0, 14⟩
/-- COLL.GROUP[22:16] PARENT_COUNT -/
def F.COLL_GROUP_PARENT_COUNT (i : Nat) : Fld :=
  ⟨A.COLL_GROUP i + 4, 16, 7⟩
/-- COLL.GROUP[6:0] SHARD_COUNT -/
def F.COLL_GROUP_SHARD_COUNT (i : Nat) : Fld :=
  ⟨A.COLL_GROUP i + 8, 0, 7⟩
/-- COLL.GROUP[13:8] SHARD_INDEX -/
def F.COLL_GROUP_SHARD_INDEX (i : Nat) : Fld :=
  ⟨A.COLL_GROUP i + 8, 8, 6⟩
/-- COLL.GROUP[19:16] UPPER_FMT -/
def F.COLL_GROUP_UPPER_FMT (i : Nat) : Fld :=
  ⟨A.COLL_GROUP i + 8, 16, 4⟩
/-- COLL.GROUP[23:20] OUT_FMT -/
def F.COLL_GROUP_OUT_FMT (i : Nat) : Fld :=
  ⟨A.COLL_GROUP i + 8, 20, 4⟩
/-- COLL.GROUP[26:24] OUT_MODE -/
def F.COLL_GROUP_OUT_MODE (i : Nat) : Fld :=
  ⟨A.COLL_GROUP i + 8, 24, 3⟩
/-- COLL.GROUP[27:27] OUT_SAT -/
def F.COLL_GROUP_OUT_SAT (i : Nat) : Fld :=
  ⟨A.COLL_GROUP i + 8, 27, 1⟩
/-- COLL.GROUP[15:0] GROUP_MEMBERS -/
def F.COLL_GROUP_GROUP_MEMBERS (i : Nat) : Fld :=
  ⟨A.COLL_GROUP i + 12, 0, 16⟩
/-- COLL.GROUP[31:0] CAPACITY -/
def F.COLL_GROUP_CAPACITY (i : Nat) : Fld :=
  ⟨A.COLL_GROUP i + 16, 0, 32⟩
/-- COLL.GROUP[63:0] SEED -/
def F.COLL_GROUP_SEED (i : Nat) : Fld :=
  ⟨A.COLL_GROUP i + 20, 0, 64⟩
/-- COLL.GROUP[15:0] STREAM -/
def F.COLL_GROUP_STREAM (i : Nat) : Fld :=
  ⟨A.COLL_GROUP i + 28, 0, 16⟩
/-- COLL.LINE_CTL[0:0] ENABLE -/
def F.COLL_LINE_CTL_ENABLE (i : Nat) : Fld :=
  ⟨A.COLL_LINE_CTL i, 0, 1⟩
/-- COLL.LINE_CTL[24:8] CHUNK_TIMER -/
def F.COLL_LINE_CTL_CHUNK_TIMER (i : Nat) : Fld :=
  ⟨A.COLL_LINE_CTL i, 8, 17⟩
/-- COLL.LINE_STATE[2:0] MACHINE -/
def F.COLL_LINE_STATE_MACHINE (i : Nat) : Fld :=
  ⟨A.COLL_LINE_STATE i, 0, 3⟩
/-- COLL.LINE_STATE[3:3] REQ -/
def F.COLL_LINE_STATE_REQ (i : Nat) : Fld :=
  ⟨A.COLL_LINE_STATE i, 3, 1⟩
/-- COLL.LINE_STATE[10:4] QUEUED -/
def F.COLL_LINE_STATE_QUEUED (i : Nat) : Fld :=
  ⟨A.COLL_LINE_STATE i, 4, 7⟩
/-- COLL.LINE_STATE[12:11] ACTIVE -/
def F.COLL_LINE_STATE_ACTIVE (i : Nat) : Fld :=
  ⟨A.COLL_LINE_STATE i, 11, 2⟩
/-- COLL.LINE_STATE[30:16] OPEN_CHUNKS -/
def F.COLL_LINE_STATE_OPEN_CHUNKS (i : Nat) : Fld :=
  ⟨A.COLL_LINE_STATE i, 16, 15⟩
/-- COLL.HEAD_STEP[63:0] STEP -/
def F.COLL_HEAD_STEP_STEP (i : Nat) : Fld :=
  ⟨A.COLL_HEAD_STEP i, 0, 64⟩
/-- COLL.LINE_INFO[7:0] HEAD_SUB -/
def F.COLL_LINE_INFO_HEAD_SUB (i : Nat) : Fld :=
  ⟨A.COLL_LINE_INFO i, 0, 8⟩
/-- COLL.LINE_INFO[15:8] MAP_SUB -/
def F.COLL_LINE_INFO_MAP_SUB (i : Nat) : Fld :=
  ⟨A.COLL_LINE_INFO i, 8, 8⟩
/-- COLL.LINE_INFO[23:16] LAST_STATUS -/
def F.COLL_LINE_INFO_LAST_STATUS (i : Nat) : Fld :=
  ⟨A.COLL_LINE_INFO i, 16, 8⟩
/-- COLL.LINE_INFO[24:24] MISMATCH_VALID -/
def F.COLL_LINE_INFO_MISMATCH_VALID (i : Nat) : Fld :=
  ⟨A.COLL_LINE_INFO i, 24, 1⟩
/-- COLL.LINE_INFO[25:25] MISSING_VALID -/
def F.COLL_LINE_INFO_MISSING_VALID (i : Nat) : Fld :=
  ⟨A.COLL_LINE_INFO i, 25, 1⟩
/-- COLL.LINE_INFO[26:26] PARENT_MISSING -/
def F.COLL_LINE_INFO_PARENT_MISSING (i : Nat) : Fld :=
  ⟨A.COLL_LINE_INFO i, 26, 1⟩
/-- COLL.MAP_STEP[63:0] STEP -/
def F.COLL_MAP_STEP_STEP (i : Nat) : Fld :=
  ⟨A.COLL_MAP_STEP i, 0, 64⟩
/-- COLL.MEMBER[15:0] NODE -/
def F.COLL_MEMBER_NODE (i : Nat) : Fld :=
  ⟨A.COLL_MEMBER i, 0, 16⟩
/-- COLL.MEMBER[31:16] MEMBER -/
def F.COLL_MEMBER_MEMBER (i : Nat) : Fld :=
  ⟨A.COLL_MEMBER i, 16, 16⟩
/-- COLL.MEMBER[0:0] KIND -/
def F.COLL_MEMBER_KIND (i : Nat) : Fld :=
  ⟨A.COLL_MEMBER i + 4, 0, 1⟩
/-- COLL.MEMBER[31:16] BELOW -/
def F.COLL_MEMBER_BELOW (i : Nat) : Fld :=
  ⟨A.COLL_MEMBER i + 4, 16, 16⟩
/-- COLL.PARENT[15:0] NODE -/
def F.COLL_PARENT_NODE (i : Nat) : Fld :=
  ⟨A.COLL_PARENT i, 0, 16⟩
/-- SECTION.CFG[11:0] IDLE_US -/
def F.SECTION_CFG_IDLE_US (s : Nat) : Fld :=
  ⟨A.SECTION_CFG s, 0, 12⟩
/-- SECTION.CFG[23:16] SUBST_LIMIT_MS -/
def F.SECTION_CFG_SUBST_LIMIT_MS (s : Nat) : Fld :=
  ⟨A.SECTION_CFG s, 16, 8⟩
/-- SECTION.CMD[4:0] LOGICAL -/
def F.SECTION_CMD_LOGICAL (s : Nat) : Fld :=
  ⟨A.SECTION_CMD s, 0, 5⟩
/-- SECTION.CMD[8:8] SUBST -/
def F.SECTION_CMD_SUBST (s : Nat) : Fld :=
  ⟨A.SECTION_CMD s, 8, 1⟩
/-- SECTION.CMD[9:9] RETURN -/
def F.SECTION_CMD_RETURN (s : Nat) : Fld :=
  ⟨A.SECTION_CMD s, 9, 1⟩
/-- SECTION.CMD[20:16] PHYS -/
def F.SECTION_CMD_PHYS (s : Nat) : Fld :=
  ⟨A.SECTION_CMD s, 16, 5⟩
/-- SECTION.SUBST_STATE[4:0] LOGICAL -/
def F.SECTION_SUBST_STATE_LOGICAL (s : Nat) : Fld :=
  ⟨A.SECTION_SUBST_STATE s, 0, 5⟩
/-- SECTION.SUBST_STATE[8:8] PENDING -/
def F.SECTION_SUBST_STATE_PENDING (s : Nat) : Fld :=
  ⟨A.SECTION_SUBST_STATE s, 8, 1⟩
/-- SECTION.SUBST_STATE[9:9] RETURNING -/
def F.SECTION_SUBST_STATE_RETURNING (s : Nat) : Fld :=
  ⟨A.SECTION_SUBST_STATE s, 9, 1⟩
/-- SECTION.SUBST_STATE[20:16] PHYS -/
def F.SECTION_SUBST_STATE_PHYS (s : Nat) : Fld :=
  ⟨A.SECTION_SUBST_STATE s, 16, 5⟩
/-- SECTION.REMAP[5:0] PHYS -/
def F.SECTION_REMAP_PHYS (s : Nat) (i : Nat) : Fld :=
  ⟨A.SECTION_REMAP s i, 0, 6⟩
/-- COACH.COACH_INFO[4:0] LOGICAL -/
def F.COACH_COACH_INFO_LOGICAL (s : Nat) (p : Nat) : Fld :=
  ⟨A.COACH_COACH_INFO s p, 0, 5⟩
/-- COACH.COACH_INFO[5:5] MAPPED -/
def F.COACH_COACH_INFO_MAPPED (s : Nat) (p : Nat) : Fld :=
  ⟨A.COACH_COACH_INFO s p, 5, 1⟩
/-- COACH.COACH_INFO[6:6] SPARE -/
def F.COACH_COACH_INFO_SPARE (s : Nat) (p : Nat) : Fld :=
  ⟨A.COACH_COACH_INFO s p, 6, 1⟩
/-- COACH.COACH_INFO[31:16] ARRAY_OK -/
def F.COACH_COACH_INFO_ARRAY_OK (s : Nat) (p : Nat) : Fld :=
  ⟨A.COACH_COACH_INFO s p, 16, 16⟩
/-- COACH.RUNQ[4:0] Q_STATION -/
def F.COACH_RUNQ_Q_STATION (s : Nat) (p : Nat) : Fld :=
  ⟨A.COACH_RUNQ s p, 0, 5⟩
/-- COACH.RUNQ[12:8] Q_UPDATE -/
def F.COACH_RUNQ_Q_UPDATE (s : Nat) (p : Nat) : Fld :=
  ⟨A.COACH_RUNQ s p, 8, 5⟩
/-- COACH.RUNQ[20:16] Q_FIRMWARE -/
def F.COACH_RUNQ_Q_FIRMWARE (s : Nat) (p : Nat) : Fld :=
  ⟨A.COACH_RUNQ s p, 16, 5⟩
/-- COACH.RUNQ[28:24] RUNNING -/
def F.COACH_RUNQ_RUNNING (s : Nat) (p : Nat) : Fld :=
  ⟨A.COACH_RUNQ s p, 24, 5⟩
/-- COACH.SEQ_CFG[15:0] WATCHDOG_US -/
def F.COACH_SEQ_CFG_WATCHDOG_US (s : Nat) (p : Nat) : Fld :=
  ⟨A.COACH_SEQ_CFG s p, 0, 16⟩
/-- COACH.LAST_FW_TAG[31:0] TAG -/
def F.COACH_LAST_FW_TAG_TAG (s : Nat) (p : Nat) : Fld :=
  ⟨A.COACH_LAST_FW_TAG s p, 0, 32⟩
/-- COACH.RED_STATE[16:0] RECORD_FREE -/
def F.COACH_RED_STATE_RECORD_FREE (s : Nat) (p : Nat) : Fld :=
  ⟨A.COACH_RED_STATE s p, 0, 17⟩
/-- COACH.RED_STATE[31:20] CHUNKS -/
def F.COACH_RED_STATE_CHUNKS (s : Nat) (p : Nat) : Fld :=
  ⟨A.COACH_RED_STATE s p, 20, 12⟩
/-- COACH.RED_CAPTURE[11:0] LINE -/
def F.COACH_RED_CAPTURE_LINE (s : Nat) (p : Nat) : Fld :=
  ⟨A.COACH_RED_CAPTURE s p, 0, 12⟩
/-- COACH.RED_CAPTURE[27:12] CHUNK -/
def F.COACH_RED_CAPTURE_CHUNK (s : Nat) (p : Nat) : Fld :=
  ⟨A.COACH_RED_CAPTURE s p, 12, 16⟩
/-- COACH.RED_CAPTURE[30:28] EVENT -/
def F.COACH_RED_CAPTURE_EVENT (s : Nat) (p : Nat) : Fld :=
  ⟨A.COACH_RED_CAPTURE s p, 28, 3⟩
/-- COACH.RED_CAPTURE[31:31] VALID -/
def F.COACH_RED_CAPTURE_VALID (s : Nat) (p : Nat) : Fld :=
  ⟨A.COACH_RED_CAPTURE s p, 31, 1⟩
/-- COACH.RED_CAPTURE_STEP[63:0] STEP -/
def F.COACH_RED_CAPTURE_STEP_STEP (s : Nat) (p : Nat) : Fld :=
  ⟨A.COACH_RED_CAPTURE_STEP s p, 0, 64⟩
/-- UPDATE.CFG[27:0] HP_PAGE -/
def F.UPDATE_CFG_HP_PAGE : Fld :=
  ⟨A.UPDATE_CFG, 0, 28⟩
/-- UPDATE.CAPTURE[11:0] TENSOR -/
def F.UPDATE_CAPTURE_TENSOR : Fld :=
  ⟨A.UPDATE_CAPTURE, 0, 12⟩
/-- UPDATE.CAPTURE[15:12] EVENT -/
def F.UPDATE_CAPTURE_EVENT : Fld :=
  ⟨A.UPDATE_CAPTURE, 12, 4⟩
/-- UPDATE.CAPTURE[31:31] VALID -/
def F.UPDATE_CAPTURE_VALID : Fld :=
  ⟨A.UPDATE_CAPTURE, 31, 1⟩
/-- UPDATE.CAPTURE_ELEM[31:0] ELEM -/
def F.UPDATE_CAPTURE_ELEM_ELEM : Fld :=
  ⟨A.UPDATE_CAPTURE_ELEM, 0, 32⟩
/-- UPDATE.CAPTURE_STEP[63:0] STEP -/
def F.UPDATE_CAPTURE_STEP_STEP : Fld :=
  ⟨A.UPDATE_CAPTURE_STEP, 0, 64⟩
/-- UPDATE.LINE_TENSOR[11:0] BASE -/
def F.UPDATE_LINE_TENSOR_BASE (i : Nat) : Fld :=
  ⟨A.UPDATE_LINE_TENSOR i, 0, 12⟩
/-- UPDATE.LINE_TENSOR[31:31] VALID -/
def F.UPDATE_LINE_TENSOR_VALID (i : Nat) : Fld :=
  ⟨A.UPDATE_LINE_TENSOR i, 31, 1⟩
/-- UPDATE.TENSOR[27:0] RECORD_PAGE -/
def F.UPDATE_TENSOR_RECORD_PAGE (i : Nat) : Fld :=
  ⟨A.UPDATE_TENSOR i, 0, 28⟩
/-- UPDATE.TENSOR[27:0] EXT_PAGE -/
def F.UPDATE_TENSOR_EXT_PAGE (i : Nat) : Fld :=
  ⟨A.UPDATE_TENSOR i + 4, 0, 28⟩
/-- UPDATE.TENSOR[27:0] WEIGHT_PAGE -/
def F.UPDATE_TENSOR_WEIGHT_PAGE (i : Nat) : Fld :=
  ⟨A.UPDATE_TENSOR i + 8, 0, 28⟩
/-- UPDATE.TENSOR[31:0] ELEMS -/
def F.UPDATE_TENSOR_ELEMS (i : Nat) : Fld :=
  ⟨A.UPDATE_TENSOR i + 12, 0, 32⟩
/-- UPDATE.TENSOR[63:0] T0 -/
def F.UPDATE_TENSOR_T0 (i : Nat) : Fld :=
  ⟨A.UPDATE_TENSOR i + 16, 0, 64⟩
/-- UPDATE.TENSOR[5:0] RULE -/
def F.UPDATE_TENSOR_RULE (i : Nat) : Fld :=
  ⟨A.UPDATE_TENSOR i + 24, 0, 6⟩
/-- UPDATE.TENSOR[6:6] LAYOUT -/
def F.UPDATE_TENSOR_LAYOUT (i : Nat) : Fld :=
  ⟨A.UPDATE_TENSOR i + 24, 6, 1⟩
/-- UPDATE.TENSOR[7:7] FROZEN -/
def F.UPDATE_TENSOR_FROZEN (i : Nat) : Fld :=
  ⟨A.UPDATE_TENSOR i + 24, 7, 1⟩
/-- UPDATE.TENSOR[8:8] GRAD_OUT -/
def F.UPDATE_TENSOR_GRAD_OUT (i : Nat) : Fld :=
  ⟨A.UPDATE_TENSOR i + 24, 8, 1⟩
/-- UPDATE.TENSOR[9:9] SOURCE -/
def F.UPDATE_TENSOR_SOURCE (i : Nat) : Fld :=
  ⟨A.UPDATE_TENSOR i + 24, 9, 1⟩
/-- UPDATE.TENSOR[13:10] WEIGHT_FMT -/
def F.UPDATE_TENSOR_WEIGHT_FMT (i : Nat) : Fld :=
  ⟨A.UPDATE_TENSOR i + 24, 10, 4⟩
/-- UPDATE.TENSOR[16:14] WEIGHT_MODE -/
def F.UPDATE_TENSOR_WEIGHT_MODE (i : Nat) : Fld :=
  ⟨A.UPDATE_TENSOR i + 24, 14, 3⟩
/-- UPDATE.TENSOR[0:0] VALID -/
def F.UPDATE_TENSOR_VALID (i : Nat) : Fld :=
  ⟨A.UPDATE_TENSOR i + 28, 0, 1⟩
/-- UPDATE.TENSOR[31:16] STREAM -/
def F.UPDATE_TENSOR_STREAM (i : Nat) : Fld :=
  ⟨A.UPDATE_TENSOR i + 28, 16, 16⟩
/-- UPDATE.RULE[31:0] BETA1 -/
def F.UPDATE_RULE_BETA1 (i : Nat) : Fld :=
  ⟨A.UPDATE_RULE i, 0, 32⟩
/-- UPDATE.RULE[31:0] BETA2 -/
def F.UPDATE_RULE_BETA2 (i : Nat) : Fld :=
  ⟨A.UPDATE_RULE i + 4, 0, 32⟩
/-- UPDATE.RULE[31:0] EPS -/
def F.UPDATE_RULE_EPS (i : Nat) : Fld :=
  ⟨A.UPDATE_RULE i + 8, 0, 32⟩
/-- UPDATE.RULE[31:0] PC_EPS -/
def F.UPDATE_RULE_PC_EPS (i : Nat) : Fld :=
  ⟨A.UPDATE_RULE i + 12, 0, 32⟩
/-- UPDATE.RULE[0:0] VALID -/
def F.UPDATE_RULE_VALID (i : Nat) : Fld :=
  ⟨A.UPDATE_RULE i + 28, 0, 1⟩
/-- UPDATE.RULE[3:1] KIND -/
def F.UPDATE_RULE_KIND (i : Nat) : Fld :=
  ⟨A.UPDATE_RULE i + 28, 1, 3⟩
/-- UPDATE.RULE[4:4] NESTEROV -/
def F.UPDATE_RULE_NESTEROV (i : Nat) : Fld :=
  ⟨A.UPDATE_RULE i + 28, 4, 1⟩
/-- UPDATE.RULE[5:5] AMS -/
def F.UPDATE_RULE_AMS (i : Nat) : Fld :=
  ⟨A.UPDATE_RULE i + 28, 5, 1⟩
/-- UPDATE.RULE[6:6] BIAS_CORR -/
def F.UPDATE_RULE_BIAS_CORR (i : Nat) : Fld :=
  ⟨A.UPDATE_RULE i + 28, 6, 1⟩
/-- UPDATE.RULE[7:7] MOM_RSR -/
def F.UPDATE_RULE_MOM_RSR (i : Nat) : Fld :=
  ⟨A.UPDATE_RULE i + 28, 7, 1⟩
/-- UPDATE.RULE[23:8] REFRESH -/
def F.UPDATE_RULE_REFRESH (i : Nat) : Fld :=
  ⟨A.UPDATE_RULE i + 28, 8, 16⟩
/-- UPDATE.RULE[31:24] ITER -/
def F.UPDATE_RULE_ITER (i : Nat) : Fld :=
  ⟨A.UPDATE_RULE i + 28, 24, 8⟩
/-- STATION.ACT_PAGE[27:0] PAGE -/
def F.STATION_ACT_PAGE_PAGE : Fld :=
  ⟨A.STATION_ACT_PAGE, 0, 28⟩
/-- STATION.ACT_BLOCKS[16:0] BLOCKS -/
def F.STATION_ACT_BLOCKS_BLOCKS : Fld :=
  ⟨A.STATION_ACT_BLOCKS, 0, 17⟩
/-- STATION.ACT_FREE[16:0] BLOCKS -/
def F.STATION_ACT_FREE_BLOCKS : Fld :=
  ⟨A.STATION_ACT_FREE, 0, 17⟩
/-- STATION.CFG[15:0] ACT_HOLD_MS -/
def F.STATION_CFG_ACT_HOLD_MS : Fld :=
  ⟨A.STATION_CFG, 0, 16⟩
/-- STATION.CAPTURE[11:0] LINE -/
def F.STATION_CAPTURE_LINE : Fld :=
  ⟨A.STATION_CAPTURE, 0, 12⟩
/-- STATION.CAPTURE[15:12] EVENT -/
def F.STATION_CAPTURE_EVENT : Fld :=
  ⟨A.STATION_CAPTURE, 12, 4⟩
/-- STATION.CAPTURE[25:16] EXPERT -/
def F.STATION_CAPTURE_EXPERT : Fld :=
  ⟨A.STATION_CAPTURE, 16, 10⟩
/-- STATION.CAPTURE[31:31] VALID -/
def F.STATION_CAPTURE_VALID : Fld :=
  ⟨A.STATION_CAPTURE, 31, 1⟩
/-- STATION.CAPTURE_STEP[63:0] STEP -/
def F.STATION_CAPTURE_STEP_STEP : Fld :=
  ⟨A.STATION_CAPTURE_STEP, 0, 64⟩
/-- STATION.STN_CTL[0:0] ENABLE -/
def F.STATION_STN_CTL_ENABLE (i : Nat) : Fld :=
  ⟨A.STATION_STN_CTL i, 0, 1⟩
/-- STATION.STN_STATE[2:0] MACHINE -/
def F.STATION_STN_STATE_MACHINE (i : Nat) : Fld :=
  ⟨A.STATION_STN_STATE i, 0, 3⟩
/-- STATION.STN_STATE[3:3] REQ -/
def F.STATION_STN_STATE_REQ (i : Nat) : Fld :=
  ⟨A.STATION_STN_STATE i, 3, 1⟩
/-- STATION.STN_STATE[23:16] ENTRIES -/
def F.STATION_STN_STATE_ENTRIES (i : Nat) : Fld :=
  ⟨A.STATION_STN_STATE i, 16, 8⟩
/-- STATION.RET_PAGE[27:0] PAGE -/
def F.STATION_RET_PAGE_PAGE (i : Nat) : Fld :=
  ⟨A.STATION_RET_PAGE i, 0, 28⟩
/-- STATION.RET_CFG[4:0] RET_BLOCKS -/
def F.STATION_RET_CFG_RET_BLOCKS (i : Nat) : Fld :=
  ⟨A.STATION_RET_CFG i, 0, 5⟩
/-- STATION.EXPERT[11:0] TENSOR -/
def F.STATION_EXPERT_TENSOR (i : Nat) : Fld :=
  ⟨A.STATION_EXPERT i, 0, 12⟩
/-- STATION.EXPERT[15:12] SECTION -/
def F.STATION_EXPERT_SECTION (i : Nat) : Fld :=
  ⟨A.STATION_EXPERT i, 12, 4⟩
/-- STATION.EXPERT[20:16] COACH_FIRST -/
def F.STATION_EXPERT_COACH_FIRST (i : Nat) : Fld :=
  ⟨A.STATION_EXPERT i, 16, 5⟩
/-- STATION.EXPERT[26:21] COACH_COUNT -/
def F.STATION_EXPERT_COACH_COUNT (i : Nat) : Fld :=
  ⟨A.STATION_EXPERT i, 21, 6⟩
/-- STATION.EXPERT[29:28] ACT -/
def F.STATION_EXPERT_ACT (i : Nat) : Fld :=
  ⟨A.STATION_EXPERT i, 28, 2⟩
/-- STATION.EXPERT[9:0] DW -/
def F.STATION_EXPERT_DW (i : Nat) : Fld :=
  ⟨A.STATION_EXPERT i + 4, 0, 10⟩
/-- STATION.EXPERT[25:16] HW -/
def F.STATION_EXPERT_HW (i : Nat) : Fld :=
  ⟨A.STATION_EXPERT i + 4, 16, 10⟩
/-- STATION.EXPERT[11:0] CAP32 -/
def F.STATION_EXPERT_CAP32 (i : Nat) : Fld :=
  ⟨A.STATION_EXPERT i + 8, 0, 12⟩
/-- STATION.EXPERT[3:0] HID_FMT -/
def F.STATION_EXPERT_HID_FMT (i : Nat) : Fld :=
  ⟨A.STATION_EXPERT i + 12, 0, 4⟩
/-- STATION.EXPERT[11:0] REPLICA_GROUP -/
def F.STATION_EXPERT_REPLICA_GROUP (i : Nat) : Fld :=
  ⟨A.STATION_EXPERT i + 16, 0, 12⟩
/-- STATION.EXPERT[15:15] REPLICA_EN -/
def F.STATION_EXPERT_REPLICA_EN (i : Nat) : Fld :=
  ⟨A.STATION_EXPERT i + 16, 15, 1⟩
/-- STATION.EXPERT[31:16] REPLICA_MEMBER -/
def F.STATION_EXPERT_REPLICA_MEMBER (i : Nat) : Fld :=
  ⟨A.STATION_EXPERT i + 16, 16, 16⟩
/-- STATION.EXPERT[0:0] VALID -/
def F.STATION_EXPERT_VALID (i : Nat) : Fld :=
  ⟨A.STATION_EXPERT i + 28, 0, 1⟩
/-- STATION.EXPERT[1:1] STALE -/
def F.STATION_EXPERT_STALE (i : Nat) : Fld :=
  ⟨A.STATION_EXPERT i + 28, 1, 1⟩
/-- STATION.STATION_LINE[9:0] EXPERT_BASE -/
def F.STATION_STATION_LINE_EXPERT_BASE (i : Nat) : Fld :=
  ⟨A.STATION_STATION_LINE i, 0, 10⟩
/-- STATION.STATION_LINE[20:10] NEXP -/
def F.STATION_STATION_LINE_NEXP (i : Nat) : Fld :=
  ⟨A.STATION_STATION_LINE i, 10, 11⟩
/-- STATION.STATION_LINE[23:21] OUT_MODE -/
def F.STATION_STATION_LINE_OUT_MODE (i : Nat) : Fld :=
  ⟨A.STATION_STATION_LINE i, 21, 3⟩
/-- STATION.STATION_LINE[24:24] OUT_SAT -/
def F.STATION_STATION_LINE_OUT_SAT (i : Nat) : Fld :=
  ⟨A.STATION_STATION_LINE i, 24, 1⟩
/-- STATION.STATION_LINE[31:31] VALID -/
def F.STATION_STATION_LINE_VALID (i : Nat) : Fld :=
  ⟨A.STATION_STATION_LINE i, 31, 1⟩
/-- HBM.CFG[7:0] SCRUB_H -/
def F.HBM_CFG_SCRUB_H (n : Nat) : Fld :=
  ⟨A.HBM_CFG n, 0, 8⟩
/-- HBM.INFO[11:0] TEMP -/
def F.HBM_INFO_TEMP (n : Nat) : Fld :=
  ⟨A.HBM_INFO n, 0, 12⟩
/-- HBM.INFO[23:16] SHELTER_USED -/
def F.HBM_INFO_SHELTER_USED (n : Nat) : Fld :=
  ⟨A.HBM_INFO n, 16, 8⟩
/-- HBM.INFO[31:24] RETIRED -/
def F.HBM_INFO_RETIRED (n : Nat) : Fld :=
  ⟨A.HBM_INFO n, 24, 8⟩
/-- HBM.REPAIR_ADDR[4:0] PC -/
def F.HBM_REPAIR_ADDR_PC (n : Nat) : Fld :=
  ⟨A.HBM_REPAIR_ADDR n, 0, 5⟩
/-- HBM.REPAIR_ADDR[13:8] BANK -/
def F.HBM_REPAIR_ADDR_BANK (n : Nat) : Fld :=
  ⟨A.HBM_REPAIR_ADDR n, 8, 6⟩
/-- HBM.REPAIR_ADDR[30:16] ROW -/
def F.HBM_REPAIR_ADDR_ROW (n : Nat) : Fld :=
  ⟨A.HBM_REPAIR_ADDR n, 16, 15⟩
/-- HBM.REPAIR_CMD[0:0] START -/
def F.HBM_REPAIR_CMD_START (n : Nat) : Fld :=
  ⟨A.HBM_REPAIR_CMD n, 0, 1⟩
/-- HBM.REPAIR_STATE[0:0] BUSY -/
def F.HBM_REPAIR_STATE_BUSY (n : Nat) : Fld :=
  ⟨A.HBM_REPAIR_STATE n, 0, 1⟩
/-- HBM.REPAIR_STATE[15:8] LEFT -/
def F.HBM_REPAIR_STATE_LEFT (n : Nat) : Fld :=
  ⟨A.HBM_REPAIR_STATE n, 8, 8⟩
/-- HBM.UE_ADDR[38:4] ADDR -/
def F.HBM_UE_ADDR_ADDR (n : Nat) : Fld :=
  ⟨A.HBM_UE_ADDR n, 4, 35⟩
/-- HBM.UE_ADDR[63:63] VALID -/
def F.HBM_UE_ADDR_VALID (n : Nat) : Fld :=
  ⟨A.HBM_UE_ADDR n, 63, 1⟩
/-- WINDOW.SPACE_BASE[16:0] BASE -/
def F.WINDOW_SPACE_BASE_BASE (i : Nat) : Fld :=
  ⟨A.WINDOW_SPACE_BASE i, 0, 17⟩
/-- WINDOW.SPACE_SIZE[16:0] SIZE -/
def F.WINDOW_SPACE_SIZE_SIZE (i : Nat) : Fld :=
  ⟨A.WINDOW_SPACE_SIZE i, 0, 17⟩
/-- WINDOW.DUP_CFG[16:0] DUP_US -/
def F.WINDOW_DUP_CFG_DUP_US : Fld :=
  ⟨A.WINDOW_DUP_CFG, 0, 17⟩
/-- WINDOW.FENCE_CFG[15:0] FENCE_US -/
def F.WINDOW_FENCE_CFG_FENCE_US : Fld :=
  ⟨A.WINDOW_FENCE_CFG, 0, 16⟩
/-- WINDOW.FENCE_CFG[23:16] FENCE_IDLE_MS -/
def F.WINDOW_FENCE_CFG_FENCE_IDLE_MS : Fld :=
  ⟨A.WINDOW_FENCE_CFG, 16, 8⟩
/-- WINDOW.ACC_NODE[15:0] NODE -/
def F.WINDOW_ACC_NODE_NODE : Fld :=
  ⟨A.WINDOW_ACC_NODE, 0, 16⟩
/-- WINDOW.ACC_NODE[19:16] SPACE -/
def F.WINDOW_ACC_NODE_SPACE : Fld :=
  ⟨A.WINDOW_ACC_NODE, 16, 4⟩
/-- WINDOW.ACC_NODE[31:31] VALID -/
def F.WINDOW_ACC_NODE_VALID : Fld :=
  ⟨A.WINDOW_ACC_NODE, 31, 1⟩
/-- WINDOW.ACC_ADDR[39:0] OFFSET -/
def F.WINDOW_ACC_ADDR_OFFSET : Fld :=
  ⟨A.WINDOW_ACC_ADDR, 0, 40⟩
/-- WINDOW.CACHE_USED[14:0] ENTRIES -/
def F.WINDOW_CACHE_USED_ENTRIES : Fld :=
  ⟨A.WINDOW_CACHE_USED, 0, 15⟩
/-- WINDOW.WIN[27:0] BASE -/
def F.WINDOW_WIN_BASE (i : Nat) : Fld :=
  ⟨A.WINDOW_WIN i, 0, 28⟩
/-- WINDOW.WIN[31:28] SPACE -/
def F.WINDOW_WIN_SPACE (i : Nat) : Fld :=
  ⟨A.WINDOW_WIN i, 28, 4⟩
/-- WINDOW.WIN[27:0] SIZE -/
def F.WINDOW_WIN_SIZE (i : Nat) : Fld :=
  ⟨A.WINDOW_WIN i + 4, 0, 28⟩
/-- WINDOW.WIN[15:0] NODE_FIRST -/
def F.WINDOW_WIN_NODE_FIRST (i : Nat) : Fld :=
  ⟨A.WINDOW_WIN i + 8, 0, 16⟩
/-- WINDOW.WIN[31:16] NODE_LAST -/
def F.WINDOW_WIN_NODE_LAST (i : Nat) : Fld :=
  ⟨A.WINDOW_WIN i + 8, 16, 16⟩
/-- WINDOW.WIN[0:0] ENABLE -/
def F.WINDOW_WIN_ENABLE (i : Nat) : Fld :=
  ⟨A.WINDOW_WIN i + 12, 0, 1⟩
/-- WINDOW.WIN[3:1] RIGHTS -/
def F.WINDOW_WIN_RIGHTS (i : Nat) : Fld :=
  ⟨A.WINDOW_WIN i + 12, 1, 3⟩
/-- WINDOW.WIN[15:4] LIST_BASE -/
def F.WINDOW_WIN_LIST_BASE (i : Nat) : Fld :=
  ⟨A.WINDOW_WIN i + 12, 4, 12⟩
/-- WINDOW.WIN[28:16] LIST_COUNT -/
def F.WINDOW_WIN_LIST_COUNT (i : Nat) : Fld :=
  ⟨A.WINDOW_WIN i + 12, 16, 13⟩
/-- WINDOW.LIST[15:0] NODE -/
def F.WINDOW_LIST_NODE (i : Nat) : Fld :=
  ⟨A.WINDOW_LIST i, 0, 16⟩
/-- FAULT.STATUS[6:0] status_fields -/
def F.FAULT_STATUS_status_fields : Fld :=
  ⟨A.FAULT_STATUS, 0, 7⟩
/-- FAULT.STATUS[31:16] SEQ -/
def F.FAULT_STATUS_SEQ : Fld :=
  ⟨A.FAULT_STATUS, 16, 16⟩
/-- FAULT.RING_WR[31:0] WR -/
def F.FAULT_RING_WR_WR : Fld :=
  ⟨A.FAULT_RING_WR, 0, 32⟩
/-- FAULT.RING_RD[31:0] RD -/
def F.FAULT_RING_RD_RD : Fld :=
  ⟨A.FAULT_RING_RD, 0, 32⟩
/-- FAULT.RING_VIEW[2:0] VIEW -/
def F.FAULT_RING_VIEW_VIEW : Fld :=
  ⟨A.FAULT_RING_VIEW, 0, 3⟩
/-- FAULT.CFG[2:0] ATTN_LEVEL -/
def F.FAULT_CFG_ATTN_LEVEL : Fld :=
  ⟨A.FAULT_CFG, 0, 3⟩
/-- FAULT.CMD[17:0] DOMAIN -/
def F.FAULT_CMD_DOMAIN : Fld :=
  ⟨A.FAULT_CMD, 0, 18⟩
/-- FAULT.CMD[31:31] RELEASE -/
def F.FAULT_CMD_RELEASE : Fld :=
  ⟨A.FAULT_CMD, 31, 1⟩
/-- FAULT.POLICY_A[13:0] QUIET_MS -/
def F.FAULT_POLICY_A_QUIET_MS (i : Nat) : Fld :=
  ⟨A.FAULT_POLICY_A i, 0, 14⟩
/-- FAULT.POLICY_A[23:16] THRESHOLD -/
def F.FAULT_POLICY_A_THRESHOLD (i : Nat) : Fld :=
  ⟨A.FAULT_POLICY_A i, 16, 8⟩
/-- FAULT.POLICY_B[15:0] WINDOW_S -/
def F.FAULT_POLICY_B_WINDOW_S (i : Nat) : Fld :=
  ⟨A.FAULT_POLICY_B i, 0, 16⟩
/-- FAULT.SRC_CFG[2:0] SEVERITY -/
def F.FAULT_SRC_CFG_SEVERITY (i : Nat) : Fld :=
  ⟨A.FAULT_SRC_CFG i, 0, 3⟩
/-- FAULT.SRC_CFG[15:8] GAP -/
def F.FAULT_SRC_CFG_GAP (i : Nat) : Fld :=
  ⟨A.FAULT_SRC_CFG i, 8, 8⟩
/-- FAULT.SRC_CFG[18:16] FLOOR -/
def F.FAULT_SRC_CFG_FLOOR (i : Nat) : Fld :=
  ⟨A.FAULT_SRC_CFG i, 16, 3⟩
/-- FAULT.SRC_CFG[23:20] DOMAIN_KIND -/
def F.FAULT_SRC_CFG_DOMAIN_KIND (i : Nat) : Fld :=
  ⟨A.FAULT_SRC_CFG i, 20, 4⟩
/-- FAULT.SRC_COUNT[31:0] COUNT -/
def F.FAULT_SRC_COUNT_COUNT (i : Nat) : Fld :=
  ⟨A.FAULT_SRC_COUNT i, 0, 32⟩
/-- RESET.CFG[15:0] PROC_WD_MS -/
def F.RESET_CFG_PROC_WD_MS : Fld :=
  ⟨A.RESET_CFG, 0, 16⟩
/-- RESET.CMD[17:0] DOMAIN -/
def F.RESET_CMD_DOMAIN : Fld :=
  ⟨A.RESET_CMD, 0, 18⟩
/-- RESET.CMD[23:20] OP -/
def F.RESET_CMD_OP : Fld :=
  ⟨A.RESET_CMD, 20, 4⟩
/-- RESET.CMD[31:24] CONFIRM -/
def F.RESET_CMD_CONFIRM : Fld :=
  ⟨A.RESET_CMD, 24, 8⟩
/-- RESET.CORE_VIEW[9:0] COACH -/
def F.RESET_CORE_VIEW_COACH : Fld :=
  ⟨A.RESET_CORE_VIEW, 0, 10⟩
/-- RESET.KICK[7:0] PROC -/
def F.RESET_KICK_PROC : Fld :=
  ⟨A.RESET_KICK, 0, 8⟩
/-- RESET.CAPTURE[17:0] DOMAIN -/
def F.RESET_CAPTURE_DOMAIN : Fld :=
  ⟨A.RESET_CAPTURE, 0, 18⟩
/-- RESET.CAPTURE[31:31] VALID -/
def F.RESET_CAPTURE_VALID : Fld :=
  ⟨A.RESET_CAPTURE, 31, 1⟩
/-- RESET.LAST_MODULE_RESET[3:0] CAUSE -/
def F.RESET_LAST_MODULE_RESET_CAUSE : Fld :=
  ⟨A.RESET_LAST_MODULE_RESET, 0, 4⟩
/-- RESET.LAST_MODULE_RESET[21:4] DOMAIN -/
def F.RESET_LAST_MODULE_RESET_DOMAIN : Fld :=
  ⟨A.RESET_LAST_MODULE_RESET, 4, 18⟩
/-- RESET.LAST_MODULE_RESET[30:22] SOURCE -/
def F.RESET_LAST_MODULE_RESET_SOURCE : Fld :=
  ⟨A.RESET_LAST_MODULE_RESET, 22, 9⟩
/-- CONSORT.RUN_INFO[0:0] RUN_BANK -/
def F.CONSORT_RUN_INFO_RUN_BANK (q : Nat) : Fld :=
  ⟨A.CONSORT_RUN_INFO q, 0, 1⟩
/-- CONSORT.RUN_INFO[3:1] RESTART_KIND -/
def F.CONSORT_RUN_INFO_RESTART_KIND (q : Nat) : Fld :=
  ⟨A.CONSORT_RUN_INFO q, 1, 3⟩
/-- CONSORT.RUN_INFO[31:16] ILEVEL -/
def F.CONSORT_RUN_INFO_ILEVEL (q : Nat) : Fld :=
  ⟨A.CONSORT_RUN_INFO q, 16, 16⟩
/-- CONSORT.RUN_VERSION[31:0] VERSION -/
def F.CONSORT_RUN_VERSION_VERSION (q : Nat) : Fld :=
  ⟨A.CONSORT_RUN_VERSION q, 0, 32⟩
/-- CONSORT.RUN_SVN[31:0] SVN -/
def F.CONSORT_RUN_SVN_SVN (q : Nat) : Fld :=
  ⟨A.CONSORT_RUN_SVN q, 0, 32⟩
/-- CONSORT.ACT_STATE[2:0] ASTATE -/
def F.CONSORT_ACT_STATE_ASTATE (q : Nat) : Fld :=
  ⟨A.CONSORT_ACT_STATE q, 0, 3⟩
/-- CONSORT.ACT_STATE[4:4] TARGET_BANK -/
def F.CONSORT_ACT_STATE_TARGET_BANK (q : Nat) : Fld :=
  ⟨A.CONSORT_ACT_STATE q, 4, 1⟩
/-- CONSORT.ACT_STATE[15:8] LAST_RESULT -/
def F.CONSORT_ACT_STATE_LAST_RESULT (q : Nat) : Fld :=
  ⟨A.CONSORT_ACT_STATE q, 8, 8⟩
/-- CONSORT.ACT_CMD[0:0] ACTIVATE -/
def F.CONSORT_ACT_CMD_ACTIVATE (q : Nat) : Fld :=
  ⟨A.CONSORT_ACT_CMD q, 0, 1⟩
/-- CONSORT.ACT_CMD[1:1] CANCEL -/
def F.CONSORT_ACT_CMD_CANCEL (q : Nat) : Fld :=
  ⟨A.CONSORT_ACT_CMD q, 1, 1⟩
/-- CONSORT.ACT_CMD[4:4] BANK -/
def F.CONSORT_ACT_CMD_BANK (q : Nat) : Fld :=
  ⟨A.CONSORT_ACT_CMD q, 4, 1⟩
/-- CONSORT.TRACE_CFG[2:0] LEVEL -/
def F.CONSORT_TRACE_CFG_LEVEL (q : Nat) : Fld :=
  ⟨A.CONSORT_TRACE_CFG q, 0, 3⟩
/-- CONSORT.LOG_WR[31:0] WR -/
def F.CONSORT_LOG_WR_WR (q : Nat) : Fld :=
  ⟨A.CONSORT_LOG_WR q, 0, 32⟩
/-- CONSORT.LOG_VIEW[5:0] VIEW -/
def F.CONSORT_LOG_VIEW_VIEW (q : Nat) : Fld :=
  ⟨A.CONSORT_LOG_VIEW q, 0, 6⟩
/-- CONSORT.START_CFG[15:0] START_LIMIT_MS -/
def F.CONSORT_START_CFG_START_LIMIT_MS (q : Nat) : Fld :=
  ⟨A.CONSORT_START_CFG q, 0, 16⟩
/-- CONSORT.START_CFG[31:16] PROBATION_S -/
def F.CONSORT_START_CFG_PROBATION_S (q : Nat) : Fld :=
  ⟨A.CONSORT_START_CFG q, 16, 16⟩
/-- CONSORT.HEARTBEAT[31:0] SEQ -/
def F.CONSORT_HEARTBEAT_SEQ (q : Nat) : Fld :=
  ⟨A.CONSORT_HEARTBEAT q, 0, 32⟩
/-- CONSORT.HB_CFG[15:0] HB_TIMEOUT_MS -/
def F.CONSORT_HB_CFG_HB_TIMEOUT_MS (q : Nat) : Fld :=
  ⟨A.CONSORT_HB_CFG q, 0, 16⟩
/-- CONSORT.HEV_WR[31:0] WR -/
def F.CONSORT_HEV_WR_WR (q : Nat) : Fld :=
  ⟨A.CONSORT_HEV_WR q, 0, 32⟩
/-- CONSORT.HEV_RD[31:0] RD -/
def F.CONSORT_HEV_RD_RD (q : Nat) : Fld :=
  ⟨A.CONSORT_HEV_RD q, 0, 32⟩
/-- CONSORT.HEV_VIEW[6:0] VIEW -/
def F.CONSORT_HEV_VIEW_VIEW (q : Nat) : Fld :=
  ⟨A.CONSORT_HEV_VIEW q, 0, 7⟩
/-- CONSORT.IMG_CMD[3:0] OP -/
def F.CONSORT_IMG_CMD_OP (q : Nat) : Fld :=
  ⟨A.CONSORT_IMG_CMD q, 0, 4⟩
/-- CONSORT.IMG_CMD[4:4] BANK -/
def F.CONSORT_IMG_CMD_BANK (q : Nat) : Fld :=
  ⟨A.CONSORT_IMG_CMD q, 4, 1⟩
/-- CONSORT.BANK_STATE[3:0] BANK0 -/
def F.CONSORT_BANK_STATE_BANK0 (q : Nat) : Fld :=
  ⟨A.CONSORT_BANK_STATE q, 0, 4⟩
/-- CONSORT.BANK_STATE[7:4] BANK1 -/
def F.CONSORT_BANK_STATE_BANK1 (q : Nat) : Fld :=
  ⟨A.CONSORT_BANK_STATE q, 4, 4⟩
/-- CONSORT.BANK_STATE[8:8] BOOT_BANK -/
def F.CONSORT_BANK_STATE_BOOT_BANK (q : Nat) : Fld :=
  ⟨A.CONSORT_BANK_STATE q, 8, 1⟩
/-- CONSORT.BANK_STATE[9:9] PAUSED -/
def F.CONSORT_BANK_STATE_PAUSED (q : Nat) : Fld :=
  ⟨A.CONSORT_BANK_STATE q, 9, 1⟩
/-- CONSORT.BANK_STATE[15:12] INVALID_REASON -/
def F.CONSORT_BANK_STATE_INVALID_REASON (q : Nat) : Fld :=
  ⟨A.CONSORT_BANK_STATE q, 12, 4⟩
/-- CONSORT.STAGED_BYTES[31:0] BYTES -/
def F.CONSORT_STAGED_BYTES_BYTES (q : Nat) : Fld :=
  ⟨A.CONSORT_STAGED_BYTES q, 0, 32⟩
/-- CONSORT.EMERG_CLEAR_MS[15:0] MS -/
def F.CONSORT_EMERG_CLEAR_MS_MS (q : Nat) : Fld :=
  ⟨A.CONSORT_EMERG_CLEAR_MS q, 0, 16⟩
/-- CONSORT.TRACE_EN[31:0] EN -/
def F.CONSORT_TRACE_EN_EN (q : Nat) (i : Nat) : Fld :=
  ⟨A.CONSORT_TRACE_EN q i, 0, 32⟩
/-- POWER.BUDGET[11:0] WATTS -/
def F.POWER_BUDGET_WATTS : Fld :=
  ⟨A.POWER_BUDGET, 0, 12⟩
/-- POWER.OC_CFG[6:0] OC_A -/
def F.POWER_OC_CFG_OC_A : Fld :=
  ⟨A.POWER_OC_CFG, 0, 7⟩
/-- POWER.THERM_CFG[7:0] TARGET_C -/
def F.POWER_THERM_CFG_TARGET_C : Fld :=
  ⟨A.POWER_THERM_CFG, 0, 8⟩
/-- POWER.VIN[15:0] V -/
def F.POWER_VIN_V : Fld :=
  ⟨A.POWER_VIN, 0, 16⟩
/-- POWER.IIN[15:0] I -/
def F.POWER_IIN_I : Fld :=
  ⟨A.POWER_IIN, 0, 16⟩
/-- POWER.PIN[15:0] P -/
def F.POWER_PIN_P : Fld :=
  ⟨A.POWER_PIN, 0, 16⟩
/-- POWER.TEMP_MAX[11:0] TEMP -/
def F.POWER_TEMP_MAX_TEMP : Fld :=
  ⟨A.POWER_TEMP_MAX, 0, 12⟩
/-- POWER.TEMP_MAX[20:16] SENSOR -/
def F.POWER_TEMP_MAX_SENSOR : Fld :=
  ⟨A.POWER_TEMP_MAX, 16, 5⟩
/-- POWER.COOLANT[11:0] TEMP -/
def F.POWER_COOLANT_TEMP : Fld :=
  ⟨A.POWER_COOLANT, 0, 12⟩
/-- POWER.TOTAL[11:0] TOKENS -/
def F.POWER_TOTAL_TOKENS : Fld :=
  ⟨A.POWER_TOTAL, 0, 12⟩
/-- POWER.FREE[11:0] TOKENS -/
def F.POWER_FREE_TOKENS : Fld :=
  ⟨A.POWER_FREE, 0, 12⟩
/-- POWER.EMERG_CLEAR_MS[15:0] MS -/
def F.POWER_EMERG_CLEAR_MS_MS : Fld :=
  ⟨A.POWER_EMERG_CLEAR_MS, 0, 16⟩
/-- POWER.TRIP_LOG[0:0] THERM_TRIP -/
def F.POWER_TRIP_LOG_THERM_TRIP : Fld :=
  ⟨A.POWER_TRIP_LOG, 0, 1⟩
/-- POWER.TRIP_LOG[1:1] OC_TRIP -/
def F.POWER_TRIP_LOG_OC_TRIP : Fld :=
  ⟨A.POWER_TRIP_LOG, 1, 1⟩
/-- POWER.REC_CAP[11:0] CAP -/
def F.POWER_REC_CAP_CAP (i : Nat) : Fld :=
  ⟨A.POWER_REC_CAP i, 0, 12⟩
/-- POWER.REC_STATE[11:0] HELD -/
def F.POWER_REC_STATE_HELD (i : Nat) : Fld :=
  ⟨A.POWER_REC_STATE i, 0, 12⟩
/-- POWER.REC_STATE[27:16] DEMAND -/
def F.POWER_REC_STATE_DEMAND (i : Nat) : Fld :=
  ⟨A.POWER_REC_STATE i, 16, 12⟩
/-- POWER.REC_STATE[28:28] SHORT -/
def F.POWER_REC_STATE_SHORT (i : Nat) : Fld :=
  ⟨A.POWER_REC_STATE i, 28, 1⟩
/-- SIDING.CFG[15:0] NOTIFY_US -/
def F.SIDING_CFG_NOTIFY_US : Fld :=
  ⟨A.SIDING_CFG, 0, 16⟩
/-- SIDING.CFG[16:16] NOTIFY_EN -/
def F.SIDING_CFG_NOTIFY_EN : Fld :=
  ⟨A.SIDING_CFG, 16, 1⟩
/-- SIDING.BOOT_STATUS[3:0] STEP -/
def F.SIDING_BOOT_STATUS_STEP : Fld :=
  ⟨A.SIDING_BOOT_STATUS, 0, 4⟩
/-- SIDING.BOOT_STATUS[7:4] RESULT -/
def F.SIDING_BOOT_STATUS_RESULT : Fld :=
  ⟨A.SIDING_BOOT_STATUS, 4, 4⟩
/-- SIDING.BOOT_STATUS[8:8] FALLBACK -/
def F.SIDING_BOOT_STATUS_FALLBACK : Fld :=
  ⟨A.SIDING_BOOT_STATUS, 8, 1⟩
/-- SIDING.BOOT_STATUS[9:9] MAN_SLOT -/
def F.SIDING_BOOT_STATUS_MAN_SLOT : Fld :=
  ⟨A.SIDING_BOOT_STATUS, 9, 1⟩
/-- SIDING.BOOT_STATUS[31:16] ROM_VERSION -/
def F.SIDING_BOOT_STATUS_ROM_VERSION : Fld :=
  ⟨A.SIDING_BOOT_STATUS, 16, 16⟩
/-- SIDING.MAN_CMD[1:0] OP -/
def F.SIDING_MAN_CMD_OP : Fld :=
  ⟨A.SIDING_MAN_CMD, 0, 2⟩
/-- SIDING.MAN_STATE[2:0] STATE -/
def F.SIDING_MAN_STATE_STATE : Fld :=
  ⟨A.SIDING_MAN_STATE, 0, 3⟩
/-- SIDING.MAN_STATE[7:4] REASON -/
def F.SIDING_MAN_STATE_REASON : Fld :=
  ⟨A.SIDING_MAN_STATE, 4, 4⟩
/-- SIDING.MAN_STATE[31:16] STAGED -/
def F.SIDING_MAN_STATE_STAGED : Fld :=
  ⟨A.SIDING_MAN_STATE, 16, 16⟩
/-- SIDING.ATTEST_CMD[0:0] GO -/
def F.SIDING_ATTEST_CMD_GO : Fld :=
  ⟨A.SIDING_ATTEST_CMD, 0, 1⟩
/-- SIDING.ATTEST_STATUS[0:0] BUSY -/
def F.SIDING_ATTEST_STATUS_BUSY : Fld :=
  ⟨A.SIDING_ATTEST_STATUS, 0, 1⟩
/-- SIDING.ATTEST_STATUS[1:1] DONE -/
def F.SIDING_ATTEST_STATUS_DONE : Fld :=
  ⟨A.SIDING_ATTEST_STATUS, 1, 1⟩
/-- SIDING.ATTEST_STATUS[2:2] RESULT -/
def F.SIDING_ATTEST_STATUS_RESULT : Fld :=
  ⟨A.SIDING_ATTEST_STATUS, 2, 1⟩
/-- SIDING.ATTEST_STATUS[31:16] REPORT_SEQ -/
def F.SIDING_ATTEST_STATUS_REPORT_SEQ : Fld :=
  ⟨A.SIDING_ATTEST_STATUS, 16, 16⟩
/-- SIDING.DEVICE_TAG[31:0] TAG -/
def F.SIDING_DEVICE_TAG_TAG : Fld :=
  ⟨A.SIDING_DEVICE_TAG, 0, 32⟩
/-- SIDING.ID_INFO[12:0] CERT_LEN -/
def F.SIDING_ID_INFO_CERT_LEN : Fld :=
  ⟨A.SIDING_ID_INFO, 0, 13⟩
/-- SIDING.ID_INFO[17:16] ID_STATUS -/
def F.SIDING_ID_INFO_ID_STATUS : Fld :=
  ⟨A.SIDING_ID_INFO, 16, 2⟩
/-- SIDING.LANE_CTL[3:0] SLIP -/
def F.SIDING_LANE_CTL_SLIP (i : Nat) : Fld :=
  ⟨A.SIDING_LANE_CTL i, 0, 4⟩
/-- SIDING.LANE_CTL[4:4] ALIGNED -/
def F.SIDING_LANE_CTL_ALIGNED (i : Nat) : Fld :=
  ⟨A.SIDING_LANE_CTL i, 4, 1⟩
/-- SIDING.LANE_CTL[10:8] EQ -/
def F.SIDING_LANE_CTL_EQ (i : Nat) : Fld :=
  ⟨A.SIDING_LANE_CTL i, 8, 3⟩
/-- SIDING.LANE_STATE[0:0] SIGNAL -/
def F.SIDING_LANE_STATE_SIGNAL (i : Nat) : Fld :=
  ⟨A.SIDING_LANE_STATE i, 0, 1⟩
/-- SIDING.LANE_STATE[1:1] DESKEWED -/
def F.SIDING_LANE_STATE_DESKEWED (i : Nat) : Fld :=
  ⟨A.SIDING_LANE_STATE i, 1, 1⟩
/-- SIDING.LANE_STATE[2:2] SKEW_ERR -/
def F.SIDING_LANE_STATE_SKEW_ERR (i : Nat) : Fld :=
  ⟨A.SIDING_LANE_STATE i, 2, 1⟩
/-- SIDING.LANE_STATE[3:3] PARTNER_ALIGNED -/
def F.SIDING_LANE_STATE_PARTNER_ALIGNED (i : Nat) : Fld :=
  ⟨A.SIDING_LANE_STATE i, 3, 1⟩
/-- SIDING.EYE_CTL[5:0] PHASE -/
def F.SIDING_EYE_CTL_PHASE (i : Nat) : Fld :=
  ⟨A.SIDING_EYE_CTL i, 0, 6⟩
/-- SIDING.EYE_CTL[12:8] VOFF -/
def F.SIDING_EYE_CTL_VOFF (i : Nat) : Fld :=
  ⟨A.SIDING_EYE_CTL i, 8, 5⟩
/-- SIDING.EYE_CTL[19:16] DWELL -/
def F.SIDING_EYE_CTL_DWELL (i : Nat) : Fld :=
  ⟨A.SIDING_EYE_CTL i, 16, 4⟩
/-- SIDING.EYE_CMD[0:0] START -/
def F.SIDING_EYE_CMD_START (i : Nat) : Fld :=
  ⟨A.SIDING_EYE_CMD i, 0, 1⟩
/-- SIDING.EYE_CMD[1:1] ABORT -/
def F.SIDING_EYE_CMD_ABORT (i : Nat) : Fld :=
  ⟨A.SIDING_EYE_CMD i, 1, 1⟩
/-- SIDING.EYE_STATUS[0:0] BUSY -/
def F.SIDING_EYE_STATUS_BUSY (i : Nat) : Fld :=
  ⟨A.SIDING_EYE_STATUS i, 0, 1⟩
/-- SIDING.EYE_STATUS[1:1] DONE -/
def F.SIDING_EYE_STATUS_DONE (i : Nat) : Fld :=
  ⟨A.SIDING_EYE_STATUS i, 1, 1⟩
/-- SIDING.EYE_STATUS[3:3] ABORTED -/
def F.SIDING_EYE_STATUS_ABORTED (i : Nat) : Fld :=
  ⟨A.SIDING_EYE_STATUS i, 3, 1⟩
/-- SIDING.EYE_STATUS[31:16] POINT_SEQ -/
def F.SIDING_EYE_STATUS_POINT_SEQ (i : Nat) : Fld :=
  ⟨A.SIDING_EYE_STATUS i, 16, 16⟩
/-- SIDING.COMMA_HITS[31:0] COUNT -/
def F.SIDING_COMMA_HITS_COUNT (i : Nat) : Fld :=
  ⟨A.SIDING_COMMA_HITS i, 0, 32⟩
/-- SIDING.CODE_ERRS[31:0] COUNT -/
def F.SIDING_CODE_ERRS_COUNT (i : Nat) : Fld :=
  ⟨A.SIDING_CODE_ERRS i, 0, 32⟩
/-- SIDING.EYE_ERRS[31:0] COUNT -/
def F.SIDING_EYE_ERRS_COUNT (i : Nat) : Fld :=
  ⟨A.SIDING_EYE_ERRS i, 0, 32⟩
/-- PROT.LOCK[0:0] LOCKED -/
def F.PROT_LOCK_LOCKED : Fld :=
  ⟨A.PROT_LOCK, 0, 1⟩
/-- PROT.PROT_HASH[31:0] HASH -/
def F.PROT_PROT_HASH_HASH (i : Nat) : Fld :=
  ⟨A.PROT_PROT_HASH i, 0, 32⟩
/-- PROT.REGION_BASE[25:2] BASE -/
def F.PROT_REGION_BASE_BASE (i : Nat) : Fld :=
  ⟨A.PROT_REGION_BASE i, 2, 24⟩
/-- PROT.REGION_LIMIT[25:2] LIMIT -/
def F.PROT_REGION_LIMIT_LIMIT (i : Nat) : Fld :=
  ⟨A.PROT_REGION_LIMIT i, 2, 24⟩
/-- PROT.REGION_RIGHTS[0:0] EN -/
def F.PROT_REGION_RIGHTS_EN (i : Nat) : Fld :=
  ⟨A.PROT_REGION_RIGHTS i, 0, 1⟩
/-- PROT.REGION_RIGHTS[1:1] CR -/
def F.PROT_REGION_RIGHTS_CR (i : Nat) : Fld :=
  ⟨A.PROT_REGION_RIGHTS i, 1, 1⟩
/-- PROT.REGION_RIGHTS[2:2] CW -/
def F.PROT_REGION_RIGHTS_CW (i : Nat) : Fld :=
  ⟨A.PROT_REGION_RIGHTS i, 2, 1⟩
/-- PROT.REGION_RIGHTS[3:3] SR -/
def F.PROT_REGION_RIGHTS_SR (i : Nat) : Fld :=
  ⟨A.PROT_REGION_RIGHTS i, 3, 1⟩
/-- PROT.REGION_RIGHTS[4:4] SW -/
def F.PROT_REGION_RIGHTS_SW (i : Nat) : Fld :=
  ⟨A.PROT_REGION_RIGHTS i, 4, 1⟩
/-- TOP.CTL[0:0] PLL_KEEP -/
def F.TOP_CTL_PLL_KEEP : Fld := ⟨A.TOP + 8, 0, 1⟩
/-- TOP.STATE[3:0] MODULE -/
def F.TOP_STATE_MODULE : Fld := ⟨A.TOP + 12, 0, 4⟩
/-- TOP.STATE[4:4] HOST_ABSENT -/
def F.TOP_STATE_HOST_ABSENT : Fld := ⟨A.TOP + 12, 4, 1⟩
/-- TOP.STATE[5:5] EMERGENCY -/
def F.TOP_STATE_EMERGENCY : Fld := ⟨A.TOP + 12, 5, 1⟩
/-- TOP.STATE[6:6] CORE_PLL_LOCK -/
def F.TOP_STATE_CORE_PLL_LOCK : Fld := ⟨A.TOP + 12, 6, 1⟩
/-- TOP.STATE[31:16] SECTION_AWAKE -/
def F.TOP_STATE_SECTION_AWAKE : Fld := ⟨A.TOP + 12, 16, 16⟩
/-- POWER.STATE[16:16] UV -/
def F.POWER_STATE_UV : Fld := ⟨A.POWER + 12, 16, 1⟩
/-- POWER.STATE[17:17] OC -/
def F.POWER_STATE_OC : Fld := ⟨A.POWER + 12, 17, 1⟩
/-- POWER.STATE[18:18] THERM -/
def F.POWER_STATE_THERM : Fld := ⟨A.POWER + 12, 18, 1⟩
/-- POWER.STATE[19:19] THROTTLE -/
def F.POWER_STATE_THROTTLE : Fld := ⟨A.POWER + 12, 19, 1⟩
/-- POWER.STATE[20:20] REALLOC -/
def F.POWER_STATE_REALLOC : Fld := ⟨A.POWER + 12, 20, 1⟩
/-- POWER.STATE[21:21] EMERGENCY -/
def F.POWER_STATE_EMERGENCY : Fld := ⟨A.POWER + 12, 21, 1⟩
/-- TIME.STATE[18:16] SERVO -/
def F.TIME_STATE_SERVO : Fld := ⟨A.TIME + 12, 16, 3⟩
/-- TIME.STATE[19:19] ON_BACKUP -/
def F.TIME_STATE_ON_BACKUP : Fld := ⟨A.TIME + 12, 19, 1⟩
/-- SIDING.STATE[16:16] LINK_UP -/
def F.SIDING_STATE_LINK_UP : Fld := ⟨A.SIDING + 12, 16, 1⟩
/-- SIDING.STATE[17:17] ALL_ALIGNED -/
def F.SIDING_STATE_ALL_ALIGNED : Fld := ⟨A.SIDING + 12, 17, 1⟩
/-- DIE.CTL[0:0] ENABLE -/
def F.DIE_CTL_ENABLE (d : Nat) : Fld := ⟨A.DIE d + 8, 0, 1⟩
/-- DIE.STATE[16:16] PLL_LOCK -/
def F.DIE_STATE_PLL_LOCK (d : Nat) : Fld := ⟨A.DIE d + 12, 16, 1⟩
/-- DIE.STATE[17:17] PKG_LINK_UP -/
def F.DIE_STATE_PKG_LINK_UP (d : Nat) : Fld := ⟨A.DIE d + 12, 17, 1⟩
/-- LANE.CTL[0:0] ENABLE -/
def F.LANE_CTL_ENABLE (l : Nat) : Fld := ⟨A.LANE l + 8, 0, 1⟩
/-- LANE.CTL[1:1] ADAPT_EN -/
def F.LANE_CTL_ADAPT_EN (l : Nat) : Fld := ⟨A.LANE l + 8, 1, 1⟩
/-- LANE.STATE[2:0] MACHINE -/
def F.LANE_STATE_MACHINE (l : Nat) : Fld := ⟨A.LANE l + 12, 0, 3⟩
/-- LANE.STATE[3:3] REQ -/
def F.LANE_STATE_REQ (l : Nat) : Fld := ⟨A.LANE l + 12, 3, 1⟩
/-- LANE.STATE[19:16] PHASE -/
def F.LANE_STATE_PHASE (l : Nat) : Fld := ⟨A.LANE l + 12, 16, 4⟩
/-- LANE.STATE[20:20] RX_IN_PORT -/
def F.LANE_STATE_RX_IN_PORT (l : Nat) : Fld := ⟨A.LANE l + 12, 20, 1⟩
/-- LANE.STATE[21:21] TX_IN_PORT -/
def F.LANE_STATE_TX_IN_PORT (l : Nat) : Fld := ⟨A.LANE l + 12, 21, 1⟩
/-- LANE.STATE[22:22] RX_INVERTED -/
def F.LANE_STATE_RX_INVERTED (l : Nat) : Fld := ⟨A.LANE l + 12, 22, 1⟩
/-- LANE.STATE[23:23] PRECODE_ON -/
def F.LANE_STATE_PRECODE_ON (l : Nat) : Fld := ⟨A.LANE l + 12, 23, 1⟩
/-- LANE.STATE[27:24] LOGICAL -/
def F.LANE_STATE_LOGICAL (l : Nat) : Fld := ⟨A.LANE l + 12, 24, 4⟩
/-- PORT.CTL[0:0] ENABLE -/
def F.PORT_CTL_ENABLE (p : Nat) : Fld := ⟨A.PORT p + 8, 0, 1⟩
/-- PORT.STATE[2:0] MACHINE -/
def F.PORT_STATE_MACHINE (p : Nat) : Fld := ⟨A.PORT p + 12, 0, 3⟩
/-- PORT.STATE[3:3] REQ -/
def F.PORT_STATE_REQ (p : Nat) : Fld := ⟨A.PORT p + 12, 3, 1⟩
/-- PORT.STATE[18:16] LINK -/
def F.PORT_STATE_LINK (p : Nat) : Fld := ⟨A.PORT p + 12, 16, 3⟩
/-- PORT.STATE[22:20] TOPO -/
def F.PORT_STATE_TOPO (p : Nat) : Fld := ⟨A.PORT p + 12, 20, 3⟩
/-- SECTION.CTL[0:0] ENABLE -/
def F.SECTION_CTL_ENABLE (s : Nat) : Fld := ⟨A.SECTION s + 8, 0, 1⟩
/-- SECTION.STATE[16:16] AWAKE -/
def F.SECTION_STATE_AWAKE (s : Nat) : Fld := ⟨A.SECTION s + 12, 16, 1⟩
/-- SECTION.STATE[17:17] SPARE_IN_USE -/
def F.SECTION_STATE_SPARE_IN_USE (s : Nat) : Fld := ⟨A.SECTION s + 12, 17, 1⟩
/-- COACH.STATE[2:0] MACHINE -/
def F.COACH_STATE_MACHINE (s : Nat) (p : Nat) : Fld := ⟨A.COACH s p + 12, 0, 3⟩
/-- HBM.CTL[0:0] ENABLE -/
def F.HBM_CTL_ENABLE (n : Nat) : Fld := ⟨A.HBM n + 8, 0, 1⟩
/-- HBM.STATE[16:16] TRAINED -/
def F.HBM_STATE_TRAINED (n : Nat) : Fld := ⟨A.HBM n + 12, 16, 1⟩
/-- HBM.STATE[17:17] FILLED -/
def F.HBM_STATE_FILLED (n : Nat) : Fld := ⟨A.HBM n + 12, 17, 1⟩

/-! ## Cause bits -/

/-- TOP.CAUSE[0] -/
abbrev K.TOP_RESP_TIMEOUT : Nat := 0
/-- TOP.CAUSE[1] -/
abbrev K.TOP_DECODE_ERR : Nat := 1
/-- TOP.CAUSE[2] -/
abbrev K.TOP_PLL_COLD : Nat := 2
/-- TOP.CAUSE[3] -/
abbrev K.TOP_PROT_REFUSED : Nat := 3
/-- TOP.CAUSE[4] -/
abbrev K.TOP_GATED : Nat := 4
/-- TOP.CAUSE[5] -/
abbrev K.TOP_BUS_ECC : Nat := 5
/-- TOP.CAUSE[6] -/
abbrev K.TOP_VOTE_MISMATCH : Nat := 6
/-- PROT.CAUSE[0] -/
abbrev K.PROT_REFUSED : Nat := 0
/-- RESET.CAUSE[0] -/
abbrev K.RESET_DEADLINE_MISS : Nat := 0
/-- RESET.CAUSE[1] -/
abbrev K.RESET_ESCALATED : Nat := 1
/-- RESET.CAUSE[2] -/
abbrev K.RESET_PROC_HANG : Nat := 2
/-- RESET.CAUSE[3] -/
abbrev K.RESET_CMD_REFUSED : Nat := 3
/-- RESET.CAUSE[4] -/
abbrev K.RESET_SOFT_RESET : Nat := 4
/-- POWER.CAUSE[0] -/
abbrev K.POWER_UV_EMERG : Nat := 0
/-- POWER.CAUSE[1] -/
abbrev K.POWER_OC_EMERG : Nat := 1
/-- POWER.CAUSE[2] -/
abbrev K.POWER_THERM_EMERG : Nat := 2
/-- POWER.CAUSE[3] -/
abbrev K.POWER_BUDGET_SHORT : Nat := 3
/-- POWER.CAUSE[4] -/
abbrev K.POWER_STACK_HOT : Nat := 4
/-- POWER.CAUSE[5] -/
abbrev K.POWER_COOLANT_WARM : Nat := 5
/-- POWER.CAUSE[6] -/
abbrev K.POWER_THERM_TRIP : Nat := 6
/-- POWER.CAUSE[7] -/
abbrev K.POWER_OC_TRIP : Nat := 7
/-- TIME.CAUSE[0] -/
abbrev K.TIME_TIME_STEP : Nat := 0
/-- TIME.CAUSE[1] -/
abbrev K.TIME_LOCK_LOST : Nat := 1
/-- TIME.CAUSE[2] -/
abbrev K.TIME_HOLDOVER : Nat := 2
/-- TIME.CAUSE[3] -/
abbrev K.TIME_PPS_MISSING : Nat := 3
/-- CONSORT.CAUSE[0] -/
abbrev K.CONSORT_ACT_REVERTED : Nat := 0
/-- CONSORT.CAUSE[1] -/
abbrev K.CONSORT_REVERT_FAILED : Nat := 1
/-- CONSORT.CAUSE[2] -/
abbrev K.CONSORT_ACT_REFUSED : Nat := 2
/-- CONSORT.CAUSE[3] -/
abbrev K.CONSORT_STAGE_INVALID : Nat := 3
/-- CONSORT.CAUSE[4] -/
abbrev K.CONSORT_HOST_ABSENT : Nat := 4
/-- CONSORT.CAUSE[5] -/
abbrev K.CONSORT_HEV_OVERFLOW : Nat := 5
/-- SIDING.CAUSE[0] -/
abbrev K.SIDING_LINK_DOWN : Nat := 0
/-- SIDING.CAUSE[1] -/
abbrev K.SIDING_NAK_RX : Nat := 1
/-- SIDING.CAUSE[2] -/
abbrev K.SIDING_ELASTIC_ERR : Nat := 2
/-- SIDING.CAUSE[3] -/
abbrev K.SIDING_MAN_INVALID : Nat := 3
/-- SIDING.CAUSE[4] -/
abbrev K.SIDING_BOOT_FALLBACK : Nat := 4
/-- SIDING.CAUSE[5] -/
abbrev K.SIDING_ID_FAIL : Nat := 5
/-- DIE.CAUSE[0] -/
abbrev K.DIE_PLL_UNLOCK : Nat := 0
/-- DIE.CAUSE[1] -/
abbrev K.DIE_PKG_LINK_ERR : Nat := 1
/-- DIE.CAUSE[2] -/
abbrev K.DIE_OVERTEMP : Nat := 2
/-- DIE.CAUSE[3] -/
abbrev K.DIE_DRAIN_TIMEOUT : Nat := 3
/-- DIE.CAUSE[4] -/
abbrev K.DIE_ENGINE_FAULT : Nat := 4
/-- LANE.CAUSE[0] -/
abbrev K.LANE_LOS : Nat := 0
/-- LANE.CAUSE[1] -/
abbrev K.LANE_CW_LOCK_LOSS : Nat := 1
/-- LANE.CAUSE[2] -/
abbrev K.LANE_MARKER_LOSS : Nat := 2
/-- LANE.CAUSE[3] -/
abbrev K.LANE_UNCORR_LIMIT : Nat := 3
/-- LANE.CAUSE[4] -/
abbrev K.LANE_TRAIN_FAIL : Nat := 4
/-- LANE.CAUSE[5] -/
abbrev K.LANE_SKEW_LIMIT : Nat := 5
/-- LANE.CAUSE[6] -/
abbrev K.LANE_ADAPT_REVERT : Nat := 6
/-- LANE.CAUSE[7] -/
abbrev K.LANE_DRAIN_TIMEOUT : Nat := 7
/-- PORT.CAUSE[0] -/
abbrev K.PORT_LINK_DOWN : Nat := 0
/-- PORT.CAUSE[1] -/
abbrev K.PORT_WIDTH_DEGRADED : Nat := 1
/-- PORT.CAUSE[2] -/
abbrev K.PORT_WIDTH_RESTORED : Nat := 2
/-- PORT.CAUSE[3] -/
abbrev K.PORT_LAYOUT_INVALID : Nat := 3
/-- PORT.CAUSE[4] -/
abbrev K.PORT_LAYOUT_CONFLICT : Nat := 4
/-- PORT.CAUSE[5] -/
abbrev K.PORT_DESKEW_LIMIT : Nat := 5
/-- PORT.CAUSE[6] -/
abbrev K.PORT_DRAIN_TIMEOUT : Nat := 6
/-- PORT.CAUSE[7] -/
abbrev K.PORT_MARKER_MISMATCH : Nat := 7
/-- PORT.CAUSE[8] -/
abbrev K.PORT_CREDIT_PROTOCOL : Nat := 8
/-- PORT.CAUSE[9] -/
abbrev K.PORT_RECONCILE : Nat := 9
/-- PORT.CAUSE[10] -/
abbrev K.PORT_NO_ROUTE : Nat := 10
/-- PORT.CAUSE[11] -/
abbrev K.PORT_HOPS_EXPIRED : Nat := 11
/-- PORT.CAUSE[12] -/
abbrev K.PORT_CLASS_REFUSED : Nat := 12
/-- PORT.CAUSE[13] -/
abbrev K.PORT_TOPO_CHANGE : Nat := 13
/-- PORT.CAUSE[14] -/
abbrev K.PORT_DUP_NUMBER : Nat := 14
/-- PORT.CAUSE[15] -/
abbrev K.PORT_NB_CHANGED : Nat := 15
/-- SWITCH.CAUSE[0] -/
abbrev K.SWITCH_CONSERVATION : Nat := 0
/-- SWITCH.CAUSE[1] -/
abbrev K.SWITCH_LIMIT_PENDING : Nat := 1
/-- SWITCH.CAUSE[2] -/
abbrev K.SWITCH_MC_BLOCKED : Nat := 2
/-- SWITCH.CAUSE[3] -/
abbrev K.SWITCH_FLUSH_OVERRUN : Nat := 3
/-- POOL.CAUSE[0] -/
abbrev K.POOL_POOL_DOUBLE_FREE : Nat := 0
/-- POOL.CAUSE[1] -/
abbrev K.POOL_POOL_RELINK : Nat := 1
/-- POOL.CAUSE[2] -/
abbrev K.POOL_QUOTA_OVERCOMMIT : Nat := 2
/-- ROUTE.CAUSE[0] -/
abbrev K.ROUTE_SET_EMPTY : Nat := 0
/-- ROUTE.CAUSE[1] -/
abbrev K.ROUTE_PATH_REMOVED : Nat := 1
/-- SHAPE.CAUSE[0] -/
abbrev K.SHAPE_GATE_INVALID : Nat := 0
/-- SHAPE.CAUSE[1] -/
abbrev K.SHAPE_GATE_NOFIT : Nat := 1
/-- COLL.CAUSE[0] -/
abbrev K.COLL_GROUP_INVALID : Nat := 0
/-- COLL.CAUSE[1] -/
abbrev K.COLL_LINE_HANG : Nat := 1
/-- COLL.CAUSE[2] -/
abbrev K.COLL_DRAIN_TIMEOUT : Nat := 2
/-- COLL.CAUSE[3] -/
abbrev K.COLL_COLL_MISMATCH : Nat := 3
/-- COLL.CAUSE[4] -/
abbrev K.COLL_COLL_TIMEOUT : Nat := 4
/-- COLL.CAUSE[5] -/
abbrev K.COLL_TICKET_REFUSED : Nat := 5
/-- SECTION.CAUSE[0] -/
abbrev K.SECTION_COACH_FAILED : Nat := 0
/-- SECTION.CAUSE[1] -/
abbrev K.SECTION_SECTION_LOST : Nat := 1
/-- SECTION.CAUSE[2] -/
abbrev K.SECTION_DRAIN_TIMEOUT : Nat := 2
/-- SECTION.CAUSE[3] -/
abbrev K.SECTION_SUBST_TIMEOUT : Nat := 3
/-- SECTION.CAUSE[4] -/
abbrev K.SECTION_REMAP_REFUSED : Nat := 4
/-- SECTION.CAUSE[5] -/
abbrev K.SECTION_REMAP_INVALID : Nat := 5
/-- COACH.CAUSE[8] -/
abbrev K.COACH_TT_VIOLATION : Nat := 8
/-- COACH.CAUSE[9] -/
abbrev K.COACH_STORE_UE : Nat := 9
/-- COACH.CAUSE[10] -/
abbrev K.COACH_CHUNK_TOO_LARGE : Nat := 10
/-- COACH.CAUSE[11] -/
abbrev K.COACH_PLATFORM_FULL : Nat := 11
/-- COACH.CAUSE[12] -/
abbrev K.COACH_WRONG_SHARD : Nat := 12
/-- COACH.CAUSE[13] -/
abbrev K.COACH_RESULT_POISONED : Nat := 13
/-- COACH.CAUSE[0] -/
abbrev K.COACH_RUN_REFUSED : Nat := 0
/-- COACH.CAUSE[1] -/
abbrev K.COACH_MEM_ERROR : Nat := 1
/-- COACH.CAUSE[2] -/
abbrev K.COACH_SEQ_HANG : Nat := 2
/-- COACH.CAUSE[3] -/
abbrev K.COACH_RUNQ_FULL : Nat := 3
/-- COACH.CAUSE[4] -/
abbrev K.COACH_RUN_ABORTED : Nat := 4
/-- UPDATE.CAUSE[0] -/
abbrev K.UPDATE_TENSOR_INVALID : Nat := 0
/-- UPDATE.CAUSE[1] -/
abbrev K.UPDATE_HP_STALE : Nat := 1
/-- UPDATE.CAUSE[2] -/
abbrev K.UPDATE_STEP_REFUSED : Nat := 2
/-- UPDATE.CAUSE[3] -/
abbrev K.UPDATE_HELD : Nat := 3
/-- UPDATE.CAUSE[4] -/
abbrev K.UPDATE_DIVZERO : Nat := 4
/-- UPDATE.CAUSE[5] -/
abbrev K.UPDATE_PRECOND_LATE : Nat := 5
/-- UPDATE.CAUSE[6] -/
abbrev K.UPDATE_WRITE_REFUSED : Nat := 6
/-- UPDATE.CAUSE[7] -/
abbrev K.UPDATE_RECORD_UE : Nat := 7
/-- STATION.CAUSE[0] -/
abbrev K.STATION_EXPERT_INVALID : Nat := 0
/-- STATION.CAUSE[1] -/
abbrev K.STATION_STEP_REFUSED : Nat := 1
/-- STATION.CAUSE[2] -/
abbrev K.STATION_ACT_WAIT : Nat := 2
/-- STATION.CAUSE[3] -/
abbrev K.STATION_ACT_EXPIRED : Nat := 3
/-- STATION.CAUSE[4] -/
abbrev K.STATION_NO_SAVED : Nat := 4
/-- STATION.CAUSE[5] -/
abbrev K.STATION_TOKEN_REFUSED : Nat := 5
/-- STATION.CAUSE[6] -/
abbrev K.STATION_TOKENS_DROPPED : Nat := 6
/-- STATION.CAUSE[7] -/
abbrev K.STATION_WEIGHT_REBUILD : Nat := 7
/-- STATION.CAUSE[8] -/
abbrev K.STATION_DRAIN_TIMEOUT : Nat := 8
/-- STATION.CAUSE[9] -/
abbrev K.STATION_GRAD_LOST : Nat := 9
/-- HBM.CAUSE[0] -/
abbrev K.HBM_UE : Nat := 0
/-- HBM.CAUSE[1] -/
abbrev K.HBM_ADDR_ERR : Nat := 1
/-- HBM.CAUSE[2] -/
abbrev K.HBM_TRAIN_FAIL : Nat := 2
/-- HBM.CAUSE[3] -/
abbrev K.HBM_REPAIR_DONE : Nat := 3
/-- HBM.CAUSE[4] -/
abbrev K.HBM_REPAIR_REFUSED : Nat := 4
/-- HBM.CAUSE[5] -/
abbrev K.HBM_REPAIR_EXHAUSTED : Nat := 5
/-- HBM.CAUSE[6] -/
abbrev K.HBM_DRAIN_TIMEOUT : Nat := 6
/-- WINDOW.CAUSE[0] -/
abbrev K.WINDOW_ACCESS : Nat := 0
/-- WINDOW.CAUSE[1] -/
abbrev K.WINDOW_LAYOUT_INVALID : Nat := 1
/-- WINDOW.CAUSE[2] -/
abbrev K.WINDOW_RETRY : Nat := 2
/-- WINDOW.CAUSE[3] -/
abbrev K.WINDOW_RANGE_ERR : Nat := 3

end Sys2Proof.Machine
end

