-- ==== Sys2Proof/Machine/State.lean ====
section
/-! DEFINITION. The state of the module as plain data: every register and the state the spec gives the machine behind
its registers. Each field's docstring gives what it is, the rule that names it, and its value at reset. -/

namespace Sys2Proof.Machine

/-- Reasons a command stops with a fault. -/
inductive Fault where
  /-- The command names a unit, port, lane, line or other instance that the part does not have (R2 to R6, R24).
  Raised by the meaning of a command with such an operand. Safe: the module goes on where the model stops. -/
  | noSuchUnit
  deriving DecidableEq, Repr

/-- Reasons a command is refused. -/
inductive Refusal where
  /-- A command whose meaning the model does not give. Raised by its arm of `exec` alone. Safe. -/
  | notModelled (mnemonic : String)
  deriving DecidableEq, Repr

/-! ## Assembly and register file -/

/-- The A field of the ordering code (R1, R2; 00_scope.md). -/
inductive AField where | a8 | a7 | a6
  deriving DecidableEq, Repr

/-- The L field of the ordering code (R4; 00_scope.md). -/
inductive LField where | e4 | o4 | e8 | e4o4 | o8
  deriving DecidableEq, Repr

/-- The M field of the ordering code (R6; 00_scope.md). -/
inductive MField where | m4 | m8
  deriving DecidableEq, Repr

/-- What is fixed at assembly (R1). -/
structure Assembly where
  /-- enabled-array grade | R2 00_scope.md | DESIGN CHOICE a8, log 81 -/
  a : AField
  /-- lane dies by slot | R4 00_scope.md | DESIGN CHOICE e8, log 81 -/
  l : LField
  /-- stack count | R6 00_scope.md | DESIGN CHOICE m4, log 81 -/
  m : MField
  deriving DecidableEq, Repr

/-- Characters of a text as bytes. -/
def ascii (t : String) : List Byte := t.toList.map fun c => BitVec.ofNat 8 c.toNat

/-- The ordering code (R1). -/
def Assembly.code (a : Assembly) : List Byte :=
  ascii ("BDJ7-" ++ (match a.a with | .a8 => "A8" | .a7 => "A7" | .a6 => "A6") ++
    (match a.l with | .e4 => "-E4" | .o4 => "-O4" | .e8 => "-E8" | .e4o4 => "-E4O4" | .o8 => "-O8") ++
    (match a.m with | .m4 => "-M4" | .m8 => "-M8"))

/-- The FRU EEPROM, by the fields whose content the spec gives; it survives power loss, and no command writes it (log 85). -/
structure Fru where
  /-- product part number: the ordering code | R1 00_scope.md, R514 21_module.md | the assembly's code -/
  partNumber : List Byte
  /-- serial number: the manifest's SERIAL | R514 21_module.md | DESIGN CHOICE empty, log 85 -/
  serial : List Byte
  deriving DecidableEq, Repr

/-- The staging register of one master in one block (R37). -/
structure Staging where
  /-- owning master | R37 02_registers.md -/
  master : Master
  /-- block | R37 02_registers.md -/
  block : Blk
  /-- byte address of word 0 of the entry named | R37 02_registers.md -/
  entry : Nat
  /-- the entry's staged lower words, lowest first | R37 02_registers.md -/
  words : List Word
  deriving DecidableEq, Repr

/-- What a timer measures. -/
inductive TKind where
  | down | drain | train | trainIdle | adaptStep | adaptWindow | eyeHold | uncorr
  | linkTx | fillerTx | markerTx | flush | release | multicast | audit | walk | relink
  | sync | backup | ppsIn | ppsOut | hello | dead | absent
  | ticketPhase | chunk | resend | ended | resultResend | platform
  | scrub | sliverScrub | seqWatch | substLimit | idle | wake
  | returnResend | fence | fenceIdle | cache | patrol
  | quiet | window | deadline | procWatch | safePoint | startLimit | probation
  | heartbeat | emergClear | epoch | ocLasting | sensor | pll | bankRefresh
  | uvLow | uvOk | ocHigh | ocOk | thermCool | thermTrip | sectionAccess | bus
  | sidingSkip | sidingAck | notify | realign | hotSwapOn
  deriving DecidableEq, Repr

/-- The key of a timer: what it measures and for which instance. -/
structure TKey where
  kind : TKind
  a : Nat
  b : Nat := 0
  c : Nat := 0
  d : Nat := 0
  deriving DecidableEq, Repr

/-! ## Lanes and ports -/

/-- Lane state behind the lane page (R99 to R106, R113, R116). -/
structure LaneHid where
  /-- logical lane the receiver locked to | R96 04_lanes.md | none -/
  lockLogical : Option Nat := none
  /-- port check the receiver locked to | R96 04_lanes.md | none -/
  lockCheck : Option Nat := none
  /-- count of the last marker received | R96 04_lanes.md | none -/
  lastMarker : Option Nat := none
  /-- receiver adapted: RX_READY sent | R99 04_lanes.md | false -/
  rxReady : Bool := false
  /-- partner's RX_READY | R99 04_lanes.md | false -/
  partnerReady : Bool := false
  /-- partner's PRECODE_REQ | R99, R102 04_lanes.md | false -/
  partnerPrecode : Bool := false
  /-- ACK bit sent, toggled per applied request | R99 04_lanes.md | false -/
  ackToggle : Bool := false
  /-- request bits [16:8] of the last training frame received | R99 04_lanes.md | 4, TAP none -/
  lastReq : Nat := 4
  /-- AT_LIMIT sent | R99 04_lanes.md | false -/
  atLimit : Bool := false
  /-- bit of the period of PRBS13 at which the next training frame goes on | R99 04_lanes.md | DESIGN CHOICE 0, log 123 -/
  prbsAt : Nat := 0
  /-- skew of the lane against the earliest lane [ns] | R110 04_lanes.md | 0 -/
  skew : Nat := 0
  /-- LANE_READY received from the partner | R116 04_lanes.md | false -/
  partnerLaneReady : Bool := false
  /-- LANE_READY sent | R116 04_lanes.md | false -/
  laneReadySent : Bool := false
  /-- slow cycles at which uncorrectable codewords came within the last 1 ms | R113 04_lanes.md | empty -/
  uncorr : List Nat := []
  /-- coefficient step asked and not yet acknowledged (TAP, ACTION) | R103 04_lanes.md | none -/
  asked : Option (Nat × Nat) := none
  /-- coefficient step under watch (TAP, ACTION) | R103 04_lanes.md | none -/
  watched : Option (Nat × Nat) := none
  /-- symbols corrected in the 1 ms before the step | R103 04_lanes.md | 0 -/
  symBefore : Nat := 0
  /-- symbols corrected with their slow cycle, within the last 16 ms | R103, R106 04_lanes.md | empty -/
  symHist : List (Nat × Nat) := []
  /-- EYE_CTL fields of the running point | R105 04_lanes.md | 0 -/
  eyeCtl : Word := 0
  /-- adaptation moved during the running point | R106 04_lanes.md | false -/
  eyeMoved : Bool := false
  /-- the adaptation hold of the running point was released | R106 04_lanes.md | false -/
  eyeReleased : Bool := false
  deriving DecidableEq, Repr

/-- A port layout as copied at STARTING (R107). -/
structure LayoutCopy where
  die : Nat
  first : Nat
  width : Nat
  minWidth : Nat
  deriving DecidableEq, Repr

/-- One packet: its 64-byte header unit and its payload bytes (R122, R123). -/
structure Pkt where
  hdr : List Byte
  payload : List Byte
  deriving DecidableEq, Repr

/-- Port state behind the port page. -/
structure PortHid where
  /-- layout read at STARTING | R107 04_lanes.md | none -/
  layout : Option LayoutCopy := none
  /-- waiting in STARTING with LAYOUT_CONFLICT | R108 04_lanes.md | false -/
  conflict : Bool := false
  /-- ports that hold lanes of this one and have not been DOWN since it entered STARTING | R108 04_lanes.md | empty -/
  waits : List Nat := []
  /-- hunting for a header unit | R147 05_packets.md | false -/
  hunt : Bool := false
  /-- packet being received (buffer id) | R145 05_packets.md | none -/
  rx : Option Nat := none
  /-- the packet being received was discarded at its header | R137, R146 05_packets.md | false -/
  rxSkip : Bool := false
  /-- packet being sent (copy id) | R121 05_packets.md | none -/
  tx : Option Nat := none
  /-- partner's first LINK unit received since LINK came up | R140 05_packets.md | false -/
  linkHeard : Bool := false
  /-- totals and grants carried by the last LINK unit sent | R139 05_packets.md | empty -/
  linkSent : List Nat := []
  /-- units sent since the last LINK unit | R139 05_packets.md | 0 -/
  unitsSince : Nat := 0
  /-- units sent on the port since LINK came up, the count that SWITCH names | R93, R109 04_lanes.md | 0 -/
  txUnits : Nat := 0
  /-- units received on the port since LINK came up | R93, R109 04_lanes.md | 0 -/
  rxUnits : Nat := 0
  /-- mask over which the partner stripes its units | R109, R112 04_lanes.md | 0 -/
  stripe : Nat := 0
  /-- receive lanes lost to a fault and not yet ready again | R112, R114 04_lanes.md | 0 -/
  lost : Nat := 0
  /-- received SWITCHes that wait for their units, oldest first: unit count and mask | R93, R112 04_lanes.md | empty -/
  switches : List (Nat × Nat) := []
  /-- units of the port's stream in uncorrectable codewords, not yet taken in | R95 04_lanes.md | empty -/
  badUnits : List Nat := []
  /-- mask over which the port stripes its units | R109, R112 04_lanes.md | 0 -/
  txStripe : Nat := 0
  /-- SWITCHes sent that wait for their units, oldest first: unit count and mask | R93, R112 04_lanes.md | empty -/
  txSwitches : List (Nat × Nat) := []
  /-- marker count of the transmitters | R96 04_lanes.md | 0 -/
  txMarker : Nat := 0
  /-- flush of the port running | R170 06_switch_core.md | false -/
  flushing : Bool := false
  /-- flush waiting for one of the eight engines | R170 06_switch_core.md | false -/
  flushWait : Bool := false
  /-- good HELLO received since the port last entered STARTING | R221 08_topology.md | false -/
  heard : Bool := false
  /-- SEQ of the next HELLO sent | R218 08_topology.md | 0 -/
  helloSeq : Nat := 0
  /-- SEQ of the latest TIME_SYNC sent | R203, R204 07_paths_shaping.md | 0 -/
  syncSeq : Nat := 0
  /-- TIME_SYNC sent and not yet answered: t1 (ns, fraction) | R204 07_paths_shaping.md | none -/
  syncT1 : Option (Nat × Nat) := none
  /-- live for data classes on the last edge | R189, R190 07_paths_shaping.md | false -/
  live : Bool := false
  /-- bucket levels per class in 1/800 byte | R198 07_paths_shaping.md | 0 -/
  bucket : List Int := [0, 0, 0, 0, 0, 0]
  /-- a bucket was enabled or an OVH written: the port's buckets are served every slow cycle | R200 07_paths_shaping.md | false -/
  shaped : Bool := false
  /-- OVH of each class as the last slow cycle found it [bytes] | R200 07_paths_shaping.md | 0 -/
  ovh : List Int := [0, 0, 0, 0, 0, 0]
  /-- gating in force: GATE_EN 1 and the active bank passed its check | R210 07_paths_shaping.md | false -/
  gating : Bool := false
  /-- GATE_BASE reached: cycles running | R209 07_paths_shaping.md | false -/
  gateRunning : Bool := false
  /-- gate cycles completed since GATE_BASE | R209 07_paths_shaping.md | 0 -/
  gateCycle : Nat := 0
  /-- NOW when the pending swap was requested [ns] | R211 07_paths_shaping.md | 0 -/
  swapFrom : Nat := 0
  /-- the port said GOODBYE in its drain | R118 04_lanes.md | false -/
  saidGoodbye : Bool := false
  deriving DecidableEq, Repr

/-- Scheduler state of one output (R192). -/
structure Sched where
  /-- class at which the round stands | R192 07_paths_shaping.md | 0 -/
  at_ : Nat := 0
  /-- the round has reached that class and given it its quantum | R192 07_paths_shaping.md | false -/
  turn : Bool := false
  /-- deficits of TC0 to TC3 [cells] | R192 07_paths_shaping.md | 0 -/
  deficit : List Nat := [0, 0, 0, 0]
  deriving DecidableEq, Repr

/-! ## Switch core, pools -/

/-- A packet in the shared buffer (R156 to R168). -/
structure BufPkt where
  id : Nat
  /-- account charged: port index and class | R159 06_switch_core.md -/
  acct : Nat
  tc : Nat
  pkt : Pkt
  /-- credit cost of R135, returned when the last cell leaves | R137 05_packets.md -/
  cost : Nat
  /-- received whole and good, or written by an internal port | R145 05_packets.md -/
  whole : Bool
  /-- chosen output while the packet is being received | R165 06_switch_core.md -/
  chosen : Option Nat
  /-- header cells still held | R168 06_switch_core.md -/
  hdrCells : List Nat
  /-- payload cells still held | R168 06_switch_core.md -/
  payCells : List Nat
  /-- reference count of each payload cell | R168 06_switch_core.md -/
  refs : Nat
  /-- taken over by a station port | R171 06_switch_core.md -/
  taken : Bool
  /-- NOW when the header unit arrived or the packet was originated: ns and fraction | R203 07_paths_shaping.md -/
  arrived : Nat × Nat
  deriving DecidableEq, Repr

/-- A copy in an output queue; the list order of the queue is its FIFO order (R165 to R169). -/
structure Copy where
  id : Nat
  pkt : Nat
  out : Nat
  tc : Nat
  /-- the copy's own destination node | R166 06_switch_core.md -/
  dst : Nat
  /-- transmission begun | R170 06_switch_core.md -/
  sending : Bool
  deriving DecidableEq, Repr

/-- The names of a chunk: line, STEP, SUB, family and chunk index. -/
structure CKey where
  line : Nat
  step : Nat
  sub : Nat
  fam : Nat
  idx : Nat
  deriving DecidableEq, Repr

/-- A packet that a station or firmware port waits to originate (R164, R167). -/
structure Orig where
  id : Nat
  port : Nat
  pkt : Pkt
  /-- copy list of a multicast; empty for a unicast | R166 06_switch_core.md -/
  dsts : List Nat
  /-- fabric port of a link-local packet | R126 05_packets.md -/
  link : Option Nat
  /-- 10 µs mark passed, MC_BLOCKED set | R167 06_switch_core.md -/
  blocked : Bool
  /-- chunk whose result this is, cancelled by R291; a DONE or WITHDRAW names none -/
  chunk : Option CKey
  /-- buffer id of the held cells that are its payload | R286 10_reduction.md -/
  held : Option Nat
  /-- its request to the cell pool was made and waits: QUOTA_WAITS has counted it | R174 06_switch_core.md -/
  asked : Bool := false
  deriving DecidableEq, Repr

/-- A free sub-list that differs from its state at reset, in which entries sub, sub + SUB, ... stand in rising order
(R173). The list is `front`, then the entries never taken from place `fresh` on, then `returned`. -/
structure SubList where
  /-- entries ahead of the run of entries never taken | R173, R177 06_switch_core.md | empty -/
  front : List Nat := []
  /-- first place of the run of entries never taken | R173 06_switch_core.md | 0 -/
  fresh : Nat := 0
  /-- entries placed at the tail, oldest first | R173 06_switch_core.md | empty -/
  returned : List Nat := []
  /-- being rebuilt from the state bits | R177 06_switch_core.md | false -/
  relinking : Bool := false
  /-- entries taken from the head ahead of the walker in its present pass | R177 06_switch_core.md | 0 -/
  passed : Nat := 0
  deriving DecidableEq, Repr

/-- A pool request that waits (R174). -/
structure PoolReq where
  req : Nat
  n : Nat
  tag : Nat
  deriving DecidableEq, Repr

/-- Pool state behind a pool record (R173 to R177). -/
structure PoolHid where
  /-- allocated entries with the requester that owns each (state bit 1) | R173 06_switch_core.md | empty -/
  owner : List (Nat × Nat) := []
  /-- sub-lists that differ from their initial state, by number | R173 06_switch_core.md | empty -/
  subs : List (Nat × SubList) := []
  /-- entries that the walker's present pass has gone over in every sub-list | R177 06_switch_core.md | 0 -/
  walkAt : Nat := 0
  /-- free entries whose stored link is uncorrectable | R177 06_switch_core.md | empty -/
  badLinks : List Nat := []
  /-- waiting requests, oldest first | R174 06_switch_core.md | empty -/
  waits : List PoolReq := []
  /-- grants delivered and not yet taken up: request tag and entries | R174 06_switch_core.md | empty -/
  grants : List (Nat × List Nat) := []
  deriving DecidableEq, Repr

/-- An arbiter of an internal resource (R193). -/
inductive ArbKey where
  /-- section arbiter over the coaches of a station port's uplink -/
  | uplink (port : Nat)
  /-- coach arbiter over the leaves of a coach at a station port -/
  | coach (port coach : Nat)
  /-- arbiter of the reduction unit of a logical coach -/
  | unit (coach : Nat)
  /-- arbiter of an accumulator-slot pool -/
  | slots (pool : Nat)
  /-- coach arbiter over the run queues of a physical coach -/
  | runs (coach : Nat)
  deriving DecidableEq, Repr

/-- State of an arbiter (R194, R195). -/
structure Arb where
  /-- rotating pointer: the child at which the present round began | R195 07_paths_shaping.md | 0 -/
  ptr : Nat := 0
  /-- children that the present round has passed, from the pointer on | R195 07_paths_shaping.md | 0 -/
  pos : Nat := 0
  /-- the child at that place has been given its quantum in this round | R194 07_paths_shaping.md | false -/
  turn : Bool := false
  /-- counts of the children, sampled at the start of the round | R194 07_paths_shaping.md | empty -/
  counts : List (Nat × Nat) := []
  /-- deficits of the children that have one [grant units] | R194 07_paths_shaping.md | empty -/
  deficit : List (Nat × Nat) := []
  /-- cells given to the leaves whose packet is in progress | R196 07_paths_shaping.md | empty -/
  given : List (Nat × Nat) := []
  deriving DecidableEq, Repr

/-- Shared-buffer switch state (chapter 6). -/
structure Switch where
  /-- packets in the buffer | R156 06_switch_core.md | empty -/
  pkts : List BufPkt := []
  /-- queued copies, FIFO per output and class | R165, R169 06_switch_core.md | empty -/
  queue : List Copy := []
  /-- packets waiting to be originated | R164, R167 06_switch_core.md | empty -/
  waiting : List Orig := []
  /-- old limits still committed: (port, class, limit) | R162 06_switch_core.md | empty -/
  releasing : List (Nat × Nat × Nat) := []
  /-- scheduler state per output | R192 07_paths_shaping.md | zero -/
  sched : List (Nat × Sched) := []
  /-- arbiters of internal resources that have served | R193 to R195 07_paths_shaping.md | empty -/
  arbs : List (ArbKey × Arb) := []
  /-- slow cycle whose refill of the buckets is done | R198 07_paths_shaping.md | none -/
  refillAt : Option Nat := none
  /-- next identity for a packet, copy or waiting origination | the model's own numbering | 0 -/
  nextId : Nat := 0
  deriving DecidableEq, Repr

/-! ## Network time -/

/-- Network time unit (R202 to R207). -/
structure NetTime where
  /-- NOW [ns], 64 bits | R202 07_paths_shaping.md | DESIGN CHOICE 0, log 82 -/
  ns : Nat := 0
  /-- NOW fraction [2^-32 ns], 32 bits | R202 07_paths_shaping.md | DESIGN CHOICE 0, log 82 -/
  frac : Nat := 0
  /-- slew still to spread, and per slow cycle [2^-32 ns] | R204 07_paths_shaping.md | 0 -/
  slewLeft : Int := 0
  slewStep : Int := 0
  /-- consecutive accepted exchanges within LOCK_NS | R205 07_paths_shaping.md | 0 -/
  good : Nat := 0
  /-- consecutive missing or discarded exchanges | R205 07_paths_shaping.md | 0 -/
  bad : Nat := 0
  /-- TIME_PPS_OUT driven low | R207 07_paths_shaping.md | false -/
  ppsOut : Bool := false
  deriving DecidableEq, Repr

/-! ## Collectives and reduction -/

/-- A member table entry as copied by a line (R233). -/
structure MemberCopy where
  node : Nat
  member : Nat
  isLine : Bool
  below : Nat
  deriving DecidableEq, Repr

/-- A line's copies of its group, member and parent entries (R233). -/
structure LineCopy where
  /-- the eight words of the group entry | R233 09_collectives.md -/
  group : List Word
  members : List MemberCopy
  parents : List Nat
  deriving DecidableEq, Repr

/-- One source's ticket in a queue entry (R243). -/
structure Tix where
  src : Nat
  tag : Nat
  hash : Nat
  /-- MISMATCH_BELOW of a line ticket | R244 09_collectives.md -/
  below : Bool
  /-- body bytes from 32 on, as received | R240, R352 -/
  body : List Byte
  /-- payload of a station ticket | R353 13_stations.md -/
  payload : List Byte
  deriving DecidableEq, Repr

/-- States of a queue entry that is not FREE; ENDING ends on the edge that enters it (R247). -/
inductive EState where | gathering | matched | active
  deriving DecidableEq, Repr

/-- One entry of a line's ticket queue (R243 to R247). -/
structure Entry where
  line : Nat
  step : Nat
  sub : Nat
  /-- 0 for a collective, 9 DISPATCH, 10 COMBINE: part of a station ticket's step counter | R240, R351 -/
  fam : Nat
  state : EState := .gathering
  tix : List Tix := []
  /-- mismatch map: source indices | R244 09_collectives.md -/
  mismatch : List Nat := []
  /-- order in which entries reached MATCHED | R247 09_collectives.md -/
  order : Nat := 0
  /-- slow cycle at which the ticket phase began | R259 09_collectives.md -/
  since : Nat
  /-- slow cycle of the last RESEND_REQ for tickets, or the start of the phase | R262 09_collectives.md -/
  resendAt : Nat
  /-- slow cycle from which on the entry could have become ACTIVE | R267 09_collectives.md -/
  readyAt : Option Nat := none
  /-- slow cycle at which the entry became ACTIVE | R259 09_collectives.md -/
  activeAt : Nat := 0
  /-- TAG of the line ticket sent up, 0 before | R245 09_collectives.md -/
  upTag : Nat := 0
  /-- ATTEMPT of the line ticket to each parent module that asked for it again | R148 05_packets.md -/
  attempts : List (Nat × Nat) := []
  /-- at least one chunk combined | R253 09_collectives.md -/
  combined : Bool := false
  /-- owned chunks, in ascending index, whose DONE was sent | R257 09_collectives.md -/
  cursor : Nat := 0
  /-- sources some of whose elements were dropped | R238 09_collectives.md -/
  dropped : List Nat := []
  deriving DecidableEq, Repr

/-- A step counter in a line's memory of ended collectives (R247). -/
structure EndedRec where
  line : Nat
  step : Nat
  sub : Nat
  fam : Nat
  sources : List Nat
  /-- slow cycle at which the entry returned to FREE | R247 09_collectives.md -/
  at_ : Nat
  deriving DecidableEq, Repr

/-- Chunk stages (R249). -/
inductive Stage where | opening | anchor | combine | up | apply | emit | hold
  deriving DecidableEq, Repr

/-- An accumulator slot with its class store bits (R271, R282). -/
structure Slot where
  /-- 96-bit window sum; FP64 code of the extreme under MAX and MIN; FP32 sum under SUM_FAST; element code plus
  256 × scale byte of an operation that combines nothing | R80, R282 -/
  acc : BitVec 96 := 0
  /-- SPECIAL record: POS, NEG, NAN | R82 03_arithmetic.md -/
  pos : Bool := false
  neg : Bool := false
  nan : Bool := false
  /-- a contribution other than -0 was taken | R271 10_reduction.md -/
  nonNeg0 : Bool := false
  /-- a contribution was taken | R86, R282 -/
  any : Bool := false
  /-- a contribution that is no NaN was taken | R85, R282 -/
  num : Bool := false
  /-- a signaling NaN was taken (under SUM_FAST: INVALID was raised), and the lowest member that supplied an infinity or
  a signaling NaN | R86, R87 03_arithmetic.md -/
  snan : Bool := false
  low : Nat := 0xFFFF
  deriving DecidableEq, Repr

/-- A flag record: per flag the lowest (element, member) pair, none when clear (R87, R88). -/
structure FlagRec where
  invalid : Option (Nat × Nat) := none
  overflow : Option (Nat × Nat) := none
  underflow : Option (Nat × Nat) := none
  inexact : Option (Nat × Nat) := none
  truncated : Option (Nat × Nat) := none
  deriving DecidableEq, Repr

/-- A result packet held by a line (R285, R286). -/
structure HeldPkt where
  pkt : Pkt
  /-- buffer id whose payload cells hold it at a child line; none at the ROOT, where packed slots hold it | R286 -/
  buf : Option Nat
  emitted : Bool
  /-- resends so far to each recipient node, the ATTEMPT of the next one less 1 | R123, R148 05_packets.md -/
  tries : List (Nat × Nat) := []
  deriving DecidableEq, Repr

/-- A chunk of a collective at a line and its coach (R249, R270 to R290). -/
structure Chunk where
  key : CKey
  /-- owning logical coach 0 to 511 | R268 10_reduction.md -/
  coach : Nat
  stage : Stage := .opening
  /-- slow cycle at which the chunk's first packet arrived | R259 09_collectives.md -/
  firstAt : Option Nat := none
  /-- slow cycle of the last RESEND_REQ of the chunk | R262 09_collectives.md -/
  resendAt : Option Nat := none
  /-- the request of R270 could not be granted as it was made, and waits | R174 06_switch_core.md, R270 10_reduction.md -/
  waited : Bool := false
  /-- slots that the waiting request asks for | R174 06_switch_core.md, R270 10_reduction.md -/
  asks : Nat := 0
  /-- record cells that it asks for | R270 10_reduction.md -/
  askCells : Nat := 0
  /-- staging slabs that it asks for | R252 09_collectives.md -/
  askSlabs : Nat := 0
  /-- slots and record cells granted | R270 10_reduction.md -/
  admitted : Bool := false
  slotIds : List Nat := []
  recCells : Nat := 0
  slabs : List Nat := []
  /-- timetables held: source and its entries (ENTRY, ENTRY_HELD of the record cells) | R271, R275 10_reduction.md -/
  tt : List (Nat × List Nat) := []
  /-- (source, block) pairs whose data were taken (ARRIVED) | R271 10_reduction.md -/
  arrived : List (Nat × Nat) := []
  slots : List Slot := []
  /-- contributions landed in the staging slabs: source, first block, number of blocks | R252 09_collectives.md -/
  landed : List (Nat × Nat × Nat) := []
  /-- block anchors as R78 entries, fixed when the last timetable is held | R79 03_arithmetic.md -/
  anchors : Option (List Nat) := none
  flags : FlagRec := {}
  /-- timetable and contribution sent up, with their ATTEMPT | R250, R251 09_collectives.md -/
  sent : List Pkt := []
  /-- result packets held for emission and resend | R285, R286 10_reduction.md -/
  held : List HeldPkt := []
  /-- slow cycle at which the last copy was admitted | R288 10_reduction.md -/
  emitAt : Nat := 0
  /-- recipients that acknowledged: source indices | R287 10_reduction.md -/
  acked : List Nat := []
  /-- RESULT_ACK sent to the parent | R290 10_reduction.md -/
  ackedUp : Bool := false
  /-- parent's DONE for this chunk | R290 10_reduction.md -/
  parentDone : Option Pkt := none
  /-- chunk status once it has one | R256 09_collectives.md -/
  status : Option Nat := none
  /-- DETAIL of its DONE | R255 09_collectives.md -/
  detail : Nat := 0
  /-- status with which its hold ends at the ROOT: OK, or OK_FROZEN | R341 12_update.md -/
  okStatus : Nat := 0
  /-- its APPLY was found waiting for a refresh | R340 12_update.md -/
  applyWait : Bool := false
  /-- its request was found too large: CHUNK_TOO_LARGE was set | R271 10_reduction.md -/
  tooLarge : Bool := false
  /-- slow cycle of its last progress | R267 09_collectives.md -/
  lastAt : Nat := 0
  /-- the BLOCK_PRECOND run of the chunk: 0 not submitted, 1 at the coach, 2 has ended | R321, R338 12_update.md -/
  products : Nat := 0
  deriving DecidableEq, Repr

/-- A packet taken over by a station port: parked on a platform (R277 to R279), or taken over for addition (R278). -/
structure Parked where
  /-- buffer id of the packet | R278 10_reduction.md -/
  buf : Nat
  pkt : Pkt
  port : Nat
  /-- chunk, or for a token its entry with the expert as chunk index -/
  key : CKey
  /-- slow cycle of parking | R279 10_reduction.md -/
  at_ : Nat
  deriving DecidableEq, Repr

/-- Collective engine state. -/
structure Colls where
  /-- line copies taken at STARTING | R233 09_collectives.md | empty -/
  copies : List (Nat × LineCopy) := []
  /-- queue entries not FREE | R243 09_collectives.md | empty -/
  entries : List Entry := []
  /-- memories of ended collectives, oldest first | R247 09_collectives.md | empty -/
  ended : List EndedRec := []
  /-- chunks open at the module | R249 09_collectives.md | empty -/
  chunks : List Chunk := []
  /-- platforms, in parking order | R278 10_reduction.md | empty -/
  parked : List Parked := []
  /-- contributions taken over and not yet added, oldest first | R278, R280 10_reduction.md | empty -/
  adding : List Parked := []
  /-- next MATCHED order number | R247 09_collectives.md | 0 -/
  nextOrder : Nat := 0
  /-- last TAG of a line ticket | the model's own numbering | 0 -/
  lastTag : Nat := 0
  deriving DecidableEq, Repr

/-! ## Coaches -/

/-- What a run of a station or of the update engine computes (R321, R339, R350): its descriptors are given nowhere, so such a run
counts as one descriptor (DESIGN CHOICE, log 105). -/
inductive Job where
  /-- the descriptors of a list in stack memory -/
  | list
  /-- pass `pass` of a tile of local expert `k` of a station's work -/
  | tile (line step sub op k tile pass : Nat)
  /-- the BLOCK_PRECOND products of a chunk's tile -/
  | products (line step sub idx : Nat)
  /-- a tile's preconditioner refresh -/
  | refresh (tensor tile bank : Nat)
  deriving DecidableEq, Repr

/-- A run entry (R308). -/
structure Run where
  /-- 0 station, 1 update engine, 2 firmware | R308 11_core_array.md -/
  queue : Nat
  list : Nat
  count : Nat
  record : Nat
  core : Nat
  coachWide : Bool
  seed : Nat
  step : Nat
  tag : Nat
  job : Job := .list
  /-- logical coach that a station or the update engine submitted it to | R304, R316 11_core_array.md -/
  home : Nat := 0
  deriving DecidableEq, Repr

/-- A running run with its completion record so far (R309, R314). -/
structure Running where
  run : Run
  /-- next descriptor index | R300 11_core_array.md -/
  pc : Nat
  flags : Nat
  done : Nat
  firstDesc : Option Nat
  firstElem : Nat
  invalids : Nat
  /-- ending status once decided, and ERR_DESC | R314 11_core_array.md -/
  ending : Option (Nat × Nat)
  deriving DecidableEq, Repr

/-- Coach state behind a coach page (R296 to R317). -/
structure CoachHid where
  /-- the three run queues, heads first | R308 11_core_array.md | empty -/
  queues : List Run := []
  running : List Running := []
  /-- sliver store bytes, address [19:16] core, [15:0] offset | R297 11_core_array.md | DESIGN CHOICE 0, log 86 -/
  sliver : List Cell := []
  /-- stored syndromes of the granules of the sliver stores, the coach's stores one after the other; poison is 0xFFFF | R297
  11_core_array.md, R379 14_memory.md | 0 -/
  synd : List (Nat × BitVec 16) := []
  /-- completion records signalled and not yet taken by their requester: (queue, tag, status) | R314 | empty -/
  signals : List (Nat × Nat × Nat) := []
  /-- runs that have ended and whose completion record waits for the stacks: status and ERR_DESC | R314, R397 | empty -/
  late : List (Running × Nat × Nat) := []
  deriving DecidableEq, Repr

/-! ## Update engine -/

/-- A step of one tensor in progress (R328, R331, R336). -/
structure Shard where
  /-- line of a collective source, or the expert of a local source | R330, R345 -/
  line : Nat
  local_ : Bool
  step : Nat
  sub : Nat
  tensor : Nat
  /-- copies of the tensor descriptor and rule set | R331 12_update.md -/
  tw : List Word
  rw : List Word
  /-- step hyperparameters LR, GSCALE, CLIP, WD | R332 12_update.md -/
  hp : List Nat
  /-- slot LIVE and COMMITS of the commit word | R324 12_update.md -/
  live : Nat
  commits : Nat
  seed : Nat
  /-- sticky flags INVALID, OVERFLOW, UNDERFLOW, INEXACT, DIVZERO | R336 12_update.md -/
  flags : Nat
  held : Nat
  firstHeld : Option Nat
  chunksOk : Nat
  chunks : Nat
  /-- the entry has left the queue, or every chunk of a local update ended | R328 12_update.md -/
  closed : Bool
  /-- chunks of a local update already applied | R345 12_update.md -/
  next : Nat
  /-- records of the module's own shard | R322 12_update.md -/
  recs : Nat := 0
  /-- SHARD_COUNT and SHARD_INDEX of the line | R322, R339 12_update.md -/
  count : Nat := 1
  index : Nat := 0
  deriving DecidableEq, Repr

/-- A preconditioner refresh in progress (R339, R340). -/
structure Refresh where
  tensor : Nat
  tile : Nat
  bank : Nat
  /-- logical coach whose update engine queue its runs go to | R339 12_update.md -/
  coach : Nat
  /-- copies of the tensor descriptor and rule set of its step | R331 12_update.md -/
  tw : List Word
  rw : List Word
  /-- records of the module's own shard | R322 12_update.md -/
  recs : Nat
  /-- step whose commit began it | R339 12_update.md -/
  step : Nat
  /-- its run is in the coach's queue or running | R339, R340 12_update.md -/
  placed : Bool := false
  /-- its run has ended OK | R340 12_update.md -/
  done : Bool := false
  deriving DecidableEq, Repr

/-- Update engine state. -/
structure Update where
  /-- steps in progress | R328 12_update.md | empty -/
  shards : List Shard := []
  /-- tile refreshes running | R339 12_update.md | empty -/
  refreshes : List Refresh := []
  /-- local updates requested by stations and not started: (expert, tensor, STEP, SEED) | R345 | empty -/
  requests : List (Nat × Nat × Nat × Nat) := []
  /-- CHUNK of the last UPDATE of a collective tensor: (tensor, CHUNK) | R322 12_update.md | empty -/
  chunks : List (Nat × Nat) := []
  /-- banks without preconditioners, whose refresh could not read its statistics: (tensor, tile, bank) | log 103 | empty -/
  badBanks : List (Nat × Nat × Nat) := []
  /-- flags of refreshes that the tensor's next completion record takes: (tensor, flags) | R336 12_update.md | empty -/
  refreshFlags : List (Nat × Nat) := []
  deriving DecidableEq, Repr

/-! ## Stations -/

/-- The runs of a tile that a station has submitted: passes that have issued and passes that have ended (R350, R376). -/
structure TileRuns where
  k : Nat
  tile : Nat
  total : Nat
  issued : List Nat
  ended : List Nat
  deriving DecidableEq, Repr

/-- A landed or padding row of an expert's buffer and its row table entry (R362). -/
structure Row where
  k : Nat
  row : Nat
  member : Nat
  tok : Nat
  gate : Nat
  /-- parts that have landed | R362 13_stations.md -/
  parts : List Nat
  deriving DecidableEq, Repr

/-- One RETURN packet held in a return ring, or waiting for room in it (R366). -/
structure Ret where
  member : Nat
  tok : Nat
  /-- station whose ring holds it | R366 13_stations.md -/
  station : Nat
  pkt : Pkt
  /-- number of the ring block it lies in, counted since reset; none while it waits | R366 13_stations.md -/
  blk : Option Nat
  /-- slow cycle of its last emission | R367 13_stations.md -/
  at_ : Nat
  deriving DecidableEq, Repr

/-- What a station entry at its ROOT line holds beyond its queue entry (R358 to R373). -/
structure Work where
  line : Nat
  step : Nat
  sub : Nat
  op : Nat
  /-- STATION_LINE word and the experts' eight words, copied at ACTIVE | R233 09_collectives.md -/
  sline : Word
  experts : List (List Word)
  /-- IN_FMT and OUT_FMT of the tickets | R352 13_stations.md -/
  inFmt : Nat
  outFmt : Nat
  /-- member records: member, NODE, TAG, counts per local expert | R353 13_stations.md -/
  recs : List (Nat × Nat × Nat × List Nat)
  /-- admission: (member, local expert, base, adm) | R358 13_stations.md -/
  adm : List (Nat × Nat × Nat × Nat)
  filled : List Nat
  /-- arena blocks held, per local expert: row blocks, then row table blocks | R372 13_stations.md -/
  blocks : List (List Nat)
  granted : Bool
  rows : List Row
  /-- computed tiles: (local expert, tile) | R363 13_stations.md -/
  tiles : List (Nat × Nat)
  /-- tiles whose runs are in the coaches | R350 13_stations.md -/
  passes : List TileRuns := []
  /-- tokens whose request for accumulator slots waits: (member, TOK, logical coach, slots) | R174 06_switch_core.md, R365
  13_stations.md -/
  asked : List (Nat × Nat × Nat × Nat) := []
  /-- computed FP32 rows: (local expert, row, elements) | R365 13_stations.md -/
  z : List (Nat × Nat × List Nat)
  /-- gate gradients: (local expert, row, FP32) | R369 13_stations.md -/
  gg : List (Nat × Nat × Nat)
  /-- tokens combined: (member, TOK) | R365 13_stations.md -/
  combined : List (Nat × Nat)
  rets : List Ret
  /-- combine flags, in the order of FL_INVALID to FL_TRUNCATED: lowest (member, TOK, i) | R368 13_stations.md -/
  flags : List (Option (Nat × Nat × Nat))
  /-- sticky flags of the station's runs | R368 13_stations.md -/
  runFlags : Nat
  /-- the entry has left the queue and its rows are kept for a COMBINE | R373 13_stations.md -/
  saved : Bool
  /-- slow cycle of its last progress | R267 09_collectives.md -/
  lastAt : Nat := 0
  deriving DecidableEq, Repr

/-- A replica reduction that runs (R374). -/
structure Replica where
  expert : Nat
  /-- TENSOR, SECTION and REPLICA_MEMBER of the expert's entry, copied at ACTIVE | R36 02_registers.md -/
  tensor : Nat
  section_ : Nat
  member : Nat
  line : Nat
  step : Nat
  /-- SEED of the station group, for the local update | R370 13_stations.md -/
  seed : Nat
  /-- TAG of the ticket | the model's own numbering -/
  tag : Nat
  /-- ticket, timetables and contributions sent, for resends | R262 09_collectives.md -/
  sent : List Pkt
  /-- result blocks written back: (chunk, block) | R374 13_stations.md -/
  got : List (Nat × Nat)
  /-- chunks whose DONE came with OK | R374 13_stations.md -/
  done : List Nat
  deriving DecidableEq, Repr

/-- Station state behind the STATION page. -/
structure Stations where
  work : List Work := []
  /-- arena blocks held | R372 13_stations.md | empty -/
  arena : List Nat := []
  /-- base of the arena in force, 4 KiB units | R36 02_registers.md, R372 13_stations.md | 0 -/
  page : Nat := 0
  /-- blocks of the arena in force | R36 02_registers.md, R372 13_stations.md | 0 -/
  blocks : Nat := 0
  /-- SUBs of a STEP whose COMBINE ended OK since the last SUB 0: (line, STEP, SUBs) | R370 | empty -/
  combines : List (Nat × Nat × List Nat) := []
  /-- last (expert, STEP, SUB) whose gradient products were written whole | R370 13_stations.md | empty -/
  grads : List (Nat × Nat × Nat) := []
  /-- return rings in use: (station, number of the block being filled, bytes of it used) | R366 13_stations.md | empty -/
  rings : List (Nat × Nat × Nat) := []
  /-- experts with a local update pending or running | R357, R370 13_stations.md | empty -/
  updating : List Nat := []
  /-- experts whose VALID was first written since module reset | R443 17_reset.md | empty -/
  seenValid : List Nat := []
  /-- replica reductions running | R374 13_stations.md | empty -/
  replicas : List Replica := []
  /-- runs of the stations and of the update engine that have ended and whose requester has not acted yet: the run, its status, the
  descriptors it completed | R304, R314, R376 | empty -/
  endings : List (Run × Nat × Nat) := []
  deriving DecidableEq, Repr

/-! ## Stack memory and fabric memory -/

/-- A row in a shelter entry (R384 to R386). -/
structure Shelter where
  stack : Nat
  pc : Nat
  bank : Nat
  row : Nat
  /-- step of the running repair, 0 when retired for good | R384 14_memory.md -/
  step : Nat
  deriving DecidableEq, Repr

/-- A reply cache entry (R150). -/
structure Cached where
  src : Nat
  tag : Nat
  reply : Option Pkt
  deriving DecidableEq, Repr

/-- A fence counter entry (R393). -/
structure FenceCtr where
  src : Nat
  epoch : Nat
  count : Nat
  deriving DecidableEq, Repr

/-- A FENCE that waits (R393). -/
structure FenceWait where
  src : Nat
  tag : Nat
  epoch : Nat
  n : Nat
  port : Nat
  req : Pkt
  /-- window that admitted it | R398 14_memory.md -/
  win : Nat
  deriving DecidableEq, Repr

/-- A write whose stack acknowledgement is awaited, with its reply (R391). -/
structure MemWait where
  id : Nat
  /-- station port that answers -/
  port : Nat
  src : Nat
  tag : Nat
  epoch : Nat
  reply : Pkt
  /-- window that admitted it | R398 14_memory.md -/
  win : Nat
  deriving DecidableEq, Repr

/-- Stack memory and the fabric memory agents. -/
structure Memory where
  /-- stack bytes by module memory address | R377, R378 14_memory.md | 0 (filled by R378) -/
  bytes : List Cell := []
  /-- per granule, stored check word XOR the check word of the stored data | R379, R380 14_memory.md | 0 -/
  synd : List (Nat × BitVec 16) := []
  shelter : List Shelter := []
  /-- repair list of soft repairs, made hard at the next initialisation | R386 14_memory.md | empty -/
  repairs : List (Nat × Nat × Nat × Nat) := []
  /-- initialisation step reached per stack | R378 14_memory.md | 0 -/
  initStep : List Nat := [0, 0, 0, 0, 0, 0, 0, 0]
  cache : List Cached := []
  fences : List FenceCtr := []
  fenceWaits : List FenceWait := []
  pendingAcks : List MemWait := []
  deriving DecidableEq, Repr

/-! ## Faults and resets -/

/-- A fault record (R421). -/
structure FRec where
  time : Nat
  source : Nat
  severity : Nat
  kind : Nat
  suppressed : Nat
  domain : Nat
  seq : Nat
  detail : List Nat
  deriving DecidableEq, Repr

/-- A full pending slot of the collector (R419). -/
structure FPend where
  source : Nat
  severity : Nat
  kind : Nat
  domain : Nat
  time : Nat
  detail : List Nat
  merged : Nat
  deriving DecidableEq, Repr

/-- An event that set a reported CAUSE bit, or of an internal source, with what held on its edge (R413, R414, R416). -/
structure Report where
  source : Nat
  /-- severity held on the edge of the event | R416 -/
  severity : Nat
  /-- domain by the domain encoding table | R414 -/
  domain : Nat
  /-- NOW at the edge of the event | R419 -/
  time : Nat
  detail : List Nat
  /-- the domain or one above it was in CONTAIN: the event is lost | R424 -/
  lost : Bool
  /-- the domain or one above it was in STOP: no reaction | R426 -/
  inert : Bool
  /-- a hang detector fired: the domain enters CONTAIN whatever the severity | R436 -/
  hang : Bool := false
  deriving DecidableEq, Repr

/-- How the running reset of a domain ends (R425, R427, R439). -/
inductive How where
  /-- by an event: QUIET follows -/
  | event
  /-- by RESET.CMD: SERVING follows -/
  | command
  /-- by a planned substitution: SERVING follows (R305) -/
  | planned
  /-- by FAULT.CMD RELEASE: SERVING follows with the window count at 0 -/
  | release
  /-- started by its parent's reset and covered by it -/
  | parent
  deriving DecidableEq, Repr

/-- The handling of a domain that is not SERVING (R424 to R427). -/
structure Handling where
  domain : Nat
  /-- source and severity of the event that started the handling | R421 -/
  source : Nat
  severity : Nat
  how : How
  deriving DecidableEq, Repr

/-- Fault collector and reset controller. -/
structure Faults where
  /-- events reported and not yet reacted to, oldest first | R414, R416 16_faults.md | empty -/
  reports : List Report := []
  /-- full pending slots | R419 16_faults.md | empty -/
  pend : List FPend := []
  /-- carried counts per source | R419 16_faults.md | 0 -/
  carried : List (Nat × Nat) := []
  /-- time of the last record per source | R419 16_faults.md | none -/
  lastRec : List (Nat × Nat) := []
  /-- rotating pointer over the 512 sources | R419 16_faults.md | 0 -/
  ptr : Nat := 0
  /-- ring slots written: (slot, record) | R420 16_faults.md | empty (clears at power-up) -/
  ring : List (Nat × FRec) := []
  /-- records offered | R421 16_faults.md | 0 -/
  offered : Nat := 0
  /-- handling of domains not SERVING | R424 to R427 16_faults.md | empty -/
  handling : List Handling := []
  /-- core domains: (core instance, DFAULT and RECOVERY words) | R429 16_faults.md | 0 -/
  cores : List (Nat × Word × Word) := []
  /-- power-gated domains | R437 17_reset.md | empty -/
  gated : List Nat := []
  /-- slow cycle in which the collector has taken its slot | R419 16_faults.md | none -/
  takeAt : Option Nat := none
  /-- slow cycle of the last advance of STATUS.SEQ | R423 16_faults.md | none -/
  seqAt : Option Nat := none
  deriving DecidableEq, Repr

/-- Consort state behind the CONSORT pages. -/
structure Consort where
  /-- log rings: (processor, position, eight words) | R447 18_consort.md | empty -/
  logs : List (Nat × Nat × List Word) := []
  /-- host event ring: (position, 64 bytes) | R460 18_consort.md | empty -/
  hev : List (Nat × List Byte) := []
  /-- events offered except OVERFLOW | R461 18_consort.md | 0 -/
  hevSeq : Nat := 0
  /-- pending loss count | R461 18_consort.md | 0 -/
  hevLost : Nat := 0
  /-- processors with an image running | R444 18_consort.md | none -/
  running : List Nat := []
  /-- processors whose activation is a revert under test | R456 18_consort.md | empty -/
  reverting : List Nat := []
  /-- banks of the sections that reverted processors start again, by processor | R456, R502 20_siding_boot.md | empty -/
  oldBank : List (Nat × Nat) := []
  /-- flash bytes: region at bit 28 (0, 1 image banks; 2, 3 manifest slots; 4 certificate) | R449, R489, R494 | DESIGN CHOICE 0, log 85 -/
  flash : List Cell := []
  /-- mailboxes in always-on SRAM | R445 18_consort.md | DESIGN CHOICE 0, log 85 -/
  mailbox : List Cell := []
  /-- slow cycle at which the host was found absent | R458, R461 18_consort.md | 0 -/
  absentAt : Nat := 0
  deriving DecidableEq, Repr

/-- The input after the hot-swap controller, as the module measures it (R462). -/
structure PowerInput where
  /-- VIN [10 mV] | R462 19_power.md | DESIGN CHOICE none before the first reading, log 63 -/
  vin : Nat
  /-- IIN [10 mA] | R462 19_power.md | DESIGN CHOICE none before the first reading, log 63 -/
  iin : Nat
  /-- input power as PIN measures it [0.1 µW] | R462 19_power.md | DESIGN CHOICE none before the first reading, log 63 -/
  power : Nat
  /-- input power as ENERGY_MJ measures it [0.1 µW] | R462 19_power.md | DESIGN CHOICE none before the first reading, log 63 -/
  drawn : Nat
  deriving DecidableEq, Repr

/-- Power arbiter and power state. -/
structure Power where
  /-- main rails on | R517 21_module.md | DESIGN CHOICE true, log 83 -/
  mainRails : Bool := true
  /-- hot-swap controller on | R516 21_module.md | DESIGN CHOICE true, log 83 -/
  hotSwap : Bool := true
  /-- trip latched until MOD_EN falls and rises | R472 19_power.md | false -/
  tripped : Bool := false
  /-- the module reset has ended and boot runs | R517 21_module.md | false -/
  released : Bool := false
  /-- the input's levels | R462, R470 19_power.md | none -/
  input : Option PowerInput := none
  /-- slow cycles from which the input drew a power, newest first: (slow cycle, 0.1 µW), over the last 1 ms | R462 19_power.md |
  empty -/
  drawn : List (Nat × Nat) := []
  /-- input energy beyond ENERGY_MJ [10⁻¹² mJ] | R462 19_power.md | 0 -/
  energy : Nat := 0
  /-- last readings of the 21 junction-die sensors and of the lane dies, by slot | R470, R472, R475 19_power.md | empty -/
  temps : List (Nat × Nat) := []
  /-- recipients whose request waits for the next slow cycle | R466 19_power.md | empty -/
  requests : List Nat := []
  /-- recipients power-gated after a missed deadline | R437 17_reset.md, R465 19_power.md | empty -/
  gated : List Nat := []
  /-- TOP.UPTIME of the last epoch boundary taken | R463, R469 19_power.md | none -/
  epochAt : Option Nat := none
  deriving DecidableEq, Repr

/-- A symbol of 8b/10b on the siding link: a data byte or a special symbol of the table (R478). -/
inductive Sym where
  | data (b : Byte)
  | com
  | skp
  | tsy
  | ack
  | sfd
  | efd
  | pad
  deriving DecidableEq, Repr

/-- What the siding transmitter still sends of a frame or an ordered set: symbol times of eight lanes (R478, R483). -/
structure SidTx where
  /-- symbol times, lane 0 first | R478 20_siding_boot.md -/
  rows : List (List Sym)
  /-- an ordered set, within which no SKIP stands | R478, R483 20_siding_boot.md -/
  ordered : Bool
  deriving DecidableEq, Repr

/-- Siding link and boot state. -/
structure Siding where
  /-- frames and ordered sets that the transmitter sends, the one in progress first | R478 20_siding_boot.md | empty -/
  tx : List SidTx := []
  /-- running disparity of each lane's transmitter, true for positive | R477 20_siding_boot.md | PRESUMED negative, log 123 -/
  disparity : List Bool := List.replicate 8 false
  /-- the slow cycle has 13 symbol times, not 12 | R477, R473 20_siding_boot.md | DESIGN CHOICE false, log 2 -/
  longCycle : Bool := false
  /-- consecutive TS with ALL_ALIGNED on every lane received | R481 20_siding_boot.md | 0 -/
  partnerTs : Nat := 0
  /-- code errors while UP: (slow cycle, lane, count), within 1 µs | R482 20_siding_boot.md | empty -/
  codeErrs : List (Nat × Nat × Nat) := []
  /-- manifest slot that is staged, as its flash region | R496 20_siding_boot.md | none -/
  manStage : Option Nat := none
  /-- outcome of the verification that END started | R496 20_siding_boot.md | none -/
  manReason : Option Nat := none
  /-- trims that each lane die has loaded: (die, offset in its 2,048 bytes, byte), bytes 0 left out | R492 20_siding_boot.md |
  empty -/
  dieTrims : List (Nat × Nat × Byte) := []
  /-- next SEQ to send, next expected | R485 20_siding_boot.md | 0 -/
  txSeq : Nat := 0
  rxSeq : Nat := 0
  /-- frames sent and unacknowledged: (SEQ, bytes) | R485 20_siding_boot.md | empty -/
  unacked : List (Nat × List Byte) := []
  /-- frames waiting for RX_FREE or the 64-frame limit | R485 20_siding_boot.md | empty -/
  backlog : List (List Byte) := []
  /-- partner's last RX_FREE and frames sent since | R485 20_siding_boot.md | DESIGN CHOICE 32, 0, log 23 -/
  rxFree : Nat := 32
  sentSince : Nat := 0
  /-- trim and calibration stores: lane trims, spare pins, time and energy calibration, by offset in the manifest (bytes 0 left
  out) | R492, R494 20_siding_boot.md | empty -/
  trims : List (Nat × Byte) := []
  /-- sections of which the manifest marks two or more physical coaches failed | R3 00_scope.md, R302 11_core_array.md | empty -/
  lame : List Nat := []
  /-- a received frame awaits acknowledgement | R485 20_siding_boot.md | false -/
  ackDue : Bool := false
  /-- register bus released | R488 20_siding_boot.md | false -/
  released : Bool := false
  /-- recovery mode | R495 20_siding_boot.md | false -/
  recovery : Bool := false
  /-- a manifest slot is valid | R493, R495 20_siding_boot.md | false -/
  manifestOk : Bool := false
  /-- EYE_CTL of each lane's running point | R491 20_siding_boot.md | 0 -/
  eyeCtl : List Word := [0, 0, 0, 0, 0, 0, 0, 0]
  /-- identity key derived | R497 20_siding_boot.md | false -/
  keyOk : Bool := false
  /-- latched at GO: NONCE bytes, NOW, report image without signature | R501 20_siding_boot.md | empty -/
  latched : List Byte := []
  /-- reports started since power-up | R501 20_siding_boot.md | 0 -/
  reports : Nat := 0
  /-- a NOTIFY is owed | R490 20_siding_boot.md | false -/
  notifyDue : Bool := false
  /-- values carried by the last NOTIFY: HEV_WR, RING_WR, TOP.STATE, pins | R490 | zero -/
  notified : List Nat := [0, 0, 0, 0]
  deriving DecidableEq, Repr

/-- Sideband pins (R505, R511). An output is true while asserted. -/
structure Pins where
  /-- MOD_EN high | R517 21_module.md | DESIGN CHOICE true, log 83 -/
  modEn : Bool := true
  /-- RESET_N high | R517 21_module.md | DESIGN CHOICE true, log 83 -/
  resetN : Bool := true
  /-- FAULT_N asserted | R423, R512 21_module.md | released -/
  faultN : Bool := false
  /-- ATTN_N asserted | R423, R512 21_module.md | released -/
  attnN : Bool := false
  /-- READY asserted | R512 21_module.md | released -/
  ready : Bool := false
  /-- TIME_PPS_OUT asserted | R207 07_paths_shaping.md, R511 21_module.md | released -/
  ppsOut : Bool := false
  /-- SLOT_ID[5:0] straps | R513 21_module.md | DESIGN CHOICE 0, log 84 -/
  slotId : Nat := 0
  /-- HEV_WR, RING_WR, TOP.STATE and pins at the end of the last command, as NOTIFY carries them | R490 20_siding_boot.md | 0 -/
  seen : List Nat := [0, 0, 0, 0]
  /-- one of them has changed since the last NOTIFY | R490 20_siding_boot.md | false -/
  moved : Bool := false
  deriving DecidableEq, Repr

/-- What the module has put out to its surroundings, in order. -/
inductive Out where
  /-- training frame sent on a lane: bits [127:0] of R99's control field, its CRC-8 in [127:120], and the bit of its PRBS13
  at which symbol 128 starts | R99, R100 -/
  | train (lane : Nat) (ctrl : Nat) (prbs : Nat)
  /-- test pattern sent on a lane: 1 PRBS13Q, 2 PRBS31Q, 3 SSPRQ | R92; 04_lanes.md, LANE lane page fields -/
  | pattern (lane : Nat) (test : Nat)
  /-- control pair sent on a lane: TYPE and content bits | R93, R94 -/
  | pair (lane : Nat) (type : Nat) (content : Nat)
  /-- LINK unit sent on a port, on a lane | R109, R138 -/
  | link (port : Nat) (unit : List Byte) (lane : Nat)
  /-- packet sent on a port, with the lane of each of its units; at an internal port it goes to its consumer on none | R109,
  R121 -/
  | packet (port : Nat) (p : Pkt) (lanes : List Nat)
  /-- frame sent on the siding link | R484 -/
  | frame (bytes : List Byte)
  /-- ordered set ACK on the siding link: SEQ, NAK, RX_FREE | R478, R485 -/
  | ack (seq : Nat) (nak : Bool) (rxFree : Nat)
  /-- SKIP ordered set on all siding lanes | R483 -/
  | skip
  /-- ten-bit code words that the siding lanes send in a slow cycle, one list a lane | R477, R478, R479 -/
  | siding (words : List (List Nat))
  /-- SMBus Read Word answer | R515 -/
  | smb (value : Option Nat)
  deriving DecidableEq, Repr

/-- The whole module, as plain data. -/
structure State where
  /-- commands that are waiting, first in first out | the block's queue | empty -/
  pending : List Instr
  /-- slow cycles since power-up | R43, R463 | DESIGN CHOICE 0, log 86 -/
  clk : Nat
  /-- assembly | R1 00_scope.md | DESIGN CHOICE A8 E8 M4, log 81 -/
  asm : Assembly
  /-- FRU EEPROM | R514 21_module.md -/
  fru : Fru
  /-- register words that differ from their reset value, by address (first copy of RWV words) | R23 to R55 -/
  regs : List (Nat × Word)
  /-- second and third copies of RWV words that differ from their reset value | R34 02_registers.md -/
  rwv2 : List (Nat × Word)
  rwv3 : List (Nat × Word)
  /-- staging registers | R37 02_registers.md | empty -/
  staging : List Staging
  /-- machines that hold a start-up refusal | R525 02_registers.md | empty -/
  refused : List Mach
  /-- running timers with their start | the timed rules | empty -/
  timers : List (TKey × Nat)
  /-- counter of the model's free values | the model's own | DESIGN CHOICE 0, log 3 -/
  free : Nat
  lanes : List (Nat × LaneHid)
  ports : List (Nat × PortHid)
  sw : Switch
  pools : List (Nat × PoolHid)
  time : NetTime
  coll : Colls
  coaches : List (Nat × CoachHid)
  upd : Update
  stn : Stations
  mem : Memory
  flt : Faults
  cons : Consort
  pow : Power
  sid : Siding
  pins : Pins
  /-- what has been put out to the surroundings, newest last | the model's own | empty -/
  out : List Out
  deriving DecidableEq, Repr

/-- The module right after reset: always-on rail and main rails good, MOD_EN and RESET_N high, every register at its
reset value, boot at its first step (R492), nothing queued. -/
def State.reset : State where
  pending := []
  clk := 0
  asm := { a := .a8, l := .e8, m := .m4 }
  fru := { partNumber := Assembly.code { a := .a8, l := .e8, m := .m4 }, serial := [] }
  regs := []
  rwv2 := []
  rwv3 := []
  staging := []
  refused := []
  timers := []
  free := 0
  lanes := []
  ports := []
  sw := {}
  pools := []
  time := {}
  coll := {}
  coaches := []
  upd := {}
  stn := {}
  mem := {}
  flt := {}
  cons := {}
  pow := {}
  sid := {}
  pins := {}
  out := []

end Sys2Proof.Machine
end

