-- ==== Sys2Proof/Machine/Ops.lean ====
section
/-! DEFINITION. Named operations over State: reading and writing registers and fields, counters, causes and their
reports (R26 to R37, R412 to R416), timers, machines, domains, and the small accessors of the sparse tables. -/

namespace Sys2Proof.Machine

/-! ## Bits of naturals -/

/-- Bits [lo + w - 1 : lo] of a natural. -/
def bits (v lo w : Nat) : Nat := (v >>> lo) % 2 ^ w

/-- `v` with bits [lo + w - 1 : lo] replaced by `x`. -/
def setBits (v lo w x : Nat) : Nat :=
  v % 2 ^ lo + (x % 2 ^ w) * 2 ^ lo + (v >>> (lo + w)) * 2 ^ (lo + w)

/-- Bit `n` of a natural. -/
def bit (v n : Nat) : Bool := v.testBit n

/-- `v` with the bits of `m` cleared. -/
def clr (v m : Nat) : Nat := v - (v &&& m)

/-- 1 for true. -/
def b2n (b : Bool) : Nat := if b then 1 else 0

/-- Lowest bit set below `n`, from bit `i`. -/
def lowBit (v : Nat) : Nat → Nat → Nat
  | 0, i => i
  | n + 1, i => if v.testBit i then i else lowBit v n (i + 1)

/-- Number of bits set among the lowest `n`. -/
def popCount (v : Nat) : Nat → Nat
  | 0 => 0
  | n + 1 => popCount v n + b2n (v.testBit n)

/-- The bits set among the lowest `n`, rising. -/
def bitList (v n : Nat) : List Nat := (List.range n).filter v.testBit

/-- A signed value of `w` bits. -/
def signed (v w : Nat) : Int := if v < 2 ^ (w - 1) then v else (v : Int) - 2 ^ w

/-- Two's complement of `w` bits. -/
def unsigned (v : Int) (w : Nat) : Nat := (v % (2 ^ w : Int)).toNat

/-- Little-endian bytes of a number. -/
def toBytes (n v : Nat) : List Byte := (List.range n).map fun i => BitVec.ofNat 8 (v >>> (8 * i))

/-- The number that little-endian bytes hold. -/
def ofBytes : List Byte → Nat
  | [] => 0
  | b :: l => b.toNat + 256 * ofBytes l

/-- `n` bytes from offset `o`, zero past the end. -/
def slice (l : List Byte) (o n : Nat) : List Byte := (List.range n).map fun i => l.getD (o + i) 0

/-- The little-endian number at offset `o`. -/
def numAt (l : List Byte) (o n : Nat) : Nat := ofBytes (slice l o n)

/-! ## The page map -/

/-- Page base of an instance of a block (R24). -/
def Blk.page (b : Blk) (i j : Nat) : Nat := b.info.base + i * b.info.s1 + j * b.info.s2

/-- The common header (R26), registers 0 to 7. CAUSE_EN keeps every bit (R414). -/
def hdrRegs (b : Blk) : List Reg :=
  let f := b.info
  [⟨0, 0x00, 0, 1, 0, 1, 1, .ro, [], [], [], [], false⟩,
   ⟨1, 0x04, 0, 1, 0, 1, 1, .ro, [], [], [0x100], [], false⟩,
   ⟨2, 0x08, 0, 1, 0, 1, 1, .rw, [f.ctlMask], [], [f.ctlReset], [], false⟩,
   ⟨3, 0x0C, 0, 1, 0, 1, 1, .ro, [], [], [f.stateReset], [], false⟩,
   ⟨4, 0x10, 0, 1, 0, 1, 1, .ro, [], [f.causeMask], [], [], false⟩,
   ⟨5, 0x14, 0, 1, 0, 1, 1, .rw, [0xFFFFFFFF], [], [0xFFFF], [], false⟩,
   ⟨6, 0x18, 0, 1, 0, 1, 1, .ro, [], [], [], [], false⟩,
   ⟨7, 0x1C, 0, 1, 0, 1, 1, .ro, [], [], [], [], false⟩]

/-- Where an address falls: block, instance, register, array indices and word. -/
structure Loc where
  blk : Blk
  i : Nat
  j : Nat
  reg : Reg
  k1 : Nat
  k2 : Nat
  w : Nat
  deriving DecidableEq, Repr

/-- The array indices and word of an offset within a register. -/
def Reg.find (r : Reg) (off : Nat) : Option (Nat × Nat × Nat) :=
  if off < r.off then none else
  let d := off - r.off
  let k1 := if r.s1 = 0 then 0 else d / r.s1
  let d1 := if r.s1 = 0 then d else d % r.s1
  let k2 := if r.s2 = 0 then 0 else d1 / r.s2
  let d2 := if r.s2 = 0 then d1 else d1 % r.s2
  if k1 < r.n1 ∧ k2 < r.n2 ∧ d2 / 4 < r.words then some (k1, k2, d2 / 4) else none

/-- The instance and offset of an address within a block. -/
def Blk.find (b : Blk) (a : Nat) : Option (Nat × Nat × Nat) :=
  let f := b.info
  if a < f.base then none else
  let d := a - f.base
  let i := d / f.s1
  let r := d % f.s1
  if i < f.n1 ∧ r / f.s2 < f.n2 ∧ r % f.s2 < f.size then some (i, r / f.s2, r % f.s2) else none

/-- The first register of a list that an offset falls in. -/
def findReg (b : Blk) (i j off : Nat) : List Reg → Option Loc
  | [] => none
  | r :: l =>
    match r.find off with
    | some (k1, k2, w) => if r.p0 ∧ i ≠ 0 then none else some ⟨b, i, j, r, k1, k2, w⟩
    | none => findReg b i j off l

/-- The register at a word address; none where the page map defines nothing (R25). -/
def locate (a : Nat) : Option Loc :=
  Blk.all.findSome? fun b =>
    match b.find a with
    | some (i, j, off) => findReg b i j off (hdrRegs b ++ b.regs)
    | none => none

/-! ## Reset values -/

/-- Reset severity and floor of a source (R417). -/
def srcDefault (n : Nat) : Nat × Nat :=
  if n = 6 ∨ n = 193 then (3, 0)
  else if n = 128 ∨ n = 131 ∨ (144 ≤ n ∧ n ≤ 147) ∨ n = 151 ∨ n = 166 ∨ n = 179 ∨ n = 241 ∨ n = 242 ∨ n = 258 ∨
      n = 274 ∨ n = 312 ∨ n = 326 then (5, 5)
  else if n = 130 then (4, 0)
  else if n = 150 ∨ (169 ≤ n ∧ n ≤ 172) ∨ (243 ≤ n ∧ n ≤ 245) ∨ n = 280 ∨ n = 283 ∨ (352 ≤ n ∧ n ≤ 356) then (1, 0)
  else if n = 176 then (6, 5)
  else if n = 192 then (4, 2)
  else if n = 256 ∨ n = 257 ∨ n = 325 then (4, 4)
  else (2, 0)

/-- Domain KIND of a source's events (R412, R413, R417). -/
def srcKind (n : Nat) : Nat :=
  if n = 179 then 5
  else if n = 352 ∨ n = 357 then 2
  else if n = 355 then 7
  else if n = 356 then 5
  else match n / 16 with
    | 6 => 8
    | 8 => 5
    | 9 => 6
    | 10 => 5
    | 15 => 4
    | 16 => 1
    | 17 => 2
    | 19 => 1
    | 20 => 7
    | _ => 0

/-- Reset word of SRC_CFG[n] (R413, R417). -/
def srcCfgReset (n : Nat) : Nat :=
  if 358 ≤ n then 0
  else (srcDefault n).1 + 0x0A * 256 + (srcDefault n).2 * 65536 + srcKind n * 1048576

/-- Lane die type by slot: 0 empty, 1 type E, 2 type O (R4). -/
def slotType (a : Assembly) (d : Nat) : Nat :=
  if 8 ≤ d then 0 else
  match a.l with
  | .e4 => if d < 4 then 1 else 0
  | .o4 => if d < 4 then 2 else 0
  | .e8 => 1
  | .e4o4 => if d < 4 then 1 else 2
  | .o8 => 2

/-- Number of populated stacks (R6). -/
def stackCount (a : Assembly) : Nat :=
  match a.m with
  | .m4 => 4
  | .m8 => 8

/-- Token recipients' floors [W] (R463); `awake` matters for sections only. -/
def tokenFloor (a : Assembly) (awake : Bool) (r : Nat) : Nat :=
  if r < 16 then (if awake then 28 else 3)
  else if r = 16 then 40
  else if r < 25 then (match slotType a (r - 17) with | 1 => 30 | 2 => 40 | _ => 0)
  else if r < 33 then (if r - 25 < stackCount a then 5 else 0)
  else 20

/-- CAP at reset [W] (R463). -/
def capReset (a : Assembly) (r : Nat) : Nat :=
  if r < 16 then (match a.a with | .a8 => 118 | .a7 => 107 | .a6 => 96)
  else if r = 16 then 150
  else if r < 25 then tokenFloor a true r
  else if r < 33 then 32
  else 20

/-- Entries of pool k (R173; 06_switch_core.md). -/
def poolSize (k : Nat) : Nat :=
  if k = 0 then 786432 else if 64 ≤ k ∧ k < 1057 then 16384 else 0

/-- Sub-lists of pool k. -/
def poolSubs (k : Nat) : Nat :=
  if k = 0 then 256 else if k = 1 then 1 else if 64 ≤ k ∧ k < 1057 then 32 else 0

/-- Reset value of a register word. -/
def resetAt (asm : Assembly) (l : Loc) : Nat :=
  let id := l.reg.id
  if id = 0 then (if l.blk = .TOP then 0xBD070201 else l.blk.info.code * 65536 +
      (if l.blk = .LANE then l.i * 128 + l.j else if l.blk = .COACH then l.i * 64 + l.j else l.i))
  else if id = 5 ∧ l.blk = .FAULT then 0
  else if id = Id.SWITCH_LIMIT ∨ id = Id.SWITCH_EFF then
    (if l.k1 < 256 then (if l.k2 = 4 then 0x10 else 0) else if l.k1 = 288 then 0x40 else 0)
  else if id = Id.POOL_SIZE ∨ id = Id.POOL_FREE then poolSize l.k1
  else if id = Id.POOL_SUB then poolSubs l.k1
  else if id = Id.POOL_QUOTA then
    (if 64 ≤ l.k1 then (match l.k2 with | 0 => 0x3000 | 1 => 0xC00 | 2 => 0x400 | _ => 0) else 0)
  else if id = Id.SECTION_REMAP then l.k1
  else if id = Id.FAULT_SRC_CFG then srcCfgReset l.k1
  else if id = Id.POWER_REC_CAP then capReset asm l.k1
  else l.reg.reset.getD l.w 0

/-- What an unlisted register word reads as. -/
def resetWord (asm : Assembly) (a : Nat) : Word :=
  match locate a with
  | some l => BitVec.ofNat 32 (resetAt asm l)
  | none => 0

/-- Whether a word is held in three copies (R34). -/
def isRwv (a : Nat) : Bool :=
  match locate a with
  | some l => l.reg.rwv.contains l.w
  | none => false

/-! ## Register words and fields -/

/-- Per-bit majority of three copies (R34). -/
def majority (x y z : Word) : Word := (x &&& y) ||| (x &&& z) ||| (y &&& z)

/-- The word the logic sees at an address: the majority of an RWV word's copies (R34). -/
def State.word (s : State) (a : Nat) : Word :=
  if isRwv a then
    majority (Tab.get (resetWord s.asm a) s.regs a) (Tab.get (resetWord s.asm a) s.rwv2 a)
      (Tab.get (resetWord s.asm a) s.rwv3 a)
  else Tab.get (resetWord s.asm a) s.regs a

/-- Stores a word, in all copies of an RWV word (R29). -/
def State.setWord (s : State) (a : Nat) (w : Word) : State :=
  if isRwv a then
    { s with regs := Tab.put (resetWord s.asm a) s.regs a w
             rwv2 := Tab.put (resetWord s.asm a) s.rwv2 a w
             rwv3 := Tab.put (resetWord s.asm a) s.rwv3 a w }
  else { s with regs := Tab.put (resetWord s.asm a) s.regs a w }

/-- A register word as a number. -/
def State.rd (s : State) (a : Nat) : Nat := (s.word a).toNat

/-- Stores a number, modulo 2^32. -/
def State.wr (s : State) (a v : Nat) : State := s.setWord a (BitVec.ofNat 32 v)

/-- A 64-bit register, low word first. -/
def State.rd64 (s : State) (a : Nat) : Nat := s.rd a + 2 ^ 32 * s.rd (a + 4)

/-- Stores a 64-bit register. -/
def State.wr64 (s : State) (a v : Nat) : State := (s.wr a v).wr (a + 4) (v >>> 32)

/-- A field's value. -/
def State.get (s : State) (f : Fld) : Nat :=
  if f.lo + f.width ≤ 32 then bits (s.rd f.addr) f.lo f.width
  else bits (s.rd f.addr + 2 ^ 32 * s.rd (f.addr + 4)) f.lo f.width

/-- Stores a field. -/
def State.put (s : State) (f : Fld) (v : Nat) : State :=
  if f.lo + f.width ≤ 32 then s.wr f.addr (setBits (s.rd f.addr) f.lo f.width v)
  else s.wr64 f.addr (setBits (s.rd64 f.addr) f.lo f.width v)

/-- A one-bit field as a truth value. -/
def State.flag (s : State) (f : Fld) : Bool := s.get f != 0

/-- A 64-bit counter plus `n`, modulo 2^64 (R50). -/
def State.bump (s : State) (a n : Nat) : State :=
  if n = 0 then s else s.wr64 a ((s.rd64 a + n) % 2 ^ 64)

/-- A 32-bit count plus `n`, modulo 2^32. -/
def State.bump32 (s : State) (a n : Nat) : State := s.wr a (s.rd a + n)

/-- Captures into a word pair whose word 0 has VALID in bit 31, unless VALID is set already. -/
def State.capture (s : State) (valid : Fld) (f : State → State) : State :=
  if s.flag valid then s else (f s).put valid 1

/-! ## Domains -/

/-- A domain in the encoding of R414. -/
def dom (kind inst : Nat) : Nat := kind + 16 * inst

/-- KIND of a domain. -/
def domKind (d : Nat) : Nat := d % 16

/-- INSTANCE of a domain. -/
def domInst (d : Nat) : Nat := d / 16

/-- Parent of a domain (R430); the module has none. -/
def domParent (d : Nat) : Option Nat :=
  match domKind d with
  | 3 => some (dom 2 (domInst d / 16))
  | 2 => some (dom 1 (domInst d / 64))
  | 6 => some (dom 5 (domInst d / 128))
  | 0 => none
  | _ => some (dom 0 0)

/-- The domains above a domain, nearest first; four levels is the depth of the tree. -/
def domAbove (d : Nat) : Nat → List Nat
  | 0 => []
  | n + 1 =>
    match domParent d with
    | some p => p :: domAbove p n
    | none => []

/-- Address of DFAULT of a domain other than a core (R429, domain state words). -/
def dfaultAddr (d : Nat) : Nat :=
  let n := domInst d
  match domKind d with
  | 0 => A.RESET_DFAULT 0
  | 1 => A.RESET_DFAULT (1 + n)
  | 5 => A.RESET_DFAULT (17 + n)
  | 7 => A.RESET_DFAULT (25 + n)
  | 8 => A.RESET_DFAULT (33 + n)
  | 2 => A.RESET_COACH_DFAULT n
  | 6 => A.RESET_LANE_DFAULT n
  | _ => A.RESET_LINE_DFAULT n

/-- DFAULT word of a domain. -/
def State.dfault (s : State) (d : Nat) : Nat :=
  if domKind d = 3 then (match Tab.find s.flt.cores (domInst d) with | some (w, _) => w.toNat | none => 0)
  else s.rd (dfaultAddr d)

/-- RECOVERY word of a domain. -/
def State.recovery (s : State) (d : Nat) : Nat :=
  if domKind d = 3 then (match Tab.find s.flt.cores (domInst d) with | some (_, w) => w.toNat | none => 0)
  else s.rd (dfaultAddr d + 4)

/-- Stores the DFAULT and RECOVERY words of a domain. -/
def State.setFault (s : State) (d df rc : Nat) : State :=
  if domKind d = 3 then
    { s with flt := { s.flt with cores := Tab.put (0, 0) s.flt.cores (domInst d) (BitVec.ofNat 32 df, BitVec.ofNat 32 rc) } }
  else (s.wr (dfaultAddr d) df).wr (dfaultAddr d + 4) rc

/-- FSTATE of a domain: 0 SERVING, 1 CONTAIN, 2 QUIET, 3 STOP (R424, R429). -/
def State.fstate (s : State) (d : Nat) : Nat := s.dfault d % 4

/-- Stores FSTATE. -/
def State.setFstate (s : State) (d v : Nat) : State := s.setFault d (setBits (s.dfault d) 0 2 v) (s.recovery d)

/-- The domain itself is fenced: CONTAIN, QUIET or STOP (R425, R426). A module reset holds its domains until boot starts,
which starts them one after the other (17_reset.md, Resuming after a module reset; log 53). -/
def State.fencedSelf (s : State) (d : Nat) : Bool :=
  if d = dom 0 0 then s.fstate d == 3 || (s.fstate d == 1 && !s.pow.released) else s.fstate d != 0

/-- The domain or one above it is fenced; the consort runs on while the module is in STOP (R418). -/
def State.fenced (s : State) (d : Nat) : Bool :=
  (d :: domAbove d 4).any fun x => s.fencedSelf x && !(x == dom 0 0 && domKind d == 8 && s.fstate x == 3)

/-- The domain is power-gated (R46, R437). -/
def State.gatedDom (s : State) (d : Nat) : Bool := (d :: domAbove d 4).any fun x => s.flt.gated.contains x

/-! ## Sparse tables of hidden state -/

/-- Lane state of lane `l` (128 × die + lane). -/
def State.lane (s : State) (l : Nat) : LaneHid := Tab.get {} s.lanes l

/-- Stores lane state. -/
def State.setLane (s : State) (l : Nat) (v : LaneHid) : State := { s with lanes := Tab.put {} s.lanes l v }

/-- Port state of port `p`. -/
def State.port (s : State) (p : Nat) : PortHid := Tab.get {} s.ports p

/-- Stores port state. -/
def State.setPort (s : State) (p : Nat) (v : PortHid) : State := { s with ports := Tab.put {} s.ports p v }

/-- Pool state of pool `k`. -/
def State.pool (s : State) (k : Nat) : PoolHid := Tab.get {} s.pools k

/-- Stores pool state. -/
def State.setPool (s : State) (k : Nat) (v : PoolHid) : State := { s with pools := Tab.put {} s.pools k v }

/-- Coach state of physical coach `c` (section × 64 + physical coach). -/
def State.coach (s : State) (c : Nat) : CoachHid := Tab.get {} s.coaches c

/-- Stores coach state. -/
def State.setCoach (s : State) (c : Nat) (v : CoachHid) : State := { s with coaches := Tab.put {} s.coaches c v }

/-- Appends to what the module has put out. -/
def State.emit (s : State) (o : Out) : State := { s with out := s.out ++ [o] }

/-- A fresh value the spec leaves open, and the state with the counter advanced (log 3). -/
def State.fresh (s : State) : Nat × State := (Config.free s.free, { s with free := s.free + 1 })

/-! ## Causes and their reports -/

/-- Domain of an event of a block instance (R412). -/
def State.evDomain (s : State) (b : Blk) (i j : Nat) : Nat :=
  match b with
  | .CONSORT => dom 8 i
  | .DIE => dom 5 i
  | .LANE => dom 6 (i * 128 + j)
  | .PORT => dom 5 (match (s.port i).layout with | some y => y.die | none => s.get (F.PORT_LAYOUT_DIE i))
  | .COLL => dom 4 i
  | .SECTION => dom 1 i
  | .COACH => dom 2 (i * 64 + j)
  | .STATION => dom 1 i
  | .HBM => dom 7 i
  | _ => dom 0 0

/-- Severity of a source now (R415). -/
def State.severity (s : State) (n : Nat) : Nat := s.get (F.FAULT_SRC_CFG_SEVERITY n)

/-- The event of a source with what held on its edge (R414, R416, R424, R426). A STOP event of a domain in CONTAIN is not
lost, as it acts from any state (R426; DEDUCED, log 53). -/
def State.mkReport (s : State) (n d : Nat) (detail : List Nat) : Report :=
  { source := n, severity := s.severity n, domain := d, time := s.time.ns, detail := detail
    lost := s.fstate d != 3 && ((s.fstate d == 1 && s.severity n != 6) || (domAbove d 4).any (fun x => s.fstate x = 1))
    inert := (d :: domAbove d 4).any (fun x => s.fstate x = 3) }

/-- Reports a hang, whose reset starts whatever the source's severity; `en` tells whether its cause is reported (R436). -/
def State.reportHang (s : State) (n d : Nat) (en : Bool) : State :=
  let r := s.mkReport n d []
  let r1 := { r with hang := true, severity := if en then r.severity else 0, lost := r.lost || s.fstate d == 1 }
  { s with flt := { s.flt with reports := s.flt.reports ++ [r1] } }

/-- Reports an event unless its source is OFF (R414). -/
def State.report (s : State) (n d : Nat) (detail : List Nat) : State :=
  if s.severity n = 0 then s
  else { s with flt := { s.flt with reports := s.flt.reports ++ [s.mkReport n d detail] } }

/-- Page whose header a block instance's causes use: COLL, STATION, RESET and SWITCH have one page, whatever the line, the
station or the domain. -/
def Blk.causePage (b : Blk) (i j : Nat) : Nat :=
  match b with
  | .COLL | .STATION | .RESET | .SWITCH => b.page 0 0
  | _ => b.page i j

/-- CAUSE, CAUSE_SEQ and CAUSE_FIRST when bits go to 1 on one edge (R31). -/
def State.setCause (s : State) (pg mask : Nat) : State :=
  let old := s.rd (pg + 0x10)
  let new := old ||| mask
  if new = old then s
  else
    let s1 := (s.wr (pg + 0x10) new).bump32 (pg + 0x18) 1
    if old = 0 then s1.wr (pg + 0x1C) (0x80000000 + lowBit mask 32 0) else s1

/-- An event sets bits of a page's CAUSE on one edge, and the enabled ones are reported (R30, R31, R412, R414). -/
def State.raiseAs (s : State) (b : Blk) (i j mask d : Nat) (detail : List Nat) : State :=
  let pg := b.causePage i j
  let en := s.rd (pg + 0x14)
  let s1 := s.setCause pg mask
  if b = .FAULT then s1
  else (bitList mask 16).foldl (fun t k => if en.testBit k then t.report (16 * b.slot + k) d detail else t) s1

/-- An event sets one CAUSE bit of a block instance. -/
def State.raise (s : State) (b : Blk) (i j k : Nat) (detail : List Nat := []) : State :=
  s.raiseAs b i j (2 ^ k) (s.evDomain b i j) detail

/-- A hang detector sets its CAUSE bit; the domain is handled whatever the severity of the source (R436). -/
def State.raiseHang (s : State) (b : Blk) (i j k d : Nat) : State :=
  (s.setCause (b.causePage i j) (2 ^ k)).reportHang (16 * b.slot + k) d
    ((s.rd (b.causePage i j + 0x14)).testBit k)

/-- A W1C write of CAUSE with events on the same edge: the events' bits stay set (R29 to R31). -/
def State.clearCause (s : State) (pg v events : Nat) : State :=
  let old := s.rd (pg + 0x10)
  let new := clr old v ||| events
  let s1 := s.wr (pg + 0x10) new
  let s2 := if clr new old = 0 then s1 else s1.bump32 (pg + 0x18) 1
  if new = 0 then s2.wr (pg + 0x1C) (bits (s2.rd (pg + 0x1C)) 0 5)
  else if old = 0 then s2.wr (pg + 0x1C) (0x80000000 + lowBit new 32 0)
  else s2

/-! ## Time -/

/-- Slow cycles in a microsecond, and in a millisecond. -/
def us (n : Nat) : Nat := 100 * n

/-- Slow cycles in `n` milliseconds. -/
def ms (n : Nat) : Nat := 100000 * n

/-- Starts a timer at the current slow cycle, replacing a running one. -/
def State.startTimer (s : State) (k : TKey) : State :=
  { s with timers := s.timers.filter (fun e => e.1 ≠ k) ++ [(k, s.clk)] }

/-- Stops a timer. -/
def State.stopTimer (s : State) (k : TKey) : State :=
  { s with timers := s.timers.filter (fun e => e.1 ≠ k) }

/-- Stops every timer of a kind with a first index. -/
def State.stopTimers (s : State) (kind : TKind) (a : Nat) : State :=
  { s with timers := s.timers.filter (fun e => ¬ (e.1.kind = kind ∧ e.1.a = a)) }

/-- Start of a timer, if it runs. -/
def State.timer (s : State) (k : TKey) : Option Nat :=
  (s.timers.find? fun e => decide (e.1 = k)).map (·.2)

/-- A timer has run for at least `n` slow cycles; one never started counts from reset. -/
def State.elapsed (s : State) (k : TKey) (n : Nat) : Bool :=
  match s.timer k with
  | some t => decide (t + n ≤ s.clk)
  | none => decide (n ≤ s.clk)

/-- A running timer has run for at least `n` slow cycles. -/
def State.due (s : State) (k : TKey) (n : Nat) : Bool :=
  match s.timer k with
  | some t => decide (t + n ≤ s.clk)
  | none => false

/-- Starts the core PLL, unless it starts already (R44, R319). -/
def State.startPll (s : State) : State :=
  match s.timer { kind := .pll, a := 0 } with
  | some _ => s
  | none => s.startTimer { kind := .pll, a := 0 }

end Sys2Proof.Machine

namespace Sys2Proof

open Sys2Proof.Machine

/-! ## Machines -/

/-- A number for each kind of machine, for timer keys. -/
def Mach.tag : Mach → Nat × Nat
  | .port p => (0, p)
  | .lane l => (1, l)
  | .die d => (2, d)
  | .sect n => (3, n)
  | .line g => (4, g)
  | .station n => (5, n)
  | .window w => (6, w)
  | .stack n => (7, n)

/-- The machine is one the part has (R24). -/
def Mach.ok : Mach → Bool
  | .port p => p < 256
  | .lane l => l < 1024
  | .die d => d < 8
  | .sect n => n < 16
  | .line g => g < 4096
  | .station n => n < 16
  | .window w => w < 256
  | .stack n => n < 8

/-- STATE[2:0] of a machine (R26). -/
def Mach.stateFld : Mach → Fld
  | .port p => ⟨A.PORT p + 12, 0, 3⟩
  | .lane l => ⟨A.LANE l + 12, 0, 3⟩
  | .die d => ⟨A.DIE d + 12, 0, 3⟩
  | .sect n => ⟨A.SECTION n + 12, 0, 3⟩
  | .line g => F.COLL_LINE_STATE_MACHINE g
  | .station n => F.STATION_STN_STATE_MACHINE n
  | .window w => ⟨A.WINDOW_WIN_STATE w, 0, 3⟩
  | .stack n => ⟨A.HBM n + 12, 0, 3⟩

/-- The ENABLE field of a machine. -/
def Mach.enableFld : Mach → Fld
  | .port p => F.PORT_CTL_ENABLE p
  | .lane l => F.LANE_CTL_ENABLE l
  | .die d => ⟨A.DIE d + 8, 0, 1⟩
  | .sect n => F.SECTION_CTL_ENABLE n
  | .line g => F.COLL_LINE_CTL_ENABLE g
  | .station n => F.STATION_STN_CTL_ENABLE n
  | .window w => F.WINDOW_WIN_ENABLE w
  | .stack n => F.HBM_CTL_ENABLE n

/-- Timer key of a machine. -/
def Mach.key (u : Mach) (k : TKind) : TKey := { kind := k, a := u.tag.1, b := u.tag.2 }

end Sys2Proof

namespace Sys2Proof.Machine

/-- Reset domain a machine belongs to (R430). -/
def State.machDom (s : State) : Mach → Nat
  | .port p => s.evDomain .PORT p 0
  | .lane l => dom 6 l
  | .die d => dom 5 d
  | .sect n => dom 1 n
  | .line g => dom 4 g
  | .station n => dom 1 n
  | .window _ => dom 0 0
  | .stack n => dom 7 n

/-- MACHINE states of R26. -/
abbrev DOWN : Nat := 0
abbrev STARTING : Nat := 1
abbrev UP : Nat := 2
abbrev DRAINING : Nat := 3
abbrev FENCED : Nat := 4
abbrev STOP : Nat := 5

/-- State of a machine. -/
def State.mach (s : State) (u : Mach) : Nat := s.get u.stateFld

/-- Moves a machine to a state; DOWN and DRAINING start their timers (R38, R41). -/
def State.setMach (s : State) (u : Mach) (v : Nat) : State :=
  let s1 := s.put u.stateFld v
  if v = DOWN then (s1.stopTimer (u.key .drain)).startTimer (u.key .down)
  else if v = DRAINING then s1.startTimer (u.key .drain)
  else (s1.stopTimer (u.key .drain)).stopTimer (u.key .down)

/-- ENABLE of a machine. -/
def State.enabled (s : State) (u : Mach) : Bool := s.flag u.enableFld

/-! ## Ending a command -/

/-- Levels of FAULT_N, ATTN_N and READY, asserted or released (R423, R511, R512). -/
def State.pinLevels (s : State) : Bool × Bool × Bool :=
  if s.pow.hotSwap && s.pins.modEn && s.pins.resetN then
    let stop := s.fstate (dom 0 0) = 3
    let rd := s.rd A.FAULT_RING_RD
    let n := (s.rd A.FAULT_RING_WR + 2 ^ 32 - rd) % 2 ^ 32
    let lvl := s.get F.FAULT_CFG_ATTN_LEVEL
    let live := s.flt.ring.any fun e =>
      decide ((e.1 + 4096 - rd % 4096) % 4096 < n) && decide (lvl ≤ e.2.severity)
    let anyStop := s.flt.handling.any fun h => s.fstate h.domain = 3
    (decide stop, live || anyStop || decide stop, s.get F.TOP_STATE_MODULE == 1)
  else (false, false, false)

/-- What NOTIFY carries where the pins stand at `p` (R490). -/
def State.notifyWords (s : State) (p : Pins) : List Nat :=
  [s.rd (A.CONSORT_HEV_WR 0), s.rd A.FAULT_RING_WR, s.rd (A.TOP + 0xC), b2n p.attnN + 2 * b2n p.faultN + 4 * b2n p.ready]

/-- Drives the output pins to their levels, and notes a change that NOTIFY reports (R490). -/
def State.drivePins (s : State) : State :=
  let v := s.pinLevels
  let pps := s.pins.modEn && s.pins.resetN && s.time.ppsOut
  let p := { s.pins with faultN := v.1, attnN := v.2.1, ready := v.2.2, ppsOut := pps }
  let w := s.notifyWords p
  { s with pins := { p with seen := w, moved := p.moved || w != p.seen } }

end Sys2Proof.Machine
end

