-- ==== Sys2Proof/Machine/ModuleReset.lean ====
section
/-! DEFINITION. Module reset: what it clears and what it keeps, its cause, the end of the reset, and power loss (R50,
R119, R420, R430, R442, R477, R488, R513, R517). -/

namespace Sys2Proof.Machine

/-- Registers that a module reset keeps: the SIDING block (R477), the fault ring's indices (R420), ENERGY_MJ (R50), the
trip log (19_power.md) and the bank states, which boot code loads anew (R451; log 51). STATE.FILLED of the stacks, which
follows the main rails, stays as well (R378). -/
def keptAtReset (a : Nat) : Bool :=
  (A.SIDING ≤ a && a < A.SIDING + 0x10000) || a == A.FAULT_RING_WR || a == A.FAULT_RING_RD || a == A.POWER_ENERGY_MJ ||
    a == A.POWER_ENERGY_MJ + 4 || a == A.POWER_TRIP_LOG || a == A.CONSORT_BANK_STATE 0

/-- Timers of the always-on siding link. -/
def TKind.siding : TKind → Bool
  | .sidingSkip | .sidingAck | .notify | .realign | .hotSwapOn => true
  | _ => false

/-- Timers of the detectors in the always-on island (R470, R472). -/
def TKind.island : TKind → Bool
  | .uvLow | .uvOk | .ocHigh | .ocOk | .thermCool | .thermTrip | .ocLasting => true
  | _ => false

/-- STATE bit of an emergency: 0 UV, 1 OC, 2 THERM. -/
def emergFld (k : Nat) : Fld := ⟨A.POWER + 12, 16 + k, 1⟩

/-- What shows an emergency that has not cleared (R471). -/
def emergFlds : List Fld :=
  (List.range 3).map emergFld ++ [F.POWER_STATE_EMERGENCY, F.POWER_STATE_THROTTLE, F.TOP_STATE_EMERGENCY]

/-- An emergency holds over a module reset until it clears, as the detectors stand in the always-on island (R470, R471; 17_reset.md,
Resuming after a module reset, step 4; DEDUCED, log 129). -/
def State.keepEmergency (t s : State) : State :=
  let t1 := emergFlds.foldl (fun u f => if s.flag f then u.put f 1 else u) t
  if s.flag F.POWER_STATE_EMERGENCY then t1 else t1.startTimer { kind := .emergClear, a := 0 }

/-- The shelter fields of every stack's INFO follow the shelter entries held (R384, R386). -/
def State.showShelters (s : State) : State :=
  (List.range (stackCount s.asm)).foldl (fun t n =>
    let mine := t.mem.shelter.filter fun e => e.stack = n
    (t.put (F.HBM_INFO_SHELTER_USED n) mine.length).put (F.HBM_INFO_RETIRED n) (mine.filter fun e => e.step = 0).length) s

/-- The MACHINE fields that show a domain's handling state. -/
def domFields (d : Nat) : List Fld :=
  let i := domInst d
  match domKind d with
  | 1 => (Mach.sect i).stateFld :: (Mach.station i).stateFld :: (List.range 33).map (F.COACH_STATE_MACHINE i)
  | 2 => [F.COACH_STATE_MACHINE (i / 64) (i % 64)]
  | 4 => [(Mach.line i).stateFld]
  | 5 => (Mach.die i).stateFld :: (List.range 128).map fun l => (Mach.lane (128 * i + l)).stateFld
  | 6 => [(Mach.lane i).stateFld]
  | 7 => [(Mach.stack i).stateFld]
  | 8 => [⟨A.CONSORT i + 12, 0, 3⟩]
  | _ => []

/-- Children of the module whose handling a module reset keeps: in STOP, which only RELEASE ends, and in CONTAIN, which enter
QUIET with their parent (R427, R437, R438). -/
def State.keptChildren (s : State) : List Handling :=
  (s.flt.handling.filter fun h => h.domain ≠ dom 0 0 && (s.fstate h.domain == 3 || s.fstate h.domain == 1)).map fun h =>
    if s.fstate h.domain = 1 then { h with how := .parent } else h

/-- The kept children show in a cleared state what they showed in `s`: DFAULT, RECOVERY and MACHINE; one in STOP stays
power-gated (R437, R438). -/
def State.restoreChildren (t s : State) : State :=
  let l := s.keptChildren.map (·.domain)
  let stopped := fun d => l.contains d && s.fstate d == 3
  let t1 := l.foldl (fun u d =>
    (domFields d).foldl (fun w f => w.put f (s.get f)) (u.setFault d (s.dfault d) (s.recovery d))) t
  let gated := s.flt.gated.filter stopped
  let recs := s.pow.gated.filter fun r =>
    stopped (if r < 16 then dom 1 r else if r < 25 then dom 5 (r - 17) else dom 7 (r - 25))
  { t1 with flt := { t1.flt with handling := s.keptChildren, gated := gated }, pow := { t1.pow with gated := recs } }

/-- Everything but what a module reset keeps goes to its reset value: every domain, the register space and the
configuration; every transmitter idle; the register bus not released (R119, R430, R488). A retired row stays in its shelter entry, as at a
reset of its stack (R386, R430; DEDUCED, log 120). Events that wait in a pending slot stay and are what EVENTS then counts
(R422; DEDUCED, log 53). -/
def State.clearModule (s : State) : State :=
  let f := s.flt
  let s1 : State := { State.reset with
    pending := s.pending, clk := s.clk, asm := s.asm, fru := s.fru, free := s.free, out := s.out
    regs := s.regs.filter fun e => keptAtReset e.1
    timers := s.timers.filter fun e => e.1.kind.siding || e.1.kind.island
    time := { ns := s.time.ns, frac := s.time.frac }
    mem := { bytes := s.mem.bytes, synd := s.mem.synd, repairs := s.mem.repairs,
             shelter := s.mem.shelter.filter fun e => e.step = 0 }
    flt := { reports := f.reports, pend := f.pend, carried := f.carried, lastRec := f.lastRec, ptr := f.ptr,
             ring := f.ring, offered := f.offered }
    cons := { flash := s.cons.flash, mailbox := s.cons.mailbox }
    pow := { mainRails := s.pow.mainRails, hotSwap := s.pow.hotSwap,
             tripped := s.pow.tripped, input := s.pow.input, drawn := s.pow.drawn, energy := s.pow.energy,
             temps := s.pow.temps }
    sid := { s.sid with released := false, recovery := false, manifestOk := false, keyOk := false, dieTrims := [] }
    pins := s.pins }
  let s2 := (List.range 8).foldl (fun t n => if s.flag (F.HBM_STATE_FILLED n) then t.put (F.HBM_STATE_FILLED n) 1 else t)
    ((s1.wr A.SIDING_BOOT_STATUS 0).put (F.CONSORT_BANK_STATE_PAUSED 0) 0)
  let s3 := ((s2.showShelters.restoreChildren s).wr64 A.FAULT_EVENTS s.flt.pend.length).setFstate (dom 0 0) 1
  (s3.startTimer { kind := .deadline, a := dom 0 0 }).keepEmergency s

/-- LAST_MODULE_RESET causes (17_reset.md, RESET fields). -/
abbrev MR_RESET_N : Nat := 1
abbrev MR_MOD_EN : Nat := 2
abbrev MR_COMMAND : Nat := 3
abbrev MR_ESCALATION : Nat := 4
abbrev MR_CONTAIN : Nat := 5

/-- A module reset starts, with its cause, the escalating domain and the source (R442). -/
def State.moduleReset (s : State) (cause d source : Nat) : State :=
  let s1 := s.clearModule
  ((s1.put F.RESET_LAST_MODULE_RESET_CAUSE cause).put F.RESET_LAST_MODULE_RESET_DOMAIN d).put
    F.RESET_LAST_MODULE_RESET_SOURCE source

/-- BUDGET as the arbiter uses it (R468). -/
def State.budget (s : State) : Nat := max 600 (min 2600 (s.get F.POWER_BUDGET_WATTS))

/-- Stores HELD of a recipient. -/
def State.setHeld (s : State) (r v : Nat) : State := s.put (F.POWER_REC_STATE_HELD r) v

/-- HELD of a recipient. -/
def State.tokens (s : State) (r : Nat) : Nat := s.get (F.POWER_REC_STATE_HELD r)

/-- Every recipient's floor is granted, but to those power-gated, and the rest of the budget is free (R463, R465). -/
def State.firstTokens (s : State) : State :=
  let fl := fun r => if s.pow.gated.contains r then 0 else tokenFloor s.asm false r
  let s1 := (List.range 34).foldl (fun t r => t.setHeld r (fl r)) s
  let sum := ((List.range 34).map fl).sum
  (s1.put F.POWER_TOTAL_TOKENS s1.budget).put F.POWER_FREE_TOKENS (s1.budget - sum)

/-- Nothing holds the module in reset (R517). -/
def State.mayRelease (s : State) : Bool :=
  s.pow.hotSwap && s.pow.mainRails && s.pins.modEn && s.pins.resetN && !s.pow.released

/-- The module reset ends: SLOT_ID is sampled (R513) and boot starts (R492). The deadline of 8 s runs from the fence; where a
level of RESET_N or MOD_EN held the reset, or power came up, from the end of that level (R430; DEDUCED, log 99). -/
def State.resetEnds (s : State) : State :=
  if s.mayRelease then
    let s1 : State := { s with pow := { s.pow with released := true } }
    let s2 := ((s1.put F.TOP_SLOT_ID_SLOT s.pins.slotId).firstTokens).put F.SIDING_BOOT_STATUS_STEP 1
    if s.get F.RESET_LAST_MODULE_RESET_CAUSE ≤ MR_MOD_EN then s2.startTimer { kind := .deadline, a := dom 0 0 } else s2
  else s

/-- The main rails go off; the stacks and the shelters lose their contents, and the next initialisation fills the stacks
(R378, R517; log 52). -/
def State.railsOff (s : State) : State :=
  let s1 : State := { s with pow := { s.pow with mainRails := false }, mem := { s.mem with shelter := [], bytes := [], synd := [] } }
  ((List.range 8).foldl (fun t n => t.put (F.HBM_STATE_FILLED n) 0) s1).showShelters

/-- MOD_EN falls: the main rails go off and a module reset starts; a power-off that is no trip clears TRIP_LOG (R472, R517). -/
def State.modEnFalls (s : State) : State :=
  let t := if s.pow.mainRails then s.wr A.POWER_TRIP_LOG 0 else s
  (t.moduleReset MR_MOD_EN 0 0).railsOff

/-- State of a bank as boot code finds it in flash after a power loss: one that was staged or verified is EMPTY (R451; log 52). -/
def bankKept (v : Nat) : Nat := if v = 1 ∨ v = 2 then 0 else v

/-- Power is lost: the FRU EEPROM keeps its content, flash with the bank states and the repair list in it, and the straps
(R386, R451, R516, R520; log 52). -/
def State.powerLoss (s : State) : State :=
  let t : State :=
    { State.reset with
      pending := s.pending, clk := s.clk, asm := s.asm, fru := s.fru, free := s.free, out := s.out
      regs := s.regs.filter fun e => e.1 == A.CONSORT_BANK_STATE 0
      cons := { flash := s.cons.flash }
      mem := { repairs := s.mem.repairs }
      pow := { mainRails := false, hotSwap := false }
      pins := s.pins }
  ((t.put (F.CONSORT_BANK_STATE_BANK0 0) (bankKept (t.get (F.CONSORT_BANK_STATE_BANK0 0)))).put (F.CONSORT_BANK_STATE_BANK1 0)
    (bankKept (t.get (F.CONSORT_BANK_STATE_BANK1 0)))).put (F.CONSORT_BANK_STATE_PAUSED 0) 0

end Sys2Proof.Machine
end

