-- ==== Sys2Proof/Machine/Coding.lean ====
section
/-! DEFINITION. Line coding: blocks and their scrambler, the RS(544,514) code, symbol interleaving, Gray code, precoding, test
patterns and training frames of the mainline lanes (R92 to R95, R99, R109), and the 8b/10b code of the siding lanes (R477). Code
tables and polynomials that the spec names only by their standard are those of IEEE 802.3 (PRESUMED, log 123). -/

namespace Sys2Proof.Machine

/-! ## Blocks (R93, R109) -/

/-- The 257-bit block of a control block before scrambling: H = 0, TYPE in [8:1], content in [256:9] (R93). -/
def controlBlock (type content : Nat) : Nat := (type + content * 2 ^ 8) * 2

/-- The 257-bit block of 32 data bytes before scrambling: H = 1, byte 0 in [8:1] (R93). -/
def dataBlock (b : List Byte) : Nat := 1 + 2 * ofBytes b

/-- The two data blocks of a 64 B unit (R109). -/
def unitBlocks (u : List Byte) : List Nat := [dataBlock (slice u 0 32), dataBlock (slice u 32 32)]

/-- The 64 B units of a packet's bytes. -/
def unitsOf (b : List Byte) : List (List Byte) := (List.range ((b.length + 63) / 64)).map fun i => slice b (64 * i) 64

/-- The blocks that an output puts on the lanes, in order: (lane, block). A control pair is two blocks of the same content
(R94); each unit goes as two blocks to its lane (R109). -/
def Out.blocks : Out → List (Nat × Nat)
  | .pair l type content => [(l, controlBlock type content), (l, controlBlock type content)]
  | .link _ u l => (unitBlocks u).map fun b => (l, b)
  | .packet _ k lanes =>
    ((unitsOf (k.hdr ++ k.payload)).zip lanes).flatMap fun e => (unitBlocks e.1).map fun b => (e.2, b)
  | _ => []

/-- The blocks put on a lane so far. -/
def State.laneBlocks (s : State) (l : Nat) : List Nat := ((s.out.flatMap Out.blocks).filter fun e => e.1 = l).map (·.2)

/-! ## Striping (R109, R112) -/

/-- The lane of unit `n` under a mask: its active lane of rank n mod A, in ascending logical order (R109). -/
def unitLane (mask n : Nat) : Option Nat :=
  let l := bitList mask 16
  l[n % max 1 l.length]?

/-- The mask at unit `n`: the last of the SWITCHes that apply from it or an earlier unit on, else the one before them. -/
def maskAt (base : Nat) (switches : List (Nat × Nat)) (n : Nat) : Nat :=
  match (switches.filter fun e => e.1 ≤ n).getLast? with
  | some e => e.2
  | none => base

/-- The lanes of `k` units that a port sends from unit `n` on, as 128 × die + lane. -/
def State.unitLanes (s : State) (p n k : Nat) : List Nat :=
  let h := s.port p
  let base := match h.layout with | some y => 128 * y.die + y.first | none => 0
  (List.range k).map fun i => base + (unitLane (maskAt h.txStripe h.txSwitches (n + i)) (n + i)).getD 0

/-- `k` units have been sent on a port; the SWITCHes of units up to here have applied. -/
def State.sentUnits (s : State) (p k : Nat) : State :=
  let h := s.port p
  let n := h.txUnits + k
  s.setPort p { h with txUnits := n, txStripe := maskAt h.txStripe h.txSwitches n
                       txSwitches := h.txSwitches.filter fun e => n < e.1 }

/-! ## Bits -/

/-- The bits of a number below `n`, least significant first. -/
def bitsOf (n v : Nat) : List Bool := (List.range n).map v.testBit

/-- The number whose bits are a list, least significant first. -/
def ofBits : List Bool → Nat
  | [] => 0
  | b :: l => b2n b + 2 * ofBits l

/-- A list cut into pieces of `n`, `k` of them. -/
def chunks {α : Type} (n : Nat) : Nat → List α → List (List α)
  | 0, _ => []
  | k + 1, l => l.take n :: chunks n k (l.drop n)

/-! ## Scrambler (R93) -/

/-- Scrambles bits from a register of the last 58 scrambled bits, the newest in bit 0: x^58 + x^39 + 1. -/
def scrambleBits : Nat → List Bool → List Bool × Nat
  | reg, [] => ([], reg)
  | reg, b :: l =>
    let o := (b != reg.testBit 38) != reg.testBit 57
    let r := scrambleBits (reg * 2 % 2 ^ 58 + b2n o) l
    (o :: r.1, r.2)

/-- Descrambles bits from a register of the last 58 scrambled bits. -/
def descrambleBits : Nat → List Bool → List Bool × Nat
  | reg, [] => ([], reg)
  | reg, b :: l =>
    let o := (b != reg.testBit 38) != reg.testBit 57
    let r := descrambleBits (reg * 2 % 2 ^ 58 + b2n b) l
    (o :: r.1, r.2)

/-- Scrambles bits [256:1] of a block; H is not scrambled. -/
def scrambleBlock (reg block : Nat) : Nat × Nat :=
  let r := scrambleBits reg (bitsOf 256 (block / 2))
  (block % 2 + 2 * ofBits r.1, r.2)

/-- Scrambles a stream of blocks. -/
def scramble : Nat → List Nat → List Nat
  | _, [] => []
  | reg, b :: l => let r := scrambleBlock reg b; r.1 :: scramble r.2 l

/-! ## RS(544,514) (R95) -/

/-- Product in GF(2^10) with x^10 + x^3 + 1, over the lowest `n` bits of `b`. -/
def gfMulN : Nat → Nat → Nat → Nat
  | 0, _, _ => 0
  | n + 1, a, b =>
    let a2 := if a.testBit 9 then (a * 2) ^^^ 0x409 else a * 2
    (if b.testBit 0 then a else 0) ^^^ gfMulN n a2 (b / 2)

/-- Product in GF(2^10). -/
def gfMul (a b : Nat) : Nat := gfMulN 10 a b

/-- Product of a polynomial, highest coefficient first, and x + r. -/
def polyTimes (r : Nat) (l : List Nat) : List Nat :=
  List.zipWith (· ^^^ ·) (l ++ [0]) (0 :: l.map (gfMul r))

/-- The product of x + r, x + α r, and so on, `n` factors. -/
def genPolyN : Nat → Nat → List Nat
  | 0, _ => [1]
  | n + 1, r => polyTimes r (genPolyN n (gfMul r 2))

/-- The generator polynomial, highest coefficient first: roots α^0 to α^29. -/
def genPoly : List Nat := genPolyN 30 1

/-- Divides a message, highest coefficient first, by the generator: the remainder of x^30 times it. -/
def rsRemainder (g : List Nat) (reg : List Nat) : List Nat → List Nat
  | [] => reg
  | m :: l =>
    let f := m ^^^ reg.headD 0
    rsRemainder g (List.zipWith (· ^^^ ·) (reg.drop 1 ++ [0]) (g.map (gfMul f))) l

/-- A codeword of 544 symbols: the 514 message symbols and 30 parity symbols. -/
def rsEncode (msg : List Nat) : List Nat := msg ++ rsRemainder (genPoly.drop 1) (List.replicate 30 0) msg

/-- The 514 symbols of a message of twenty scrambled blocks, 5,140 bits. -/
def messageSymbols (blocks : List Nat) : List Nat := (chunks 10 514 (blocks.flatMap (bitsOf 257))).map ofBits

/-- Two consecutive codewords interleaved symbol by symbol. -/
def interleave (a b : List Nat) : List Nat := (a.zip b).flatMap fun e => [e.1, e.2]

/-! ## PAM4 (R92, R99, R102) -/

/-- Gray code of a pair of bits, the first one the more significant. -/
def gray (a b : Bool) : Nat := if a then (if b then 2 else 3) else (if b then 1 else 0)

/-- PAM4 symbols of bits, two bits a symbol, the first of a pair the lower-numbered one. -/
def pam4 : List Bool → List Nat
  | a :: b :: l => gray a b :: pam4 l
  | _ => []

/-- The bits of PAM4 symbols. -/
def pam4Bits (l : List Nat) : List Bool := l.flatMap fun v => [decide (2 ≤ v), v == 1 || v == 2]

/-- Precoding 1/(1+D) mod 4, from the last symbol sent. -/
def precode : Nat → List Nat → List Nat
  | _, [] => []
  | last, g :: l => let p := (g + 4 - last % 4) % 4; p :: precode p l

/-- The symbols on a lane for forty scrambled blocks: two codewords, interleaved, Gray coded, and precoded where the lane
precodes. -/
def codewordPair (precoded : Bool) (last : Nat) (blocks : List Nat) : List Nat :=
  let a := rsEncode (messageSymbols (blocks.take 20))
  let b := rsEncode (messageSymbols (blocks.drop 20))
  let g := pam4 ((interleave a b).flatMap (bitsOf 10))
  if precoded then precode last g else g

/-! ## Test patterns and training frames (R92, R99) -/

/-- Bits of a maximal-length sequence from a register, the newest bit in bit 0; `taps` names the bits whose sum is the next. -/
def prbs (width taps : Nat) : Nat → Nat → List Bool
  | 0, _ => []
  | n + 1, reg =>
    let b := popCount (reg &&& taps) width % 2 == 1
    b :: prbs width taps n (reg * 2 % 2 ^ width + b2n b)

/-- Register of PRBS13 after `n` bits, from all ones. -/
def prbs13At : Nat → Nat
  | 0 => 2 ^ 13 - 1
  | n + 1 => let r := prbs13At n; r * 2 % 2 ^ 13 + popCount (r &&& 0x1803) 13 % 2

/-- `n` bits of PRBS13, 1 + x + x^2 + x^12 + x^13, from bit `at_` of its period. -/
def prbs13 (at_ n : Nat) : List Bool := prbs 13 0x1803 n (prbs13At (at_ % 8191))

/-- `n` bits of PRBS31, 1 + x^28 + x^31. -/
def prbs31 (n : Nat) : List Bool := prbs 31 (2 ^ 27 + 2 ^ 30) n (2 ^ 31 - 1)

/-- The first `n` symbols of a test pattern: PRBS13Q, PRBS31Q or SSPRQ. -/
def patternSymbols (test n : Nat) : List Nat :=
  if test = 1 then pam4 (prbs13 0 (2 * n))
  else if test = 2 then pam4 (prbs31 (2 * n))
  else (List.range n).map Config.ssprq

/-- Symbols 0 to 63 of a training frame: the frame marker. -/
def frameMarker : List Nat := List.replicate 32 3 ++ List.replicate 32 0

/-- Symbols 64 to 127: the control bits. -/
def ctrlSymbols (ctrl : Nat) : List Nat := pam4 (bitsOf 128 ctrl)

/-- Symbols 128 to 1023: PRBS13Q from bit `at_` of its period; the next frame goes on 1,792 bits later. -/
def prbsSymbols (at_ : Nat) : List Nat := pam4 (prbs13 at_ 1792)

/-- The 1,024 symbols of a training frame. -/
def trainSymbols (ctrl at_ : Nat) : List Nat := frameMarker ++ ctrlSymbols ctrl ++ prbsSymbols at_

/-- The symbols that an output puts on a lane, where it is not coded blocks; of a test pattern the first `n`. -/
def Out.symbols (n : Nat) : Out → List Nat
  | .train _ ctrl at_ => trainSymbols ctrl at_
  | .pattern _ test => patternSymbols test n
  | _ => []

/-- Bits that do not follow from those before them in PRBS13, from the last 13 bits. -/
def prbsBreaks : Nat → List Bool → Nat
  | _, [] => 0
  | reg, b :: l =>
    b2n (b != (popCount (reg &&& 0x1803) 13 % 2 == 1)) + prbsBreaks (reg * 2 % 2 ^ 13 + b2n b) l

/-- How many bits of received PRBS13Q symbols break the sequence. -/
def prbsErrors (l : List Nat) : Nat :=
  let b := pam4Bits l
  prbsBreaks (ofBits (b.take 13).reverse) (b.drop 13)

/-- PAM4 levels with inverted polarity. -/
def inverted (l : List Nat) : List Nat := l.map (3 - ·)

/-- A receiver detects inverted polarity from the PRBS13Q: it follows the sequence better inverted (R99). -/
def polarityOf (l : List Nat) : Bool := decide (prbsErrors (inverted l) < prbsErrors l)

/-! ## 8b/10b (R477) -/

/-- 5b/6b code words for negative running disparity, of D.0 to D.31, bit a first. -/
def code6 : List Nat :=
  [0b100111, 0b011101, 0b101101, 0b110001, 0b110101, 0b101001, 0b011001, 0b111000,
   0b111001, 0b100101, 0b010101, 0b110100, 0b001101, 0b101100, 0b011100, 0b010111,
   0b011011, 0b100011, 0b010011, 0b110010, 0b001011, 0b101010, 0b011010, 0b111010,
   0b110011, 0b100110, 0b010110, 0b110110, 0b001110, 0b101110, 0b011110, 0b101011]

/-- 3b/4b code words for negative running disparity, of x.0 to x.7, bit f first. -/
def code4 : List Nat := [0b1011, 0b1001, 0b0101, 0b1100, 0b1101, 0b1010, 0b0110, 0b1110]

/-- 3b/4b code words of K28 for negative running disparity at its start. -/
def code4K : List Nat := [0b0100, 0b1001, 0b0101, 0b0011, 0b0010, 0b1010, 0b0110, 0b1000]

/-- A code word of `w` bits for a running disparity, and the running disparity after it: balanced words stay, but D.7 and
x.3, which have two forms. -/
def balanced (w v : Nat) (twoForms rd : Bool) : Nat × Bool :=
  let even := 2 * popCount v w == w
  (if rd && (!even || twoForms) then 2 ^ w - 1 - v else v, if even then rd else !rd)

/-- The ten-bit code word of Dx.y or Kx.y, bit a in bit 9 and sent first, and the running disparity after it, true for
positive. The number is x + 32 y. -/
def code10 (k : Bool) (n : Nat) (rd : Bool) : Nat × Bool :=
  let x := n % 32
  let y := n / 32 % 8
  if k then
    let w := if x = 28 then 0b001111 * 16 + code4K.getD y 0 else code6.getD x 0 * 16 + 0b1000
    (if rd then 1023 - w else w, if popCount w 10 = 5 then rd else !rd)
  else
    let a := balanced 6 (code6.getD x 0) (x == 7) rd
    let alt := y == 7 && (if a.2 then x == 11 || x == 13 || x == 14 else x == 17 || x == 18 || x == 20)
    let b := balanced 4 (if alt then 0b0111 else code4.getD y 0) (y == 3) a.2
    (a.1 * 16 + b.1, b.2)

end Sys2Proof.Machine
end

