-- ==== Sys2Proof/Machine/Packets.lean ====
section
/-! DEFINITION. Header units and packets (R121 to R131): fields, check codes, the packets the module builds, and the
path a packet addressed to the module takes inside it (R128, R165, R268, R361, R390). -/

namespace Sys2Proof.Machine

/-! ## Check codes (R124) -/

/-- One bit of the CRC-16 with polynomial x^16 + x^12 + x^5 + 1, most significant bit first. -/
def crc16Bit (c : Nat) : Nat := if c.testBit 15 then ((c * 2) % 65536) ^^^ 0x1021 else c * 2

/-- CRC-16 over one byte. -/
def crc16Byte (c : Nat) (b : Byte) : Nat :=
  crc16Bit (crc16Bit (crc16Bit (crc16Bit (crc16Bit (crc16Bit (crc16Bit (crc16Bit (c ^^^ (b.toNat * 256)))))))))

/-- HDR_CRC of a run of bytes. -/
def crc16 (l : List Byte) : Nat := l.foldl crc16Byte 0xFFFF

/-- One bit of the reflected CRC-32C. -/
def crc32Bit (c : Nat) : Nat := if c.testBit 0 then (c / 2) ^^^ 0x82F63B78 else c / 2

/-- CRC-32C over one byte. -/
def crc32Byte (c : Nat) (b : Byte) : Nat :=
  crc32Bit (crc32Bit (crc32Bit (crc32Bit (crc32Bit (crc32Bit (crc32Bit (crc32Bit (c ^^^ b.toNat))))))))

/-- CRC-32C with a given initial value; the final inversion is kept (R124, R187). -/
def crc32From (init : Nat) (l : List Byte) : Nat := (l.foldl crc32Byte init) ^^^ 0xFFFFFFFF

/-- CRC-32C. -/
def crc32 (l : List Byte) : Nat := crc32From 0xFFFFFFFF l

/-! ## Header fields (R123) -/

/-- A little-endian header field. -/
def Pkt.num (k : Pkt) (o n : Nat) : Nat := numAt k.hdr o n

/-- A header byte. -/
def Pkt.byte (k : Pkt) (o : Nat) : Nat := (k.hdr.getD o 0).toNat

/-- SYNC. -/
def Pkt.sync (k : Pkt) : Nat := k.num 0 2

/-- KIND: 1 CONTROL, 2 DATA, 3 LINK. -/
def Pkt.kind (k : Pkt) : Nat := bits (k.byte 2) 0 4

/-- VER. -/
def Pkt.ver (k : Pkt) : Nat := bits (k.byte 2) 4 4

/-- Traffic class. -/
def Pkt.tc (k : Pkt) : Nat := bits (k.byte 3) 0 3

/-- SPRAY. -/
def Pkt.spray (k : Pkt) : Bool := bit (k.byte 3) 3

/-- ATTEMPT. -/
def Pkt.attempt (k : Pkt) : Nat := bits (k.byte 3) 4 4

/-- HOPS_LEFT. -/
def Pkt.hops (k : Pkt) : Nat := k.byte 4

/-- PAYLOAD. -/
def Pkt.pay (k : Pkt) : Nat := bits (k.byte 5) 0 5

/-- Operation code. -/
def Pkt.op (k : Pkt) : Nat := k.num 6 2

/-- Destination node. -/
def Pkt.dst (k : Pkt) : Nat := k.num 8 2

/-- Source node. -/
def Pkt.src (k : Pkt) : Nat := k.num 10 2

/-- Flow label. -/
def Pkt.flow (k : Pkt) : Nat := k.num 12 2

/-- ADDR[43:0]. -/
def Pkt.addr (k : Pkt) : Nat := k.num 16 6 % 2 ^ 44

/-- TAG. -/
def Pkt.tag (k : Pkt) : Nat := k.num 24 4

/-- PAYLOAD_CRC of a data packet. -/
def Pkt.payCrc (k : Pkt) : Nat := k.num 58 4

/-- HDR_CRC. -/
def Pkt.hdrCrc (k : Pkt) : Nat := k.num 62 2

/-- HDR_CRC holds. -/
def Pkt.crcOk (k : Pkt) : Bool := k.hdrCrc == crc16 (slice k.hdr 0 62)

/-- Cost in credits and cells (R135, R156). -/
def Pkt.cost (k : Pkt) : Nat := 1 + k.pay

/-- Units of 64 B. -/
def Pkt.units (k : Pkt) : Nat := 1 + 4 * k.pay

/-- The header with HDR_CRC computed anew (R124). -/
def Pkt.seal (k : Pkt) : Pkt := { k with hdr := slice k.hdr 0 62 ++ toBytes 2 (crc16 (slice k.hdr 0 62)) }

/-- Header bytes from offset `o` replaced. -/
def Pkt.patch (k : Pkt) (o : Nat) (b : List Byte) : Pkt :=
  { k with hdr := slice k.hdr 0 o ++ b ++ slice k.hdr (o + b.length) (64 - o - b.length) }

/-- What a forwarding hop changes: HOPS_LEFT and HDR_CRC (R124, R125). -/
def Pkt.hop (k : Pkt) : Pkt := (k.patch 4 (toBytes 1 (k.hops - 1))).seal

/-- A packet as it is first sent by the module: HOPS_LEFT 16 (R125). -/
def Pkt.launch (k : Pkt) : Pkt := (k.patch 4 (toBytes 1 16)).seal

/-- A held packet as the module that emits it anew sends it: its own node, ATTEMPT 0, HOPS_LEFT 16, the same payload (R123,
R125, R286). -/
def Pkt.anew (k : Pkt) (node : Nat) : Pkt :=
  ((k.patch 3 (toBytes 1 (k.byte 3 % 16))).patch 10 (toBytes 2 node)).launch

/-- A packet as its originator builds it (R123, R125); the body is padded with zeros. -/
def mkPkt (data : Bool) (tc : Nat) (spray : Bool) (op dst src flow addr tag : Nat) (body payload : List Byte) : Pkt :=
  let pad := 256 * ((payload.length + 255) / 256)
  let pl := if data then slice payload 0 pad else []
  let hdr := toBytes 2 0xC35A ++ toBytes 1 (if data then 0x12 else 0x11) ++ toBytes 1 (tc + 8 * b2n spray) ++
    toBytes 1 16 ++ toBytes 1 (if data then pad / 256 else 0) ++ toBytes 2 op ++ toBytes 2 dst ++ toBytes 2 src ++
    toBytes 2 flow ++ toBytes 2 0 ++ toBytes 6 addr ++ toBytes 2 0 ++ toBytes 4 tag ++ toBytes 4 0 ++
    (if data then slice body 0 26 ++ toBytes 4 (crc32 pl) else slice body 0 30)
  { hdr := hdr ++ toBytes 2 (crc16 hdr), payload := pl }

/-- A body of fields: (offset from byte 32, bytes, value), zero elsewhere. -/
def mkBody (n : Nat) (fs : List (Nat × Nat × Nat)) : List Byte :=
  toBytes n (fs.foldl (fun v f => v + (f.2.2 % 2 ^ (8 * f.2.1)) * 2 ^ (8 * f.1)) 0)

/-! ## The module's own node number (R96, R126) -/

/-- MODULE_NUM.NUMBER, or 0xFFFF while VALID is 0. -/
def State.node (s : State) : Nat :=
  if s.flag F.TOP_MODULE_NUM_VALID then s.get F.TOP_MODULE_NUM_NUMBER else 0xFFFF

/-- The generic ERROR reply to a request (R129). -/
def State.errorPkt (s : State) (req : Pkt) (code : Nat) : Pkt :=
  mkPkt false 2 false 0x5001 req.src s.node req.flow req.addr req.tag
    (mkBody 30 [(0, 1, code), (1, 2, req.op)]) []

/-! ## Fields of collective and station bodies (R240, R273, R352) -/

/-- GROUP. -/
def Pkt.group (k : Pkt) : Nat := k.num 32 2 % 4096

/-- MEMBER. -/
def Pkt.member (k : Pkt) : Nat := k.num 34 2

/-- CHUNK index of a chunk packet. -/
def Pkt.chunk (k : Pkt) : Nat := k.num 36 2

/-- SUB. -/
def Pkt.sub (k : Pkt) : Nat := k.byte 38

/-- LINE bit of byte 39. -/
def Pkt.isLine (k : Pkt) : Bool := bit (k.byte 39) 0

/-- BLK. -/
def Pkt.blk (k : Pkt) : Nat := k.num 40 2

/-- NBLK. -/
def Pkt.nblk (k : Pkt) : Nat := k.num 42 2

/-- STEP. -/
def Pkt.step (k : Pkt) : Nat := k.num 50 8

/-! ## Where a consumed packet goes -/

/-- Station port `256 + 2s + j` is UP: its section's machine is UP and no flush of the port runs (R21, R165, R172). -/
def State.stationUp (s : State) (p : Nat) : Bool :=
  s.mach (.sect ((p - 256) / 2)) == UP && !(s.port p).flushing && !(s.port p).flushWait

/-- The first station port that is UP, scanning upward from `256 + n` and wrapping (R390). -/
def State.firstStation (s : State) (n : Nat) : Option Nat :=
  ((List.range 32).map fun i => 256 + (n + i) % 32).find? s.stationUp

/-- Logical coach of a chunk (R268). -/
def logicalCoach (group chunk step sub : Nat) : Nat :=
  bits (crc32 (toBytes 2 group ++ toBytes 2 chunk ++ toBytes 8 step ++ toBytes 1 sub)) 16 16 * 512 / 65536

/-- Station port of a logical coach (R268). -/
def coachPort (L : Nat) : Nat := 256 + 2 * (L / 32) + (L / 16) % 2

/-- Physical coach (section × 64 + physical coach) of a logical coach (R269). -/
def State.physCoach (s : State) (L : Nat) : Nat :=
  (L / 32) * 64 + s.get (F.SECTION_REMAP_PHYS (L / 32) (L % 32))

/-- Port at which a line's own packets leave the switch core: the first station port UP from `256 + g mod 32`, the
firmware port when none is (log 12: the spec names none). -/
def State.linePort (s : State) (g : Nat) : Nat := (s.firstStation (g % 32)).getD 288

/-- What becomes of a packet that the module consumes. -/
inductive Dest where
  /-- handed to a station or firmware port -/
  | out (p : Nat)
  /-- answered from the firmware port with an ERROR code -/
  | error (code : Nat)
  deriving DecidableEq, Repr

/-- A station port, or ERROR FENCED where it is not UP (R269, R431, R526). -/
def State.viaStation (s : State) (p : Nat) : Dest := if s.stationUp p then .out p else .error 3

/-- A work is of a line, STEP, SUB and OP. -/
def Work.of (w : Work) (g step sub op : Nat) : Bool := w.line == g && w.step == step && w.sub == sub && w.op == op

/-- Station work of an entry in the queue. -/
def State.work (s : State) (g step sub op : Nat) : Option Work := s.stn.work.find? fun w => w.of g step sub op && !w.saved

/-- A field of a local expert's copied entry (words of EXPERT[x]). -/
def Work.expertField (w : Work) (k wd lo n : Nat) : Nat := bits ((w.experts.getD k []).getD wd 0).toNat lo n

/-- Local expert of a TOKEN packet. -/
def Pkt.tokK (k : Pkt) : Nat := k.num 36 2

/-- The operation that BWD names. -/
def Pkt.tokOp (k : Pkt) : Nat := if bit (k.byte 39) 4 then 10 else 9

/-- Number, section and first coach of the expert that a TOKEN packet names: the copies of its ACTIVE entry, and while none is
ACTIVE the registers (R36, R361). -/
def State.tokenExpert (s : State) (k : Pkt) : Nat × Nat × Nat :=
  match s.work k.group k.step k.sub k.tokOp with
  | some w => ((bits w.sline.toNat 0 10 + k.tokK) % 1024, w.expertField k.tokK 0 12 4, w.expertField k.tokK 0 16 5)
  | none =>
    let x := (s.get (F.STATION_STATION_LINE_EXPERT_BASE k.group) + k.tokK) % 1024
    (x, s.get (F.STATION_EXPERT_SECTION x), s.get (F.STATION_EXPERT_COACH_FIRST x))

/-- Where a consumed packet goes, by its OP (R128, R165, R268, R361, R390, R526). -/
def State.dest (s : State) (k : Pkt) : Dest :=
  let op := k.op
  if op = 0x0001 ∨ op = 0x0101 ∨ op = 0x0102 ∨ (0x0200 ≤ op ∧ op ≤ 0x02FF) then .out 288
  else if op = 0x1001 ∨ op = 0x1005 ∨ op = 0x1006 ∨ op = 0x1009 ∨ op = 0x100A ∨ op = 0x2001 ∨ op = 0x2003 ∨ op = 0x2005
    then .out (s.linePort k.group)
  else if op = 0x1002 ∨ op = 0x1003 ∨ op = 0x1004 ∨ op = 0x1007 ∨ op = 0x1008 ∨ op = 0x3001 then
    s.viaStation (coachPort (logicalCoach k.group k.chunk k.step k.sub))
  else if op = 0x2002 then s.viaStation (256 + 2 * (s.tokenExpert k).2.1 + k.num 40 2 % 2)
  else if 0x4001 ≤ op ∧ op ≤ 0x4005 then
    (match s.firstStation (bits k.addr 12 5) with | some p => .out p | none => .error 3)
  else if op = 0x2004 ∨ op = 0x5001 ∨ (0x4011 ≤ op ∧ op ≤ 0x4014) then .out 288
  else .error 4

end Sys2Proof.Machine
end

