-- ==== Sys2Proof/Machine/Arbiter.lean ====
section
/-! DEFINITION. The arbiters of the module's internal resources (07_paths_shaping.md, R193 to R196): deficit round robin among
children weighed by the backlogged leaves below them. The buffer arbiter shares accesses within a core cycle, below the model's
slow cycle (log 118). -/

namespace Sys2Proof.Machine

/-! ## One arbiter -/

/-- A child that contends at an arbiter: its index, the backlogged leaves below it, and the cost of its next grant in grant
units. -/
structure Contender where
  child : Nat
  n : Nat
  cost : Nat
  deriving DecidableEq, Repr

/-- Deficit of a child. -/
def Arb.deficitOf (a : Arb) (c : Nat) : Nat := match a.deficit.find? fun e => e.1 = c with | some e => e.2 | none => 0

/-- Stores a deficit. -/
def Arb.setDeficit (a : Arb) (c v : Nat) : List (Nat × Nat) := (c, v) :: a.deficit.filter fun e => e.1 ≠ c

/-- Quantum of a child: 4 × min(N, 64), N as sampled at the start of the round (R194); a child that became backlogged since
counts as it stands (DESIGN CHOICE, log 118). -/
def Arb.quantum (a : Arb) (c : Contender) : Nat :=
  4 * min (match a.counts.find? fun e => e.1 = c.child with | some e => e.2 | none => c.n) 64

/-- Place of a child in the round, of `m` children in all, from the rotating pointer upward (R195). -/
def Arb.place (a : Arb) (m child : Nat) : Nat := (child + m - a.ptr) % m

/-- The first contender that the round has not passed, with its place. -/
def Arb.next (a : Arb) (m : Nat) (cs : List Contender) : Option (Nat × Contender) :=
  cs.foldl (fun best c =>
    if a.place m c.child < a.pos then best
    else match best with
      | none => some (a.place m c.child, c)
      | some b => if a.place m c.child < b.1 then some (a.place m c.child, c) else best) none

/-- The counts of the contenders, as a round samples them (R194). -/
def sampled (cs : List Contender) : List (Nat × Nat) := cs.map fun c => (c.child, c.n)

/-- Goes on with the round until a child's deficit covers its next grant (R194, R195). What waits for several grant units gets
them round by round: its deficit is what it has been given so far, and it completes with its last unit, so that in every round
each leaf gets the units of every other (R196). -/
def Arb.step (m : Nat) (cs : List Contender) : Nat → Arb → Option Nat × Arb
  | 0, a => (none, a)
  | fuel + 1, a =>
    match a.next m cs with
    | none => Arb.step m cs fuel { a with ptr := (a.ptr + 1) % m, pos := 0, turn := false, counts := sampled cs }
    | some (k, c) =>
      let d := a.deficitOf c.child + (if a.turn && k == a.pos then 0 else a.quantum c)
      if c.cost ≤ d then (some c.child, { a with pos := k, turn := true, deficit := a.setDeficit c.child (d - c.cost) })
      else Arb.step m cs fuel { a with pos := k + 1, turn := false, deficit := a.setDeficit c.child d }

/-- The children that are no longer backlogged have a deficit of 0 (R195). -/
def Arb.settle (a : Arb) (m : Nat) (children : List Nat) : Arb :=
  let gone := a.turn && !(children.any fun c => a.place m c == a.pos)
  let b : Arb := { a with deficit := a.deficit.filter (fun e => children.contains e.1)
                          given := a.given.filter fun e => children.contains e.1 }
  if gone then { b with pos := a.pos + 1, turn := false } else b

/-- The child that an arbiter of `m` children serves next, and the arbiter after it; the first round samples its counts as it
starts. -/
def Arb.serve (a : Arb) (m : Nat) (cs : List Contender) : Option Nat × Arb :=
  if cs.isEmpty then (none, a)
  else Arb.step m cs ((cs.length + 1) * ((cs.map (·.cost)).foldl max 0 / 4 + 3))
    (if a.counts.isEmpty then { a with counts := sampled cs } else a)

/-- The arbiter of a resource. -/
def State.arb (s : State) (k : ArbKey) : Arb := match s.sw.arbs.find? fun e => decide (e.1 = k) with | some e => e.2 | none => {}

/-- Stores an arbiter. -/
def State.setArb (s : State) (k : ArbKey) (a : Arb) : State :=
  { s with sw := { s.sw with arbs := s.sw.arbs.filter (fun e => e.1 ≠ k) ++ [(k, a)] } }

/-! ## Leaves of a section uplink (R193) -/

/-- Children of an arbiter over leaves: the lines, then the stations. -/
abbrev LEAVES : Nat := 8192

/-- Chunk that a packet of a station port belongs to; those of a whole collective, and DONE, count at the coach of chunk 0, so
that the DONEs of several members stay in their order (R180; DESIGN CHOICE, log 118). -/
def leafChunk (k : Pkt) : Nat :=
  if (0x1002 ≤ k.op ∧ k.op ≤ 0x1004) ∨ k.op = 0x1007 ∨ k.op = 0x1008 ∨ k.op = 0x100A ∨ k.op = 0x3001 then k.chunk else 0

/-- Coach and leaf that a packet of a station port comes from: the logical coach within the section that its chunk names, and
its line, or the station for the packets of a station run (DESIGN CHOICE, log 118). -/
def uplinkLeaf (port : Nat) (k : Pkt) : Nat × Nat :=
  (logicalCoach k.group (leafChunk k) k.step k.sub % 32,
    if 0x2000 ≤ k.op ∧ k.op < 0x3000 then 4096 + (port - 256) / 2 else k.group)

/-- Coach and leaf of a packet that waits. -/
def Orig.leaf (o : Orig) : Nat × Nat := uplinkLeaf o.port o.pkt

/-- The leaves of a list of waiting packets, each once. -/
def leavesOf : List Orig → List (Nat × Nat)
  | [] => []
  | o :: l => o.leaf :: (leavesOf l).filter fun x => x ≠ o.leaf

/-- The leaves and the coaches of a station port that are no longer backlogged have a deficit of 0 (R195). -/
def State.settleUplink (s : State) (port : Nat) : State :=
  if port = 288 then s
  else
    let ls := leavesOf (s.sw.waiting.filter fun o => o.port = port)
    let arbs := s.sw.arbs.map fun e => match e.1 with
      | .uplink p => if p = port then (e.1, e.2.settle 32 (ls.map (·.1))) else e
      | .coach p c => if p = port then (e.1, e.2.settle LEAVES ((ls.filter fun x => x.1 = c).map (·.2))) else e
      | _ => e
    { s with sw := { s.sw with arbs := arbs } }

end Sys2Proof.Machine
end

