-- ==== Sys2Proof/Machine/SwitchCore.lean ====
section
/-! DEFINITION. Switch core (06_switch_core.md, R155 to R180) and path choice (07_paths_shaping.md, R181 to R191):
pools, accounts, allocation and release of cells, queues of copies, origination, and the flush of a port. -/

namespace Sys2Proof.Machine

/-! ## Accounts (R159 to R164) -/

/-- HELD[p][c]. -/
def State.held (s : State) (p c : Nat) : Nat := s.get (F.SWITCH_HELD_CELLS p c)

/-- EFF[p][c]. -/
def State.eff (s : State) (p c : Nat) : Nat := s.get (F.SWITCH_EFF_EFF p c)

/-- The limit still being released, 0 when none (R162). -/
def State.oldLimit (s : State) (p c : Nat) : Nat :=
  match s.sw.releasing.find? fun e => e.1 = p ∧ e.2.1 = c with
  | some e => e.2.2
  | none => 0

/-- COMMIT[p][c] (R160). -/
def State.commit (s : State) (p c : Nat) : Nat := max (max (s.eff p c) (s.held p c)) (s.oldLimit p c)

/-- A change of an account, with COMMITTED and UNCOMMITTED following COMMIT on the same edge (R160). -/
def State.account (s : State) (p c : Nat) (f : State → State) : State :=
  let t := f s
  let total := s.get F.SWITCH_COMMITTED_CELLS + t.commit p c - s.commit p c
  (t.put F.SWITCH_COMMITTED_CELLS total).put F.SWITCH_UNCOMMITTED_CELLS (786432 - total)

/-- Charges cells to an account. -/
def State.charge (s : State) (p c n : Nat) : State :=
  s.account p c fun t => t.put (F.SWITCH_HELD_CELLS p c) (t.held p c + n)

/-- Takes cells off an account. -/
def State.uncharge (s : State) (p c n : Nat) : State :=
  s.account p c fun t => t.put (F.SWITCH_HELD_CELLS p c) (t.held p c - n)

/-- LINK of a fabric port is UP or DEGRADED. -/
def State.linkIsUp (s : State) (p : Nat) : Bool := s.get (F.PORT_STATE_LINK p) = 2 || s.get (F.PORT_STATE_LINK p) = 3

/-- A fabric port's transmitters run: LINK is UP or DEGRADED, and the module is not in STOP, where every transmitter is
idle (R418). -/
def State.transmits (s : State) (p : Nat) : Bool := s.linkIsUp p && s.fstate (dom 0 0) != 3

/-- Takes the old limit of an account out of COMMIT. -/
def State.dropOldLimit (s : State) (p c : Nat) : State :=
  (s.account p c fun t =>
    ({ t with sw := { t.sw with releasing := t.sw.releasing.filter fun e => ¬ (e.1 = p ∧ e.2.1 = c) } } : State).put
      (F.SWITCH_EFF_RELEASING p c) 0).stopTimer { kind := .release, a := p, b := c }

/-- Raises EFF towards LIMIT as far as UNCOMMITTED allows (R161). -/
def State.raiseEff (s : State) (p c : Nat) : State :=
  let lim := s.get (F.SWITCH_LIMIT_LIMIT p c)
  let e := min lim (s.commit p c + s.get F.SWITCH_UNCOMMITTED_CELLS)
  (s.account p c fun t => t.put (F.SWITCH_EFF_EFF p c) (max e (t.eff p c))).put (F.SWITCH_EFF_PENDING p c)
    (b2n (decide (max e (s.eff p c) < lim)))

/-- LINK of a port reads DOWN. -/
def State.linkIsDown (s : State) (p : Nat) : Bool := s.get (F.PORT_STATE_LINK p) == 0

/-- LINK of a fabric port is DOWN: what its accounts still release is released at once (R162). -/
def State.dropOldLimits (s : State) (p : Nat) : State :=
  (s.sw.releasing.filter fun e => e.1 = p).foldl (fun t e => t.dropOldLimit p e.2.1) s

/-- What a write of LIMIT does (R161, R162). -/
def State.limitWritten (s : State) (p c : Nat) : State :=
  let lim := s.get (F.SWITCH_LIMIT_LIMIT p c)
  let old := s.eff p c
  if old < lim then
    let t := s.raiseEff p c
    if t.flag (F.SWITCH_EFF_PENDING p c) then t.raise .SWITCH 0 0 K.SWITCH_LIMIT_PENDING else t
  else if lim < old then
    let release := p < 256 && !s.linkIsDown p
    let keep := max old (s.oldLimit p c)
    let t := (s.account p c fun t =>
      let u := t.put (F.SWITCH_EFF_EFF p c) lim
      if release then
        ({ u with sw := { u.sw with releasing :=
            (u.sw.releasing.filter fun e => ¬ (e.1 = p ∧ e.2.1 = c)) ++ [(p, c, keep)] } } : State).put
          (F.SWITCH_EFF_RELEASING p c) 1
      else u).put (F.SWITCH_EFF_PENDING p c) 0
    t.stopTimer { kind := .release, a := p, b := c }
  else s.put (F.SWITCH_EFF_PENDING p c) 0

/-! ## Pools (R173 to R177) -/

/-- Sub-list `i` of a pool. -/
def PoolHid.sub (q : PoolHid) (i : Nat) : SubList := Tab.get {} q.subs i

/-- Stores a sub-list. -/
def PoolHid.setSub (q : PoolHid) (i : Nat) (l : SubList) : PoolHid := { q with subs := Tab.put {} q.subs i l }

/-- The head entry of sub-list `i`, and the list without it. -/
def SubList.pop (l : SubList) (size subs i : Nat) : Option (Nat × SubList) :=
  match l.front with
  | e :: r => some (e, { l with front := r })
  | [] =>
    if i + l.fresh * subs < size then some (i + l.fresh * subs, { l with fresh := l.fresh + 1 })
    else match l.returned with
      | e :: r => some (e, { l with returned := r })
      | [] => none

/-- Entry at a place of a sub-list. -/
def SubList.nth (l : SubList) (size subs i n : Nat) : Option Nat :=
  if n < l.front.length then l.front[n]?
  else
    let run := (size + subs - 1 - i) / subs - l.fresh
    let m := n - l.front.length
    if m < run then some (i + (l.fresh + m) * subs) else l.returned[m - run]?

/-- Length of a sub-list. -/
def SubList.len (l : SubList) (size subs i : Nat) : Nat :=
  l.front.length + ((size + subs - 1 - i) / subs - l.fresh) + l.returned.length

/-- Takes `n` entries, one from each sub-list in turn from `i`, past those empty or being rebuilt; also the sub-lists
whose head it finds allocated or with an uncorrectable link, which it leaves as they are (R173, R177). -/
def takeEntries (size subs owner : Nat) : Nat → Nat → Nat → PoolHid → List Nat × List Nat × PoolHid
  | 0, _, _, q => ([], [], q)
  | _, 0, _, q => ([], [], q)
  | fuel + 1, n + 1, i, q =>
    let l := q.sub i
    match (if l.relinking then none else l.pop size subs i) with
    | some (e, l') =>
      if (Tab.find q.owner e).isSome || q.badLinks.contains e then
        let r := takeEntries size subs owner fuel (n + 1) ((i + 1) % subs) (q.setSub i { l with relinking := true })
        (r.1, i :: r.2.1, r.2.2)
      else
        let r := takeEntries size subs owner fuel n ((i + 1) % subs)
          { (q.setSub i { l' with passed := min (l.passed + 1) q.walkAt }) with owner := Tab.insert q.owner e owner }
        (e :: r.1, r.2)
    | none => takeEntries size subs owner fuel (n + 1) ((i + 1) % subs) q

/-- Kind of a switch-core port as requester of the cell pool: fabric, station, firmware. -/
def portKind (p : Nat) : Nat := if p < 256 then 0 else if p < 288 then 1 else 2

/-- USED index of an owner in a pool; a cell's owner is its account 8p + c. -/
def usedKind (k owner : Nat) : Nat := if k = 0 then portKind (owner / 8) else owner

/-- Marks the sub-lists in rebuild: POOL_RELINK is set and RELINKS counts each (R177). -/
def State.noteRelinks (s : State) (l : List Nat) : State :=
  l.foldl (fun t _ => (t.bump A.POOL_RELINKS 1).raise .POOL 0 0 K.POOL_POOL_RELINK) s

/-- Takes `n` entries of pool `k` for an owner: FREE falls and ALLOCATED and USED rise by what is delivered, on one edge (R173,
R174); a fabric input's request that the sub-lists in rebuild leave short gets what the others hold (R163, R177). The sub-list
served first is open in the spec: a free value (log 3). -/
def State.poolTake (s : State) (k n owner : Nat) : List Nat × State :=
  let subs := s.rd (A.POOL_SUB k)
  let fr := s.fresh
  let r := takeEntries (s.rd (A.POOL_SIZE k)) subs owner (n * subs + n + subs) n (fr.1 % subs) (fr.2.pool k)
  let m := r.1.length
  let u := A.POOL_USED k (usedKind k owner)
  let t := fr.2.setPool k r.2.2
  (r.1, ((((t.wr (A.POOL_FREE k) (s.rd (A.POOL_FREE k) - m)).wr (A.POOL_ALLOCATED k) (s.rd (A.POOL_ALLOCATED k) + m)).wr
    u (s.rd u + m)).noteRelinks r.2.1))

/-- Free entries of sub-lists in rebuild, which grant nothing (R177). -/
def State.relinkHeld (s : State) (k : Nat) : Nat :=
  let size := s.rd (A.POOL_SIZE k)
  let subs := s.rd (A.POOL_SUB k)
  (((s.pool k).subs.filter fun e => e.2.relinking).map fun e => e.2.len size subs e.1).sum

/-- `n` entries can be delivered: FREE holds them in sub-lists that grant (R174, R177). -/
def State.poolHas (s : State) (k n : Nat) : Bool := n + s.relinkHeld k ≤ s.rd (A.POOL_FREE k)

/-- FREE ≥ n and USED of the requester plus n at most its QUOTA (R174). -/
def State.poolFits (s : State) (k n r : Nat) : Bool :=
  s.poolHas k n && s.rd (A.POOL_USED k r) + n ≤ s.rd (A.POOL_QUOTA k r)

/-- Frees an entry of a pool for a requester, or refuses a double free (R175). A cell leaves its account on the same edge
(R159). -/
def State.poolFree (s : State) (k e req : Nat) : State :=
  let q := s.pool k
  match Tab.find q.owner e with
  | some ow =>
    let subs := s.rd (A.POOL_SUB k)
    let i := e % subs
    let l := q.sub i
    let q' := (q.setSub i { l with returned := l.returned ++ [e] })
    let u := A.POOL_USED k (usedKind k ow)
    let t := (((s.setPool k { q' with owner := Tab.erase q.owner e }).wr (A.POOL_FREE k) (s.rd (A.POOL_FREE k) + 1)).wr
      (A.POOL_ALLOCATED k) (s.rd (A.POOL_ALLOCATED k) - 1)).wr u (s.rd u - 1)
    if k = 0 then t.uncharge (ow / 8) (ow % 8) 1 else t
  | none =>
    let s1 := (s.bump A.POOL_DOUBLE_FREES 1).raise .POOL 0 0 K.POOL_POOL_DOUBLE_FREE [k, e, req]
    s1.capture F.POOL_DF_POOL_VALID fun t =>
      ((t.put F.POOL_DF_POOL_POOL k).put F.POOL_DF_ENTRY_ENTRY e).put F.POOL_DF_REQ_REQUESTER req

/-- Frees a list of entries. -/
def State.poolFrees (s : State) (k req : Nat) (l : List Nat) : State := l.foldl (fun t e => t.poolFree k e req) s

/-- A pool's rotating pointer over its requester kinds: one position per core cycle, 21 of them in a slow cycle (R169). -/
def State.poolPtr (s : State) : Nat := 21 * s.clk % 4

/-- The request that a pool without an arbiter serves next: of the waiting ones that fit, that of the first requester kind from
the pool's pointer, and of its own the oldest (R169, R174, R405). -/
def State.nextRequest (s : State) (k : Nat) : Option PoolReq :=
  ((List.range 4).filterMap fun i =>
    (s.pool k).waits.find? fun w => w.req == (s.poolPtr + i) % 4 && s.poolFits k w.n w.req).head?

/-- Entries of sub-list `i` that the state bits show free, below place `fresh`, in rising order. -/
def rebuilt (q : PoolHid) (subs i : Nat) : List Nat :=
  ((List.range (q.sub i).fresh).map fun n => i + n * subs).filter fun e => (Tab.find q.owner e).isNone

/-- Starts the rebuild of a sub-list (R177). -/
def State.relink (s : State) (k i : Nat) : State :=
  let q := s.pool k
  if (q.sub i).relinking then s
  else (s.setPool k (q.setSub i { q.sub i with relinking := true })).noteRelinks [i]

/-- Place of the walker in sub-list `i`: the entries taken since it started stand before it no longer, and one overtaken by
the head goes on from the head (R177). -/
def PoolHid.walkPlace (q : PoolHid) (i : Nat) : Nat := q.walkAt - (q.sub i).passed

/-- One slow cycle of the walker over a pool; `errs` are the free entries whose link has become uncorrectable, which the walker
or an allocation meets when it reads them (R177). -/
def State.poolWalk (s : State) (k : Nat) (errs : List Nat) : State :=
  let q0 := s.pool k
  let q := { q0 with badLinks := q0.badLinks ++ errs.filter fun e => (Tab.find q0.owner e).isNone && !q0.badLinks.contains e }
  let size := s.rd (A.POOL_SIZE k)
  let subs := s.rd (A.POOL_SUB k)
  let bad := (List.range subs).filter fun i =>
    match (q.sub i).nth size subs i (q.walkPlace i) with
    | some e => (Tab.find q.owner e).isSome || q.badLinks.contains e
    | none => false
  let done := (List.range subs).all fun i => decide ((q.sub i).len size subs i ≤ q.walkPlace i + 1)
  let s1 := s.setPool k (if done then { q with walkAt := 0, subs := q.subs.map fun e => (e.1, { e.2 with passed := 0 }) }
    else { q with walkAt := q.walkAt + 1 })
  bad.foldl (fun t i => t.relink k i) (if done then s1.bump A.POOL_WALKS 1 else s1)

/-- Ends the rebuild of a sub-list: it is threaded anew from the state bits and grants again (R177). -/
def State.relinkDone (s : State) (k i : Nat) : State :=
  let q := s.pool k
  if (q.sub i).relinking then
    s.setPool k { q.setSub i { front := rebuilt q (s.rd (A.POOL_SUB k)) i, fresh := (q.sub i).fresh, returned := [] } with
      badLinks := q.badLinks.filter fun e => e % s.rd (A.POOL_SUB k) ≠ i }
  else s

/-- QUOTA_OVERCOMMIT when a pool's quotas exceed its SIZE (R176). -/
def State.quotaCheck (s : State) (k : Nat) : State :=
  let sum := ((List.range 4).map fun r => s.rd (A.POOL_QUOTA k r)).sum
  if s.rd (A.POOL_SIZE k) < sum then s.raise .POOL 0 0 K.POOL_QUOTA_OVERCOMMIT else s

/-! ## Packets in the buffer (R156 to R159, R168, R171) -/

/-- A packet in the buffer by its number. -/
def State.bufPkt (s : State) (id : Nat) : Option BufPkt := s.sw.pkts.find? fun b => b.id = id

/-- Replaces a packet in the buffer. -/
def State.setBuf (s : State) (b : BufPkt) : State :=
  { s with sw := { s.sw with pkts := s.sw.pkts.map fun x => if x.id = b.id then b else x } }

/-- Drops a packet from the buffer. -/
def State.delBuf (s : State) (id : Nat) : State :=
  { s with sw := { s.sw with pkts := s.sw.pkts.filter fun b => b.id ≠ id } }

/-- A fresh number for a packet, copy or waiting origination. -/
def State.newId (s : State) : Nat × State := (s.sw.nextId, { s with sw := { s.sw with nextId := s.sw.nextId + 1 } })

/-- Adds a cost to RETURN_TOTAL of a fabric port and class (R137). -/
def State.returnCredit (s : State) (p c n : Nat) : State :=
  if p < 256 then s.put (F.PORT_CR_RETURN_TOTAL_TOTAL p c) ((s.get (F.PORT_CR_RETURN_TOTAL_TOTAL p c) + n) % 2 ^ 24) else s

/-- Cells return to the pool and leave their account on one edge (R159, R175). -/
def State.freeCells (s : State) (b : BufPkt) (cells : List Nat) : State := s.poolFrees 0 b.acct cells

/-- Allocates a packet's cells, `f` header cells and its payload cells, to account (p, its class) (R158, R159, R167). -/
def State.allocate (s : State) (p : Nat) (k : Pkt) (f : Nat) (whole : Bool) (chosen : Option Nat) (pay : Nat := k.pay) :
    Nat × State :=
  let n := f + pay
  let r := s.poolTake 0 n (8 * p + k.tc)
  let i := r.2.newId
  let b : BufPkt := { id := i.1, acct := p, tc := k.tc, pkt := k, cost := k.cost, whole := whole, chosen := chosen
                      hdrCells := r.1.take f, payCells := r.1.drop f, refs := f, taken := false
                      arrived := (s.time.ns, s.time.frac) }
  (i.1, ({ i.2 with sw := { i.2.sw with pkts := i.2.sw.pkts ++ [b] } } : State).charge p k.tc r.1.length)

/-! ## Class scheduling (R192) -/

/-- The first copy of an output and class that has not begun to leave. -/
def State.head (s : State) (out tc : Nat) : Option Copy :=
  s.sw.queue.find? fun c => c.out = out ∧ c.tc = tc ∧ c.sending = false

/-- Scheduler state of an output. -/
def State.schedOf (s : State) (o : Nat) : Sched := Tab.get {} s.sw.sched o

/-- Stores scheduler state. -/
def State.setSched (s : State) (o : Nat) (v : Sched) : State :=
  { s with sw := { s.sw with sched := Tab.put {} s.sw.sched o v } }

/-- QUANTUM of a class at an output; internal outputs use the reset quanta (R192). -/
def State.quantum (s : State) (o c : Nat) : Nat := bits (if o < 256 then s.rd (A.SHAPE_QUANTUM o) else 0x80208020) (8 * c) 8

/-- Deficits of the classes that have one, with one of them replaced. -/
def Sched.set (q : Sched) (c v : Nat) : List Nat := (List.range 4).map fun i => if i = c then v else q.deficit.getD i 0

/-- Deficit round robin among TC0 to TC3: a class that the round reaches with a head that counts gains its quantum, and
sends while its deficit covers its head. The deficit of a class with an empty queue is 0 (R192). -/
def drrPick (quantum : Nat → Nat) (empty counts : Nat → Bool) (cost : Nat → Nat) : Nat → Sched → Option Nat × Sched
  | 0, q => (none, q)
  | fuel + 1, q =>
    let c := q.at_ % 4
    let d := q.deficit.getD c 0
    let d1 := if empty c then 0 else if !q.turn && counts c then d + quantum c else d
    if counts c && decide (cost c ≤ d1) then (some c, { at_ := c, turn := true, deficit := q.set c (d1 - cost c) })
    else drrPick quantum empty counts cost fuel { at_ := (c + 1) % 4, turn := false, deficit := q.set c d1 }

/-- The class that an output serves next among those whose heads count, and its scheduler after it (R134, R192). -/
def State.pick (s : State) (o : Nat) (counts : Nat → Bool) (cost : Nat → Nat) : Option Nat × Sched :=
  if counts 4 then (some 4, s.schedOf o)
  else if (List.range 4).any counts then
    drrPick (s.quantum o) (fun c => (s.head o c).isNone) counts cost 96 (s.schedOf o)
  else if counts 5 then (some 5, s.schedOf o)
  else (none, s.schedOf o)

/-- The classes of an output whose queues are empty have a deficit of 0, and no turn (R192). -/
def State.settle (s : State) (o : Nat) : State :=
  let q := s.schedOf o
  let d := (List.range 4).map fun i => if (s.head o i).isNone then 0 else q.deficit.getD i 0
  let gone := q.turn && (s.head o (q.at_ % 4)).isNone
  s.setSched o (if gone then { at_ := (q.at_ + 1) % 4, turn := false, deficit := d } else { q with deficit := d })

/-! ## Cells and copies that leave (R137, R168, R170) -/

/-- Every cell of a packet returns, its copies go, and its cost is returned (R137, R158, R170). -/
def State.discard (s : State) (id : Nat) : State :=
  match s.bufPkt id with
  | none => s
  | some b =>
    let t := (s.freeCells b (b.hdrCells ++ b.payCells)).delBuf id
    let u : State := { t with sw := { t.sw with queue := t.sw.queue.filter fun c => c.pkt ≠ id } }
    ((t.sw.queue.filter fun c => c.pkt = id).foldl (fun v c => v.settle c.out) u).returnCredit b.acct b.tc b.cost

/-- A copy leaves: its header cell returns, the payload cells' count falls by 1, and with the last copy the packet's
cells and cost return (R137, R168). -/
def State.leave (s : State) (c : Copy) : State :=
  let t := ({ s with sw := { s.sw with queue := s.sw.queue.filter fun x => x.id ≠ c.id } } : State).settle c.out
  match t.bufPkt c.pkt with
  | none => t
  | some b =>
    let u := t.freeCells b (b.hdrCells.take 1)
    if b.refs ≤ 1 then ((u.freeCells b (b.hdrCells.drop 1 ++ b.payCells)).delBuf b.id).returnCredit b.acct b.tc b.cost
    else u.setBuf { b with hdrCells := b.hdrCells.drop 1, refs := b.refs - 1 }

/-- Places a copy at the tail of the queue of its output and class (R165). -/
def State.enqueue (s : State) (id out tc dst : Nat) : State :=
  let i := s.newId
  { i.2 with sw := { i.2.sw with queue := i.2.sw.queue ++
      [{ id := i.1, pkt := id, out := out, tc := tc, dst := dst, sending := false }] } }

/-- Requester of a copy: the port whose account its packet is charged to. -/
def State.requester (s : State) (c : Copy) : Nat := match s.bufPkt c.pkt with | some b => b.acct | none => 0

/-- Puts a copy behind those whose requesters stand before its own or are the same, from a pointer upward. -/
def State.insertCopy (s : State) (ptr : Nat) (c : Copy) : List Copy → List Copy
  | [] => [c]
  | x :: l =>
    if (s.requester c + 289 - ptr) % 289 < (s.requester x + 289 - ptr) % 289 then c :: x :: l
    else x :: State.insertCopy s ptr c l

/-- An operation of several requesters on one edge: the copies that it places enter in ascending requester index from
ORDER_PTR (R169). -/
def State.inOrder (s : State) (f : State → State) : State :=
  let t := f s
  let new := t.sw.queue.filter fun c => decide (s.sw.nextId ≤ c.id)
  let l := new.foldl (fun l c => t.insertCopy (s.get F.SWITCH_ORDER_PTR_PTR) c l) []
  { t with sw := { t.sw with queue := (t.sw.queue.filter fun c => decide (c.id < s.sw.nextId)) ++ l } }

/-- A copy as it leaves: the packet with the copy's own DST_NODE and, where the module originates it, HOPS_LEFT 16 (R125,
R166). -/
def State.copyPkt (s : State) (c : Copy) : Option Pkt :=
  (s.bufPkt c.pkt).map fun b =>
    if b.pkt.dst = c.dst ∧ (b.acct < 256 ∨ b.pkt.hops = 16) then b.pkt
    else ((b.pkt.patch 8 (toBytes 2 c.dst)).patch 4 (toBytes 1 (if b.acct < 256 then b.pkt.hops else 16))).seal

/-- An internal output serves a class: its scheduler's round goes on to it (R192). With the reset quanta every head that
the round reaches is covered, so the round passes over no head that counts. -/
def State.serveClass (s : State) (c : Copy) (cost : Nat) : State :=
  if c.out < 256 then s else s.setSched c.out (s.pick c.out (fun tc => tc == c.tc) fun _ => cost).2

/-- A station port takes a packet over: its charge moves to the port's account in the same class, its cost is
returned, and it leaves the queue (R171). -/
def State.takeOver (s : State) (c : Copy) : State :=
  let s1 := match s.bufPkt c.pkt with | some b => s.serveClass c b.cost | none => s
  let t := ({ s1 with sw := { s1.sw with queue := s1.sw.queue.filter fun x => x.id ≠ c.id } } : State).settle c.out
  match t.bufPkt c.pkt with
  | none => t
  | some b =>
    let cells := b.hdrCells ++ b.payCells
    let q := t.pool 0
    let k0 := portKind b.acct
    let k1 := portKind c.out
    let t1 := t.setPool 0 { q with owner := q.owner.map fun e => if cells.contains e.1 then (e.1, 8 * c.out + b.tc) else e }
    let t2 := if k0 = k1 then t1 else
      (t1.wr (A.POOL_USED 0 k0) (t1.rd (A.POOL_USED 0 k0) - cells.length)).wr (A.POOL_USED 0 k1)
        (t1.rd (A.POOL_USED 0 k1) + cells.length)
    ((((t2.uncharge b.acct b.tc cells.length).charge c.out b.tc cells.length).returnCredit b.acct b.tc b.cost).setBuf
      { b with acct := c.out, taken := true })

/-! ## Path choice (R181 to R191) -/

/-- A flush of the port is running or waits to run. -/
def State.flushBusy (s : State) (p : Nat) : Bool := (s.port p).flushing || (s.port p).flushWait

/-- A fabric port is live for a class (R184). -/
def State.portLive (s : State) (p tc : Nat) : Bool :=
  s.linkIsUp p && !s.flushBusy p && (tc = 4 || s.get (F.PORT_STATE_TOPO p) = 1)

/-- Port of a position of a set (R182). -/
def State.setPort16 (s : State) (set i : Nat) : Nat := bits (s.rd (A.ROUTE_SET set + 4 * (i / 4))) (8 * (i % 4)) 8

/-- LIVE positions of a set for a class, rising (R184). -/
def State.livePos (s : State) (set tc : Nat) : List Nat :=
  (List.range 16).filter fun i => (s.rd (A.ROUTE_SET set + 16)).testBit i && s.portLive (s.setPort16 set i) tc

/-- Cells queued at an output in a class (R185); the copy on the wire counts no longer (DESIGN CHOICE, log 125). -/
def State.depth (s : State) (out tc : Nat) : Nat :=
  ((s.sw.queue.filter fun c => c.out = out ∧ c.tc = tc ∧ c.sending = false).map fun c =>
    match s.bufPkt c.pkt with | some b => b.cost | none => 0).sum

/-- The position of least key, the first found scanning upward from `ptr` and wrapping (R185). -/
def leastFrom (key : Nat → Nat) (ptr : Nat) (l : List Nat) : Option Nat :=
  let scan := (List.range 16).filterMap fun i => if l.contains ((ptr + i) % 16) then some ((ptr + i) % 16) else none
  match scan with
  | [] => none
  | a :: r => some (r.foldl (fun best x => if key x < key best then x else best) a)

/-- Flow hash (R187). -/
def State.flowHash (s : State) (src dst tc flow : Nat) : Nat :=
  crc32From (s.rd A.ROUTE_HASH_SALT) (toBytes 2 src ++ toBytes 2 dst ++ toBytes 1 tc ++ toBytes 2 flow)

/-- Route lookup of a destination node (R181, R185 to R187, R191). -/
def State.lookup (s : State) (src dst tc : Nat) (spray : Bool) (flow : Nat) : Option Nat × State :=
  let s0 := s.bump A.ROUTE_LOOKUPS 1
  if dst = 0xFFFF ∨ s0.get (F.ROUTE_NODE_VALID dst) = 0 then (none, s0.bump A.ROUTE_NO_ROUTE 1)
  else
    let set := s0.get (F.ROUTE_NODE_SET dst)
    let live := s0.livePos set tc
    match live with
    | [] =>
      let s1 := (s0.bump A.ROUTE_NO_ROUTE 1).raise .ROUTE 0 0 K.ROUTE_SET_EMPTY
      (none, s1.capture F.ROUTE_EMPTY_SET_VALID fun t => t.put F.ROUTE_EMPTY_SET_SET set)
    | first :: _ =>
      if spray && tc ≠ 4 then
        let f : Fld := ⟨A.ROUTE_SET set + 16, 24, 4⟩
        let sh := s0.get F.ROUTE_CFG_DEPTH_SHIFT
        let key := fun i => if s0.flag F.ROUTE_CFG_SPRAY_MODE then 0 else s0.depth (s0.setPort16 set i) tc >>> sh
        let pos := (leastFrom key (s0.get f) live).getD first
        (some (s0.setPort16 set pos), (s0.bump A.ROUTE_SPRAYED 1).put f ((s0.get f + 1) % 16))
      else
        let rank := bits (s0.flowHash src dst tc flow) 16 16 * live.length / 65536
        (some (s0.setPort16 set (live.getD rank first)), s0.bump A.ROUTE_HASHED 1)

/-- Where a packet with a destination node goes from here. -/
inductive Way where
  | out (p : Nat)
  /-- no output remains (R165) -/
  | none
  /-- consumed and answered with an ERROR code -/
  | error (code : Nat)
  deriving DecidableEq, Repr

/-- Resolves a packet to an output (R127, R165, R181); DST_NODE 0xFFFF is never looked up (R126). -/
def State.resolve (s : State) (k : Pkt) (dst : Nat) : Way × State :=
  if dst < 0x1000 ∧ dst = s.node then
    ((match s.dest k with | .out p => .out p | .error c => .error c), s)
  else
    let r := if dst = 0xFFFF then (none, s) else s.lookup k.src dst k.tc k.spray k.flow
    ((match r.1 with | some p => .out p | .none => .none), r.2)

/-! ## Origination (R164, R166, R167, R526) -/

/-- An allocation of `n` cells keeps HELD within EFF, and the cell pool can deliver it (R164, R174). -/
def State.fits (s : State) (p c n : Nat) : Bool := decide (s.held p c + n ≤ s.eff p c) && s.poolHas 0 n

/-- A waiting origination, placed last. -/
def State.addWaiting (s : State) (o : Orig) : State := { s with sw := { s.sw with waiting := s.sw.waiting ++ [o] } }

/-- A waiting origination, removed; its leaf may have emptied (R195). -/
def State.delWaiting (s : State) (id : Nat) : State :=
  let t : State := { s with sw := { s.sw with waiting := s.sw.waiting.filter fun o => o.id ≠ id } }
  match s.sw.waiting.find? fun o => o.id = id with
  | some o => t.settleUplink o.port
  | none => t

/-- Allocates and places a unicast packet of an internal port at an output (R158, R165). -/
def State.placeAt (s : State) (p : Nat) (k : Pkt) (out : Nat) : State :=
  let a := s.allocate p k 1 true (some out)
  (a.2.bump A.SWITCH_UNITS_WRITTEN k.units).enqueue a.1 out k.tc k.dst

/-- The request of a waiting packet to the cell pool cannot be granted as it is made: QUOTA_WAITS counts it (R174). -/
def State.noteAsked (s : State) (id : Nat) : State :=
  ({ s with sw := { s.sw with waiting := s.sw.waiting.map fun o => if o.id = id then { o with asked := true } else o } } :
    State).bump A.POOL_QUOTA_WAITS 1

/-- A packet of an internal port waits, last in its account (R164). The first that waits in an account has made its
request, which cannot be granted; the others make theirs as they come to the front. -/
def State.wait (s : State) (p : Nat) (k : Pkt) (link : Option Nat) (chunk : Option CKey) : State :=
  let first := !(s.sw.waiting.any fun o => o.port = p && o.pkt.tc = k.tc && o.dsts.isEmpty)
  let i := s.newId
  let t := i.2.addWaiting { id := i.1, port := p, pkt := k, dsts := [], link := link, blocked := false, chunk := chunk,
                            held := none }
  if first then t.noteAsked i.1 else t

/-- A packet of the module that no unit can consume is answered by the firmware port (R526). -/
def State.answerOwn (s : State) (k : Pkt) (code : Nat) : State :=
  let s1 := if 0x4001 ≤ k.op ∧ k.op ≤ 0x4005 then s.bump A.WINDOW_REFUSED 1 else s
  let e := mkPkt false 2 false 0x5001 k.src s1.node k.flow k.addr k.tag (mkBody 30 [(0, 1, code), (1, 2, k.op)]) []
  if s1.fits 288 2 1 && !(s1.sw.waiting.any fun o => o.port = 288 && o.pkt.tc = 2 && o.dsts.isEmpty) then s1.placeAt 288 e 288
  else s1.wait 288 e none none

/-- Allocates and places a unicast packet of an internal port (R158, R165, R526). -/
def State.placeUnicast (s : State) (p : Nat) (k : Pkt) (link : Option Nat) : State :=
  match link with
  | some out => if s.portLive out 4 then s.placeAt p k out else s
  | none =>
    match s.resolve k k.dst with
    | (.out out, t) => t.placeAt p k out
    | (.error c, t) => t.answerOwn k c
    | (.none, t) => t

/-- An internal port originates a unicast packet: at once when its account has room and no unicast waits before it,
otherwise it waits (R164, R174, R526). -/
def State.originate (s : State) (p : Nat) (k : Pkt) (link : Option Nat := none)
    (chunk : Option CKey := none) : State :=
  if s.fits p k.tc k.cost && !(s.sw.waiting.any fun o => o.port = p && o.pkt.tc = k.tc && o.dsts.isEmpty) then s.placeUnicast p k link
  else s.wait p k link chunk

/-- Hands a multicast packet to its port; MULTICAST_ADMIT admits it (R166, R167). -/
def State.multicast (s : State) (p : Nat) (k : Pkt) (dsts : List Nat) (chunk : Option CKey)
    (held : Option Nat := none) : State :=
  let i := s.newId
  (i.2.addWaiting { id := i.1, port := p, pkt := k, dsts := dsts, link := none, blocked := false, chunk := chunk,
                      held := held }).startTimer
    { kind := .multicast, a := i.1 }

/-- Resolves the copies of a multicast in copy-list order, with those that have an output (R166, R167, R186). -/
def State.resolveCopies (k : Pkt) : List Nat → State → List (Nat × Nat) × State
  | [], s => ([], s)
  | d :: l, s =>
    match s.resolve { k with hdr := (k.patch 8 (toBytes 2 d)).hdr } d with
    | (.out p, t) =>
      let r := State.resolveCopies k l t
      ((d, p) :: r.1, r.2)
    | (_, t) => State.resolveCopies k l t

/-- Notes when the last copy of a chunk's result was admitted (R288). -/
def State.noteEmit (s : State) (k : Option CKey) : State :=
  let l := s.coll.chunks.map fun c => if some c.key = k then { c with emitAt := s.clk } else c
  { s with coll := { s.coll with chunks := l } }

/-- Admits a waiting multicast all or none, when its account has room (R167); a held result's payload stays in its
held cells (R286). -/
def State.admitMulticast (s : State) (o : Orig) : State :=
  let r := State.resolveCopies o.pkt o.dsts s
  let f := r.1.length
  let pay := if o.held.isSome then 0 else o.pkt.pay
  if !(s.fits o.port o.pkt.tc (f + pay)) then (if o.asked then s else s.noteAsked o.id)
  else
    let t := (((r.2.delWaiting o.id).stopTimer { kind := .multicast, a := o.id }).bump A.SWITCH_MC_PRUNED
      (o.dsts.length - f)).noteEmit o.chunk
    if f = 0 then t
    else
      let a := t.allocate o.port o.pkt f true none pay
      let u := r.1.foldl (fun v c => v.enqueue a.1 c.2 o.pkt.tc c.1) a.2
      ((u.bump A.SWITCH_MC_PACKETS 1).bump A.SWITCH_MC_COPIES f).bump A.SWITCH_UNITS_WRITTEN (f + 4 * pay)

/-- The first waiting unicast of a port and class makes its request (R164, R174). -/
def State.askNext (s : State) (p tc : Nat) : State :=
  match s.sw.waiting.find? fun o => o.port = p && o.pkt.tc = tc && o.dsts.isEmpty with
  | some o => if o.asked || s.fits p tc o.pkt.cost then s else s.noteAsked o.id
  | none => s

/-- MC_BLOCKED when a multicast larger than its account's EFF has waited 10 µs (R167). -/
def State.mcBlocked (s : State) (p : Nat) : State :=
  match s.sw.waiting.find? fun o => o.port = p && !o.dsts.isEmpty && !o.blocked &&
      s.due { kind := .multicast, a := o.id } (us 10) &&
      decide (s.eff p o.pkt.tc < (State.resolveCopies o.pkt o.dsts s).1.length + o.pkt.pay) with
  | some o =>
    ({ s with sw := { s.sw with waiting := s.sw.waiting.map fun x => if x.id = o.id then { x with blocked := true } else x } } :
      State).raise .SWITCH 0 0 K.SWITCH_MC_BLOCKED
  | none => s

/-! ## Flush (R170, R172) -/

/-- Starts or queues the flush of a port: the packet being received is dropped and the one being sent abandoned (R170). The
cells dropped here count in no FLUSHED_CELLS (DESIGN CHOICE, log 125). -/
def State.startFlush (s : State) (p : Nat) : State :=
  let h := s.port p
  let s1 := match h.rx with | some id => s.discard id | none => s
  let s2 := s1.setPort p { h with rx := none, rxSkip := false, tx := none, hunt := false }
  if h.flushing || h.flushWait then s2
  else if s2.get F.SWITCH_FLUSHING_COUNT < 8 then
    ((s2.setPort p { s2.port p with flushing := true }).put F.SWITCH_FLUSHING_COUNT
      (s2.get F.SWITCH_FLUSHING_COUNT + 1)).startTimer { kind := .flush, a := p }
  else s2.setPort p { s2.port p with flushWait := true }

/-- Removes the copies of a packet that are queued, and with the last one the packet; a copy that is being sent at another
output goes on (R170). -/
def State.flushPkt (s : State) (p id : Nat) : State :=
  if s.sw.queue.any fun c => c.pkt = id && c.sending && c.out ≠ p then
    (s.sw.queue.filter fun c => c.pkt = id && !(c.sending && c.out ≠ p)).foldl (fun t c => t.leave c) s
  else s.discard id

/-- Removes every copy queued for a port and every packet charged to it, and counts the cells released (R170). -/
def State.flushCopies (s : State) (p : Nat) : State :=
  let free0 := s.rd (A.POOL_FREE 0)
  let own := (s.sw.pkts.filter fun b => b.acct = p).map (·.id)
  let s1 := own.foldl (fun t id => t.flushPkt p id) s
  let s2 := (s1.sw.queue.filter fun c => c.out = p).foldl (fun t c => t.leave c) s1
  let s3 : State := { s2 with coll := { s2.coll with parked := s2.coll.parked.filter fun k => (s2.bufPkt k.buf).isSome } }
  s3.bump A.SWITCH_FLUSHED_CELLS (s3.rd (A.POOL_FREE 0) - free0)

/-- Starts a flush that waits as one ends: that of the lowest port (R170; DESIGN CHOICE, log 117). -/
def State.nextFlush (s : State) : State :=
  match s.ports.find? fun e => e.2.flushWait with
  | some e =>
    ((s.setPort e.1 { s.port e.1 with flushing := true, flushWait := false }).put F.SWITCH_FLUSHING_COUNT
      (s.get F.SWITCH_FLUSHING_COUNT + 1)).startTimer { kind := .flush, a := e.1 }
  | none => s

/-- The running flush of a port removes what it finds, and ends once HELD of every class is 0 (R170). -/
def State.endFlush (s : State) (p : Nat) : State :=
  let s0 := s.flushCopies p
  if s0.sw.pkts.any fun b => b.acct = p then s0
  else
    let s1 := s0.stopTimer { kind := .flush, a := p }
    let s2 := (s1.setPort p { s1.port p with flushing := false }).put F.SWITCH_FLUSHING_COUNT
      (s1.get F.SWITCH_FLUSHING_COUNT - 1)
    s2.nextFlush

/-! ## Consumption at an internal port -/

/-- An output is a station port of a section whose fast clock is stopped: its packets wait for the wake (R319). -/
def State.asleep (s : State) (out : Nat) : Bool :=
  decide (256 ≤ out) && decide (out < 288) && !((s.get F.TOP_STATE_SECTION_AWAKE).testBit ((out - 256) / 2))

/-- The head of a class queue of an internal port, with its packet, where it meets a test. -/
def State.headIf (s : State) (out : Nat) (test : Pkt → Bool) (tc : Nat) : Option (Copy × Pkt) :=
  match s.head out tc with
  | some c => (match s.copyPkt c with | some k => if test k then some (c, k) else none | none => none)
  | none => none

/-- OPs whose consumption has a command of its own, by the output at which they leave the switch core. -/
def hasConsumer (o op : Nat) : Bool :=
  if o = 288 then op == 0x0001 || op == 0x0101 || op == 0x0102
  else !(op == 0x2003 || op == 0x2004 || op == 0x5001 || (0x4011 ≤ op && op ≤ 0x4014) || (0x0200 ≤ op && op ≤ 0x02FF))

/-- OPs whose packets a station port may take over into its own account (R171, R277, R278, R286). -/
def takenOver (op : Nat) : Bool := (0x1002 ≤ op && op ≤ 0x1004) || op == 0x2002 || op == 0x3001

/-- A head that its own consumer takes whatever command runs: one that may be taken over has room in the port's account, and
one for a processor is of a class that is never kept waiting (R131). -/
def State.headReady (s : State) (out : Nat) (k : Pkt) : Bool :=
  if hasConsumer out k.op then !takenOver k.op || s.fits out k.tc k.cost else k.tc == 2 || k.tc == 3 || k.tc == 4

/-- The copy that an internal port serves next among the heads of its class queues that count, with its packet, where it meets
a test: those that meet it count, and those that their own consumers would take (R152, R169, R192). -/
def State.headFor (s : State) (out : Nat) (test : Pkt → Bool) : Option (Copy × Pkt) :=
  let counts := s.headIf out fun k => test k || s.headReady out k
  if s.asleep out then none
  else
    match (s.pick out (fun tc => (counts tc).isSome) fun tc => match counts tc with | some h => h.2.cost | none => 0).1 with
    | some tc => s.headIf out test tc
    | none => none

/-- A head of a class queue of an internal port meets a test. -/
def State.anyHead (s : State) (out : Nat) (test : Pkt → Bool) : Bool :=
  !s.asleep out && (List.range 6).any fun tc => (s.headIf out test tc).isSome

/-- Consumes a copy at an internal port: it is read out and its cells return (R137, R168). -/
def State.consume (s : State) (c : Copy) (k : Pkt) : State :=
  ((s.serveClass c k.cost).leave c).bump A.SWITCH_UNITS_READ k.units

end Sys2Proof.Machine
end

