-- ==== Sys2Proof/Machine/Shape.lean ====
section
/-! DEFINITION. Token buckets, gate lists and class scheduling at a fabric output (07_paths_shaping.md, R192, R197 to
R201, R208 to R213), and the credits of a link (05_packets.md, R136, R138 to R140). -/

namespace Sys2Proof.Machine

/-! ## Credits of a link (R136) -/

/-- Credits available to the sender of port `p` in class `c` (R136); negative ones are 0. -/
def State.creditAvail (s : State) (p c : Nat) : Nat :=
  s.get (F.PORT_CR_TX_GRANT_GRANT p c) -
    (s.get (F.PORT_CR_DEBIT_TOTAL_TOTAL p c) + 2 ^ 24 - s.get (F.PORT_CR_RETURN_RX_TOTAL p c)) % 2 ^ 24

/-- Lanes in the transmit mask of a port. -/
def State.txLanes (s : State) (p : Nat) : Nat := popCount (s.get (F.PORT_MASKS_TX_ACTIVE p)) 16

/-! ## Token buckets (R197 to R201) -/

/-- The bucket of a class acts. -/
def State.bucketOn (s : State) (p c : Nat) : Bool := s.flag (F.SHAPE_RATE_EN p c)

/-- Level of a bucket in 1/800 byte. -/
def State.bucketLevel (s : State) (p c : Nat) : Int := (s.port p).bucket.getD c 0

/-- Stores a level. -/
def State.setBucket (s : State) (p c : Nat) (v : Int) : State :=
  let h := s.port p
  s.setPort p { h with bucket := (List.range 6).map fun i => if i = c then v else h.bucket.getD i 0 }

/-- Cap of a level: 800 × BURST, BURST at most 0x100_0000 (R198). -/
def State.bucketCap (s : State) (p c : Nat) : Int := 800 * (min (s.get (F.SHAPE_BURST_BURST p c)) 0x1000000 : Nat)

/-- One slow cycle of a bucket (R198, R200). -/
def State.bucketTick (s : State) (p c : Nat) : State :=
  if s.bucketOn p c then
    s.setBucket p c (min (s.bucketLevel p c + s.get (F.SHAPE_RATE_RATE p c)) (s.bucketCap p c))
  else s

/-- OVH that a class's register holds, from −32 to +127 (R199). -/
def State.ovhNow (s : State) (p c : Nat) : Int :=
  max (-32) (signed (bits (s.rd (A.SHAPE_OVH p (c / 4))) (8 * (c % 4)) 8) 8)

/-- OVH in force: as the last slow cycle found it (R200). -/
def State.bucketOvh (s : State) (p c : Nat) : Int := (s.port p).ovh.getD c 0

/-- A port takes the OVH of its registers over (R200). -/
def State.latchOvh (s : State) (p : Nat) : State :=
  s.setPort p { s.port p with ovh := (List.range 6).map (s.ovhNow p) }

/-- A packet of the class starts: its bytes leave the level (R199). -/
def State.bucketTake (s : State) (p c : Nat) (k : Pkt) : State :=
  if s.bucketOn p c then
    s.setBucket p c (s.bucketLevel p c - 800 * max 0 (64 * (k.units : Int) + s.bucketOvh p c))
  else s

/-- The bucket lets its class send (R201). -/
def State.bucketOpen (s : State) (p c : Nat) : Bool := !s.bucketOn p c || decide (0 ≤ s.bucketLevel p c)

/-- The buckets of a port are served every slow cycle from now on (R198, R200). -/
def State.shape (s : State) (p : Nat) : State := s.setPort p { s.port p with shaped := true }

/-- EN goes from 0 to 1: the level starts at 800 × BURST (R200). -/
def State.bucketEnabled (s : State) (p c : Nat) : State := (s.shape p).setBucket p c (s.bucketCap p c)

/-! ## Gate lists (R208 to R213) -/

/-- LEN of a bank. -/
def State.gateLen (s : State) (p bank : Nat) : Nat :=
  if bank = 0 then s.get (F.SHAPE_GATE_LEN_LEN0 p) else s.get (F.SHAPE_GATE_LEN_LEN1 p)

/-- The entries of a bank: OPEN mask and DURATION; a LEN above 64 acts as 64 (DESIGN CHOICE, log 125). -/
def State.gateList (s : State) (p bank : Nat) : List (Nat × Nat) :=
  (List.range (min (s.gateLen p bank) 64)).map fun i =>
    if bank = 0 then (s.get (F.SHAPE_GATE0_OPEN p i), s.get (F.SHAPE_GATE0_DURATION p i))
    else (s.get (F.SHAPE_GATE1_OPEN p i), s.get (F.SHAPE_GATE1_DURATION p i))

/-- The check of R210. -/
def State.gateBankOk (s : State) (p bank : Nat) : Bool :=
  s.gateLen p bank != 0 && (s.gateList p bank).all fun e => decide (100 ≤ e.2)

/-- Cycle of a list of entries [ns]. -/
def gateCycleNs (l : List (Nat × Nat)) : Nat := (l.map (·.2)).sum

/-- The earliest instant of a pending swap: SWAP_AT, or its request where that came later (R211). -/
def State.swapFrom (s : State) (p : Nat) : Nat := max (s.get (F.SHAPE_SWAP_AT_AT p)) (s.port p).swapFrom

/-- A swap is requested (R211). -/
def State.requestSwap (s : State) (p : Nat) : State :=
  (s.setPort p { s.port p with swapFrom := s.time.ns }).put (F.SHAPE_GATE_CTL_SWAP_PENDING p) 1

/-- Active bank. -/
def State.gateBank (s : State) (p : Nat) : Nat := s.get (F.SHAPE_GATE_POS_BANK p)

/-- The entry in which an offset of the cycle falls, with the offset within it. -/
def gateFind : List (Nat × Nat) → Nat → Nat → Nat × Nat
  | [], i, t => (i, t)
  | e :: l, i, t => if t < e.2 then (i, t) else gateFind l (i + 1) (t - e.2)

/-- Offset of NOW in the running cycle of the active bank [ns] (R209). -/
def State.gateOffset (s : State) (p : Nat) : Nat :=
  (s.time.ns - s.get (F.SHAPE_GATE_BASE_BASE p)) % gateCycleNs (s.gateList p (s.gateBank p))

/-- Number of the running cycle since GATE_BASE. -/
def State.gateCycleNo (s : State) (p : Nat) : Nat :=
  (s.time.ns - s.get (F.SHAPE_GATE_BASE_BASE p)) / gateCycleNs (s.gateList p (s.gateBank p))

/-- GATE_EN 1 and the active bank accepted: cycles run, or will run from GATE_BASE (R209, R210). -/
def State.gateArmed (s : State) (p : Nat) : Bool :=
  s.flag (F.SHAPE_GATE_CTL_GATE_EN p) && (s.port p).gating && gateCycleNs (s.gateList p (s.gateBank p)) != 0

/-- NOW has reached GATE_BASE. -/
def State.gateReached (s : State) (p : Nat) : Bool := decide (s.get (F.SHAPE_GATE_BASE_BASE p) ≤ s.time.ns)

/-- Gating is armed, and NOW at or past GATE_BASE (R209, R210). -/
def State.gateActive (s : State) (p : Nat) : Bool := s.gateArmed p && s.gateReached p

/-- The next start of a cycle of the active bank: GATE_BASE, or the wrap of the running cycle (R209). -/
def State.gateStart (s : State) (p : Nat) : Nat :=
  if s.gateReached p then s.get (F.SHAPE_GATE_BASE_BASE p) + (s.gateCycleNo p + 1) * gateCycleNs (s.gateList p (s.gateBank p))
  else s.get (F.SHAPE_GATE_BASE_BASE p)

/-- Length of the run of entries open to class `c` at the head of a list, and whether it is the whole list. -/
def openRun (c : Nat) : List (Nat × Nat) → Nat × Bool
  | [] => (0, true)
  | e :: l => if e.1.testBit c then ((openRun c l).1 + e.2, (openRun c l).2) else (0, false)

/-- Cycles of the active bank from its next start on before a pending swap; none where no bank is to be swapped in (R211). -/
def State.cyclesToSwap (s : State) (p : Nat) : Option Nat :=
  if s.flag (F.SHAPE_GATE_CTL_SWAP_PENDING p) && s.gateBankOk p (1 - s.gateBank p) then
    let cyc := gateCycleNs (s.gateList p (s.gateBank p))
    some ((s.swapFrom p - s.gateStart p + cyc - 1) / cyc)
  else none

/-- Time from the next start of a cycle until class `c`, open up to it, closes [ns]: none when it does not close (R212). -/
def State.openAfterWrap (s : State) (p c : Nat) : Option Nat :=
  let l := s.gateList p (s.gateBank p)
  let old := openRun c l
  let new := openRun c (s.gateList p (1 - s.gateBank p))
  match s.cyclesToSwap p with
  | none => if old.2 then none else some old.1
  | some m =>
    if m ≠ 0 ∧ ¬ old.2 then some old.1
    else if new.2 then none
    else some (m * gateCycleNs l + new.1)

/-- Time until class `c` closes in units of 2^-32 ns: none when it does not close; up to GATE_BASE every class is open (R209,
R212). -/
def State.gateLeft (s : State) (p c : Nat) : Option Nat :=
  if c = 4 ∨ ¬ s.gateArmed p then none
  else if !s.gateReached p then
    (s.openAfterWrap p c).map fun n => (s.get (F.SHAPE_GATE_BASE_BASE p) - s.time.ns + n) * 2 ^ 32 - s.time.frac
  else
    let l := s.gateList p (s.gateBank p)
    let at_ := gateFind l 0 (s.gateOffset p)
    let here := openRun c (l.drop at_.1)
    if here.1 = 0 then some 0
    else if !here.2 then some ((here.1 - at_.2) * 2 ^ 32 - s.time.frac)
    else (s.openAfterWrap p c).map fun n => (here.1 + n - at_.2) * 2 ^ 32 - s.time.frac

/-- A packet of `units` and the guard, in 2^-32 ns × 100 × lanes (R212). -/
def State.gateNeed (s : State) (p units : Nat) : Nat :=
  units * 256 * 2 ^ 32 + s.get (F.SHAPE_GATE_GUARD_GUARD p) * 2 ^ 32 * 100 * s.txLanes p

/-- The gate lets a packet start (R208, R212). -/
def State.gateOpen (s : State) (p c : Nat) (k : Pkt) : Bool :=
  match s.gateLeft p c with
  | none => true
  | some t => t != 0 && decide (s.gateNeed p k.units ≤ t * 100 * s.txLanes p)

/-- Longest window of class `c` in a bank [ns]; none where the class never closes. -/
def longestWindow (c : Nat) (l : List (Nat × Nat)) : Option Nat :=
  if (openRun c l).2 then none
  else some ((List.range l.length).foldl (fun m i => max m (openRun c (l.drop i ++ l.take i)).1) 0)

/-- The head of the class is longer than every window of it (R213; log 25: the guard is counted in). -/
def State.gateNofit (s : State) (p c : Nat) : Bool :=
  s.gateActive p && c != 4 &&
    match s.head p c with
    | some y =>
      (match s.copyPkt y, longestWindow c (s.gateList p (s.gateBank p)) with
      | some k, some w => decide (w * 2 ^ 32 * 100 * s.txLanes p < s.gateNeed p k.units)
      | _, _ => false)
    | none => false

/-- GATE_NOFIT for a port whose class heads cannot start (R213). -/
def State.noteNofit (s : State) (p : Nat) : State :=
  if (List.range 6).any (s.gateNofit p) then s.raise .SHAPE p 0 K.SHAPE_GATE_NOFIT else s

/-- Counts `n` completed cycles, and those in which a head fits in no window (R213). -/
def State.countCycles (s : State) (p n : Nat) : State :=
  let s1 := s.bump (A.SHAPE_GATE_CYCLES p) n
  if n ≠ 0 ∧ (List.range 6).any (s.gateNofit p) then (s1.bump (A.SHAPE_GUARD_HOLDS p) n).noteNofit p else s1

/-- Puts GATE_POS at NOW's place in the running cycle. -/
def State.gatePlace (s : State) (p : Nat) : State :=
  (s.put (F.SHAPE_GATE_POS_ENTRY p) (gateFind (s.gateList p (s.gateBank p)) 0 (s.gateOffset p)).1).setPort p
    { s.port p with gateCycle := s.gateCycleNo p }

/-- Puts GATE_POS at NOW's place; completed cycles count (R209, R213). -/
def State.gateMove (s : State) (p : Nat) : State := (s.gatePlace p).countCycles p (s.gateCycleNo p - (s.port p).gateCycle)

/-- After a step of NOW the position is taken anew; before GATE_BASE every class is open again (R209). -/
def State.gateAnew (s : State) (p : Nat) : State :=
  if s.flag (F.SHAPE_GATE_CTL_GATE_EN p) && (s.port p).gating then
    let s1 := s.setPort p { s.port p with gateRunning := s.gateActive p, swapFrom := min (s.port p).swapFrom s.time.ns }
    if s.gateActive p then s1.gatePlace p else s1
  else s

/-- After a step of NOW, the positions of all gate lists (R209). -/
def State.gatesAnew (s : State) : State := (List.range 256).foldl (fun t p => t.gateAnew p) s

/-- GATE_BASE is reached: entry 0 comes into force (R209). -/
def State.gateBegin (s : State) (p : Nat) : State :=
  if s.gateActive p && !(s.port p).gateRunning then
    (s.setPort p { s.port p with gateRunning := true, gateCycle := 0 }).gateMove p
  else s

/-- The entry in force moves on (R209). -/
def State.gateAdvance (s : State) (p : Nat) : State :=
  if s.gateActive p && (s.port p).gateRunning then s.gateMove p else s

/-- GATE_EN is written 1: the active bank is checked and gating starts, or GATE_INVALID is set (R210). -/
def State.gateEnable (s : State) (p : Nat) : State :=
  if s.gateBankOk p (s.gateBank p) then
    s.setPort p { s.port p with gating := true, gateRunning := false, gateCycle := 0 }
  else (s.setPort p { s.port p with gating := false, gateRunning := false }).raise .SHAPE p 0 K.SHAPE_GATE_INVALID

/-- GATE_EN is written 0: every class is open (R209). -/
def State.gateDisable (s : State) (p : Nat) : State :=
  s.setPort p { s.port p with gating := false, gateRunning := false }

/-- The pending swap, at the first cycle start at or after SWAP_AT (R211); a bank refused by R210 is not swapped in,
and the request ends (log 26). -/
def State.gateSwap (s : State) (p : Nat) : State :=
  if s.flag (F.SHAPE_GATE_CTL_SWAP_PENDING p) && s.gateActive p then
    let cyc := gateCycleNs (s.gateList p (s.gateBank p))
    let base := s.get (F.SHAPE_GATE_BASE_BASE p)
    let t := base + ((s.swapFrom p - base + cyc - 1) / cyc) * cyc
    if t ≤ s.time.ns then
      let s1 := s.put (F.SHAPE_GATE_CTL_SWAP_PENDING p) 0
      let b := 1 - s.gateBank p
      if s.gateBankOk p b then
        let s2 := s1.countCycles p ((t - base) / cyc - (s.port p).gateCycle)
        ((((s2.put (F.SHAPE_GATE_POS_BANK p) b).put (F.SHAPE_GATE_POS_ENTRY p) 0).put (F.SHAPE_GATE_BASE_BASE p) t).setPort
          p { s.port p with gateRunning := true, gateCycle := 0 })
      else s1.raise .SHAPE p 0 K.SHAPE_GATE_INVALID
    else s
  else s

/-! ## Class scheduling (R192) -/

/-- The head of a class counts at an output (R192). -/
def State.headCounts (s : State) (o c : Nat) : Bool :=
  match s.head o c with
  | some y =>
    (match s.copyPkt y with
    | some k => 256 ≤ o || (decide (k.cost ≤ s.creditAvail o c) && s.gateOpen o c k && s.bucketOpen o c)
    | none => false)
  | none => false

/-- Cost in cells of the head of a class. -/
def State.headCost (s : State) (o c : Nat) : Nat :=
  match s.head o c with
  | some y => (match s.copyPkt y with | some k => k.cost | none => 0)
  | none => 0

/-- The class whose head an output sends next, and the state with its round advanced (R134, R192). -/
def State.schedule (s : State) (o : Nat) : Option Nat × State :=
  let r := s.pick o (s.headCounts o) (s.headCost o)
  (r.1, s.setSched o r.2)

/-- A class whose head waits for its bucket alone (BUCKET_HOLDS). -/
def State.bucketHolds (s : State) (p c : Nat) : Bool :=
  s.bucketOn p c && !s.bucketOpen p c &&
    match s.head p c with
    | some y =>
      (match s.copyPkt y with
      | some k => decide (k.cost ≤ s.creditAvail p c) && s.gateOpen p c k
      | none => false)
    | none => false

/-- One slow cycle of a port's buckets, with the holds counted and OVH taken over (R198, R200; 07_paths_shaping.md, SHAPE
registers). -/
def State.portBuckets (s : State) (p : Nat) : State :=
  (List.range 6).foldl (fun u c =>
    (if s.bucketHolds p c then u.bump (A.SHAPE_BUCKET_HOLDS p c) 1 else u).bucketTick p c) (s.latchOvh p)

/-- The slow cycle's refill of every bucket, once in the cycle (R198). -/
def State.bucketRefill (s : State) : State :=
  if s.sw.refillAt = some s.clk then s
  else
    (List.range 256).foldl (fun t p => if (t.port p).shaped then t.portBuckets p else t)
      ({ s with sw := { s.sw with refillAt := some s.clk } } : State)

/-! ## LINK units (R138 to R143) -/

/-- The totals and grants a LINK unit of port `p` carries, class by class. -/
def State.linkTotals (s : State) (p : Nat) : List Nat :=
  (List.range 6).flatMap fun c =>
    [s.get (F.PORT_CR_DEBIT_TOTAL_TOTAL p c), s.get (F.PORT_CR_RETURN_TOTAL_TOTAL p c), s.eff p c]

/-- A LINK unit (R138). -/
def linkUnit (totals : List Nat) : List Byte :=
  let b := toBytes 2 0xC35A ++ toBytes 1 0x13 ++ toBytes 5 0 ++
    ((List.range 6).flatMap fun c =>
      toBytes 3 (totals.getD (3 * c) 0) ++ toBytes 3 (totals.getD (3 * c + 1) 0) ++ toBytes 2 (totals.getD (3 * c + 2) 0)) ++
    toBytes 6 0
  b ++ toBytes 2 (crc16 b)

/-- Sends a LINK unit on a port; the limits being released start their 200 µs from the unit that first carries the new
grant (R139, R140, R162). -/
def State.sendLink (s : State) (p : Nat) : State :=
  let t := s.linkTotals p
  let s0 := s.emit (.link p (linkUnit t) ((s.unitLanes p (s.port p).txUnits 1).headD 0))
  let s1 := (s0.setPort p { s0.port p with linkSent := t, unitsSince := 0 }).sentUnits p 1
  let s2 := s1.startTimer { kind := .linkTx, a := p }
  let s3 := (List.range 6).foldl (fun u c => u.put (F.PORT_CR_RX_GRANT_GRANT p c) (s.eff p c)) s2
  s3.sw.releasing.foldl (fun u e =>
    if e.1 = p ∧ u.timer { kind := .release, a := p, b := e.2.1 } = none then
      u.startTimer { kind := .release, a := p, b := e.2.1 } else u) s3

end Sys2Proof.Machine
end

