-- ==== Sys2Proof/Machine/TimeUnit.lean ====
section
/-! DEFINITION. Network time (07_paths_shaping.md, R202 to R207): NOW, the exchange with the parent port, the servo and
the pulse per second. Times are taken in units of 2^-32 ns. -/

namespace Sys2Proof.Machine

/-- NOW in 2^-32 ns. -/
def State.now (s : State) : Nat := s.time.ns * 2 ^ 32 + s.time.frac

/-- Stores NOW, modulo 2^64 ns. -/
def State.setNow (s : State) (v : Int) : State :=
  let m := (v % (2 ^ 96 : Int)).toNat
  { s with time := { s.time with ns := m / 2 ^ 32, frac := m % 2 ^ 32 } }

/-- RATE_ADJ, signed. -/
def State.rateAdj (s : State) : Int := signed (s.rd A.TIME_RATE_ADJ) 32

/-- Stores RATE_ADJ within ±42,949,673 (R202). -/
def State.setRateAdj (s : State) (v : Int) : State :=
  s.wr A.TIME_RATE_ADJ (unsigned (max (-42949673) (min 42949673 v)) 32)

/-- What one slow cycle adds to NOW (R202, R204). -/
def State.nowStep (s : State) : Int :=
  let sl := if s.time.slewStep.natAbs ≤ s.time.slewLeft.natAbs then s.time.slewStep else s.time.slewLeft
  10 * 2 ^ 32 + s.rateAdj + sl

/-- NOW after one slow cycle; the pulse per second ends 100 µs after its second (R207). -/
def State.timeCycle (s : State) : State :=
  let sl := if s.time.slewStep.natAbs ≤ s.time.slewLeft.natAbs then s.time.slewStep else s.time.slewLeft
  let s1 := s.setNow (s.now + s.nowStep)
  { s1 with time := { s1.time with
      slewLeft := s.time.slewLeft - sl
      ppsOut := s1.time.ppsOut && decide (s1.time.ns % 1000000000 < 100000) } }

/-! ## Servo (R205) -/

/-- Servo states. -/
abbrev SERVO_FREE : Nat := 0
abbrev SERVO_ACQUIRE : Nat := 1
abbrev SERVO_LOCKED : Nat := 2
abbrev SERVO_HOLDOVER : Nat := 3
abbrev SERVO_GM : Nat := 4

/-- Servo state. -/
def State.servo (s : State) : Nat := s.get F.TIME_STATE_SERVO

/-- Moves the servo; leaving LOCKED and entering HOLDOVER set their causes (R205). -/
def State.setServo (s : State) (v : Nat) : State :=
  let old := s.servo
  if old = v then s
  else
    let s1 := s.put F.TIME_STATE_SERVO v
    let s2 : State := { s1 with time := { s1.time with good := 0, bad := 0 } }
    let s3 := if old = SERVO_LOCKED then s2.raise .TIME 0 0 K.TIME_LOCK_LOST else s2
    if v = SERVO_HOLDOVER then s3.raise .TIME 0 0 K.TIME_HOLDOVER else s3

/-- The port that the unit follows (R205). -/
def State.timeParent (s : State) : Nat :=
  if s.flag F.TIME_STATE_ON_BACKUP then s.get F.TIME_CFG_BACKUP_PORT else s.get F.TIME_CFG_PARENT_PORT

/-- The servo after a write of CFG or a change of the parent's LINK to up (R205); a write that names another parent port leaves
LOCKED as it is (DESIGN CHOICE, log 125). -/
def State.evalServo (s : State) : State :=
  if s.flag F.TIME_CFG_GM then s.setServo SERVO_GM
  else if !s.flag F.TIME_CFG_PARENT_EN then s.setServo SERVO_FREE
  else if s.linkIsUp s.timeParent then
    (if s.servo = SERVO_ACQUIRE ∨ s.servo = SERVO_LOCKED then s else s.setServo SERVO_ACQUIRE)
  else s.setServo SERVO_HOLDOVER

/-- The parent's LINK comes up. -/
def State.timeLinkUp (s : State) (p : Nat) : State :=
  if s.timeParent = p ∧ s.flag F.TIME_CFG_PARENT_EN ∧ ¬ s.flag F.TIME_CFG_GM ∧
      (s.servo = SERVO_FREE ∨ s.servo = SERVO_HOLDOVER) then s.setServo SERVO_ACQUIRE else s

/-- The parent's LINK is down: BACKUP_PORT, or HOLDOVER (R205). -/
def State.timeParentLost (s : State) : State :=
  if s.flag F.TIME_CFG_PARENT_EN ∧ ¬ s.flag F.TIME_CFG_GM ∧ ¬ s.linkIsUp s.timeParent then
    if s.flag F.TIME_CFG_BACKUP_EN ∧ ¬ s.flag F.TIME_STATE_ON_BACKUP then
      (s.put F.TIME_STATE_ON_BACKUP 1).setServo SERVO_ACQUIRE
    else s.setServo SERVO_HOLDOVER
  else s

/-- SYNC_US, lower values acting as 16. -/
def State.syncUs (s : State) : Nat := max 16 (s.get F.TIME_INTERVAL_SYNC_US)

/-- Steps or slews NOW by an offset; `cycles` is the interval in slow cycles (R204). -/
def State.applyOffset (s : State) (off : Int) (cycles : Nat) : State :=
  if (s.get F.TIME_STEP_LIMIT_NS : Int) * 2 ^ 32 < (off.natAbs : Int) then
    let s1 := (s.setNow (s.now + off)).gatesAnew
    (({ s1 with time := { s1.time with slewLeft := 0, slewStep := 0 } } : State).bump A.TIME_STEPS 1).raise .TIME 0 0
      K.TIME_TIME_STEP
  else
    let sl := off / 4
    let s1 : State := { s with time := { s.time with slewLeft := sl, slewStep := sl / (cycles : Int) } }
    s1.setRateAdj (s1.rateAdj + off / (64 * (cycles : Int)))

/-- An exchange on the parent port is missing or discarded; the fourth in a row enters HOLDOVER (R205). -/
def State.badExchange (s : State) : State :=
  let s1 : State := { s with time := { s.time with good := 0, bad := s.time.bad + 1 } }
  if 4 ≤ s1.time.bad ∧ (s.servo = SERVO_ACQUIRE ∨ s.servo = SERVO_LOCKED) then s1.setServo SERVO_HOLDOVER else s1

/-- An accepted exchange: OFFSET and DELAY, NOW, and the servo state (R204, R205); the first one in HOLDOVER leads to ACQUIRE
(DESIGN CHOICE, log 125). -/
def State.goodExchange (s : State) (off delay : Int) : State :=
  let s1 := ((s.wr A.TIME_OFFSET (unsigned (off / 2 ^ 32) 32)).wr A.TIME_DELAY (unsigned (delay / 2 ^ 32) 32))
  let s2 := s1.applyOffset off (us s.syncUs)
  let near := decide ((off.natAbs : Int) ≤ (s.get F.TIME_LOCK_NS_NS : Int) * 2 ^ 32)
  let s3 := if s2.servo = SERVO_HOLDOVER then s2.setServo SERVO_ACQUIRE else s2
  let s4 : State := { s3 with time := { s3.time with good := if near then s3.time.good + 1 else 0, bad := 0 } }
  if 8 ≤ s4.time.good ∧ s4.servo = SERVO_ACQUIRE then s4.setServo SERVO_LOCKED else s4

/-! ## Exchanges (R203, R204) -/

/-- A time stamp as it stands in a body: nanoseconds, then fraction. -/
def stamp (v : Nat) : List Byte := toBytes 8 (v / 2 ^ 32) ++ toBytes 4 v

/-- A time stamp in 2^-32 ns. -/
def Pkt.stampAt (k : Pkt) (o : Nat) : Nat := k.num o 8 * 2 ^ 32 + k.num (o + 8) 4

/-- Exchanges are enabled on a port and its LINK is up (R203). -/
def State.syncOn (s : State) (p : Nat) : Bool := (s.rd (A.TIME_PORT_EN (p / 32))).testBit (p % 32) && s.linkIsUp p

/-- The exchange on a port was not answered before the next TIME_SYNC is due (R205). -/
def State.missExchange (s : State) (p : Nat) : State :=
  if (s.port p).syncT1.isSome then
    let s1 := s.setPort p { s.port p with syncT1 := none }
    if p = s.timeParent ∧ s.flag F.TIME_CFG_PARENT_EN ∧ ¬ s.flag F.TIME_CFG_GM then s1.badExchange else s1
  else s

/-- A TIME_SYNC is sent on a port when it is due (R203); the next SEQ names it. -/
def State.sendSync (s : State) (p : Nat) : State :=
  if s.syncOn p && s.elapsed { kind := .sync, a := p } (us s.syncUs) then
    let s1 := s.missExchange p
    let q := (s1.port p).syncSeq + 1
    let k := mkPkt false 4 false 0x0101 0xFFFF s.node 0 0 0 (mkBody 30 [(0, 2, q)]) []
    let s2 := ((s1.setPort p { s1.port p with syncSeq := q % 65536 }).startTimer { kind := .sync, a := p }).bump A.TIME_SYNC_TX 1
    s2.originate 288 k (some p)
  else s

/-- The answer to a TIME_SYNC received on port `p` (R203). -/
def State.answerSync (s : State) (p : Nat) (k : Pkt) (t2 : Nat) : State :=
  let body := toBytes 2 (k.num 32 2) ++ stamp t2 ++ toBytes 16 0
  s.originate 288 (mkPkt false 4 false 0x0102 0xFFFF s.node 0 0 0 body []) (some p)

/-- A TIME_REPLY received on port `p` at `t4` (R204). A reply to an exchange that was answered or counted missing before is
discarded, and counts no second time toward the four of R205. -/
def State.takeReply (s : State) (p : Nat) (k : Pkt) (t4 : Nat) : State :=
  let s1 := s.bump A.TIME_REPLY_RX 1
  let parent := decide (p = s.timeParent) && s.flag F.TIME_CFG_PARENT_EN && !s.flag F.TIME_CFG_GM
  let drop (t : State) : State := if parent then t.bump A.TIME_EXCH_BAD 1 else t
  let bad (t : State) : State := if parent then (t.bump A.TIME_EXCH_BAD 1).badExchange else t
  match (s.port p).syncT1 with
  | none => drop s1
  | some (a, b) =>
    if k.num 32 2 ≠ (s.port p).syncSeq then drop s1
    else
      let s2 := s1.setPort p { s1.port p with syncT1 := none }
      let t1 : Int := ((a * 2 ^ 32 + b : Nat) : Int)
      let t2 : Int := (k.stampAt 34 : Nat)
      let t3 : Int := (k.stampAt 46 : Nat)
      let delay := (((t4 : Nat) : Int) - t1 - (t3 - t2)) / 2
      let off := ((t2 - t1) - ((t4 : Nat) - t3)) / 2 - signed (s.rd (A.TIME_ASYM p)) 32 * 2 ^ 32
      if s.due { kind := .sync, a := p } (us s.syncUs) ∨ 20000 * 2 ^ 32 < delay then bad s2
      else if parent then s2.goodExchange off delay
      else s2

/-! ## Pulse per second (R206, R207) -/

/-- A rising TIME_PPS_IN edge; the offset is taken from PPS_CAP, in whole nanoseconds (R206; log 27: PPS_DELAY is the delay of the pulse on its way). -/
def State.ppsEdge (s : State) : State :=
  let s1 := (s.wr64 A.TIME_PPS_CAP s.time.ns).startTimer { kind := .ppsIn, a := 0 }
  if s.flag F.TIME_CFG_GM ∧ s.flag F.TIME_CFG_PPS_IN_EN then
    let sec : Int := 1000000000 * 2 ^ 32
    let e := ((s.time.ns * 2 ^ 32 : Nat) - signed (s.rd A.TIME_PPS_DELAY) 32 * 2 ^ 32) % sec
    s1.applyOffset (if 2 * e ≤ sec then -e else sec - e) (ms 1000)
  else s1

/-- No TIME_PPS_IN edge for 1.1 s (R206). -/
def State.ppsMissing (s : State) : State :=
  if s.flag F.TIME_CFG_PPS_IN_EN ∧ s.due { kind := .ppsIn, a := 0 } (ms 1100) then
    (s.stopTimer { kind := .ppsIn, a := 0 }).raise .TIME 0 0 K.TIME_PPS_MISSING
  else s

/-- NOW passed a whole second in the last slow cycle: TIME_PPS_OUT goes low (R207). -/
def State.ppsPulse (s : State) : State :=
  if s.flag F.TIME_CFG_PPS_OUT_EN ∧ s.time.ns % 1000000000 ≤ 10 then { s with time := { s.time with ppsOut := true } }
  else s

/-- What a write of CMD starts (R202, R205, R206): LATCH, SET and RESTART in bit order. -/
def State.timeCmd (s : State) (v : Nat) : State :=
  let s1 := if bit v 0 then (s.wr64 A.TIME_LATCH_NS s.time.ns).wr A.TIME_LATCH_FRAC s.time.frac else s
  let s2 : State := if bit v 1 then
      ({ s1 with time := { s1.time with ns := s1.rd64 A.TIME_SET_NS, frac := 0 } } : State).gatesAnew
    else s1
  if bit v 2 then
    (s2.put F.TIME_STATE_ON_BACKUP 0).setServo (if s2.flag F.TIME_CFG_GM then SERVO_GM else SERVO_ACQUIRE)
  else s2

/-- What a write of CFG does; PPS_IN_EN starts the watch for its first edge (R205, R206). -/
def State.timeCfgWritten (s : State) (old : Nat) : State :=
  let s1 := if s.flag F.TIME_CFG_PPS_IN_EN ∧ ¬ bit old 1 then s.startTimer { kind := .ppsIn, a := 0 } else s
  s1.evalServo

end Sys2Proof.Machine
end

