-- ==== Sys2Proof/Machine/Topology.lean ====
section
/-! DEFINITION. Discovery (08_topology.md, R214 to R224): HELLO, the neighbour record and the outcome of a port. -/

namespace Sys2Proof.Machine

/-- PLAN_CTL.MODE. -/
abbrev MODE_NONE : Nat := 0
abbrev MODE_EXPECT : Nat := 1
abbrev MODE_CUT : Nat := 2
abbrev MODE_HOLD : Nat := 3

/-- HELLO_US, lower values acting as 10. -/
def State.helloUs (s : State) (p : Nat) : Nat := max 10 (s.get (F.PORT_DISC_CFG_HELLO_US p))

/-- DEAD_COUNT, 0 acting as 1. -/
def State.deadCount (s : State) (p : Nat) : Nat := max 1 (s.get (F.PORT_DISC_CFG_DEAD_COUNT p))

/-- Outcome and reason of a port (R221). -/
def State.topo (s : State) (p : Nat) : Nat × Nat :=
  let mode := s.get (F.PORT_PLAN_CTL_MODE p)
  if mode = MODE_CUT then (5, 0xB)
  else if mode = MODE_HOLD then (2, 0xA)
  else if s.mach (.port p) = DOWN then (0, 0)
  else if !s.flag (F.PORT_NB_NODE_VALID p) then
    if mode = MODE_EXPECT ∧
        ((s.port p).heard ∨ s.due { kind := .absent, a := p } (ms (s.get (F.PORT_DISC_CFG_ABSENT_MS p)))) then
      (4, if s.linkIsUp p then 2 else 1)
    else (0, 0)
  else if s.flag F.TOP_MODULE_NUM_VALID ∧ s.get (F.PORT_NB_NODE_KIND p) = 1 ∧
      s.get (F.PORT_NB_NODE_NODE p) = s.get F.TOP_MODULE_NUM_NUMBER then (2, 9)
  else if (s.rd (A.PORT p + 0x10)).testBit K.PORT_MARKER_MISMATCH then (3, 8)
  else if mode = MODE_NONE then (2, 3)
  else if s.get (F.PORT_PLAN_NODE_KIND p) ≠ s.get (F.PORT_NB_NODE_KIND p) then (3, 4)
  else if s.get (F.PORT_PLAN_NODE_NODE p) ≠ s.get (F.PORT_NB_NODE_NODE p) then (3, 5)
  else if s.flag (F.PORT_PLAN_CTL_CHECK_PORT p) ∧ s.get (F.PORT_PLAN_PORT_PORT p) ≠ s.get (F.PORT_NB_PORT_PORT p) then (3, 6)
  else if s.flag (F.PORT_PLAN_CTL_CHECK_TAG p) ∧ s.get (F.PORT_PLAN_TAG_TAG p) ≠ s.get (F.PORT_NB_TAG_TAG p) then (3, 7)
  else (1, 0)

/-- A HELLO of a port (R217, R218). -/
def State.helloPkt (s : State) (p : Nat) : Pkt :=
  let none_ := decide (s.get (F.PORT_PLAN_CTL_MODE p) = MODE_NONE)
  mkPkt false 4 false 0x0001 0xFFFF s.node 0 0 0
    (mkBody 30 [(0, 2, s.node), (2, 2, p), (4, 1, 1), (5, 1, s.get (F.PORT_STATE_TOPO p)),
      (6, 2, (s.port p).helloSeq), (8, 4, s.rd A.SIDING_DEVICE_TAG),
      (12, 2, if none_ then 0xFFFF else s.get (F.PORT_PLAN_NODE_NODE p)), (14, 2, s.get (F.PORT_PLAN_PORT_PORT p))]) []

/-- Sends a HELLO on a port whose LINK is up (R217); SEQ rises by 1 per HELLO sent, and every HELLO starts HELLO_US anew (DESIGN
CHOICE, log 126). -/
def State.sendHello (s : State) (p : Nat) : State :=
  if s.linkIsUp p then
    let k := s.helloPkt p
    ((s.setPort p { s.port p with helloSeq := ((s.port p).helloSeq + 1) % 65536 }).startTimer
      { kind := .hello, a := p }).originate 288 k (some p)
  else s

/-- Evaluates TOPO and TOPO_REASON anew; a change of TOPO is counted, raised and told by a HELLO (R217, R221, R222). -/
def State.reTopo (s : State) (p : Nat) : State :=
  let t := s.topo p
  let old := s.get (F.PORT_STATE_TOPO p)
  let s1 := (s.put (F.PORT_STATE_TOPO p) t.1).put (F.PORT_TOPO_REASON_REASON p) t.2
  if t.1 = old then s1
  else ((s1.bump (A.PORT_TOPO_CHANGES p) 1).raise .PORT p 0 K.PORT_TOPO_CHANGE).sendHello p

/-- Clears VALID of the neighbour record (R219). -/
def State.dropNeighbour (s : State) (p : Nat) : State := s.put (F.PORT_NB_NODE_VALID p) 0

/-- A committed plan entry takes effect (R215, R217). -/
def State.planCommitted (s : State) (p : Nat) : State := (s.reTopo p).sendHello p

/-- TOP.MODULE_NUM was written (R217, R221). -/
def State.renumbered (s : State) : State :=
  (List.range 256).foldl (fun t p =>
    if t.linkIsUp p || t.flag (F.PORT_NB_NODE_VALID p) then (t.reTopo p).sendHello p else t) s

/-- A good HELLO received on port `p` (R219, R224); one that was queued as LINK went DOWN is taken too (DESIGN CHOICE,
log 126). -/
def State.takeHello (s : State) (p : Nat) (k : Pkt) : State :=
  let node := k.num 32 2
  let port := k.num 34 2
  let kind := bits (k.byte 36) 0 2
  let tag := k.num 40 4
  let exp := k.num 44 4
  let changed := decide (s.get (F.PORT_NB_NODE_NODE p) ≠ node ∨ s.get (F.PORT_NB_NODE_KIND p) ≠ kind ∨
    s.get (F.PORT_NB_PORT_PORT p) ≠ port ∨ s.rd (A.PORT_NB_TAG p) ≠ tag ∨ s.rd (A.PORT_NB_EXPECT p) ≠ exp)
  let s1 := (((((s.put (F.PORT_NB_NODE_NODE p) node).put (F.PORT_NB_NODE_KIND p) kind).put (F.PORT_NB_PORT_PORT p) port).put
    (F.PORT_NB_PORT_TOPO p) (bits (k.byte 37) 0 3)).wr (A.PORT_NB_TAG p) tag).wr (A.PORT_NB_EXPECT p) exp
  let s2 := ((s1.put (F.PORT_NB_SEQ_SEQ p) (k.num 38 2)).put (F.PORT_NB_NODE_VALID p) 1).startTimer { kind := .dead, a := p }
  let s3 := s2.setPort p { s2.port p with heard := true }
  let s4 := if changed then s3.raise .PORT p 0 K.PORT_NB_CHANGED else s3
  let s5 := if s4.flag F.TOP_MODULE_NUM_VALID ∧ kind = 1 ∧ node = s4.get F.TOP_MODULE_NUM_NUMBER then
    s4.raise .PORT p 0 K.PORT_DUP_NUMBER else s4
  s5.reTopo p

/-- NB_SEQ.AGE: microseconds since the last good HELLO, saturating (08_topology.md). -/
def State.nbAge (s : State) (p : Nat) : Nat :=
  match s.timer { kind := .dead, a := p } with
  | some t => min 0xFFFF ((s.clk - t) / 100)
  | none => 0

end Sys2Proof.Machine
end

