-- ==== Sys2Proof/Machine/Ports.lean ====
section
/-! DEFINITION. Operations on lanes and ports (04_lanes.md, R91 to R120): masks, control pairs, training, faults, and a
port's LINK coming up and going down. -/

namespace Sys2Proof.Machine

/-- The lane lies on a populated die (R4, R5). -/
def State.laneOk (s : State) (l : Nat) : Bool := l < 1024 && slotType s.asm (l / 128) != 0

/-- PHASE values of LANE.STATE (R100). -/
abbrev P_IDLE : Nat := 0
abbrev P_WAIT : Nat := 1
abbrev P_CDR : Nat := 2
abbrev P_ADAPT : Nat := 3
abbrev P_TUNE : Nat := 4
abbrev P_PARTNER : Nat := 5
abbrev P_CW : Nat := 6
abbrev P_MARKER : Nat := 7
abbrev P_RUN : Nat := 8

/-- Phase of a lane. -/
def State.phase (s : State) (l : Nat) : Nat := s.get (F.LANE_STATE_PHASE l)

/-- Stores a phase. -/
def State.setPhase (s : State) (l v : Nat) : State := s.put (F.LANE_STATE_PHASE l) v

/-- LINK values of PORT.STATE. -/
abbrev LINK_DOWN : Nat := 0
abbrev LINK_TRAINING : Nat := 1
abbrev LINK_UP : Nat := 2
abbrev LINK_DEGRADED : Nat := 3

/-! ## Layouts (R107, R108) -/

/-- First lane of a layout, as 128 × die + lane. -/
def LayoutCopy.base (y : LayoutCopy) : Nat := 128 * y.die + y.first

/-- The lanes of a layout, in the order of their offsets. -/
def LayoutCopy.lanes (y : LayoutCopy) : List Nat := (List.range y.width).map fun i => y.base + i

/-- PORT.LAYOUT as written. -/
def State.layoutReg (s : State) (p : Nat) : LayoutCopy :=
  { die := s.get (F.PORT_LAYOUT_DIE p), first := s.get (F.PORT_LAYOUT_FIRST_LANE p)
    width := s.get (F.PORT_LAYOUT_WIDTH p), minWidth := s.get (F.PORT_LAYOUT_MIN_WIDTH p) }

/-- A layout that keeps R107 and names a populated slot. -/
def State.layoutValid (s : State) (y : LayoutCopy) : Bool :=
  [1, 2, 4, 8, 16].contains y.width && y.first % y.width == 0 && decide (y.first + y.width ≤ 128) &&
    decide (1 ≤ y.minWidth ∧ y.minWidth ≤ y.width) && slotType s.asm y.die != 0

/-- Lanes of the layout a port has read; none before it has read one. -/
def State.portLanes (s : State) (p : Nat) : List Nat :=
  match (s.port p).layout with
  | some y => y.lanes
  | none => []

/-- The other ports that are not DOWN and to which one of these lanes belongs, waiting ports among them (R108). -/
def State.holders (s : State) (p : Nat) (lanes : List Nat) : List Nat :=
  (s.ports.filter fun e => e.1 != p && s.mach (.port e.1) != DOWN && (s.portLanes e.1).any lanes.contains).map (·.1)

/-- A port is DOWN: the ports that wait for its lanes wait for it no longer (R108). -/
def State.noteDown (s : State) (p : Nat) : State :=
  { s with ports := s.ports.map fun e => (e.1, { e.2 with waits := e.2.waits.filter fun q => q ≠ p }) }

/-- The port that a lane serves, with the lane's offset in it. -/
def State.lanePort (s : State) (l : Nat) : Option (Nat × Nat) :=
  s.ports.findSome? fun e =>
    if s.mach (.port e.1) ≠ DOWN ∧ ¬ e.2.conflict ∧ (s.portLanes e.1).contains l then
      e.2.layout.map fun y => (e.1, l - y.base)
    else none

/-- WIDTH of the layout a port has read. -/
def State.portWidth (s : State) (p : Nat) : Nat := (s.portLanes p).length

/-- MIN_WIDTH of the layout a port has read. -/
def State.portMin (s : State) (p : Nat) : Nat := match (s.port p).layout with | some y => y.minWidth | none => 1

/-- All lanes of a port, as a mask. -/
def State.fullMask (s : State) (p : Nat) : Nat := 2 ^ s.portWidth p - 1

/-- Receive mask. -/
def State.rxMask (s : State) (p : Nat) : Nat := s.get (F.PORT_MASKS_RX_ACTIVE p)

/-- Transmit mask. -/
def State.txMask (s : State) (p : Nat) : Nat := s.get (F.PORT_MASKS_TX_ACTIVE p)

/-! ## Units and their lanes (R109, R114) -/

/-- One of `k` units from unit `n` on was sent on a receive lane that a fault has taken, or lies in an uncorrectable codeword
(R95, R114). -/
def State.unitsLost (s : State) (p n k : Nat) : Bool :=
  let h := s.port p
  (List.range k).any fun i => h.badUnits.contains (n + i) ||
    match unitLane (maskAt h.stripe h.switches (n + i)) (n + i) with
    | some g => h.lost.testBit g
    | none => false

/-! ## Control pairs (R93, R94) -/

/-- The receiver acts on a control pair one of whose blocks lies in a correctable codeword (R94). -/
def pairOk (ok0 ok1 : Bool) : Bool := ok0 || ok1

/-- Sends a control pair on a list of lanes. -/
def State.sendPairs (s : State) (lanes : List Nat) (type content : Nat) : State :=
  lanes.foldl (fun t l => t.emit (.pair l type content)) s

/-- Active transmit lanes of a port; in a STOP of the module every transmitter is idle (R418). -/
def State.activeTx (s : State) (p : Nat) : List Nat :=
  if s.fstate (dom 0 0) = 3 then []
  else match (s.port p).layout with
  | some y => (bitList (s.txMask p) 16).map fun i => y.base + i
  | none => []

/-- Content of a LINK_MSG. -/
def linkMsg (code mask arg : Nat) : Nat := code + mask * 2 ^ 8 + arg * 2 ^ 24

/-- Sends a LINK_MSG pair on all active lanes of a port. -/
def State.sendMsg (s : State) (p code mask arg : Nat) : State :=
  s.sendPairs (s.activeTx p) 0x2D (linkMsg code mask arg)

/-- Stores both masks; the lanes' IN_PORT bits, LINK, the width causes and WIDTH_CHANGES follow (R111, R112). -/
def State.setMasks (s : State) (p rx tx : Nat) : State :=
  let rx0 := s.rxMask p
  let tx0 := s.txMask p
  let full := s.fullMask p
  let up := s.linkIsUp p
  let s1 := (s.put (F.PORT_MASKS_RX_ACTIVE p) rx).put (F.PORT_MASKS_TX_ACTIVE p) tx
  let s2 := (s.portLanes p).foldl (fun t l =>
    let i := l - (match (s.port p).layout with | some y => y.base | none => 0)
    let inRx := match (s.lane l).lockLogical with | some g => rx.testBit g && s.phase l == P_RUN | none => false
    (t.put (F.LANE_STATE_TX_IN_PORT l) (b2n (tx.testBit i))).put (F.LANE_STATE_RX_IN_PORT l) (b2n inRx)) s1
  if !up || (rx = rx0 && tx = tx0) then s2
  else
    let s3 := (s2.put (F.PORT_STATE_LINK p) (if rx = full ∧ tx = full then LINK_UP else LINK_DEGRADED)).bump
      (A.PORT_WIDTH_CHANGES p) 1
    let s4 := if clr rx0 rx ≠ 0 ∨ clr tx0 tx ≠ 0 then s3.raise .PORT p 0 K.PORT_WIDTH_DEGRADED else s3
    if (rx = full ∧ rx0 ≠ full) ∨ (tx = full ∧ tx0 ≠ full) then s4.raise .PORT p 0 K.PORT_WIDTH_RESTORED else s4

/-- Number of the unit at the next unit boundary: after the units sent, and within a packet that is being sent after one
of its units, which the events of this model leave open: a free value, but no unit before that of an earlier SWITCH (R109, R112;
log 14). -/
def State.nextUnit (s : State) (p : Nat) : Nat × State :=
  let last := ((s.port p).txSwitches.getLast?.map (·.1)).getD 0
  match (s.port p).tx.bind fun id => (s.sw.queue.find? fun c => c.id = id).bind fun c =>
      s.sw.pkts.find? fun b => b.id = c.pkt with
  | some b => (max last ((s.port p).txUnits + 1 + s.fresh.1 % b.pkt.units), s.fresh.2)
  | none => (max last (s.port p).txUnits, s)

/-- Changes the transmit mask by SWITCH on all active lanes; from the next unit on, the port stripes over the new mask
(R112, R115, R116). -/
def State.switchTx (s : State) (p mask : Nat) : State :=
  if mask = s.txMask p then s
  else
    let lanes := s.activeTx p
    let n := s.nextUnit p
    let s1 := n.2.setPort p { n.2.port p with txSwitches := (n.2.port p).txSwitches ++ [(n.1, mask)] }
    ((s1.sendPairs lanes 0x33 (mask + n.1 % 65536 * 2 ^ 16)).bump (A.PORT_SWITCH_TX p) 1).setMasks p (s.rxMask p) mask

/-- The SWITCHes of the units that have come in apply, in their order: the partner stripes over the last one's mask, and lanes
lost to a fault stay out of the receive mask (R112). -/
def State.applySwitches (s : State) (p : Nat) : State :=
  let h := s.port p
  (h.switches.filter fun e => e.1 ≤ h.rxUnits).foldl (fun t e =>
    (t.setMasks p (clr e.2 (t.port p).lost) (t.txMask p)).setPort p { t.port p with stripe := e.2 })
    (s.setPort p { h with switches := h.switches.filter fun e => h.rxUnits < e.1 })

/-- A received SWITCH names the unit at which it applies: at once when that unit is next or past, else when it comes
(R93, R112). -/
def State.takeSwitch (s : State) (p mask units : Nat) : State :=
  let h := s.port p
  let ahead := (units + 65536 - h.rxUnits % 65536) % 65536
  let n := if 32768 ≤ ahead then h.rxUnits else h.rxUnits + ahead
  (s.setPort p { h with switches := h.switches ++ [(n, mask)] }).applySwitches p

/-- `k` units of the stream have come in; SWITCHes that waited for one of them apply (R109, R112). -/
def State.countUnits (s : State) (p k : Nat) : State :=
  let h := s.port p
  let n := h.rxUnits + k
  (s.setPort p { h with rxUnits := n, badUnits := h.badUnits.filter fun u => n ≤ u }).applySwitches p

/-! ## Training (R99 to R102) -/

/-- Width code of a training frame (R99). -/
def widthCode (w : Nat) : Nat := if w = 16 then 4 else if w = 8 then 3 else if w = 4 then 2 else if w = 2 then 1 else 0

/-- One bit into the CRC-8 with polynomial x^8 + x^2 + x + 1, most significant bit first. -/
def crc8Bit (c : Nat) (b : Bool) : Nat :=
  if c.testBit 7 != b then ((c * 2) % 256) ^^^ 0x07 else (c * 2) % 256

/-- CRC-8 over bits [119:0] of a training frame, bit 0 first, from 0 (R99; DESIGN CHOICE, log 117). -/
def trainCrc (v : Nat) : Nat := (List.range 120).foldl (fun c i => crc8Bit c (v.testBit i)) 0

/-- The CRC-8 in bits [127:120] holds. -/
def trainOk (v : Nat) : Bool := v / 2 ^ 120 == trainCrc v

/-- Bits [119:0] with their CRC-8 in [127:120]. -/
def sealTrain (v : Nat) : Nat := v % 2 ^ 120 + trainCrc v * 2 ^ 120

/-- Sends a training frame. What the receiver asks of the partner's transmitter in TX_TUNE is the implementation's:
a free value (log 28). -/
def State.sendTrain (s : State) (l : Nat) : State :=
  match s.lanePort l with
  | none => s
  | some (p, i) =>
    let h := s.lane l
    let tune := s.phase l = P_TUNE && !h.partnerReady
    let r := if tune then s.fresh else (4, s)
    let req := if tune then r.1 % 2 ^ 9 else 4
    (r.2.emit (.train l (sealTrain (i + widthCode (s.portWidth p) * 2 ^ 4 + req * 2 ^ 8 + b2n h.rxReady * 2 ^ 17 +
      s.get (F.LANE_CFG_PRECODE_REQ l) * 2 ^ 18 + b2n h.atLimit * 2 ^ 19 + b2n h.ackToggle * 2 ^ 20)) h.prbsAt)).setLane l
      { r.2.lane l with prbsAt := (h.prbsAt + 1792) % 8191 }

/-- The lane sends a test pattern: TEST 1, 2 or 3. -/
def State.testOn (s : State) (l : Nat) : Bool := s.get (F.LANE_CFG_TEST l) != 0 && decide (s.get (F.LANE_CFG_TEST l) < 4)

/-- The optical engine of a lane serves; a type E lane has none (R91). -/
def State.engineOk (s : State) (l : Nat) : Bool :=
  slotType s.asm (l / 128) != 2 || (s.get (F.DIE_DIE_INFO_ENGINE_OK (l / 128))).testBit (l % 128 / 8)

/-- The lane lies in a port's layout: the one that a port not DOWN has read, or one written (R108). -/
def State.inLayout (s : State) (l : Nat) : Bool :=
  (s.lanePort l).isSome || (List.range 256).any fun p =>
    let y := s.layoutReg p
    s.layoutValid y && y.lanes.contains l

/-- A lane at rest with TEST on sends its pattern, where it lies in a port's layout and the module is not in STOP (R92, R108,
R418; 04_lanes.md, LANE lane page fields). -/
def State.sendPattern (s : State) (l : Nat) : State :=
  if s.testOn l && s.phase l == P_IDLE && s.mach (.die (l / 128)) == UP && s.engineOk l && s.inLayout l &&
      s.fstate (dom 0 0) != 3 then
    s.emit (.pattern l (s.get (F.LANE_CFG_TEST l)))
  else s

/-- The lane may train: its enables, its engine, its port's state and its die allow it (R91, R100, R108, R120). -/
def State.mayTrain (s : State) (l : Nat) : Bool :=
  s.flag (F.LANE_CTL_ENABLE l) && !s.testOn l && s.mach (.die (l / 128)) == UP && s.engineOk l &&
    !(dom 6 l :: domAbove (dom 6 l) 4).any (fun d => s.fstate d = 3) &&
    !(domAbove (dom 6 l) 4).any (fun d => s.fstate d != 0) &&
    match s.lanePort l with
    | some (p, _) => s.flag (F.PORT_CTL_ENABLE p) && s.mach (.port p) != DRAINING
    | none => false

/-- Step 1 of bring-up: the transmitter leaves idle and sends training frames (R100). -/
def State.startTraining (s : State) (l : Nat) : State :=
  match s.lanePort l with
  | none => s
  | some (p, _) =>
    let s1 := ((s.setPhase l P_WAIT).bump (A.LANE_TRAINS l) 1).wr (A.LANE_TX_EQ l)
      (Config.txPreset (s.get (F.LANE_CFG_TX_PRESET l)) % 2 ^ 24)
    let s2 := (s1.put (F.LANE_STATE_PRECODE_ON l) 0).setLane l
      { s1.lane l with lockLogical := none, lockCheck := none, lastMarker := none, rxReady := false
                       partnerReady := false, partnerPrecode := false, atLimit := false, lastReq := 4, skew := 0
                       partnerLaneReady := false, laneReadySent := false, uncorr := [], asked := none, watched := none
                       symHist := [] }
    let s3 := if s2.mach (.lane l) = FENCED then s2 else s2.setMach (.lane l) STARTING
    let s4 := (s3.stopTimer { kind := .trainIdle, a := l }).stopTimer { kind := .train, a := 1, b := l }
    let s5 := if s4.get (F.PORT_STATE_LINK p) = LINK_DOWN ∧ ¬ s4.flushBusy p then
      (s4.put (F.PORT_STATE_LINK p) LINK_TRAINING).startTimer { kind := .train, a := 0, b := p } else s4
    s5.sendTrain l

/-- A lane goes to electrical idle. -/
def State.idleLane (s : State) (l : Nat) : State :=
  let s1 := ((((s.setPhase l P_IDLE).put (F.LANE_STATE_RX_IN_PORT l) 0).put (F.LANE_STATE_TX_IN_PORT l) 0).stopTimer
    { kind := .train, a := 1, b := l }).setLane l
      { s.lane l with lockLogical := none, lockCheck := none, lastMarker := none, rxReady := false, partnerReady := false
                      partnerPrecode := false, partnerLaneReady := false, laneReadySent := false, uncorr := [], asked := none
                      watched := none, symHist := [] }
  s1.stopTimers .adaptWindow l

/-- Value of a coefficient of TX_EQ: taps 0 PRE2, 1 PRE1, 2 MAIN, 3 POST1. -/
def State.tap (s : State) (l t : Nat) : Nat := bits (s.rd (A.LANE_TX_EQ l)) (6 * t) 6

/-- The step is one the coefficient cannot take: an end of its six bits, the implementation's limit (log 28), or a tap
that a type O lane does not tune (R100). -/
def State.tapStuck (s : State) (l t : Nat) (up : Bool) : Bool :=
  let v := s.tap l t
  (if t = 2 then (if up then v == 63 else v == 0) else (if up then v == 31 else v == 32)) || Config.tapLimit t v up ||
    (slotType s.asm (l / 128) == 2 && (t == 0 || t == 3))

/-- Applies a coefficient request: AT_LIMIT or not, and the state (R99, R103). -/
def State.applyTap (s : State) (l tap action preset : Nat) : Bool × State :=
  if action = 3 then (false, s.wr (A.LANE_TX_EQ l) (Config.txPreset preset % 2 ^ 24))
  else if action = 0 ∨ 4 ≤ tap then (false, s)
  else
    let up := decide (action = 1)
    if s.tapStuck l tap up then (true, s)
    else (false, s.wr (A.LANE_TX_EQ l) (setBits (s.rd (A.LANE_TX_EQ l)) (6 * tap) 6
      (if up then s.tap l tap + 1 else s.tap l tap + 63)))

/-- A lane joins the transmit mask by SWITCH: the partner has sent LANE_READY for it, it sends coded blocks, its own domain
serves, and it is not withdrawn (R115, R116; 04_lanes.md, width degradation and rejoin, step 10). -/
def State.mayJoin (s : State) (l : Nat) : Bool :=
  (s.lane l).partnerLaneReady && decide (P_PARTNER ≤ s.phase l) && !s.fenced (dom 6 l) &&
    s.mach (.lane l) != DRAINING && s.enabled (.lane l) && !s.testOn l

/-- The lanes of a port that may join its transmit mask do so (R116). -/
def State.joinReady (s : State) (p : Nat) : State :=
  match (s.port p).layout with
  | some y =>
    if s.linkIsUp p then
      s.switchTx p ((List.range y.width).foldl (fun m i => if s.mayJoin (y.base + i) then m ||| 2 ^ i else m) (s.txMask p))
    else s
  | none => s

/-- LANE_READY is sent once the lane is at MARKER_LOCK within the skew limit and its domain is SERVING; the lane is lost
no longer, and its own transmitter joins if the partner is ready (R116). Before LINK is up the pair goes out on the lane
itself (DESIGN CHOICE, log 117). -/
def State.sendLaneReady (s : State) (l : Nat) : State :=
  let h := s.lane l
  match s.lanePort l, h.lockLogical with
  | some (p, _), some g =>
    if P_MARKER ≤ s.phase l ∧ h.skew ≤ 64 ∧ ¬ s.fenced (dom 6 l) ∧ ¬ h.laneReadySent then
      let s1 := (s.setLane l { h with laneReadySent := true }).setPort p
        { s.port p with lost := clr (s.port p).lost (2 ^ g) }
      if s.linkIsUp p then (s1.sendMsg p 0x02 (2 ^ g) 0).joinReady p
      else s1.emit (.pair l 0x2D (linkMsg 0x02 (2 ^ g) 0))
    else s
  | _, _ => s

/-! ## Lane faults and withdrawal (R112 to R115) -/

/-- A lane leaves the receive mask, with WIDTH_REQ and the matching transmit lane, and goes to electrical idle, its own
transmitter with it (R112, R114): from here until the partner's SWITCH the units sent on it are lost. -/
def State.loseLane (s : State) (l : Nat) : State :=
  match s.lanePort l, (s.lane l).lockLogical with
  | some (p, i), some g =>
    if s.linkIsUp p ∧ (s.rxMask p).testBit g then
      let rx := clr (s.rxMask p) (2 ^ g)
      let s1 := (s.setMasks p rx (s.txMask p)).setPort p { s.port p with lost := (s.port p).lost ||| 2 ^ g }
      let s2 := s1.sendMsg p 0x01 rx 0
      (s2.switchTx p (clr (s2.txMask p) (2 ^ g ||| 2 ^ i))).idleLane l
    else (s.switchTx p (clr (s.txMask p) (2 ^ i))).idleLane l
  | some (p, i), none => (s.switchTx p (clr (s.txMask p) (2 ^ i))).idleLane l
  | none, _ => s.idleLane l

/-- A lane fault (R112, R113): the cause is set; a receiving lane leaves its receive mask, WIDTH_REQ asks the partner
to do without it, and the transmit lane of the same logical number is withdrawn. The lane then starts again. -/
def State.laneFault (s : State) (l kind : Nat) : State :=
  if s.phase l < P_MARKER then s
  else
    let s0 := if kind = K.LANE_CW_LOCK_LOSS then s.bump (A.LANE_LOCK_LOSS l) 1 else s
    (s0.raise .LANE (l / 128) (l % 128) kind).loseLane l

/-- A planned withdrawal (R115): SWITCH without the lane, WIDTH_REQ for the same, and the drain starts; the lane joins again
only after a new LANE_READY of the partner (R116). -/
def State.withdrawLane (s : State) (l : Nat) : State :=
  let s00 := s.setLane l { s.lane l with partnerLaneReady := false }
  let s0 := if s00.mach (.lane l) = UP then s00.setMach (.lane l) DRAINING else s00
  match s.lanePort l, (s.lane l).lockLogical with
  | some (p, i), some g =>
    let s1 := s0.switchTx p (clr (s0.txMask p) (2 ^ i))
    s1.sendMsg p 0x01 (clr (s1.rxMask p) (2 ^ g)) 0
  | _, _ => s0

/-- TEST of a lane that has not reached RUN turns nonzero: it trains no longer; a transmitter already in the mask leaves it by
SWITCH first (R100, R115). -/
def State.endTraining (s : State) (l : Nat) : State :=
  let s1 := match s.lanePort l with
    | some (p, i) => if (s.txMask p).testBit i then s.switchTx p (clr (s.txMask p) (2 ^ i)) else s
    | none => s
  let s2 := s1.idleLane l
  (if s2.mach (.lane l) = STARTING then s2.setMach (.lane l) DOWN else s2).sendPattern l

/-! ## LINK (R111, R117, R118) -/

/-- LINK goes DOWN (R117): the port's queues are flushed, limits still being released are released (R162), the neighbour
record loses VALID, and every lane starts again. -/
def State.linkDown (s : State) (p : Nat) : State :=
  let up := s.linkIsUp p
  let s1 := s.setMasks p 0 0
  let s2 := (s1.put (F.PORT_STATE_LINK p) LINK_DOWN)
  let s3 := if up then (s2.bump (A.PORT_LINK_DOWNS p) 1).raise .PORT p 0 K.PORT_LINK_DOWN else s2
  let s4 := (s3.setPort p { s3.port p with linkHeard := false, linkSent := [], unitsSince := 0, syncT1 := none, stripe := 0
                                           lost := 0, switches := [], badUnits := [], txStripe := 0, txSwitches := [] }).stopTimer { kind := .linkTx, a := p }
  let s5 := (s4.portLanes p).foldl (fun t l =>
    let t1 := t.idleLane l
    if t1.mach (.lane l) = UP then t1.setMach (.lane l) STARTING else t1) s4
  let s6 := s5.dropNeighbour p
  let s7 := if up then s6.startFlush p else s6
  (s7.dropOldLimits p).reTopo p

/-- Every mask holds at least MIN_WIDTH lanes (R112). -/
def State.masksHold (s : State) (p : Nat) : Bool :=
  s.portMin p ≤ popCount (s.rxMask p) 16 && s.portMin p ≤ popCount (s.txMask p) 16

/-- A lane's receiver runs within the skew limit. -/
def State.rxRuns (s : State) (l : Nat) : Bool := s.phase l == P_RUN && decide ((s.lane l).skew ≤ 64)

/-- Receive labels of the port's lanes that run. -/
def State.rxLabels (s : State) (p : Nat) : Nat :=
  (s.portLanes p).foldl (fun m l =>
    if s.rxRuns l then (match (s.lane l).lockLogical with | some g => m ||| 2 ^ g | none => m) else m) 0

/-- Lanes of a port that run in both directions: the lane's receiver runs, and the partner's receiver runs for its
transmitter. `back` names the transmit lanes that the partner's receivers run (R111). -/
def State.runsBoth (s : State) (p back : Nat) : Nat :=
  (((s.portLanes p).zip (List.range 16)).filter fun e => s.rxRuns e.1 && back.testBit e.2).length

/-- TRAIN_LIMIT has passed for every lane of the port that does not run, counted from LINK's entry into TRAINING; the
limit of the port's first lane is tested in any case (R111; DESIGN CHOICE, log 17). -/
def State.trainLate (s : State) (p : Nat) : Bool :=
  let past (l : Nat) : Bool := s.due { kind := .train, a := 0, b := p } (ms (s.get (F.LANE_CFG_TRAIN_LIMIT l)))
  ((s.portLanes p).all fun l => s.rxRuns l || past l) && past ((s.portLanes p).headD 0)

/-- LINK may come up with these lanes run by the partner's receivers: all of them in both directions, or from
TRAIN_LIMIT on at least MIN_WIDTH in both (R111, R170). -/
def State.linkReady (s : State) (p back : Nat) : Bool :=
  let n := s.runsBoth p back
  s.mach (.port p) == UP && !s.linkIsUp p && !s.flushBusy p && s.portWidth p != 0 &&
    (n == s.portWidth p || (s.trainLate p && decide (s.portMin p ≤ n)))

/-- LINK comes up (R111, R140, R205, R217). -/
def State.linkComesUp (s : State) (p back : Nat) : State :=
  let full := s.fullMask p
  let rx := s.rxLabels p &&& full
  let tx := back &&& full
  let s1 := (s.setMasks p rx tx).put (F.PORT_STATE_LINK p) (if rx = full ∧ tx = full then LINK_UP else LINK_DEGRADED)
  let s2 := (List.range 6).foldl (fun t c =>
    ((((t.wr (A.PORT_CR_RX_TOTAL p c) 0).wr (A.PORT_CR_RETURN_TOTAL p c) 0).wr (A.PORT_CR_DEBIT_TOTAL p c) 0).wr
      (A.PORT_CR_RETURN_RX p c) 0).wr (A.PORT_CR_TX_GRANT p c) 0) s1
  let s3 := (s2.setPort p { s2.port p with linkHeard := false, hunt := false, rx := none, rxSkip := false, tx := none
                                           txUnits := 0, rxUnits := 0, stripe := rx, lost := 0, switches := [], badUnits := []
                                           txStripe := tx, txSwitches := [] }).stopTimer
    { kind := .train, a := 0, b := p }
  (((s3.sendLink p).timeLinkUp p).reTopo p).sendHello p

/-! ## Port start and drain (R107, R108, R118, R120) -/

/-- A port enters STARTING: its layout is read and checked (R107, R108, R221, R525). -/
def State.portStarting (s : State) (p : Nat) : State :=
  let y := s.layoutReg p
  if !s.layoutValid y then
    let s1 : State := { s with refused := s.refused ++ [.port p] }
    (s1.setMach (.port p) DOWN).raise .PORT p 0 K.PORT_LAYOUT_INVALID
  else
    let held := s.holders p y.lanes
    let s1 := (s.setMach (.port p) STARTING).setPort p
      { s.port p with layout := some y, conflict := !held.isEmpty, waits := held, heard := false, saidGoodbye := false }
    let s2 := s1.startTimer { kind := .absent, a := p }
    let s3 := if !held.isEmpty then s2.raise .PORT p 0 K.PORT_LAYOUT_CONFLICT else s2
    s3.reTopo p

/-- A waiting port goes on once every port it waits for has been DOWN (R108). -/
def State.conflictClear (s : State) (p : Nat) : State :=
  if (s.port p).conflict ∧ s.mach (.port p) = STARTING ∧ (s.port p).waits.isEmpty then
    s.setPort p { s.port p with conflict := false }
  else s

/-- End of a port's drain: the packet being sent has ended, GOODBYE is sent, the lanes go idle, LINK goes DOWN (R118). -/
def State.portDrained (s : State) (p : Nat) : State :=
  if (s.port p).tx.isSome then s
  else
    let s1 := if s.linkIsUp p then s.sendMsg p 0x05 0 0 else s
    let s2 := s1.linkDown p
    let s3 := (s2.portLanes p).foldl (fun t l =>
      let t1 := t.idleLane l
      if t1.mach (.lane l) = FENCED ∨ t1.mach (.lane l) = STOP then t1 else t1.setMach (.lane l) DOWN) s2
    (((s3.setPort p { s3.port p with saidGoodbye := true, layout := none, conflict := false, waits := [] }).setMach
      (.port p) DOWN).noteDown p).reTopo p

/-- End of a lane's drain: both masks exclude it (R115). -/
def State.laneDrained (s : State) (l : Nat) : State :=
  match s.lanePort l with
  | some (p, i) =>
    let inTx : Bool := (s.txMask p).testBit i
    let inRx : Bool := match (s.lane l).lockLogical with | some g => (s.rxMask p).testBit g | none => false
    if s.linkIsUp p ∧ (inTx ∨ inRx) then s else ((s.idleLane l).setMach (.lane l) DOWN).sendPattern l
  | none => ((s.idleLane l).setMach (.lane l) DOWN).sendPattern l

/-- Ports whose read layout lies on a die and that are not DOWN. -/
def State.diePorts (s : State) (d : Nat) : List Nat :=
  (s.ports.filter fun e => s.mach (.port e.1) != DOWN && (match e.2.layout with | some y => y.die == d | none => false)).map (·.1)

/-- A die starts to drain: every port on it is taken down as by R118, one in STARTING at the end of its start-up (R40,
R120). -/
def State.dieDraining (s : State) (d : Nat) : State :=
  (s.diePorts d).foldl (fun t p => if t.mach (.port p) = UP then t.setMach (.port p) DRAINING else t) s

/-- Lanes out of a range that are not at rest: trained or training, or with state of their own. -/
def State.lanesAwake (s : State) (first n : Nat) : List Nat :=
  ((List.range n).map (first + ·)).filter fun l => s.phase l != P_IDLE || s.lanes.any fun e => e.1 == l

/-- Every lane of a die becomes idle. -/
def State.idleDie (s : State) (d : Nat) : State := (s.lanesAwake (128 * d) 128).foldl (fun t l => t.idleLane l) s

/-- End of a die's drain: its ports are DOWN and its lanes are powered down (R120). -/
def State.dieDrained (s : State) (d : Nat) : State :=
  if !(s.diePorts d).isEmpty then s
  else
    let s1 := (List.range 128).foldl (fun t i =>
      if FENCED ≤ t.mach (.lane (128 * d + i)) then t else t.setMach (.lane (128 * d + i)) DOWN) (s.idleDie d)
    ((s1.put (F.DIE_STATE_PLL_LOCK d) 0).put (F.DIE_STATE_PKG_LINK_UP d) 0).setMach (.die d) DOWN

/-- A lane die that powers up loads its lanes' trims from the trim store: 2,048 bytes of LANE_TRIM (R492, R494). -/
def State.loadTrims (s : State) (d : Nat) : State :=
  let o := 0x1000 + 2048 * d
  let l := (s.sid.trims.filter fun e => decide (o ≤ e.1) && decide (e.1 < o + 2048)).map fun e => (d, e.1 - o, e.2)
  { s with sid := { s.sid with dieTrims := s.sid.dieTrims.filter (fun e => e.1 ≠ d) ++ l } }

/-- A die finishes its start-up: PLL locked, in-package link up, optical engines serving, trims loaded (04_lanes.md, LANE.DIE fields;
R492). -/
def State.dieStarted (s0 : State) (d : Nat) : State :=
  let s := s0.loadTrims d
  let s1 := (s.put (F.DIE_STATE_PLL_LOCK d) 1).put (F.DIE_STATE_PKG_LINK_UP d) 1
  s1.put (F.DIE_DIE_INFO_ENGINE_OK d) (if slotType s.asm d = 2 then 0xFFFF else 0)

/-! ## Markers (R96) -/

/-- Port check of the module's own port `p` (R96). -/
def State.portCheck (s : State) (p : Nat) : Nat := crc32 (toBytes 2 s.node ++ toBytes 2 p) % 256

/-- A lane gets two markers at the expected spacing (R100, R110, R116). -/
def State.markerLock (s : State) (l logical check count skew : Nat) : State :=
  match s.lanePort l with
  | none => s
  | some (p, _) =>
    let s1 := (s.setLane l { s.lane l with
      lockLogical := some logical, lockCheck := some check, lastMarker := some count, skew := skew }).setPhase l P_MARKER
    let s2 := (s1.put (F.LANE_STATE_LOGICAL l) logical).put (F.PORT_SKEW_MAX_SKEW p) (max skew (s.get (F.PORT_SKEW_MAX_SKEW p)))
    let s3 := if 64 < skew then
      (s2.raise .LANE (l / 128) (l % 128) K.LANE_SKEW_LIMIT).raise .PORT p 0 K.PORT_DESKEW_LIMIT else s2
    let clash := (s.portLanes p).any fun m => m != l && (match (s.lane m).lockCheck with | some c => c != check | none => false)
    let s4 := if clash then (s3.raise .PORT p 0 K.PORT_MARKER_MISMATCH).reTopo p else s3
    s4.sendLaneReady l

/-- Content of a MARKER of lane offset `i` (R93). -/
def State.markerContent (s : State) (p i count : Nat) : Nat :=
  i + s.portWidth p * 2 ^ 4 + count * 2 ^ 9 + s.txMask p * 2 ^ 25 + s.portCheck p * 2 ^ 41

end Sys2Proof.Machine
end

