-- ==== Sys2Proof/Machine/Arith.lean ====
section
/-! DEFINITION. Number formats and exact arithmetic (03_arithmetic.md, R56 to R90) and the generator (R406). Values are
held exactly, as a sign and an integer times a power of two, and are rounded once. -/

namespace Sys2Proof.Machine

/-! ## Exact values -/

/-- A value of an element: NaN (signaling or quiet), an infinity, or ± m × 2^e. -/
inductive Num where
  | nan (signaling : Bool)
  | inf (neg : Bool)
  | fin (neg : Bool) (m : Nat) (e : Int)
  deriving DecidableEq, Repr

/-- Positive zero. -/
def Num.zero : Num := .fin false 0 0

/-- Flag bits, in the order of the DONE body (R255): INVALID, OVERFLOW, UNDERFLOW, INEXACT, TRUNCATED. -/
abbrev FL_INVALID : Nat := 1
abbrev FL_OVERFLOW : Nat := 2
abbrev FL_UNDERFLOW : Nat := 4
abbrev FL_INEXACT : Nat := 8
abbrev FL_TRUNCATED : Nat := 16

/-- e(x) of a finite nonzero value (R59). -/
def Num.expo : Num → Option Int
  | .fin _ 0 _ => none
  | .fin _ m e => some ((Nat.log2 m : Int) + e)
  | _ => none

/-- Sign of a value. -/
def Num.neg? : Num → Bool
  | .nan _ => false
  | .inf n => n
  | .fin n _ _ => n

/-- The value with its sign turned. -/
def Num.negate : Num → Num
  | .nan q => .nan q
  | .inf n => .inf !n
  | .fin n m e => .fin (!n) m e

/-- A finite zero. -/
def Num.isZero : Num → Bool
  | .fin _ 0 _ => true
  | _ => false

/-- A NaN. -/
def Num.isNan : Num → Bool
  | .nan _ => true
  | _ => false

/-- A signaling NaN. -/
def Num.isSnan : Num → Bool
  | .nan q => q
  | _ => false

/-- An infinity. -/
def Num.isInf : Num → Bool
  | .inf _ => true
  | _ => false

/-- The signed significand over a common exponent. -/
def Num.scaled (x : Num) (e : Int) : Int :=
  match x with
  | .fin n m ex => (if n then -1 else 1) * ((m * 2 ^ (ex - e).toNat : Nat) : Int)
  | _ => 0

/-- ⌊x × 2^k⌋ of a finite value, truncated toward −∞ (R71, R80). -/
def Num.floorAt (x : Num) (k : Int) : Int :=
  match x with
  | .fin n m e =>
    let s := e + k
    let v : Int := if n then -(m : Int) else m
    if 0 ≤ s then v * 2 ^ s.toNat else v / 2 ^ (-s).toNat
  | _ => 0

/-- The exact value of an integer times a power of two; zero is +0. -/
def Num.ofInt (v : Int) (e : Int) : Num := .fin (decide (v < 0)) v.natAbs e

/-! ## Formats (R56 to R58, R60) -/

/-- A plain element format. -/
structure EFmt where
  eb : Nat
  fb : Nat
  bias : Nat
  /-- has infinities and NaN -/
  special : Bool
  deriving DecidableEq, Repr

def EFmt.bits (f : EFmt) : Nat := 1 + f.eb + f.fb

def fp64 : EFmt := ⟨11, 52, 1023, true⟩
def fp32 : EFmt := ⟨8, 23, 127, true⟩
def fp16 : EFmt := ⟨5, 10, 15, true⟩
def f16b : EFmt := ⟨8, 7, 127, true⟩
def f8a : EFmt := ⟨4, 3, 7, true⟩
def f8b : EFmt := ⟨5, 2, 15, true⟩
def f6 : EFmt := ⟨3, 2, 3, false⟩
def f4 : EFmt := ⟨2, 1, 1, false⟩

/-- Element format of a format code (R56); K forms give the format of their element codes. -/
def elemFmt (code : Nat) : EFmt :=
  match code with
  | 0 => fp64
  | 1 => fp32
  | 2 => fp16
  | 3 => f16b
  | 4 => f8a
  | 5 => f8b
  | 6 => f8a
  | 7 => f8b
  | 8 => f6
  | _ => f4

/-- A K form: blocks of 32 with a scale byte (R60). -/
def isK (code : Nat) : Bool := decide (6 ≤ code ∧ code ≤ 9)

/-- Allowed as a reduction input (R56). -/
def isReduceIn (code : Nat) : Bool := code ≤ 7

/-- Allowed as an upper format (R56). -/
def isUpper (code : Nat) : Bool := code ≤ 3

/-- Significand bits, the implicit bit included (R66). -/
def sigBits (code : Nat) : Nat := (elemFmt code).fb + 1

/-- Smallest exponent of a normal value. -/
def EFmt.emin (f : EFmt) : Int := 1 - (f.bias : Int)

/-- Largest exponent field of a finite value. -/
def EFmt.topField (f : EFmt) : Nat := if f.special then 2 ^ f.eb - 2 else 2 ^ f.eb - 1

/-- Exponent of the last significand bit of the largest finite value. -/
def EFmt.topQ (f : EFmt) : Int := (f.topField : Int) - f.bias - f.fb

/-- The value of an element code (R57, R58). -/
def EFmt.decode (f : EFmt) (code : Nat) : Num :=
  let n := code.testBit (f.eb + f.fb)
  let x := (code >>> f.fb) % 2 ^ f.eb
  let fr := code % 2 ^ f.fb
  if f.special && x == 2 ^ f.eb - 1 then
    (if fr = 0 then .inf n else .nan (decide (8 < f.bits) && !fr.testBit (f.fb - 1)))
  else if x = 0 then .fin n fr (f.emin - f.fb)
  else .fin n (2 ^ f.fb + fr) ((x : Int) - f.bias - f.fb)

/-- Sign bit of a code. -/
def EFmt.signBit (f : EFmt) (n : Bool) : Nat := if n then 2 ^ (f.eb + f.fb) else 0

/-- Code of an infinity. -/
def EFmt.infCode (f : EFmt) (n : Bool) : Nat := f.signBit n + (2 ^ f.eb - 1) * 2 ^ f.fb

/-- The canonical NaN (R58). -/
def EFmt.nanCode (f : EFmt) : Nat := (2 ^ f.eb - 1) * 2 ^ f.fb + 2 ^ (f.fb - 1)

/-- Code of the largest finite value. -/
def EFmt.maxCode (f : EFmt) (n : Bool) : Nat := f.signBit n + f.topField * 2 ^ f.fb + (2 ^ f.fb - 1)

/-! ## Rounding (R62 to R65) -/

/-- Rounding modes (R62). -/
abbrev RNE : Nat := 0
abbrev RTZ : Nat := 1
abbrev RDN : Nat := 2
abbrev RUP : Nat := 3
abbrev RTO : Nat := 4
abbrev RSR : Nat := 5

/-- m × 2^e cut to a multiple of 2^q and rounded: the multiple, and whether it is inexact. A reserved mode code acts as
RTZ (DESIGN CHOICE, log 115). -/
def roundAt (mode r : Nat) (neg : Bool) (m : Nat) (e q : Int) : Nat × Bool :=
  if q ≤ e then (m * 2 ^ (e - q).toNat, false)
  else
    let sh := (q - e).toNat
    let n := m >>> sh
    let rem := m % 2 ^ sh
    if rem = 0 then (n, false)
    else
      let half := 2 ^ (sh - 1)
      let up := match mode with
        | 0 => decide (half < rem) || (rem == half && n % 2 == 1)
        | 2 => neg
        | 3 => !neg
        | 5 => decide (2 ^ 32 ≤ ((rem * 2 ^ 32) >>> sh) + r)
        | _ => false
      if mode = 4 then (n ||| 1, true) else if up then (n + 1, true) else (n, true)

/-- The code of n × 2^q, which the format holds. -/
def EFmt.pack (f : EFmt) (neg : Bool) (n : Nat) (q : Int) : Nat :=
  let n' := if n = 2 ^ (f.fb + 1) then 2 ^ f.fb else n
  let q' := if n = 2 ^ (f.fb + 1) then q + 1 else q
  if n' < 2 ^ f.fb then f.signBit neg + n'
  else f.signBit neg + ((q' + f.fb + f.bias).toNat) * 2 ^ f.fb + (n' - 2 ^ f.fb)

/-- n × 2^q lies above the largest finite value. -/
def EFmt.passes (f : EFmt) (n : Nat) (q : Int) : Bool :=
  let t := min q f.topQ
  decide ((2 ^ (f.fb + 1) - 1) * 2 ^ (f.topQ - t).toNat < n * 2 ^ (q - t).toNat)

/-- The overflow result (R64). -/
def EFmt.overflow (f : EFmt) (mode : Nat) (sat neg : Bool) : Nat :=
  if sat then f.maxCode neg
  else match mode with
    | 1 => f.maxCode neg
    | 2 => if neg then f.infCode neg else f.maxCode neg
    | 3 => if neg then f.maxCode neg else f.infCode neg
    | 4 => f.maxCode neg
    | _ => f.infCode neg

/-- Rounds an exact value into a plain format: code and flags (R62 to R65). -/
def EFmt.round (f : EFmt) (mode r : Nat) (sat : Bool) (x : Num) : Nat × Nat :=
  match x with
  | .nan sg => (f.nanCode, if sg then FL_INVALID else 0)
  | .inf n => (f.infCode n, 0)
  | .fin n 0 _ => (f.signBit n, 0)
  | .fin n m e =>
    let ex : Int := (Nat.log2 m : Int) + e
    let q := max (ex - f.fb) (f.emin - f.fb)
    let a := roundAt mode r n m e q
    -- the same rounding at full precision with an unbounded exponent range, for tininess
    let u := roundAt mode r n m e (ex - f.fb)
    let tiny := decide (ex < f.emin) && !(decide (ex + 1 = f.emin) && u.1 == 2 ^ (f.fb + 1))
    if f.passes a.1 q then
      (if mode = RSR ∧ f.passes (roundAt RTZ 0 n m e q).1 q then f.overflow RNE sat n else f.overflow mode sat n,
        FL_OVERFLOW + FL_INEXACT)
    else (f.pack n a.1 q, (if a.2 then FL_INEXACT else 0) + (if tiny && a.2 then FL_UNDERFLOW else 0))

/-! ## Exact operations (R68, R69) -/

/-- Exact sum, with INVALID; a zero sum of unlike signs is −0 in RDN and +0 otherwise. -/
def addN (mode : Nat) (x y : Num) : Num × Nat :=
  let sn := if x.isSnan || y.isSnan then FL_INVALID else 0
  match x, y with
  | .nan _, _ => (.nan false, sn)
  | _, .nan _ => (.nan false, sn)
  | .inf a, .inf b => if a = b then (.inf a, 0) else (.nan false, FL_INVALID)
  | .inf a, _ => (.inf a, 0)
  | _, .inf b => (.inf b, 0)
  | .fin a m e, .fin b n g =>
    let t := min e g
    let s := x.scaled t + y.scaled t
    if s = 0 then (.fin (if m = 0 ∧ n = 0 ∧ a = b then a else decide (mode = RDN)) 0 0, 0) else (Num.ofInt s t, 0)

/-- Exact product, with INVALID. -/
def mulN (x y : Num) : Num × Nat :=
  let sn := if x.isSnan || y.isSnan then FL_INVALID else 0
  let n := x.neg? != y.neg?
  match x, y with
  | .nan _, _ => (.nan false, sn)
  | _, .nan _ => (.nan false, sn)
  | .inf _, z => if z.isZero then (.nan false, FL_INVALID) else (.inf n, 0)
  | z, .inf _ => if z.isZero then (.nan false, FL_INVALID) else (.inf n, 0)
  | .fin _ m e, .fin _ k g => (.fin n (m * k) (e + g), 0)

/-- The value of a code under flags raised so far: one operation rounded into a format. -/
def EFmt.finish (f : EFmt) (mode r : Nat) (sat : Bool) (x : Num × Nat) : Nat × Nat :=
  let y := f.round mode r sat x.1
  (y.1, x.2 ||| y.2)

/-- Addition of two codes. -/
def EFmt.add (f : EFmt) (mode a b : Nat) : Nat × Nat := f.finish mode 0 false (addN mode (f.decode a) (f.decode b))

/-- Subtraction. -/
def EFmt.sub (f : EFmt) (mode a b : Nat) : Nat × Nat :=
  f.finish mode 0 false (addN mode (f.decode a) (f.decode b).negate)

/-- Multiplication. -/
def EFmt.mul (f : EFmt) (mode a b : Nat) : Nat × Nat := f.finish mode 0 false (mulN (f.decode a) (f.decode b))

/-- Fused multiply-add a × b + c with one rounding. -/
def EFmt.fma (f : EFmt) (mode a b c : Nat) : Nat × Nat :=
  let p := mulN (f.decode a) (f.decode b)
  let s := addN mode p.1 (f.decode c)
  f.finish mode 0 false (s.1, p.2 ||| s.2)

/-- Bit 5 of an update completion record's flags: DIVZERO (R69, R336). -/
abbrev FL_DIVZERO : Nat := 32

/-- Division, correctly rounded: 128 quotient bits and a sticky bit are enough for every format. -/
def EFmt.div (f : EFmt) (mode a b : Nat) : Nat × Nat :=
  let x := f.decode a
  let y := f.decode b
  let n := x.neg? != y.neg?
  let sn := if x.isSnan || y.isSnan then FL_INVALID else 0
  match x, y with
  | .nan _, _ => (f.nanCode, sn)
  | _, .nan _ => (f.nanCode, sn)
  | .inf _, .inf _ => (f.nanCode, FL_INVALID)
  | .inf _, _ => (f.infCode n, 0)
  | _, .inf _ => (f.signBit n, 0)
  | .fin _ 0 _, .fin _ 0 _ => (f.nanCode, FL_INVALID)
  | .fin _ _ _, .fin _ 0 _ => (f.infCode n, FL_DIVZERO)
  | .fin _ m e, .fin _ k g =>
    if m = 0 then (f.signBit n, 0)
    else
      let q := m * 2 ^ 160 / k
      let st := if m * 2 ^ 160 % k = 0 then 0 else 1
      f.round mode 0 false (.fin n (2 * q + st) (e - g - 161))

/-- Square root, correctly rounded. -/
def EFmt.sqrt (f : EFmt) (mode a : Nat) : Nat × Nat :=
  match f.decode a with
  | .nan sg => (f.nanCode, if sg then FL_INVALID else 0)
  | .inf true => (f.nanCode, FL_INVALID)
  | .inf false => (f.infCode false, 0)
  | .fin n 0 _ => (f.signBit n, 0)
  | .fin true _ _ => (f.nanCode, FL_INVALID)
  | .fin false m e =>
    let m' := if e % 2 = 0 then m else 2 * m
    let e' := if e % 2 = 0 then e else e - 1
    let v := m' * 2 ^ 200
    let s := Nat.sqrt v
    let st := if s * s = v then 0 else 1
    f.round mode 0 false (.fin false (2 * s + st) (e' / 2 - 101))

/-- x < y among values without NaN, −0 below +0 (R85). -/
def ltN (x y : Num) : Bool :=
  match x, y with
  | .inf a, .inf b => a && !b
  | .inf a, _ => a
  | _, .inf b => !b
  | .fin a m e, .fin b n g =>
    let t := min e g
    let u := x.scaled t
    let v := y.scaled t
    if m = 0 ∧ n = 0 then a && !b else decide (u < v)
  | _, _ => false

/-- Maximum or minimum that propagates NaN (R68, R85). -/
def pickN (max : Bool) (x y : Num) : Num × Nat :=
  if x.isNan || y.isNan then (.nan false, if x.isSnan || y.isSnan then FL_INVALID else 0)
  else if max then (if ltN x y then y else x, 0)
  else (if ltN y x then y else x, 0)

/-! ## Vectors (R60, R61) -/

/-- Bytes of a vector of `n` elements (R60). -/
def vecBytes (code n : Nat) : Nat :=
  match code with
  | 0 => 8 * n
  | 1 => 4 * n
  | 2 => 2 * n
  | 3 => 2 * n
  | 4 => n
  | 5 => n
  | 6 => n + n / 32
  | 7 => n + n / 32
  | 8 => 3 * n / 4 + n / 32
  | _ => n / 2 + n / 32

/-- Element code `i` of a vector. -/
def elemCode (code : Nat) (l : List Byte) (i : Nat) : Nat :=
  match code with
  | 8 => (numAt l (3 * (i / 4)) 3 >>> (6 * (i % 4))) % 64
  | 9 => (numAt l (i / 2) 1 >>> (4 * (i % 2))) % 16
  | _ => let w := (elemFmt code).bits / 8; numAt l (w * i) w

/-- Scale byte of a block of a vector of `n` elements. -/
def scaleByte (code n : Nat) (l : List Byte) (blk : Nat) : Nat := numAt l (vecBytes code n - n / 32 + blk) 1

/-- Times 2^k. -/
def Num.shift (x : Num) (k : Int) : Num :=
  match x with
  | .fin n m e => .fin n m (e + k)
  | y => y

/-- Element `i` of a vector of `n` elements (R60). -/
def vecElem (code n : Nat) (l : List Byte) (i : Nat) : Num :=
  let x := (elemFmt code).decode (elemCode code l i)
  if isK code then
    let s := scaleByte code n l (i / 32)
    if s = 0xFF then .nan false else x.shift ((s : Int) - 127)
  else x

/-- A vector's elements. -/
def decodeVec (code n : Nat) (l : List Byte) : List Num := (List.range n).map (vecElem code n l)

/-- Largest e(x) of a list, none without a finite nonzero element. -/
def maxExpo (l : List Num) : Option Int :=
  l.foldl (fun b x => match b, x.expo with
    | some u, some v => some (max u v)
    | none, v => v
    | u, none => u) none

/-- A block converted to a K form: scale byte, element codes, flags per element (R61). `rs i` is r of element `i`. -/
def packBlock (code mode : Nat) (rs : Nat → Nat) (l : List Num) : Nat × List (Nat × Nat) :=
  let f := elemFmt code
  let emax : Int := match code with | 6 => 7 | 7 => 15 | 8 => 4 | _ => 2
  if l.any Num.isNan then (0xFF, l.map fun x => (0, if x.isSnan then FL_INVALID else 0))
  else
    let b := maxExpo l
    let want : Int := match b with | some b => b - emax | none => -127
    let X := max (-127) (min 127 want)
    (( X + 127).toNat, (List.range l.length).map fun i =>
      match l.getD i Num.zero with
      | .inf n => if f.special then (f.infCode n, 0) else (f.maxCode n, FL_INVALID)
      | x =>
        let y := x.shift (-X)
        -- the magnitude as rounded with no bound above
        let r := f.round mode (rs i) true y
        let past := decide (r.2 &&& FL_OVERFLOW ≠ 0)
        -- DEDUCED: "still exceeds" is said of the rounded magnitude (log 78)
        if past then (f.maxCode x.neg?, if 127 < want then FL_OVERFLOW + FL_INEXACT else FL_INEXACT)
        else r)

/-- Packs element codes of `w` bits, lowest first, into bytes. -/
def packCodes (w : Nat) (l : List Nat) : List Byte :=
  let total := l.length * w
  toBytes (total / 8) ((List.range l.length).foldl (fun v i => v + (l.getD i 0) * 2 ^ (w * i)) 0)

/-- Groups a list by 32. -/
def blocks32 {α : Type} (l : List α) : List (List α) :=
  (List.range ((l.length + 31) / 32)).map fun b => (l.drop (32 * b)).take 32

/-- A vector in a format: its bytes, and the flags of each element (R60, R61, R64, R65). -/
def encodeVec (code mode : Nat) (sat : Bool) (rs : Nat → Nat) (l : List Num) : List Byte × List Nat :=
  if isK code then
    let bs := blocks32 l
    let ps := (List.range bs.length).map fun b => packBlock code mode (fun i => rs (32 * b + i)) (bs.getD b [])
    let w := match code with | 8 => 6 | 9 => 4 | _ => 8
    (ps.flatMap (fun p => packCodes w (p.2.map (·.1))) ++ ps.flatMap (fun p => toBytes 1 p.1),
      ps.flatMap fun p => p.2.map (·.2))
  else
    let f := elemFmt code
    let rsd := (List.range l.length).map fun i => f.round mode (rs i) sat (l.getD i Num.zero)
    (rsd.flatMap (fun p => toBytes (f.bits / 8) p.1), rsd.map (·.2))

/-! ## Timetable entries and the window (R78 to R83) -/

/-- A timetable entry of a block (R78). -/
def ttEntry (l : List Num) : Nat :=
  match maxExpo l with
  | some b => (b + 2048).toNat % 4096
  | none => 0

/-- w of a finite element at anchor entry `a` = M + 2048, and whether bits were lost (R80, R87). -/
def windowTerm (a : Nat) (x : Num) : Int × Bool :=
  let m : Int := (a : Int) - 2048
  let w := x.floorAt (82 - m)
  (w, match x with
    | .fin n k e =>
      let s := e + 82 - m
      let v : Int := if n then -(k : Int) else k
      decide (s < 0) && decide (w * 2 ^ (-s).toNat ≠ v)
    | _ => false)

/-! ## The group dot product (R71 to R77) -/

/-- A finite FP32 value split into three pieces of at most 8 significant bits (R76). -/
def split3 (x : Num) : List Num :=
  let cut (y : Num) : Num :=
    match y with
    | .fin n m e => let k := Nat.log2 m + 1 - 8; .fin n (m >>> k) (e + k)
    | z => z
  let less (y z : Num) : Num := (addN RNE y z.negate).1
  let h := cut x
  let m := cut (less x h)
  let l := less (less x h) m
  [h, m, l]

/-- The six kept terms of an FP32 product (R77). -/
def splitTerms (x y : Num) : List Num :=
  match x, y with
  | .fin _ _ _, .fin _ _ _ =>
    let a := split3 x
    let b := split3 y
    let p (i j : Nat) : Num := (mulN (a.getD i .zero) (b.getD j .zero)).1
    [p 0 0, p 0 1, p 1 0, p 0 2, p 2 0, p 1 1]
  | _, _ => [(mulN x y).1]

/-- Sum of one group of 32 as an FP32 code, with flags (R71 to R73, R75). A group of zeros takes its sign from the
products, whose split leaves the sign of zero pieces open (DESIGN CHOICE, log 115); the rounding sets every flag of R64
and R65 (DEDUCED from R90's table, log 116); a quiet NaN beside infinities of both signs raises no INVALID (DESIGN CHOICE,
log 124). -/
def groupSum (split : Bool) (pairs : List (Num × Num)) : Nat × Nat :=
  let raw := pairs.map fun p => mulN p.1 p.2
  let inv := raw.foldl (fun f p => f ||| p.2) 0
  let vals := raw.map (·.1)
  if vals.any Num.isNan then (fp32.nanCode, inv)
  else
    let pos := vals.any fun v => v.isInf && !v.neg?
    let neg := vals.any fun v => v.isInf && v.neg?
    if pos && neg then (fp32.nanCode, inv ||| FL_INVALID)
    else if pos || neg then (fp32.infCode neg, inv)
    else
      let terms := if split then pairs.flatMap fun p => splitTerms p.1 p.2 else vals
      let nz := terms.filter fun t => !t.isZero
      match maxExpo nz with
      | none => (fp32.signBit (vals.all fun v => v.neg?), inv)
      | some e =>
        let w := (nz.map fun t => t.floorAt (56 - e)).foldl (· + ·) 0
        let r := fp32.round RNE 0 false (Num.ofInt w (e - 56))
        (r.1, inv ||| r.2)

/-- The dot product of R71 as an FP32 code with flags; `c0` is an FP32 code. -/
def dotN (split : Bool) (c0 : Nat) (pairs : List (Num × Num)) : Nat × Nat :=
  let start := if (fp32.decode c0).isNan then (fp32.nanCode, if (fp32.decode c0).isSnan then FL_INVALID else 0) else (c0, 0)
  (blocks32 pairs).foldl (fun acc g =>
    let g' := g ++ List.replicate (32 - g.length) (Num.zero, Num.zero)
    let s := groupSum split g'
    let a := fp32.add RNE acc.1 s.1
    (a.1, acc.2 ||| s.2 ||| a.2)) start

/-! ## The generator (R406) -/

/-- Rotation of 32 bits. -/
def rotl32 (x n : Nat) : Nat := ((x <<< n) ||| (x >>> (32 - n))) % 2 ^ 32

/-- One round over the four words. -/
def genRound (k : List Nat) (r : Nat) (x : Nat × Nat × Nat × Nat) : Nat × Nat × Nat × Nat :=
  let x0 := (x.1 + k.getD (r % 3) 0 + r * 0x6C8E9CF5) % 2 ^ 32
  let x1 := x.2.1 ^^^ rotl32 x0 5
  let x2 := (x.2.2.1 + x1) % 2 ^ 32
  let x3 := x.2.2.2 ^^^ rotl32 x2 11
  let y1 := (x1 + rotl32 x3 17) % 2 ^ 32
  (y1, x2, x3, x0)

/-- gen(seed, step, stream, index), of 64, 64, 16 and 64 bits (R406); a STREAM + n wraps at 16 bits (R407). -/
def gen (seed step stream index : Nat) : Nat :=
  let k := [seed % 2 ^ 32, (seed / 2 ^ 32) % 2 ^ 32, (stream % 2 ^ 16 * 0xBD07A5C3) % 2 ^ 32]
  let x := (List.range 12).foldl (fun x r => genRound k r x)
    (index % 2 ^ 32, (index / 2 ^ 32) % 2 ^ 32, step % 2 ^ 32, (step / 2 ^ 32) % 2 ^ 32)
  x.1 ^^^ x.2.2.1

end Sys2Proof.Machine
end

