-- ==== Sys2Proof/Machine/Stack.lean ====
section
/-! DEFINITION. Stack memory (14_memory.md, R377 to R387): the address map, the protection code, granule reads and
writes, the five spaces, and accesses by the module's own units. -/

namespace Sys2Proof.Machine

/-! ## The protection code (R379, R380) -/

/-- The 16-bit values of weight 3 in ascending order: the data columns. -/
def weight3 : List Nat :=
  (List.range 16).flatMap fun c => (List.range c).flatMap fun b => (List.range b).map fun a => 2 ^ c + 2 ^ b + 2 ^ a

/-- The 16-bit values of weight 5 in ascending order: the address columns. -/
def weight5 : List Nat :=
  (List.range 16).flatMap fun e => (List.range e).flatMap fun d => (List.range d).flatMap fun c =>
    (List.range c).flatMap fun b => (List.range b).map fun a => 2 ^ e + 2 ^ d + 2 ^ c + 2 ^ b + 2 ^ a

/-- Column of data bit `i`. -/
def dataCol (i : Nat) : Nat := weight3.getD i 0

/-- Column of address bit `k`. -/
def addrCol (k : Nat) : Nat := weight5.getD k 0

/-- Check word of 128 data bits at an address of granule bits (R379). -/
def checkWord (data addr : Nat) : Nat :=
  let d := (List.range 128).foldl (fun c i => if data.testBit i then c ^^^ dataCol i else c) 0
  (List.range 35).foldl (fun c k => if addr.testBit k then c ^^^ addrCol k else c) d

/-- What a read of a granule finds (R380). -/
inductive Synd where
  | good
  /-- a check bit was corrected -/
  | check
  /-- data bit `i` was corrected -/
  | bit (i : Nat)
  | addr
  | poisoned
  | ue
  deriving DecidableEq, Repr

/-- Outcome of a syndrome (R380). -/
def synd (s : Nat) : Synd :=
  if s = 0 then .good
  else
    let w := popCount s 16
    if w = 1 then .check
    else match (weight3.take 128).findIdx? (· == s) with
      | some i => .bit i
      | none =>
        if (weight5.take 35).contains s then .addr
        else if 12 ≤ w then .poisoned
        else .ue

/-- The data of an outcome may be used (R380). -/
def Synd.usable : Synd → Bool
  | .good => true
  | .check => true
  | .bit _ => true
  | _ => false

/-- An error was corrected. -/
def Synd.ce : Synd → Bool
  | .check => true
  | .bit _ => true
  | _ => false

/-! ## Granules -/

/-- Stack that a module memory address lies in (R377). -/
def State.stackOf (s : State) (a : Nat) : Nat := bits a 8 (match s.asm.m with | .m4 => 2 | .m8 => 3)

/-- Pseudo-channel of its stack that a module memory address lies in (R377). -/
def State.channelOf (s : State) (a : Nat) : Nat := bits a (match s.asm.m with | .m4 => 10 | .m8 => 11) 5

/-- A granule lies in a row of a stack. Bank and row follow from its address by a hash that Horn sets (R377; log 120). -/
def State.inRow (s : State) (n pc bank row g : Nat) : Bool :=
  s.stackOf (16 * g) == n && s.channelOf (16 * g) == pc && Config.bankOf g % 64 == bank && Config.rowOf g % 32768 == row

/-- Stored syndrome of a granule: the check word held XOR the check word of the data held. -/
def State.granSynd (s : State) (g : Nat) : Nat := (Tab.get 0 s.mem.synd g).toNat

/-- Stores a granule's syndrome. -/
def State.setSynd (s : State) (g v : Nat) : State :=
  { s with mem := { s.mem with synd := Tab.put 0 s.mem.synd g (BitVec.ofNat 16 v) } }

/-- Poisons a granule (R381). -/
def State.poison (s : State) (g : Nat) : State := s.setSynd g 0xFFFF

/-- One stored byte of module memory; memory that nothing has written reads 0, as the fill leaves it (R378). -/
def State.byteAt (s : State) (a : Nat) : Byte := Tab.get 0 s.mem.bytes a

/-- Stores one byte. -/
def State.setByte (s : State) (a : Nat) (b : Byte) : State :=
  { s with mem := { s.mem with bytes := Tab.put 0 s.mem.bytes a b } }

/-- Stores bytes from an address on. -/
def State.setBytes (s : State) : Nat → List Byte → State
  | _, [] => s
  | a, b :: l => State.setBytes (s.setByte a b) (a + 1) l

/-- Flips data bit `i` of a granule back: the correction of a single error (R380). -/
def State.correct (s : State) (g i : Nat) : State :=
  let a := 16 * g + i / 8
  (s.setByte a (s.byteAt a ^^^ BitVec.ofNat 8 (2 ^ (i % 8)))).setSynd g 0

/-- Captures an uncorrectable granule in UE_ADDR of its stack. -/
def State.captureUe (s : State) (n a : Nat) : State :=
  s.capture (F.HBM_UE_ADDR_VALID n) fun t => t.put (F.HBM_UE_ADDR_ADDR n) (a / 16)

/-- A correction in a stack: CE, and the internal source CE_STACK (R380, R413). -/
def State.corrected (s : State) (n : Nat) : State := (s.bump (A.HBM_CE n) 1).report 355 (dom 7 n) []

/-- Reads a granule: whether its data may be used, with the counters and causes of its outcome (R380, R381). The
granule itself is left as it stands. -/
def State.readGran (s : State) (g : Nat) : Bool × State :=
  let n := s.stackOf (16 * g)
  let s1 := s.bump (A.HBM_BYTES_READ n) 16
  match synd (s.granSynd g) with
  | .good => (true, s1)
  | .check => (true, s1.corrected n)
  | .bit _ => (true, s1.corrected n)
  | .addr => (false, ((s1.bump (A.HBM_ADDR_ERRS n) 1).captureUe n (16 * g)).raise .HBM n 0 K.HBM_ADDR_ERR)
  | .poisoned => (false, s1.bump (A.HBM_POISON_READS n) 1)
  | .ue => (false, ((s1.bump (A.HBM_UE n) 1).captureUe n (16 * g)).raise .HBM n 0 K.HBM_UE)

/-- The byte a reader sees: a single data error is corrected (R380). -/
def State.seenByte (s : State) (a : Nat) : Byte :=
  match synd (s.granSynd (a / 16)) with
  | .bit i => if i / 8 = a % 16 then s.byteAt a ^^^ BitVec.ofNat 8 (2 ^ (i % 8)) else s.byteAt a
  | _ => s.byteAt a

/-- Granules that a range of bytes touches; an empty range touches none. -/
def granules (a n : Nat) : List Nat :=
  if n = 0 then [] else (List.range ((a + n + 15) / 16 - a / 16)).map (a / 16 + ·)

/-- Reads bytes of module memory; none where a granule is uncorrectable. -/
def State.readMem (s : State) (a n : Nat) : Option (List Byte) × State :=
  let r := (granules a n).foldl (fun (x : Bool × State) g => let q := x.2.readGran g; (x.1 && q.1, q.2)) (true, s)
  (if r.1 then some ((List.range n).map fun i => s.seenByte (a + i)) else none, r.2)

/-- Stores the part of a byte list that falls in one granule, with the check word of the whole: over nothing where it covers the
granule, else over the data that a reader sees (R380, R381, R390). -/
def State.storeGran (s : State) (a : Nat) (l : List Byte) (g : Nat) : State :=
  let lo := max a (16 * g)
  let hi := min (a + l.length) (16 * g + 16)
  let s1 := s.bump (A.HBM_BYTES_WRITTEN (s.stackOf (16 * g))) 16
  let s2 := match synd (s.granSynd g) with
    | .bit i => if hi - lo = 16 then s1.setSynd g 0 else s1.correct g i
    | _ => s1.setSynd g 0
  s2.setBytes lo ((l.drop (lo - a)).take (hi - lo))

/-- Writes the part of a byte list that falls in one granule. A granule written in part is read, changed and written back; it stays
as it is where that read meets an uncorrectable outcome (R380, R381, R390, R392). -/
def State.writeGran (s : State) (a : Nat) (l : List Byte) (g : Nat) : State :=
  if min (a + l.length) (16 * g + 16) - max a (16 * g) = 16 then s.storeGran a l g
  else
    let r := s.readGran g
    if r.1 then r.2.storeGran a l g else r.2

/-- Writes bytes of granules that are covered whole, or that the same access has read (R390). -/
def State.storeMem (s : State) (a : Nat) (l : List Byte) : State :=
  (granules a l.length).foldl (fun t g => t.storeGran a l g) s

/-- Writes bytes of module memory. -/
def State.writeMem (s : State) (a : Nat) (l : List Byte) : State :=
  (granules a l.length).foldl (fun t g => t.writeGran a l g) s

/-! ## Spaces (R387) -/

/-- Space codes. -/
abbrev SP_STATE : Nat := 0
abbrev SP_EXPERT : Nat := 1
abbrev SP_STAGE : Nat := 2
abbrev SP_WIN : Nat := 3
abbrev SP_LOG : Nat := 4

/-- 4 MiB. -/
abbrev MIB4 : Nat := 0x400000

/-- Size of a space in bytes. -/
def State.spaceSize (s : State) (c : Nat) : Nat := s.get (F.WINDOW_SPACE_SIZE_SIZE c) * MIB4

/-- Module memory address of an offset of a space, where `n` bytes from it lie in the space. -/
def State.spaceAddr (s : State) (c off n : Nat) : Option Nat :=
  if c ≤ SP_LOG ∧ off + n ≤ s.spaceSize c then some (s.get (F.WINDOW_SPACE_BASE_BASE c) * MIB4 + off) else none

/-- A read by one of the module's own units; none where it is out of range or uncorrectable. -/
def State.readSpace (s : State) (c off n : Nat) : Option (List Byte) × State :=
  match s.spaceAddr c off n with
  | some a => s.readMem a n
  | none => (none, s.raise .WINDOW 0 0 K.WINDOW_RANGE_ERR)

/-- A write by one of the module's own units; discarded where it is out of range. -/
def State.writeSpace (s : State) (c off : Nat) (l : List Byte) : State :=
  match s.spaceAddr c off l.length with
  | some a => s.writeMem a l
  | none => s.raise .WINDOW 0 0 K.WINDOW_RANGE_ERR

/-- The stack controller of a stack serves accesses: its machine is UP, its domain is not fenced, and the core PLL gives it its clock
(R397, R431, R474). -/
def State.stackServes (s : State) (n : Nat) : Bool :=
  s.mach (.stack n) == UP && !s.fenced (dom 7 n) && s.flag F.TOP_STATE_CORE_PLL_LOCK

/-- Every populated stack serves, so that an own unit's access does not wait (R431). -/
def State.stacksServe (s : State) : Bool := (List.range (stackCount s.asm)).all s.stackServes

end Sys2Proof.Machine
end

