-- ==== Sys2Proof/Machine/Uplink.lean ====
section
/-! DEFINITION. The section uplinks (07_paths_shaping.md, R193 to R196): which of the packets that wait at a station port is
placed next. -/

namespace Sys2Proof.Machine

/-- Cells that a waiting packet asks of its account: the copies of a multicast are resolved first (R164, R167). -/
def State.origCells (s : State) (o : Orig) : Nat :=
  if o.dsts.isEmpty then o.pkt.cost
  else (State.resolveCopies o.pkt o.dsts s).1.length + (if o.held.isSome then 0 else o.pkt.pay)

/-- The first waiting packets of a port: of every leaf, and of every class a unicast and a multicast, oldest first. The firmware
port is one leaf. -/
def firstWaiting (port : Nat) : List Orig → List Orig
  | [] => []
  | o :: l => o :: (firstWaiting port l).filter fun x =>
      (port ≠ 288 && x.leaf != o.leaf) || x.pkt.tc != o.pkt.tc || x.dsts.isEmpty != o.dsts.isEmpty

/-- The packets of a port whose cells can be granted now, oldest first. -/
def State.placeable (s : State) (port : Nat) : List Orig :=
  (firstWaiting port (s.sw.waiting.filter fun o => o.port = port)).filter fun o => s.fits port o.pkt.tc (s.origCells o)

/-- Cells that a leaf of a coach has been given for its packet in progress. -/
def Arb.givenTo (a : Arb) (leaf : Nat) : Nat := match a.given.find? fun e => e.1 = leaf with | some e => e.2 | none => 0

/-- Shares the uplink of a port cell by cell among the leaves with a packet to place, until one packet has all its cells: the
section arbiter chooses a coach and the coach arbiter one of its leaves (R193, R196). -/
def State.uplinkCells (port : Nat) (l : List Orig) : Nat → State → Option Orig × State
  | 0, s => (none, s)
  | fuel + 1, s =>
    let leaves := leavesOf l
    let coaches := (List.range 32).filter fun c => leaves.any fun x => x.1 == c
    let outer := (s.arb (.uplink port)).serve 32 (coaches.map fun c => ⟨c, (leaves.filter fun x => x.1 = c).length, 1⟩)
    match outer.1 with
    | none => (none, s)
    | some c =>
      let inner := (s.arb (.coach port c)).serve LEAVES ((leaves.filter fun x => x.1 = c).map fun x => ⟨x.2, 1, 1⟩)
      match inner.1 with
      | none => (none, s)
      | some i =>
        let n := inner.2.givenTo i + 1
        let rest := inner.2.given.filter fun e => e.1 ≠ i
        let done (b : Bool) : State := (s.setArb (.uplink port) outer.2).setArb (.coach port c)
          { inner.2 with given := if b then rest else (i, n) :: rest }
        match l.find? fun o => o.leaf = (c, i) with
        | none => (none, s)
        | some o => if s.origCells o ≤ n then (some o, done true) else State.uplinkCells port l fuel (done false)

/-- Of the packets of a port whose cells can be granted, the one that is placed next, and the arbiters after it. The firmware
port serves its packets in their order. -/
def State.uplinkTurn (s : State) (port : Nat) : Option Orig × State :=
  let l := s.placeable port
  if port = 288 then (l.head?, s)
  else State.uplinkCells port l (((l.map fun o => s.origCells o).sum) + 1) s

/-- Places the waiting unicast of a port and class where it is the next one of the uplink; the class's next one makes its request
(R164, R174, R193). -/
def State.sendWaiting (s : State) (p tc : Nat) : State :=
  match s.uplinkTurn p with
  | (some o, t) =>
    if o.dsts.isEmpty && o.pkt.tc == tc then ((t.delWaiting o.id).placeUnicast p o.pkt o.link).askNext p tc else s.askNext p tc
  | (none, _) => s.askNext p tc

/-- Makes the requests of a port's multicasts that do not fit (R167, R174). -/
def State.askMulticasts (s : State) (p : Nat) : State :=
  match s.sw.waiting.find? fun o => o.port = p && !o.dsts.isEmpty && !o.asked && !s.fits p o.pkt.tc (s.origCells o) with
  | some o => s.noteAsked o.id
  | none => s

/-- Admits the waiting multicast of a port where it is the next packet of the uplink (R167, R193). -/
def State.admitNext (s : State) (p : Nat) : State :=
  match s.uplinkTurn p with
  | (some o, t) => if o.dsts.isEmpty then s.askMulticasts p else t.admitMulticast o
  | (none, _) => s.askMulticasts p

end Sys2Proof.Machine
end

