-- ==== Sys2Proof/Machine/Groups.lean ====
section
/-! DEFINITION. Groups, lines and collectives (09_collectives.md): line copies and their validation, queue entries,
operations, DONE records, the ending of chunks and of collectives, and the release of what a chunk holds. -/

namespace Sys2Proof.Machine

/-! ## Line copies (R233, R234) -/

/-- Word of the group entry copy. -/
def LineCopy.word (y : LineCopy) (i : Nat) : Nat := (y.group.getD i 0).toNat

/-- ROLE: 0 LEAF, 1 INNER, 2 ROOT. -/
def LineCopy.role (y : LineCopy) : Nat := bits (y.word 0) 28 2

/-- The line is a ROOT. -/
def LineCopy.isRoot (y : LineCopy) : Bool := y.role == 2

/-- MODE staging. -/
def LineCopy.staging (y : LineCopy) : Bool := bit (y.word 0) 31

/-- MEMBER_COUNT. -/
def LineCopy.memberCount (y : LineCopy) : Nat := bits (y.word 0) 16 11

/-- PARENT_COUNT. -/
def LineCopy.parentCount (y : LineCopy) : Nat := bits (y.word 1) 16 7

/-- SHARD_COUNT. -/
def LineCopy.shardCount (y : LineCopy) : Nat := bits (y.word 2) 0 7

/-- SHARD_INDEX. -/
def LineCopy.shardIndex (y : LineCopy) : Nat := bits (y.word 2) 8 6

/-- UPPER_FMT. -/
def LineCopy.upperFmt (y : LineCopy) : Nat := bits (y.word 2) 16 4

/-- OUT_FMT. -/
def LineCopy.outFmt (y : LineCopy) : Nat := bits (y.word 2) 20 4

/-- OUT_MODE. -/
def LineCopy.outMode (y : LineCopy) : Nat := bits (y.word 2) 24 3

/-- OUT_SAT. -/
def LineCopy.outSat (y : LineCopy) : Bool := bit (y.word 2) 27

/-- GROUP_MEMBERS. -/
def LineCopy.groupMembers (y : LineCopy) : Nat := bits (y.word 3) 0 16

/-- CAPACITY. -/
def LineCopy.capacity (y : LineCopy) : Nat := y.word 4

/-- SEED. -/
def LineCopy.seed (y : LineCopy) : Nat := y.word 5 + 2 ^ 32 * y.word 6

/-- STREAM. -/
def LineCopy.stream (y : LineCopy) : Nat := bits (y.word 7) 0 16

/-- Reads a line's group, member and parent entries from their tables. -/
def State.readLine (s : State) (g : Nat) : LineCopy :=
  let base := s.get (F.COLL_GROUP_MEMBER_BASE g)
  let n := s.get (F.COLL_GROUP_MEMBER_COUNT g)
  let pb := s.get (F.COLL_GROUP_PARENT_BASE g)
  let pn := s.get (F.COLL_GROUP_PARENT_COUNT g)
  { group := (List.range 8).map fun i => s.word (A.COLL_GROUP g + 4 * i)
    members := if base + n ≤ 65536 then (List.range n).map fun j =>
        { node := s.get (F.COLL_MEMBER_NODE (base + j)), member := s.get (F.COLL_MEMBER_MEMBER (base + j))
          isLine := s.flag (F.COLL_MEMBER_KIND (base + j)), below := s.get (F.COLL_MEMBER_BELOW (base + j)) }
      else []
    parents := if pb + pn ≤ 16384 then (List.range pn).map fun j => s.get (F.COLL_PARENT_NODE (pb + j)) else [] }

/-- The conditions checked at STARTING (R234). -/
def LineCopy.valid (y : LineCopy) : Bool :=
  let n := y.memberCount
  decide (y.role < 3) && decide (1 ≤ n ∧ n ≤ 1024) && y.members.length == n &&
    (match y.role with
      | 0 => y.members.all fun m => !m.isLine
      | 1 => y.members.any fun m => m.isLine
      | _ => !y.staging || y.members.all fun m => !m.isLine) &&
    (if y.isRoot then y.parentCount == 0
      else decide (1 ≤ y.parentCount ∧ y.parentCount ≤ 64) && y.parents.length == y.parentCount) &&
    decide (1 ≤ y.shardCount ∧ y.shardCount ≤ 64 ∧ y.shardIndex < y.shardCount) && isUpper y.upperFmt &&
    decide (y.outFmt ≤ 7) && decide (sigBits y.outFmt + 2 ≤ sigBits y.upperFmt) && decide (y.outMode ≤ 5) &&
    decide (1 ≤ y.groupMembers ∧ y.groupMembers ≤ 65534) &&
    (y.members.all fun m => decide (m.member + m.below ≤ y.groupMembers)) && (!y.staging || y.isRoot)

/-- The copies that a line runs on. -/
def State.line (s : State) (g : Nat) : LineCopy := (Tab.find s.coll.copies g).getD { group := [], members := [], parents := [] }

/-- Keeps a line's copies. -/
def State.setLine (s : State) (g : Nat) (y : LineCopy) : State :=
  { s with coll := { s.coll with copies := Tab.insert s.coll.copies g y } }

/-- A source of the line. -/
def LineCopy.source (y : LineCopy) (j : Nat) : MemberCopy := y.members.getD j ⟨0, 0, false, 0⟩

/-- Source indices. -/
def LineCopy.sources (y : LineCopy) : List Nat := List.range y.members.length

/-- The source with a NODE, MEMBER and KIND (test 2 of R242). -/
def LineCopy.findSource (y : LineCopy) (node member : Nat) (line : Bool) : Option Nat :=
  y.sources.find? fun j => (y.source j).node == node && (y.source j).member == member && (y.source j).isLine == line

/-- The source below which a member lies (R231). -/
def LineCopy.sourceOf (y : LineCopy) (m : Nat) : List Nat :=
  y.sources.filter fun j => decide ((y.source j).member ≤ m ∧ m < (y.source j).member + (y.source j).below)

/-- The reference source: the one with the lowest MEMBER (R244). -/
def LineCopy.refSrc (y : LineCopy) : Nat :=
  y.sources.foldl (fun b j => if (y.source j).member < (y.source b).member then j else b) 0

/-- The line's lowest member. -/
def LineCopy.lowest (y : LineCopy) : Nat := (y.source y.refSrc).member

/-- Sources in ascending member index (R180). -/
def LineCopy.byMember (y : LineCopy) : List Nat :=
  y.sources.foldl (fun l j =>
    l.takeWhile (fun i => decide ((y.source i).member ≤ (y.source j).member)) ++ [j] ++
      l.dropWhile (fun i => decide ((y.source i).member ≤ (y.source j).member))) []

/-- Distinct parent modules. -/
def LineCopy.parentNodes (y : LineCopy) : List Nat := y.parents.foldl (fun l n => if l.contains n then l else l ++ [n]) []

/-- The parent of chunk `c` (R232). -/
def LineCopy.parentOf (y : LineCopy) (c : Nat) : Nat := y.parents.getD (c % max 1 y.parentCount) 0xFFFF

/-- Member index recorded for a source's contribution (R87, R281). -/
def LineCopy.flagMember (y : LineCopy) (j : Nat) : Nat := if (y.source j).isLine then 0xFFFE else (y.source j).member

/-! ## Queue entries (R243 to R247) -/

/-- Operation family of a step counter: 0 for a collective, the OP of a station ticket (R351). -/
def famOf (op : Nat) : Nat := if op = 9 ∨ op = 10 then op else 0

/-- The entry of a step counter. -/
def State.entry (s : State) (g step sub fam : Nat) : Option Entry :=
  s.coll.entries.find? fun e => e.line = g && e.step = step && e.sub = sub && e.fam = fam

/-- Two entries have one step counter. -/
def Entry.same (e f : Entry) : Bool := e.line == f.line && e.step == f.step && e.sub == f.sub && e.fam == f.fam

/-- Replaces an entry. -/
def State.setEntry (s : State) (e : Entry) : State :=
  { s with coll := { s.coll with entries := s.coll.entries.map fun f => if f.same e then e else f } }

/-- Entries of a line, oldest first. -/
def State.lineEntries (s : State) (g : Nat) : List Entry := s.coll.entries.filter fun e => e.line = g

/-- A little-endian field of a ticket's body, by its byte in the packet. -/
def Tix.num (t : Tix) (o n : Nat) : Nat := numAt t.body (o - 32) n

/-- The ticket of a source. -/
def Entry.ticket (e : Entry) (j : Nat) : Option Tix := e.tix.find? fun t => t.src = j

/-- TAG of a source's ticket; 0 where it sent none. -/
def Entry.tagOf (e : Entry) (j : Nat) : Nat := match e.ticket j with | some t => t.tag | none => 0

/-- A field of the reference ticket. -/
def Entry.num (e : Entry) (y : LineCopy) (o n : Nat) : Nat :=
  match e.ticket y.refSrc with | some t => t.num o n | none => 0

/-- Collective operation code. -/
def Entry.op (e : Entry) (y : LineCopy) : Nat := e.num y 36 1 % 16

/-- Reduction op: 0 SUM, 1 SUM_FAST, 2 MAX, 3 MIN. -/
def Entry.redop (e : Entry) (y : LineCopy) : Nat := bits (e.num y 36 1) 4 2

/-- VARIES. -/
def Entry.varies (e : Entry) (y : LineCopy) : Bool := bit (e.num y 36 1) 6

/-- IN_FMT. -/
def Entry.inFmt (e : Entry) (y : LineCopy) : Nat := e.num y 37 1 % 16

/-- ELEMS. -/
def Entry.elems (e : Entry) (y : LineCopy) : Nat := e.num y 40 4

/-- CHUNK, elements per chunk. -/
def Entry.chunkLen (e : Entry) (y : LineCopy) : Nat := e.num y 48 2

/-- VCOUNT of a source. -/
def Entry.vcount (e : Entry) (j : Nat) : Nat := match e.ticket j with | some t => t.num 44 4 | none => 0

/-- Chunks of the collective; a BARRIER and a station collective have one (R249, R368). -/
def Entry.chunks (e : Entry) (y : LineCopy) : Nat :=
  if e.fam ≠ 0 ∨ e.op y = 6 then 1 else (e.elems y + e.chunkLen y - 1) / max 1 (e.chunkLen y)

/-- Chunks of the collective that the line owns (R527). -/
def Entry.owned (e : Entry) (y : LineCopy) : Nat :=
  (e.chunks y + y.shardCount - 1 - y.shardIndex) / max 1 y.shardCount

/-- The line owns a chunk of the collective. -/
def Entry.owns (e : Entry) (y : LineCopy) (c : Nat) : Bool :=
  decide (c < e.chunks y) && c % max 1 y.shardCount == y.shardIndex

/-- The line's own chunk number `i`. -/
def LineCopy.ownChunk (y : LineCopy) (i : Nat) : Nat := y.shardIndex + i * y.shardCount

/-- The chunk has ended: its DONE was sent (R256, R257). -/
def Entry.ended (e : Entry) (y : LineCopy) (c : Nat) : Bool :=
  decide ((c - y.shardIndex) / max 1 y.shardCount < e.cursor)

/-- Elements of chunk `c` (R270). -/
def Entry.len (e : Entry) (y : LineCopy) (c : Nat) : Nat := min (e.chunkLen y) (e.elems y - c * e.chunkLen y)

/-- Member to whose segment a chunk belongs (R235). -/
def Entry.segMember (e : Entry) (y : LineCopy) (c : Nat) : Nat :=
  c / max 1 (e.elems y / max 1 (y.groupMembers * e.chunkLen y))

/-- Sources that supply chunk `c` (R235, R254). -/
def Entry.suppliers (e : Entry) (y : LineCopy) (c : Nat) : List Nat :=
  if e.fam ≠ 0 then []
  else match e.op y with
    | 2 => y.sourceOf (e.segMember y c)
    | 3 => y.sourceOf (e.segMember y c)
    | 5 => y.sourceOf 0
    | 6 => []
    | _ => y.sources

/-- Sources that the result of chunk `c` goes to (R235). -/
def Entry.recipients (e : Entry) (y : LineCopy) (c : Nat) : List Nat :=
  if e.fam ≠ 0 then []
  else match e.op y with
    | 1 => y.sourceOf (e.segMember y c)
    | 4 => y.sourceOf 0
    | 6 => []
    | _ => y.sources

/-- The operation passes elements unchanged (R239). -/
def Entry.passes (e : Entry) (y : LineCopy) : Bool := e.op y == 2 || e.op y == 3 || e.op y == 5

/-- The operation adds in the window of R80. -/
def Entry.windowed (e : Entry) (y : LineCopy) : Bool := !e.passes y && e.op y != 6 && e.redop y == 0

/-- Members send timetables (R235). -/
def Entry.usesTt (e : Entry) (y : LineCopy) : Bool := e.windowed y && !y.staging

/-- Format of a source's contributions (R274). -/
def Entry.contribFmt (e : Entry) (y : LineCopy) (j : Nat) : Nat :=
  if (y.source j).isLine && !e.passes y then y.upperFmt else e.inFmt y

/-- Elements of chunk `c` that an endpoint source supplies (R238). -/
def Entry.valid (e : Entry) (y : LineCopy) (j c : Nat) : Nat :=
  if e.op y = 3 ∧ ¬ (y.source j).isLine then
    let off := (c - (y.source j).member * (e.elems y / max 1 (y.groupMembers * e.chunkLen y))) * e.chunkLen y
    min (min (e.vcount j) y.capacity - off) (e.len y c)
  else e.len y c

/-! ## Chunks -/

/-- The chunk record of a key. -/
def State.chunk (s : State) (k : CKey) : Option Chunk := s.coll.chunks.find? fun c => c.key = k

/-- The chunk record of a key, a fresh one where none is kept yet. -/
def State.chunkOr (s : State) (k : CKey) : Chunk :=
  (s.chunk k).getD { key := k, coach := logicalCoach k.line k.idx k.step k.sub }

/-- Stores a chunk record as it stands from this slow cycle on (R267). -/
def State.setChunk (s : State) (c : Chunk) : State :=
  let n : Chunk := { c with lastAt := s.clk }
  { s with coll := { s.coll with chunks :=
      if (s.chunk c.key).isSome then s.coll.chunks.map fun x => if x.key = c.key then n else x
      else s.coll.chunks ++ [n] } }

/-- Stores a chunk record without progress on the chunk: what was sent again of it (R267). -/
def State.noteChunk (s : State) (c : Chunk) : State :=
  { s with coll := { s.coll with chunks := s.coll.chunks.map fun x => if x.key = c.key then { c with lastAt := x.lastAt } else x } }

/-- Drops a chunk record. -/
def State.delChunk (s : State) (k : CKey) : State :=
  { s with coll := { s.coll with chunks := s.coll.chunks.filter fun c => c.key ≠ k } }

/-- The entry that a chunk belongs to. -/
def State.entryOf (s : State) (k : CKey) : Option Entry := s.entry k.line k.step k.sub k.fam

/-- Key of chunk `c` of an entry. -/
def Entry.key (e : Entry) (c : Nat) : CKey := ⟨e.line, e.step, e.sub, e.fam, c⟩

/-- Section and physical coach that a chunk's logical coach stands for (R269). -/
def State.coachOf (s : State) (L : Nat) : Nat × Nat := (s.physCoach L / 64, s.physCoach L % 64)

/-- Accumulator-slot pool of a logical coach (R173). -/
def State.slotPool (s : State) (L : Nat) : Nat := 64 + s.physCoach L

/-- Adds to a counter of the coach that a logical coach stands for. -/
def State.coachBump (s : State) (L : Nat) (a : Nat → Nat → Nat) (n : Nat) : State :=
  s.bump (a (s.coachOf L).1 (s.coachOf L).2) n

/-- Raises a cause of the coach of a chunk, with its capture (R271, R280, R291). -/
def State.coachCause (s : State) (k : CKey) (L bitNo : Nat) (cap : Bool) : State :=
  let p := s.coachOf L
  let s1 := s.raise .COACH p.1 p.2 bitNo
  if cap then
    s1.capture (F.COACH_RED_CAPTURE_VALID p.1 p.2) fun t =>
      ((((t.put (F.COACH_RED_CAPTURE_LINE p.1 p.2) k.line).put (F.COACH_RED_CAPTURE_CHUNK p.1 p.2) k.idx).put
        (F.COACH_RED_CAPTURE_EVENT p.1 p.2) (bitNo - 8)).wr64 (A.COACH_RED_CAPTURE_STEP p.1 p.2) k.step)
  else s1

/-- Gives back a chunk's arrival record cells and slabs, when it leaves COMBINE or ends (R252, R272). -/
def State.freeRecords (s : State) (k : CKey) : State :=
  match s.chunk k with
  | none => s
  | some c =>
    let p := s.coachOf c.coach
    let f := F.COACH_RED_STATE_RECORD_FREE p.1 p.2
    let s1 := if c.recCells = 0 then s else s.put f (s.get f + c.recCells)
    let s2 := s1.poolFrees 1 0 c.slabs
    s2.setChunk { c with recCells := 0, slabs := [], landed := [] }

/-- Gives back a chunk's slots beyond the first `keep` (R251, R272). -/
def State.freeSlots (s : State) (k : CKey) (keep : Nat) : State :=
  match s.chunk k with
  | none => s
  | some c =>
    ((s.poolFrees (s.slotPool c.coach) 0 (c.slotIds.drop keep)).setChunk
      { c with slotIds := c.slotIds.take keep, slots := [] })

/-- Discards what is parked or taken over for chunks that a test names (R279). -/
def State.dropParked (s : State) (test : CKey → Bool) : State :=
  let gone := (s.coll.parked ++ s.coll.adding).filter fun p => test p.key
  let s1 : State := { s with coll := { s.coll with
    parked := s.coll.parked.filter (fun p => !test p.key), adding := s.coll.adding.filter fun p => !test p.key } }
  gone.foldl (fun t p => t.discard p.buf) s1

/-- Stops emission of a chunk: held results go, packets not yet admitted are cancelled (R291). -/
def State.dropResults (s : State) (k : CKey) : State :=
  let s1 : State := { s with sw := { s.sw with waiting := s.sw.waiting.filter fun o => o.chunk ≠ some k } }
  match s1.chunk k with
  | none => s1
  | some c =>
    (c.held.filterMap (·.buf)).foldl (fun t b => t.discard b) (s1.setChunk { c with held := [] })

/-- Everything a chunk holds at its coach is given back. -/
def State.releaseChunk (s : State) (k : CKey) : State :=
  (((s.dropParked fun x => x = k).dropResults k).freeRecords k).freeSlots k 0

/-! ## Turns at an accumulator-slot pool (R193) -/

/-- Child index of a request in its pool's arbiter: the lines of R270 come first, then the requests that units make by
POOL_REQUEST, by requester and tag (DESIGN CHOICE, log 118). -/
def PoolReq.child (w : PoolReq) : Nat := 4096 * (w.req + 1) + w.tag % 4096

/-- Children of an accumulator-slot pool's arbiter. -/
abbrev SLOT_CHILDREN : Nat := 32768

/-- The first waiting request of every child. -/
def firstContenders : List Contender → List Contender
  | [] => []
  | c :: l => c :: (firstContenders l).filter fun x => x.child ≠ c.child

/-- A chunk's request for `n` slots, with its record cells and staging slabs, can be granted whole (R270). -/
def State.chunkFits (s : State) (L n cells slabs : Nat) : Bool :=
  let p := s.coachOf L
  s.poolFits (s.slotPool L) n 0 && decide (cells ≤ s.get (F.COACH_RED_STATE_RECORD_FREE p.1 p.2)) &&
    (slabs == 0 || s.poolFits 1 slabs 0)

/-- Chunks that wait for slots of a pool, in the order of their requests. -/
def State.slotWaiters (s : State) (pool : Nat) : List Chunk :=
  s.coll.chunks.filter fun c => c.waited && !c.admitted && c.asks != 0 && s.slotPool c.coach == pool

/-- Requests that wait at an accumulator-slot pool, each with whether it can be granted (R193). -/
def State.slotRequests (s : State) (pool : Nat) : List (Contender × Bool) :=
  ((s.slotWaiters pool).map fun c => (⟨c.key.line, 1, c.asks⟩, s.chunkFits c.coach c.asks c.askCells c.askSlabs)) ++
    ((s.pool pool).waits.map fun w => (⟨w.child, 1, w.n⟩, s.poolFits pool w.n w.req)) ++
    (s.stn.work.flatMap fun w => (w.asked.filter fun a => s.slotPool a.2.2.1 == pool).map fun a =>
      (⟨4096 * 5 + w.line, 1, a.2.2.2⟩, s.poolFits pool a.2.2.2 1))

/-- The child whose turn it is at an accumulator-slot pool among the requests that can be granted, one that is being made now
with them, and the arbiter after it (R14, R193). -/
def State.slotTurn (s : State) (pool : Nat) (making : List Contender) : Option Nat × State :=
  let r := (s.arb (.slots pool)).serve SLOT_CHILDREN
    (firstContenders (making ++ ((s.slotRequests pool).filter (·.2)).map (·.1)))
  (r.1, s.setArb (.slots pool) r.2)

/-- The children of an accumulator-slot pool that no longer ask have a deficit of 0 (R195). -/
def State.settleSlots (s : State) (pool : Nat) : State :=
  s.setArb (.slots pool) ((s.arb (.slots pool)).settle SLOT_CHILDREN ((s.slotRequests pool).map (·.1.child)))

/-! ## Flag records (R87, R88) -/

/-- The lower of two (element, member) pairs. -/
def lowerPair : Option (Nat × Nat) → Option (Nat × Nat) → Option (Nat × Nat)
  | none, y => y
  | x, none => x
  | some a, some b => if b.1 < a.1 ∨ (b.1 = a.1 ∧ b.2 < a.2) then some b else some a

/-- Merges two records. -/
def FlagRec.merge (a b : FlagRec) : FlagRec :=
  { invalid := lowerPair a.invalid b.invalid, overflow := lowerPair a.overflow b.overflow
    underflow := lowerPair a.underflow b.underflow, inexact := lowerPair a.inexact b.inexact
    truncated := lowerPair a.truncated b.truncated }

/-- A record of the flags of one operation at an element. -/
def FlagRec.at (fl elem member : Nat) : FlagRec :=
  let f (m : Nat) : Option (Nat × Nat) := if fl &&& m = 0 then none else some (elem, member)
  ⟨f FL_INVALID, f FL_OVERFLOW, f FL_UNDERFLOW, f FL_INEXACT, f FL_TRUNCATED⟩

/-- The five flags in the order of the DONE body. -/
def FlagRec.list (r : FlagRec) : List (Option (Nat × Nat)) := [r.invalid, r.overflow, r.underflow, r.inexact, r.truncated]

/-- FLAGS[4:0]. -/
def FlagRec.flags (r : FlagRec) : Nat :=
  ((List.range 5).map fun f => if (r.list.getD f none).isSome then 2 ^ f else 0).sum

/-- FIRST[149:0] (R255). -/
def FlagRec.first (r : FlagRec) : Nat :=
  ((List.range 5).map fun f => match r.list.getD f none with
    | some p => (p.1 % 2 ^ 14 + (p.2 % 2 ^ 16) * 2 ^ 14) * 2 ^ (30 * f)
    | none => 0).sum

/-- A record read from FLAGS and FIRST. -/
def FlagRec.read (flags first : Nat) : FlagRec :=
  let f (i : Nat) : Option (Nat × Nat) :=
    if flags.testBit i then some (bits first (30 * i) 14, bits first (30 * i + 14) 16) else none
  ⟨f 0, f 1, f 2, f 3, f 4⟩

/-- The flag record of a timetable from a child line: 23 bytes (R275). -/
def FlagRec.bytes (r : FlagRec) : List Byte := toBytes 1 r.flags ++ toBytes 3 0 ++ toBytes 19 r.first

/-! ## What a line sends -/

/-- A line originates a packet (log 12). -/
def State.lineSend (s : State) (g : Nat) (k : Pkt) : State := s.originate (s.linePort g) k

/-- A line's packet toward a node: CONTROL, SPRAY 0, FLOW 0. -/
def State.linePkt (s : State) (tc op dst tag : Nat) (body : List Byte) : Pkt := mkPkt false tc false op dst s.node 0 0 tag body []

/-- DONE packet (R255). -/
def State.donePkt (s : State) (g dst tag member status flags chunk detail first : Nat) : Pkt :=
  s.linePkt 2 0x1005 dst tag (mkBody 30 [(0, 2, g), (2, 2, member), (4, 1, status), (5, 1, flags), (6, 2, chunk),
    (8, 2, detail), (10, 19, first)])

/-- Sends DONE to every source in ascending member index (R180, R255). -/
def State.sendDones (s : State) (e : Entry) (y : LineCopy) (status chunk : Nat) (r : FlagRec) (last : Bool) (detail : Nat) :
    State :=
  y.byMember.foldl (fun t j =>
    let m := y.source j
    t.lineSend e.line (t.donePkt e.line m.node (e.tagOf j) (if m.isLine then 0xFFFE else m.member) status
      (r.flags + 32 * b2n last + 64 * b2n (e.dropped.contains j)) chunk detail r.first)) s

/-- Sends ABORT_UP to each distinct parent module (R260). -/
def State.sendAbortUp (s : State) (e : Entry) (y : LineCopy) : State :=
  y.parentNodes.foldl (fun t n =>
    (t.lineSend e.line (t.linePkt 0 0x1009 n e.upTag (mkBody 30 [(0, 2, e.line), (6, 1, e.sub), (18, 8, e.step)]))).bump
      A.COLL_ABORTS_UP 1) s

/-- WITHDRAW packet (R292). -/
def State.withdrawPkt (s : State) (k : CKey) (dst tag member reason : Nat) : Pkt :=
  s.linePkt 2 0x100A dst tag (mkBody 30 [(0, 2, k.line), (2, 2, member), (4, 2, k.idx), (6, 1, k.sub), (7, 1, reason),
    (18, 8, k.step)])

/-- Captures a line number in CAUSE_LINE (R234, R267). -/
def State.causeLine (s : State) (g : Nat) : State :=
  s.capture F.COLL_CAUSE_LINE_VALID fun t => t.put F.COLL_CAUSE_LINE_LINE g

/-- Raises a cause of the COLL page in a line's domain. -/
def State.lineRaise (s : State) (g bitNo : Nat) : State := s.raise .COLL g 0 bitNo

/-! ## Leaving the queue (R247, R253, R328, R373) -/

/-- The arena takes the layout its registers hold, while no block is held (R36, 13_stations.md). -/
def State.arenaLayout (s : State) : State :=
  if !s.stn.arena.isEmpty then s
  else
    let t : State := { s with stn := { s.stn with
      page := s.get F.STATION_ACT_PAGE_PAGE, blocks := s.get F.STATION_ACT_BLOCKS_BLOCKS } }
    t.put F.STATION_ACT_FREE_BLOCKS t.stn.blocks

/-- Return of arena blocks (R372, R373). -/
def State.freeBlocks (s : State) (l : List Nat) : State :=
  let t : State := { s with stn := { s.stn with arena := s.stn.arena.filter fun b => !l.contains b } }
  (t.put F.STATION_ACT_FREE_BLOCKS (t.get F.STATION_ACT_FREE_BLOCKS + l.length)).arenaLayout

/-- Removes station works and returns their blocks. -/
def State.dropWorks (s : State) (gone : Work → Bool) : State :=
  ({ s with stn := { s.stn with work := s.stn.work.filter fun x => !gone x } } : State).freeBlocks
    ((s.stn.work.filter gone).flatMap fun x => x.blocks.flatMap id)

/-- Removes the station work of an entry and returns its blocks. -/
def State.dropWork (s : State) (w : Work) : State := s.dropWorks fun x => x.of w.line w.step w.sub w.op && !x.saved

/-- The DISPATCH that ended OK with SAVE 1 and is kept for the COMBINE of its STEP and SUB; after a replay (R265), the one that
ended last. -/
def State.savedWork (s : State) (g step sub : Nat) : Option Work :=
  s.stn.work.reverse.find? fun w => w.of g step sub 9 && w.saved

/-- Stores the station work of an entry as it stands from this slow cycle on (R267). -/
def State.setWork (s : State) (w : Work) : State :=
  let n : Work := { w with lastAt := s.clk }
  let l := if (s.work w.line w.step w.sub w.op).isSome then
      s.stn.work.map fun x => if x.of w.line w.step w.sub w.op && !x.saved then n else x
    else s.stn.work ++ [n]
  { s with stn := { s.stn with work := l } }

/-- The station work of an entry that ends is kept from this slow cycle on (R373). -/
def State.saveWork (s : State) (w : Work) : State :=
  { s with stn := { s.stn with work := (s.stn.work.filter fun x => !(x.of w.line w.step w.sub w.op && !x.saved)) ++
    [{ w with saved := true, lastAt := s.clk }] } }

/-- Expert numbers that a work's copies name: EXPERT_BASE + k. -/
def Work.expertIds (w : Work) : List Nat := (List.range w.experts.length).map fun k => bits w.sline.toNat 0 10 + k

/-- Requests the local update of an expert's tensor (R345, R370). -/
def State.requestLocal (s : State) (x tensor step seed : Nat) : State :=
  let q := s.upd.requests ++ [(x, tensor, step, seed)]
  { s with upd := { s.upd with requests := q }, stn := { s.stn with updating := s.stn.updating ++ [x] } }

/-- Elements per chunk of a replica reduction (log 33). -/
abbrev REPLICA_CHUNK : Nat := 16384

/-- HASH of a collective ticket with body bytes from 32 on (R241). -/
def bodyHash (b : List Byte) : Nat :=
  crc32 (slice b 0 2 ++ slice b 4 2 ++ slice b 8 4 ++ slice b 16 2 ++ slice b 18 8 ++ slice b 6 1)

/-- Starts the replica reduction of an expert: its ticket, then every chunk's timetable and contribution packets from
the gradient buffer (R374). A buffer that cannot be read leaves the step uncommitted. -/
def State.startReplica (s : State) (x line member section_ tensor step seed : Nat) : State :=
  let tw := (List.range 8).map fun i => s.word (A.UPDATE_TENSOR tensor + 4 * i)
  let n := (tw.getD 3 0).toNat
  let ext := bits (tw.getD 1 0).toNat 0 28 * 4096
  let port := 256 + 2 * section_
  let tag := (s.coll.lastTag + 1) % 2 ^ 32
  match s.readSpace SP_EXPERT ext (4 * n) with
  | (none, t) => t
  | (some data, t) =>
    let b0 := mkBody 30 [(0, 2, line), (2, 2, member), (4, 1, 0), (5, 1, 1 + 16 * 1), (8, 4, n), (16, 2, REPLICA_CHUNK), (18, 8, step)]
    let body := slice b0 0 26 ++ toBytes 4 (bodyHash b0)
    let ticket := mkPkt false 0 false 0x1001 t.node t.node 0 0 tag body []
    let hdr (c blk nblk : Nat) : List Byte :=
      mkBody 26 [(0, 2, line), (2, 2, member), (4, 2, c), (8, 2, blk), (10, 2, nblk), (18, 8, step)]
    let per := 4096 / vecBytes 1 32
    let pkts := (List.range ((n + REPLICA_CHUNK - 1) / REPLICA_CHUNK)).flatMap fun c =>
      let part := slice data (4 * REPLICA_CHUNK * c) (4 * min REPLICA_CHUNK (n - REPLICA_CHUNK * c))
      let nb := part.length / 128
      let tt := (List.range nb).flatMap fun b => toBytes 2 (ttEntry ((List.range 32).map fun i => vecElem 1 (32 * nb) part (32 * b + i)))
      mkPkt true 0 true 0x1002 t.node t.node 0 0 tag (hdr c 0 nb) tt ::
        (List.range ((nb + per - 1) / per)).map fun i =>
          let m := min per (nb - per * i)
          mkPkt true 1 true 0x1003 t.node t.node 0 0 tag (hdr c (per * i) m) (slice part (128 * per * i) (128 * m))
    let r : Replica := { expert := x, tensor := tensor, section_ := section_, member := member, line := line, step := step, seed := seed, tag := tag, sent := ticket :: pkts, got := [], done := [] }
    let t1 : State := { t with coll := { t.coll with lastTag := tag },
                               stn := { t.stn with replicas := t.stn.replicas ++ [r], updating := t.stn.updating ++ [x] } }
    (ticket :: pkts).foldl (fun u k => u.originate port k) t1

/-- Ends a COMBINE: with LAST, and every SUB of the step ended OK since its SUB 0, the local updates of its experts
are requested; a replicated expert is reduced first (R370). -/
def State.combineOk (s : State) (w : Work) (last : Bool) (nmb seed : Nat) : State :=
  let old := match s.stn.combines.find? (fun c => c.1 = w.line ∧ c.2.1 = w.step) with
    | some c => c.2.2
    | none => []
  let subs := if old.contains w.sub then old else old ++ [w.sub]
  let l := s.stn.combines.filter (fun c => ¬ c.1 = w.line) ++ [(w.line, w.step, subs)]
  let s1 : State := { s with stn := { s.stn with combines := l } }
  if last && (List.range nmb).all subs.contains then
    s1.inOrder fun u => (List.range w.experts.length).foldl (fun t k =>
      let x := w.expertIds.getD k 0
      let tensor := w.expertField k 0 0 12
      if w.expertField k 4 15 1 = 1 then
        t.startReplica x (w.expertField k 4 0 12) (w.expertField k 4 16 16) (w.expertField k 0 12 4) tensor w.step seed
      else t.requestLocal x tensor w.step seed) u
  else s1

/-- A COMBINE has not ended OK: its SUB does not count, nor do the gradient products it wrote (R370). -/
def State.combineLost (s : State) (w : Work) : State :=
  { s with stn := { s.stn with
      combines := s.stn.combines.map fun c => if c.1 = w.line ∧ c.2.1 = w.step then (c.1, c.2.1, c.2.2.erase w.sub) else c
      grads := s.stn.grads.filter fun g => !(w.expertIds.contains g.1 && g.2 == (w.step, w.sub)) } }

/-- A DISPATCH kept for a COMBINE gives its blocks back (R373). -/
def State.dropSaved (s : State) (g step sub : Nat) : State :=
  if (s.savedWork g step sub).isSome then s.dropWorks fun x => x.of g step sub 9 && x.saved else s

/-- What a station does as an entry of its line ends with a status (R370, R373). -/
def State.workEnded (s : State) (e : Entry) (y : LineCopy) (status : Nat) : State :=
  let w := s.work e.line e.step e.sub e.fam
  if e.fam = 9 then
    match w with
    | none => s
    | some w =>
      if status = 0 ∧ bit (e.num y 39 1) 2 then s.saveWork w else s.dropWork w
  else if e.fam = 10 then
    let s1 := match w with | some w => s.dropWork w | none => s
    let s2 := s1.dropSaved e.line e.step e.sub
    match w with
    | some w => if status = 0 then s2.combineOk w (bit (e.num y 39 1) 3) (e.num y 44 2) y.seed else s2.combineLost w
    | none => s2
  else s

/-- Marks an UPDATE step of a line as ended, for its commit decision (R328). -/
def State.closeShard (s : State) (e : Entry) : State :=
  let l := s.upd.shards.map fun h =>
    if h.line = e.line ∧ h.step = e.step ∧ h.sub = e.sub ∧ h.local_ = false then { h with closed := true } else h
  { s with upd := { s.upd with shards := l } }

/-- An entry leaves the queue: it returns to FREE, its step counter enters the memory of ended collectives, and what is still
parked for it is discarded (R247, R279). -/
def State.leaveEntry (s : State) (e : Entry) (y : LineCopy) (status : Nat) : State :=
  let s1 := if e.state = .active ∧ e.varies y ∧ e.combined ∧ e.fam = 0 then
    (s.bump (A.COLL_LINE_VARIES e.line) 1).bump A.COLL_VARIES 1 else s
  let s2 := s1.put (F.COLL_LINE_INFO_LAST_STATUS e.line) (if 0x10 ≤ status ∧ status < 0x20 then status else 0)
  let es := s2.coll.entries.filter fun f => !f.same e
  let cs := s2.coll.chunks.filter fun c =>
    ¬ (c.key.line = e.line ∧ c.key.step = e.step ∧ c.key.sub = e.sub ∧ c.key.fam = e.fam)
  let s3 : State := { s2 with coll := { s2.coll with entries := es, chunks := cs } }
  let mine (r : EndedRec) : Bool := r.line == e.line
  let dup (r : EndedRec) : Bool := mine r && r.step == e.step && r.sub == e.sub && r.fam == e.fam
  let mem := s3.coll.ended.filter fun r => !dup r
  let full := decide (64 ≤ (mem.filter mine).length)
  let mem' := if full then mem.eraseP mine else mem
  let s4 : State := { s3 with coll := { s3.coll with
    ended := mem' ++ [⟨e.line, e.step, e.sub, e.fam, e.tix.map (·.src), s3.clk⟩] } }
  let s5 := if full then s4.bump A.COLL_MEMORY_EVICTS 1 else s4
  let gone (k : CKey) : Bool := k.line == e.line && k.step == e.step && k.sub == e.sub && k.fam == e.fam
  ((s5.dropParked gone).closeShard e).workEnded e y status

/-! ## Ending chunks and collectives (R255 to R258, R260, R528) -/

/-- Writes a map of source indices into 32 words (line maps). -/
def State.setMap (s : State) (base : Nat) (l : List Nat) : State :=
  (List.range 32).foldl (fun t w =>
    t.wr (base + 4 * w) ((l.filter fun j => j / 32 = w).foldl (fun v j => v ||| 2 ^ (j % 32)) 0)) s

/-- Takes a capture into the line's maps, while neither holds one. -/
def State.captureMaps (s : State) (e : Entry) (status : Nat) (missing : List Nat) (parent : Bool) : State :=
  let g := e.line
  if s.flag (F.COLL_LINE_INFO_MISMATCH_VALID g) || s.flag (F.COLL_LINE_INFO_MISSING_VALID g) then s
  else
    let s1 := (((s.wr64 (A.COLL_MAP_STEP g) e.step).put (F.COLL_LINE_INFO_MAP_SUB g) e.sub).put
      (F.COLL_LINE_INFO_PARENT_MISSING g) (b2n parent))
    if status = 0x10 then (s1.setMap (A.COLL_MISMATCH_MAP g 0) e.mismatch).put (F.COLL_LINE_INFO_MISMATCH_VALID g) 1
    else (s1.setMap (A.COLL_MISSING_MAP g 0) missing).put (F.COLL_LINE_INFO_MISSING_VALID g) 1

/-- The capture of an ending that a parent's DONE brings with a status that has no map: MAP_STEP and MAP_SUB alone, while
neither map holds a capture (R528). -/
def State.captureStep (s : State) (e : Entry) : State :=
  let g := e.line
  if s.flag (F.COLL_LINE_INFO_MISMATCH_VALID g) || s.flag (F.COLL_LINE_INFO_MISSING_VALID g) then s
  else (s.wr64 (A.COLL_MAP_STEP g) e.step).put (F.COLL_LINE_INFO_MAP_SUB g) e.sub

/-- Counts `n` chunk endings of a line. -/
def State.countChunks (s : State) (g n : Nat) : State := (s.bump A.COLL_CHUNKS n).bump (A.COLL_LINE_CHUNKS g) n

/-- Ends a collective with a collective status: one DONE with LAST per source, ABORT_UP where asked, everything of it
discarded (R246, R256, R260, R266, R528). -/
def State.endCollective (s : State) (e : Entry) (status : Nat) (missing : List Nat) (parent abort : Bool) : State :=
  let g := e.line
  let y := s.line g
  let s1 :=
    if status = 0x10 then
      (((s.bump A.COLL_MISMATCHES 1).bump (A.COLL_LINE_MISMATCHES g) 1).captureMaps e status missing parent).lineRaise g
        K.COLL_COLL_MISMATCH
    else if status = 0x11 then
      (((s.bump A.COLL_TIMEOUTS 1).bump (A.COLL_LINE_TIMEOUTS g) 1).captureMaps e status missing parent).lineRaise g
        K.COLL_COLL_TIMEOUT
    else s
  let detail := if status = 0x10 then e.mismatch.length else if status = 0x11 then missing.length else 0
  let mine (k : CKey) : Bool := k.line == g && k.step == e.step && k.sub == e.sub && k.fam == e.fam
  let s2 := (s1.dropParked mine)
  let s3 := ((s2.coll.chunks.filter fun c => mine c.key).map (·.key)).foldl (fun t k => t.releaseChunk k) s2
  let s4 := (s3.countChunks g (e.owned y - e.cursor)).sendDones e y status (y.ownChunk e.cursor) {} true detail
  let s5 := if abort then s4.sendAbortUp e y else s4
  s5.leaveEntry e y status

/-- The DONE of an owned chunk may leave: it has a status, its result was admitted, and at a child line the parent's
DONE has come for it unless the status is the line's own TT_VIOLATION (R257, R290, R291). -/
def State.doneReady (s : State) (y : LineCopy) (c : Chunk) : Bool :=
  c.status.isSome && !(s.sw.waiting.any fun o => o.chunk = some c.key) &&
    (y.isRoot || c.parentDone.isSome || c.status = some 0x20)

/-- Sends the DONE records that may leave, in ascending chunk index, and ends the entry after the last (R256, R257). -/
def State.flushDones : Nat → CKey → State → State
  | 0, _, s => s
  | n + 1, k, s =>
    match s.entryOf k with
    | none => s
    | some e =>
      let y := s.line e.line
      if e.owned y ≤ e.cursor then s
      else
        let ck := y.ownChunk e.cursor
        match s.chunk (e.key ck) with
        | none => s
        | some c =>
          if s.doneReady y c then
            let st := c.status.getD 0
            let last := decide (e.cursor + 1 = e.owned y)
            let s1 := ((s.countChunks e.line 1).sendDones e y st ck c.flags last c.detail).delChunk c.key
            let hs := s1.upd.shards.map fun h =>
              if h.line = e.line ∧ h.step = e.step ∧ h.sub = e.sub ∧ h.local_ = false then
                { h with chunksOk := h.chunksOk + b2n (decide (st ≤ 1)) } else h
            let s2 : State := { s1 with upd := { s1.upd with shards := hs } }
            let e' := { e with cursor := e.cursor + 1 }
            if last then s2.leaveEntry e' y st else State.flushDones n k (s2.setEntry e')
          else s

/-- Ends a chunk with a chunk status (R256). -/
def State.chunkEnd (s : State) (k : CKey) (status detail : Nat) (flags : FlagRec) : State :=
  match s.entryOf k with
  | none => s
  | some e =>
    if e.ended (s.line k.line) k.idx then s
    else
      let s1 := s.releaseChunk k
      let s2 := s1.setChunk { s1.chunkOr k with status := some status, detail := detail, flags := flags }
      State.flushDones (s2.coll.chunks.length + 1) k s2

/-- A chunk ends with RESULT_LOST and is withdrawn; `from_` is the node the WITHDRAW came from (R291, R292). -/
def State.withdraw (s : State) (k : CKey) (reason : Nat) (from_ : Option Nat) : State :=
  match s.entryOf k with
  | none => s
  | some e =>
    let y := s.line k.line
    let c := s.chunkOr k
    let send (t : State) (dst tag member : Nat) : State :=
      (t.lineSend k.line (t.withdrawPkt k dst tag member reason)).coachBump c.coach A.COACH_WITHDRAWS 1
    let s1 := s.releaseChunk k
    let s2 := y.sources.foldl (fun t j =>
      let m := y.source j
      if from_ = some m.node ∧ m.isLine then t else send t m.node (e.tagOf j) (if m.isLine then 0xFFFE else m.member)) s1
    let s3 := if y.isRoot ∨ c.parentDone.isSome ∨ from_ = some (y.parentOf k.idx) then s2
      else send s2 (y.parentOf k.idx) e.upTag 0xFFFE
    s3.chunkEnd k 0x21 0 c.flags

end Sys2Proof.Machine
end

