-- ==== Sys2Proof/Machine/Reduce.lean ====
section
/-! DEFINITION. Reduction datapath (10_reduction.md): admission of chunks, timetables and anchors, addition of
contributions, rounding, narrowing, results, holds, and the tests of chunk packets. -/

namespace Sys2Proof.Machine

/-! ## Elements (R80 to R86, R282, R295) -/

/-- Adds a contribution's element to a slot in the window: anchor entry `a` (R80, R82). -/
def Slot.window (sl : Slot) (a member : Nat) (x : Num) : Slot × Bool :=
  let w := windowTerm a x
  let special := x.isNan || x.isInf
  let sl1 : Slot := { sl with
    any := true,
    pos := sl.pos || (x.isInf && !x.neg?),
    neg := sl.neg || (x.isInf && x.neg?),
    nan := sl.nan || x.isNan,
    snan := sl.snan || x.isSnan,
    low := if x.isInf || x.isSnan then min sl.low member else sl.low,
    nonNeg0 := sl.nonNeg0 || !(x.isZero && x.neg?) }
  if special then (sl1, false) else ({ sl1 with acc := sl.acc + BitVec.ofInt 96 w.1 }, w.2)

/-- Takes a contribution's element into a MAX or MIN slot (R85). -/
def Slot.extreme (sl : Slot) (max : Bool) (member : Nat) (x : Num) : Slot :=
  let code := (fp64.round RNE 0 false x).1
  let sl1 : Slot := { sl with
    any := true,
    nan := sl.nan || x.isNan,
    snan := sl.snan || x.isSnan,
    num := sl.num || !x.isNan,
    nonNeg0 := sl.nonNeg0 || !(x.isZero && x.neg?),
    low := if x.isInf || x.isSnan then min sl.low member else sl.low }
  if x.isNan then sl1
  else if !sl.num then { sl1 with acc := BitVec.ofNat 96 code }
  else { sl1 with acc := BitVec.ofNat 96 (fp64.round RNE 0 false (pickN max (fp64.decode sl.acc.toNat) x).1).1 }

/-- Adds a contribution's element to a SUM_FAST slot: the slot, and its flags but INVALID. INVALID is noted in `snan`, and
in `low` the lowest member that supplied an infinity or a signaling NaN (R86, R87, R295). -/
def Slot.fast (sl : Slot) (member : Nat) (x : Num) : Slot × Nat :=
  let c := fp32.round RNE 0 false x
  let a := if sl.any then fp32.add RNE sl.acc.toNat c.1 else (c.1, 0)
  ({ sl with any := true, acc := BitVec.ofNat 96 a.1, nonNeg0 := sl.nonNeg0 || !(x.isZero && x.neg?),
             snan := sl.snan || (c.2 ||| a.2).testBit 0, low := if x.isInf || x.isSnan then min sl.low member else sl.low },
    clr (c.2 ||| a.2) FL_INVALID)

/-- A pass-through element: its code and its block's scale (R239). -/
def rawElem (fmt n : Nat) (l : List Byte) (i : Nat) : Nat :=
  elemCode fmt l i + (if isK fmt then 256 * scaleByte fmt n l (i / 32) else 0)

/-- The exact value of a slot before its final rounding, and INVALID (R80, R82, R83, R85, R86). -/
def Slot.value (sl : Slot) (redop a : Nat) : Num × Nat :=
  match redop with
  | 0 =>
    let inv := if (sl.pos && sl.neg) || sl.snan then FL_INVALID else 0
    if sl.nan || (sl.pos && sl.neg) then (.nan false, inv)
    else if sl.pos || sl.neg then (.inf sl.neg, inv)
    else if sl.acc = 0 then (.fin (sl.any && !sl.nonNeg0) 0 0, inv)
    else (Num.ofInt sl.acc.toInt ((a : Int) - 2048 - 82), inv)
  | 1 => (fp32.decode sl.acc.toNat, if sl.snan then FL_INVALID else 0)
  | _ => if sl.nan then (.nan false, if sl.snan then FL_INVALID else 0) else (fp64.decode sl.acc.toNat, 0)

/-! ## A chunk's sum -/

/-- r of R63 for element `i` of a chunk (R284). -/
def Entry.rsr (e : Entry) (y : LineCopy) (c i : Nat) : Nat := gen y.seed e.step y.stream (c * e.chunkLen y + i)

/-- Anchor entry of a block. -/
def Chunk.anchor (c : Chunk) (b : Nat) : Nat := (c.anchors.getD []).getD b 0

/-- Values of a chunk's elements, with the flag record of R82. -/
def Chunk.values (c : Chunk) (redop : Nat) : List Num × FlagRec :=
  let vs := (List.range c.slots.length).map fun i =>
    let sl := c.slots.getD i {}
    let v := sl.value redop (c.anchor (i / 32))
    (v.1, FlagRec.at v.2 i sl.low)
  (vs.map (·.1), vs.foldl (fun r v => r.merge v.2) {})

/-- Flags of a rounding, per element, with no member (R87). -/
def roundFlags (fl : List Nat) : FlagRec :=
  (List.range fl.length).foldl (fun r i => r.merge (FlagRec.at (fl.getD i 0) i 0xFFFF)) {}

/-- Blocks per packet of a format: the most whole blocks that 4,096 bytes hold (R274). -/
def blocksPerPacket (fmt : Nat) : Nat := 4096 / vecBytes fmt 32

/-- Splits `n` blocks into packets: first block and count of each (R285). -/
def splitBlocks (fmt n : Nat) : List (Nat × Nat) :=
  let b := blocksPerPacket fmt
  (List.range ((n + b - 1) / b)).map fun i => (b * i, min b (n - b * i))

/-- Body of a chunk packet (R273). -/
def chunkBody (k : CKey) (member : Nat) (line : Bool) (blk nblk : Nat) : List Byte :=
  mkBody 26 [(0, 2, k.line), (2, 2, member), (4, 2, k.idx), (6, 1, k.sub), (7, 1, b2n line), (8, 2, blk), (10, 2, nblk),
    (18, 8, k.step)]

/-- Pass-through codes of blocks as one vector (R60, R239). -/
def packRaw (fmt : Nat) (codes : List Nat) : List Byte :=
  let w := match fmt with | 0 => 64 | 1 => 32 | 2 => 16 | 3 => 16 | _ => 8
  packCodes w (codes.map fun c => if isK fmt then c % 256 else c) ++
    (if isK fmt then (List.range (codes.length / 32)).flatMap fun b => toBytes 1 (codes.getD (32 * b) 0 / 256) else [])

/-- The slots a result keeps at the ROOT: ⌈n × b / 12⌉ (R272). -/
def packedSlots (fmt n : Nat) : Nat := (n * ((elemFmt fmt).bits / 8) + 11) / 12

/-! ## Completeness (R254, R276) -/

/-- Blocks of chunk `c` awaited from a source. -/
def Entry.needBlocks (e : Entry) (y : LineCopy) (j c : Nat) : Nat := (e.valid y j c + 31) / 32

/-- A source's timetable is required and not held. -/
def Chunk.awaitsTt (ch : Chunk) (e : Entry) (y : LineCopy) (j : Nat) : Bool :=
  (e.usesTt y || (y.source j).isLine) && !(ch.tt.any fun t => t.1 = j)

/-- A source owes data: a block that the chunk takes from it has not arrived. Blocks beyond min(VCOUNT, CAPACITY) are not
among them (R238). -/
def Chunk.awaitsData (ch : Chunk) (e : Entry) (y : LineCopy) (j : Nat) : Bool :=
  !((List.range (e.needBlocks y j ch.key.idx)).all fun b => ch.arrived.contains (j, b))

/-- A source's contribution is complete. -/
def Chunk.complete (ch : Chunk) (e : Entry) (y : LineCopy) (j : Nat) : Bool := !ch.awaitsTt e y j && !ch.awaitsData e y j

/-- Every source's contribution is complete, be it added or not. -/
def Chunk.inputsHere (ch : Chunk) (e : Entry) (y : LineCopy) : Bool :=
  ch.admitted && ch.stage == .combine && (e.suppliers y ch.key.idx).all (ch.complete e y) && ch.status.isNone

/-- Every source's contribution is complete and added. -/
def State.sumReady (s : State) (ch : Chunk) (e : Entry) (y : LineCopy) : Bool :=
  ch.inputsHere e y && !(s.coll.adding.any fun p => p.key = ch.key)

/-- A source's timetable is parked: it has arrived (R277). -/
def State.ttParked (s : State) (y : LineCopy) (j : Nat) (k : CKey) : Bool :=
  s.coll.parked.any fun p => p.key = k && p.pkt.op == 0x1002 && y.findSource p.pkt.src p.pkt.member p.pkt.isLine == some j

/-- Block `b` of a source has arrived: taken, or parked (R277). -/
def State.blockHere (s : State) (ch : Chunk) (y : LineCopy) (j b : Nat) : Bool :=
  ch.arrived.contains (j, b) || s.coll.parked.any fun p =>
    p.key = ch.key && p.pkt.op == 0x1003 && decide (p.pkt.blk ≤ b ∧ b < p.pkt.blk + p.pkt.nblk) &&
      y.findSource p.pkt.src p.pkt.member p.pkt.isLine == some j

/-- Sources that a chunk still awaits, for RESEND_REQ and the missing map: (source, WHAT); what waits on a platform has
arrived (R260, R262, R279). -/
def State.awaited (s : State) (ch : Chunk) (e : Entry) (y : LineCopy) : List (Nat × Nat) :=
  match ch.stage with
  | .up => []
  | .apply => []
  | .emit => []
  | .hold => ((e.recipients y ch.key.idx).filter fun j => !ch.acked.contains j).map fun j => (j, 4)
  | _ => (e.suppliers y ch.key.idx).filterMap fun j =>
      if ch.awaitsTt e y j && !s.ttParked y j ch.key then some (j, 2)
      else if (List.range (e.needBlocks y j ch.key.idx)).all (s.blockHere ch y j) then none else some (j, 3)

/-! ## Admission (R270, R271, R529) -/

/-- The chunk takes nothing from below and enters UP with the entry (R529). -/
def Entry.fromAbove (e : Entry) (y : LineCopy) (c : Nat) : Bool := !y.isRoot && (e.suppliers y c).isEmpty

/-- Record cells of a chunk. -/
def recordCells (y : LineCopy) (n : Nat) : Nat := y.memberCount * (n / 32)

/-- Staging slabs of a chunk (R252). -/
def Entry.slabCount (e : Entry) (y : LineCopy) : Nat :=
  if y.staging then
    (y.memberCount * vecBytes (e.inFmt y) (e.chunkLen y) + 0x3FFFFF) / 0x400000
  else 0

/-- The pool serves the chunk's request for `n` slots now: it is its line's turn among the requests that can be granted (R14,
R174, R193). -/
def State.chunkTurn (s : State) (ch : Chunk) (pool n : Nat) : Option State :=
  let r := s.slotTurn pool (if ch.waited then [] else [⟨ch.key.line, 1, n⟩])
  let first := (s.slotWaiters pool).find? fun c => c.key.line = ch.key.line && s.chunkFits c.coach c.asks c.askCells c.askSlabs
  if r.1 = some ch.key.line ∧ (if ch.waited then first.any (fun c => c.key = ch.key) else first.isNone) then some r.2 else none

/-- A chunk's request for slots waits, and QUOTA_WAITS counts it once (R174). -/
def State.chunkWaits (s : State) (ch : Chunk) (n cells slabs : Nat) : State :=
  if ch.waited then s
  else (s.setChunk { ch with waited := true, asks := n, askCells := cells, askSlabs := slabs }).bump A.POOL_QUOTA_WAITS 1

/-- A chunk asks for its slots, record cells and slabs, all or none; one too large can never be granted, and waits (R270,
R271). -/
def State.admitChunk (s : State) (e : Entry) (y : LineCopy) (ch : Chunk) : State :=
  let k := ch.key
  let n := e.len y k.idx
  let pool := s.slotPool ch.coach
  let cells := recordCells y n
  let p := s.coachOf ch.coach
  let slabs := e.slabCount y
  if s.rd (A.POOL_QUOTA pool 0) < n ∨ 65536 < cells then
    if ch.tooLarge then s
    else ((s.setChunk { ch with tooLarge := true }).chunkWaits { ch with tooLarge := true } n cells slabs).coachCause k ch.coach K.COACH_CHUNK_TOO_LARGE true
  else if s.chunkFits ch.coach n cells slabs then
    match s.chunkTurn ch pool n with
    | none => s.chunkWaits ch n cells slabs
    | some t =>
      let a := t.poolTake pool n 0
      let b := if slabs = 0 then ([], a.2) else a.2.poolTake 1 slabs 0
      ((b.2.put (F.COACH_RED_STATE_RECORD_FREE p.1 p.2) (s.get (F.COACH_RED_STATE_RECORD_FREE p.1 p.2) - cells)).setChunk { ch with
        admitted := true, slotIds := a.1, recCells := cells, slabs := b.1, slots := List.replicate n {},
        stage := if e.usesTt y then .anchor else .combine }).settleSlots pool
  else s.chunkWaits ch n cells slabs

/-! ## Adding -/

/-- Adds one contribution's blocks from block `blk`, as a payload of `m` elements, and raises its flags as elements are added
(R80 to R88, R280 to R282). -/
def Chunk.addBlocks (ch : Chunk) (e : Entry) (y : LineCopy) (j blk nblk : Nat) (payload : List Byte) : Chunk :=
  let fmt := e.contribFmt y j
  let m := 32 * nblk
  let mem := y.flagMember j
  let valid := e.valid y j ch.key.idx
  let step (acc : List Slot × FlagRec) (i : Nat) : List Slot × FlagRec :=
    let at_ := 32 * blk + i
    if valid ≤ at_ then acc
    else
      let sl := acc.1.getD at_ {}
      if e.passes y then
        (acc.1.set at_ { sl with any := true, acc := BitVec.ofNat 96 (rawElem fmt m payload i) }, acc.2)
      else
        let x := vecElem fmt m payload i
        let r : Slot × FlagRec := match e.redop y with
          | 0 => let q := sl.window (ch.anchor (at_ / 32)) mem x; (q.1, if q.2 then FlagRec.at FL_TRUNCATED at_ mem else {})
          | 1 => let q := sl.fast mem x; (q.1, FlagRec.at q.2 at_ 0xFFFF)
          | op => (sl.extreme (op == 2) mem x, {})
        (acc.1.set at_ r.1, (acc.2.merge r.2).merge (FlagRec.at (r.1.value (e.redop y) 0).2 at_ r.1.low))
  let r := (List.range m).foldl step (ch.slots, ch.flags)
  { ch with slots := r.1, flags := r.2 }

/-- Blocks whose announced entry differs from the data (R81). -/
def Chunk.entryBroken (ch : Chunk) (e : Entry) (y : LineCopy) (j blk nblk : Nat) (payload : List Byte) : Bool :=
  match ch.tt.find? fun t => t.1 = j with
  | none => false
  | some t => (List.range nblk).any fun b =>
      ttEntry ((List.range 32).map fun i => vecElem (e.contribFmt y j) (32 * nblk) payload (32 * b + i)) !=
        t.2.getD (blk + b) 0

/-- Anchors from timetable entries: the largest b of each block (R79). -/
def anchorsOf (n : Nat) (tts : List (List Nat)) : List Nat :=
  (List.range n).map fun b => tts.foldl (fun m t => max m (t.getD b 0)) 0

/-- Fixes the anchors once every source's timetable is held, and moves to COMBINE. -/
def Chunk.fixAnchors (ch : Chunk) (e : Entry) (y : LineCopy) : Chunk :=
  if ch.stage == .anchor && (e.suppliers y ch.key.idx).all (fun j => !ch.awaitsTt e y j) then
    { ch with stage := .combine, anchors := some (anchorsOf (e.len y ch.key.idx / 32) (ch.tt.map (·.2))) }
  else ch

/-- A chunk ends with TT_VIOLATION naming a source (R81, R149, R280). -/
def State.ttViolation (s : State) (ch : Chunk) (y : LineCopy) (j : Nat) : State :=
  (s.coachCause ch.key ch.coach K.COACH_TT_VIOLATION true).chunkEnd ch.key 0x20 (y.source j).member ch.flags

/-- Of the sources whose arrived contributions to a chunk, on a platform or taken over, differ from their entries, the one with
the lowest member (R81). -/
def State.lowestBroken (s : State) (ch : Chunk) (e : Entry) (y : LineCopy) (j : Nat) : Nat :=
  ((s.coll.adding ++ s.coll.parked).filter fun p => p.key = ch.key ∧ p.pkt.op = 0x1003).foldl (fun b p =>
    match y.findSource p.pkt.src p.pkt.member p.pkt.isLine with
    | some i =>
      if (y.source i).member < (y.source b).member ∧ ch.entryBroken e y i p.pkt.blk p.pkt.nblk p.pkt.payload then i else b
    | none => b) j

/-- The unit finishes adding a contribution that was taken over (R280). -/
def State.addParked (s : State) (p : Parked) : State :=
  let s1 : State := { s with coll := { s.coll with adding := s.coll.adding.filter fun x => x.buf ≠ p.buf } }
  let s2 := s1.discard p.buf
  match s2.chunk p.key, s2.entryOf p.key with
  | some ch, some e =>
    let y := s2.line e.line
    (match y.findSource p.pkt.src p.pkt.member p.pkt.isLine with
    | none => s2
    | some j =>
      if e.usesTt y && ch.entryBroken e y j p.pkt.blk p.pkt.nblk p.pkt.payload then s2.ttViolation ch y (s2.lowestBroken ch e y j)
      else
        (s2.setChunk (ch.addBlocks e y j p.pkt.blk p.pkt.nblk p.pkt.payload)).coachBump ch.coach A.COACH_CONTRIB_PKTS 1)
  | _, _ => s2

/-! ## Staging slabs (R252) -/

/-- Place of block `blk` of source `j` in a chunk's slabs: source after source, block after block (DESIGN CHOICE, log 119). -/
def Entry.slabPlace (e : Entry) (y : LineCopy) (j blk : Nat) : Nat :=
  j * vecBytes (e.inFmt y) (e.chunkLen y) + vecBytes (e.inFmt y) (32 * blk)

/-- The runs of `n` bytes from a place of a chunk's slabs: offset in STAGE space and length; fuel counts the slabs met. -/
def slabRuns (slabs : List Nat) : Nat → Nat → Nat → List (Nat × Nat)
  | 0, _, _ => []
  | fuel + 1, at_, n =>
    if n = 0 then []
    else
      let m := min n (MIB4 - at_ % MIB4)
      (slabs.getD (at_ / MIB4) 0 * MIB4 + at_ % MIB4, m) :: slabRuns slabs fuel (at_ + m) (n - m)

/-- Writes bytes into a chunk's slabs. -/
def State.writeSlabs (s : State) (slabs : List Nat) (at_ : Nat) (l : List Byte) : State :=
  ((slabRuns slabs 3 at_ l.length).foldl (fun (r : State × List Byte) q =>
    (r.1.writeSpace SP_STAGE q.1 (r.2.take q.2), r.2.drop q.2)) (s, l)).1

/-- Reads bytes of a chunk's slabs; none where a granule is uncorrectable. -/
def State.readSlabs (s : State) (slabs : List Nat) (at_ n : Nat) : Option (List Byte) × State :=
  (slabRuns slabs 3 at_ n).foldl (fun (r : Option (List Byte) × State) q =>
    match r.2.readSpace SP_STAGE q.1 q.2, r.1 with
    | (some b, t), some l => (some (l ++ b), t)
    | (_, t), _ => (none, t)) (some [], s)

/-- A landed contribution with the bytes that its slabs hold: source, first block, number of blocks, payload. -/
def State.readLanded (s : State) (e : Entry) (y : LineCopy) (ch : Chunk) :
    Option (List (Nat × Nat × Nat × List Byte)) × State :=
  ch.landed.foldl (fun (r : Option (List (Nat × Nat × Nat × List Byte)) × State) l =>
    match r.2.readSlabs ch.slabs (e.slabPlace y l.1 l.2.1) (vecBytes (e.contribFmt y l.1) (32 * l.2.2)), r.1 with
    | (some b, t), some q => (some (q ++ [(l.1, l.2.1, l.2.2, b)]), t)
    | (_, t), _ => (none, t)) (some [], s)

/-- A staging line scans the landed contributions, fixes M and combines them (R84, R252). -/
def Chunk.combineLanded (ch : Chunk) (e : Entry) (y : LineCopy) (landed : List (Nat × Nat × Nat × List Byte)) : Chunk :=
  let entries (l : Nat × Nat × Nat × List Byte) : List Nat :=
    List.replicate l.2.1 0 ++ (List.range l.2.2.1).map fun b =>
      ttEntry ((List.range 32).map fun i => vecElem (e.contribFmt y l.1) (32 * l.2.2.1) l.2.2.2 (32 * b + i))
  let ch1 := if e.windowed y then
    { ch with anchors := some (anchorsOf (e.len y ch.key.idx / 32) (landed.map entries)) } else ch
  landed.foldl (fun c l => c.addBlocks e y l.1 l.2.1 l.2.2.1 l.2.2.2) ch1

/-! ## The tests of chunk packets (R276) -/

/-- What becomes of a chunk packet. -/
inductive Verdict where
  /-- refused with an ERROR code, with or without WRONG_SHARD -/
  | refuse (code : Nat) (shard : Bool)
  /-- discarded and counted as a duplicate -/
  | dup
  /-- discarded and counted in TT_DISCARDED -/
  | ttDiscard
  /-- from source `j`, beyond min(VCOUNT, CAPACITY), for a chunk past COMBINE: discarded and counted in DROPPED -/
  | beyond (j : Nat)
  /-- a second, different timetable -/
  | violation (j : Nat)
  /-- parks on a platform -/
  | park
  /-- taken from source `j` -/
  | take (j : Nat)
  deriving DecidableEq, Repr

/-- Bytes 256 × PAYLOAD that a content needs. -/
def leastPay (n : Nat) : Nat := (n + 255) / 256

/-- Test 0: the ERROR code of a line that is not UP. -/
def State.lineDownCode (s : State) (g : Nat) : Option Nat :=
  let m := s.mach (.line g)
  if m = UP then none else if m = DOWN ∨ m = STARTING then some 0x10 else some 0x03

/-- Test 3 of a timetable. -/
def Entry.ttFormed (e : Entry) (y : LineCopy) (j : Nat) (k : Pkt) : Bool :=
  let line := (y.source j).isLine
  let want := if e.usesTt y then e.len y k.chunk / 32 else 0
  decide (k.chunk < e.chunks y) && k.blk == 0 && k.nblk == want && (e.suppliers y k.chunk).contains j &&
    k.pay == max 1 (leastPay (2 * want + if line then 23 else 0))

/-- Test 3 of a contribution; data of a member beyond its CAPACITY can only be named in a chunk of another segment, and is
MALFORMED by the test of the supplier (DESIGN CHOICE, log 47). -/
def Entry.dataFormed (e : Entry) (y : LineCopy) (j : Nat) (k : Pkt) : Bool :=
  decide (k.chunk < e.chunks y) && k.nblk != 0 && decide (k.blk + k.nblk ≤ e.len y k.chunk / 32) &&
    (e.suppliers y k.chunk).contains j && k.pay == leastPay (vecBytes (e.contribFmt y j) (32 * k.nblk))

/-- Key of the chunk that a packet names. -/
def Pkt.chunkKey (k : Pkt) : CKey := ⟨k.group, k.step, k.sub, 0, k.chunk⟩

/-- A chunk packet is refused FENCED: the coach that its logical coach stands for is fenced, and the chunk is new, being
neither held nor ended here (R434). -/
def State.coachRefuses (s : State) (k : Pkt) : Bool :=
  s.fenced (dom 2 (s.physCoach (logicalCoach k.group k.chunk k.step k.sub))) &&
    (match s.entryOf k.chunkKey with
    | some e => (s.chunk k.chunkKey).isNone && !e.ended (s.line k.group) k.chunk
    | none => !(s.coll.ended.any fun r => r.line = k.group && r.step = k.step && r.sub = k.sub && r.fam = 0))

/-- The chunk is past COMBINE, or has ended. -/
def State.pastCombine (s : State) (e : Entry) (y : LineCopy) (key : CKey) : Bool :=
  e.ended y key.idx || (match s.chunk key with
    | some c => c.status.isSome || !(c.stage == .opening || c.stage == .anchor || c.stage == .combine)
    | none => false)

/-- A chunk that the line may admit is not admitted: tests 3 and 4 wait until a packet of it leaves its platform (R276). -/
def State.awaitsAdmit (s : State) (e : Entry) (y : LineCopy) (key : CKey) : Bool :=
  e.owns y key.idx && !e.fromAbove y key.idx && !s.pastCombine e y key &&
    (match s.chunk key with | some c => !c.admitted | none => true)

/-- Every element of a contribution lies beyond min(VCOUNT, CAPACITY) (R238). -/
def Entry.beyond (e : Entry) (y : LineCopy) (j : Nat) (k : Pkt) : Bool :=
  e.op y == 3 && !(y.source j).isLine && decide (e.valid y j k.chunk ≤ 32 * k.blk)

/-- The verdict on a timetable (R275 to R277). -/
def State.judgeTt (s : State) (k : Pkt) : Verdict :=
  let g := k.group
  match s.lineDownCode g with
  | some c => .refuse c false
  | none =>
    let y := s.line g
    match y.findSource k.src k.member k.isLine with
    | none => .refuse 0x11 false
    | some j =>
      if k.chunk % max 1 y.shardCount ≠ y.shardIndex then .refuse 0x13 true
      else if s.coachRefuses k then .refuse 0x03 false
      else if y.staging && !k.isLine then .ttDiscard
      else match s.entry g k.step k.sub 0 with
        | none => .park
        | some e =>
          if (e.ticket y.refSrc).isSome && !(y.source j).isLine && !e.usesTt y then .ttDiscard
          else if e.state ≠ .active ∨ s.awaitsAdmit e y k.chunkKey then .park
          else if !e.ttFormed y j k then .refuse 5 false
          else if s.pastCombine e y k.chunkKey then .dup
          else match s.chunk k.chunkKey with
            | none => .park
            | some c =>
              match c.tt.find? fun t => t.1 = j with
                | some t => if t.2 = (List.range k.nblk).map (fun b => numAt k.payload (2 * b) 2) then .dup else .violation j
                | none => .take j

/-- The verdict on a contribution (R276, R277). -/
def State.judgeData (s : State) (k : Pkt) : Verdict :=
  let g := k.group
  match s.lineDownCode g with
  | some c => .refuse c false
  | none =>
    let y := s.line g
    match y.findSource k.src k.member k.isLine with
    | none => .refuse 0x11 false
    | some j =>
      if k.chunk % max 1 y.shardCount ≠ y.shardIndex then .refuse 0x13 true
      else if s.coachRefuses k then .refuse 0x03 false
      else match s.entry g k.step k.sub 0 with
        | none => .park
        | some e =>
          if e.state ≠ .active ∨ s.awaitsAdmit e y k.chunkKey then .park
          else if !e.dataFormed y j k then .refuse 5 false
          else
            let here : List Nat := match s.chunk k.chunkKey with
              | some c => (List.range k.nblk).filter fun b => c.arrived.contains (j, k.blk + b)
              | none => []
            if s.pastCombine e y k.chunkKey then
              (if here = [] ∧ e.beyond y j k ∧ ¬ e.ended y k.chunk then .beyond j else .dup)
            else if here.length = k.nblk then .dup
            else if here ≠ [] then .refuse 5 false
            else if e.usesTt y && (match s.chunk k.chunkKey with | some c => c.anchors.isNone | none => true) then .park
            else .take j

/-- Notes that a packet of a chunk arrived at slow cycle `at_`; the first counts (R259). -/
def State.noteFirstAt (s : State) (key : CKey) (at_ : Nat) : State :=
  match s.entryOf key with
  | none => s
  | some e =>
    let y := s.line key.line
    if e.state = .active ∧ (e.ended y key.idx ∨ ¬ e.owns y key.idx) then s
    else
      let c := s.chunkOr key
      match c.firstAt with
      | some f => if f ≤ at_ then s else s.setChunk { c with firstAt := some at_ }
      | none => s.setChunk { c with firstAt := some at_ }

/-- Notes the arrival of a packet of a chunk. -/
def State.noteFirst (s : State) (key : CKey) : State := s.noteFirstAt key s.clk

/-- Cells parked at a station port in a class. -/
def State.parkedCells (s : State) (p tc : Nat) : Nat :=
  ((s.coll.parked.filter fun x => x.port = p && x.pkt.tc = tc).map fun x => x.pkt.cost).sum

/-- Holds a timetable of source `j`: its entries, all 16 bits of each, and a child line's flag record (R275, R281). An entry
whose reserved bits are not 0 equals no data's entry, so the chunk ends with TT_VIOLATION (R78; DESIGN CHOICE, log 119). -/
def State.holdTt (s : State) (k : Pkt) (j : Nat) : State :=
  match s.chunk k.chunkKey, s.entryOf k.chunkKey with
  | some c, some e =>
    let y := s.line k.group
    let es := (List.range k.nblk).map fun b => numAt k.payload (2 * b) 2
    let r := if k.isLine then FlagRec.read (numAt k.payload (2 * k.nblk) 1 % 32) (numAt k.payload (2 * k.nblk + 4) 19) else {}
    s.setChunk ({ c with tt := c.tt ++ [(j, es)], flags := c.flags.merge r }.fixAnchors e y)
  | _, _ => s

/-- Marks the blocks of a contribution taken (ARRIVED). -/
def State.markArrived (s : State) (k : Pkt) (j : Nat) : State :=
  match s.chunk k.chunkKey with
  | some c => s.setChunk { c with arrived := c.arrived ++ (List.range k.nblk).map fun b => (j, k.blk + b) }
  | none => s

/-- Lands a contribution in the staging slabs (R252). -/
def State.landData (s : State) (k : Pkt) (j : Nat) : State :=
  match s.chunk k.chunkKey, s.entryOf k.chunkKey with
  | some c, some e =>
    let y := s.line k.group
    let bytes := slice k.payload 0 (vecBytes (e.contribFmt y j) (32 * k.nblk))
    (s.writeSlabs c.slabs (e.slabPlace y j k.blk) bytes).setChunk { c with landed := c.landed ++ [(j, k.blk, k.nblk)] }
  | _, _ => s

/-- Elements beyond min(VCOUNT, CAPACITY) that a contribution carries (R238). -/
def State.dropBeyond (s : State) (k : Pkt) (j : Nat) : State :=
  match s.entryOf k.chunkKey with
  | none => s
  | some e =>
    let y := s.line k.group
    let v := e.valid y j k.chunk
    let last := 32 * (k.blk + k.nblk)
    let n := last - max v (32 * k.blk)
    if e.op y = 3 ∧ ¬ (y.source j).isLine ∧ v < last ∧ n ≠ 0 then
      let base := bits (y.word 0) 0 16
      (s.setEntry { e with dropped := if e.dropped.contains j then e.dropped else e.dropped ++ [j] }).bump
        (A.COLL_DROPPED (base + j)) n
    else s

/-- A packet refused by R276. -/
def State.refuseChunkPkt (s : State) (o : Nat) (k : Pkt) (code : Nat) (shard : Bool) : State :=
  let L := logicalCoach k.group k.chunk k.step k.sub
  let s1 := (s.originate o (s.errorPkt k code)).coachBump L A.COACH_REFUSED_PKTS 1
  if shard then s1.coachCause k.chunkKey L K.COACH_WRONG_SHARD false else s1

/-- The coach counter that a discarded packet adds to. -/
def State.countDiscard (s : State) (k : Pkt) (a : Nat → Nat → Nat) : State :=
  s.coachBump (logicalCoach k.group k.chunk k.step k.sub) a 1

/-- Parks the head packet of a station port for logical coach `L`, or discards it where the platform is full; it waits in its
queue while the port's account has no room (R164, R171, R278). -/
def State.parkAt (s : State) (c : Copy) (k : Pkt) (key : CKey) (L : Nat) : State :=
  if s.parkedCells c.out k.tc + k.cost ≤ s.eff c.out k.tc / 2 then
    if !s.fits c.out k.tc k.cost then s
    else
    let s2 := s.takeOver c
    let p : Parked := { buf := c.pkt, pkt := k, port := c.out, key := key, at_ := s2.clk }
    ({ s2 with coll := { s2.coll with parked := s2.coll.parked ++ [p] } } : State).coachBump L A.COACH_PARKED_PKTS 1
  else
    ((s.consume c k).coachBump L A.COACH_PLATFORM_DISCARDS 1).coachCause key L K.COACH_PLATFORM_FULL false

/-- Parks a chunk packet (R277, R278). -/
def State.parkCopy (s : State) (c : Copy) (k : Pkt) (key : CKey) : State :=
  (s.noteFirst key).parkAt c k key (logicalCoach k.group k.chunk k.step k.sub)

/-- Takes a contribution over for addition, within the port's account, or lands it in staging (R278). -/
def State.takeData (s : State) (c : Copy) (k : Pkt) (j : Nat) : State :=
  let y := s.line k.group
  if y.staging then (((((s.noteFirst k.chunkKey).consume c k).dropBeyond k j).markArrived k j).landData k j)
  else if s.fits c.out k.tc k.cost then
    let s1 := (((s.noteFirst k.chunkKey).takeOver c).dropBeyond k j).markArrived k j
    let p : Parked := { buf := c.pkt, pkt := k, port := c.out, key := k.chunkKey, at_ := s1.clk }
    { s1 with coll := { s1.coll with adding := s1.coll.adding ++ [p] } }
  else s

/-! ## Sums up, results -/

/-- Packets that carry a vector of a chunk in blocks: OP, class, format, payload of each range. -/
def State.vecPkts (s : State) (k : CKey) (op tc dst tag member fmt nblk : Nat) (line : Bool)
    (payload : Nat → Nat → List Byte) : List Pkt :=
  (splitBlocks fmt nblk).map fun r =>
    mkPkt true tc true op dst s.node 0 0 tag (chunkBody k member line r.1 r.2) (payload r.1 r.2)

/-- The timetable and contribution packets that a child line sends for a chunk, with the flag record they carry
(R250, R275). -/
def State.upPkts (s : State) (e : Entry) (y : LineCopy) (ch : Chunk) : List Pkt × FlagRec :=
  let k := ch.key
  let n := ch.slots.length
  let fmt := if e.passes y then e.inFmt y else y.upperFmt
  let v := ch.values (e.redop y)
  let enc := v.1.map fun x => (elemFmt fmt).round RTO 0 false x
  let codes := if e.passes y then ch.slots.map (fun sl => sl.acc.toNat) else enc.map (·.1)
  let fl := if e.passes y then ch.flags else (ch.flags.merge v.2).merge (roundFlags (enc.map fun c => clr c.2 FL_INVALID))
  let pay (b m : Nat) : List Byte := packRaw fmt ((codes.drop (32 * b)).take (32 * m))
  let entries := if e.usesTt y then
    (List.range (n / 32)).map fun b => ttEntry (((codes.drop (32 * b)).take 32).map (elemFmt fmt).decode) else []
  let dst := y.parentOf k.idx
  let tt := mkPkt true 0 true 0x1002 dst s.node 0 0 e.upTag (chunkBody k y.lowest true 0 entries.length)
    (entries.flatMap (toBytes 2) ++ fl.bytes)
  (tt :: s.vecPkts k 0x1003 1 dst e.upTag y.lowest fmt (n / 32) true pay, fl)

/-- A child line with a complete sum sends it up (R250). -/
def State.sendUp (s : State) (e : Entry) (y : LineCopy) (ch : Chunk) : State :=
  let r := s.upPkts e y ch
  let s1 := (s.freeRecords ch.key)
  let ch1 := { s1.chunkOr ch.key with stage := .up, sent := r.1, flags := r.2 }
  let s2 := (s1.setChunk ch1).setEntry { e with combined := true }
  r.1.foldl (fun t p => t.originate (coachPort ch.coach) p) s2

/-- The result packets of a chunk's bytes in OUT_FMT (R285). -/
def State.resultPkts (s : State) (y : LineCopy) (k : CKey) (op nblk : Nat) (pay : Nat → Nat → List Byte) : List HeldPkt :=
  (s.vecPkts k op 3 0xFFFF 0 0xFFFF y.outFmt nblk false pay).map fun p => { pkt := p, buf := none, emitted := false }

/-- NORM's value of a chunk: q from the rounded elements, with its flags (R237). -/
def normValue (xs : List Num) : Nat × Nat :=
  if xs.any Num.isNan then (fp64.nanCode, 0)
  else if xs.any Num.isInf then (fp64.infCode false, 0)
  else fp64.round RNE 0 false (xs.foldl (fun a x => (addN RNE a (mulN x x).1).1) Num.zero)

/-- The ROOT's result of a complete chunk: packets, flag record, bytes held in slots (R237, R239, R284). -/
def State.rootResult (s : State) (e : Entry) (y : LineCopy) (ch : Chunk) : List HeldPkt × FlagRec :=
  let k := ch.key
  let n := ch.slots.length
  if e.passes y then
    let codes := ch.slots.map fun sl => sl.acc.toNat
    (s.resultPkts y k 0x1004 (n / 32) fun b m => packRaw y.outFmt ((codes.drop (32 * b)).take (32 * m)), ch.flags)
  else
    let v := ch.values (e.redop y)
    let rs := e.rsr y k.idx
    let enc := encodeVec y.outFmt y.outMode y.outSat rs v.1
    let fl := (ch.flags.merge v.2).merge (roundFlags (enc.2.map fun f => clr f FL_INVALID))
    if e.op y = 7 then
      let q := normValue (decodeVec y.outFmt n enc.1)
      ([{ pkt := mkPkt true 3 true 0x1004 0xFFFF s.node 0 0 0 (chunkBody k 0xFFFF false 0 1) (toBytes 8 q.1)
          buf := none, emitted := false }], fl.merge (FlagRec.at q.2 0 0xFFFF))
    else
      (s.resultPkts y k 0x1004 (n / 32) fun b m =>
        (encodeVec y.outFmt y.outMode y.outSat (fun i => rs (32 * b + i)) ((v.1.drop (32 * b)).take (32 * m))).1, fl)

/-- Packs a result into the first slots and moves to EMIT (R272). -/
def State.packResult (s : State) (e : Entry) (y : LineCopy) (ch : Chunk) (r : List HeldPkt × FlagRec) : State :=
  let s1 := (s.freeRecords ch.key).freeSlots ch.key (packedSlots y.outFmt (e.len y ch.key.idx))
  (s1.setChunk { s1.chunkOr ch.key with stage := .emit, held := r.1, flags := r.2 }).setEntry { e with combined := true }

/-- Blocks held of a result. -/
def Chunk.heldBlocks (c : Chunk) : Nat := (c.held.map fun h => h.pkt.nblk).sum

/-- The result is held whole. -/
def Chunk.heldWhole (c : Chunk) (e : Entry) (y : LineCopy) : Bool :=
  c.heldBlocks == (if e.op y = 7 then 1 else e.len y c.key.idx / 32)

/-- Ends a hold where every recipient has acknowledged: the ROOT ends the chunk, a child line acknowledges to its parent
and ends with the parent's DONE (R287, R290). -/
def State.checkHold (s : State) (e : Entry) (y : LineCopy) (k : CKey) : State :=
  match s.chunk k with
  | none => s
  | some c =>
    if c.status.isNone && c.heldWhole e y && c.held.all (·.emitted) && (e.recipients y k.idx).all c.acked.contains then
      if y.isRoot then s.chunkEnd k c.okStatus 0 c.flags
      else
        let s1 := if c.ackedUp then s else s.originate (coachPort c.coach) (s.linePkt 2 0x1007 (y.parentOf k.idx) e.upTag
          (mkBody 30 [(0, 2, k.line), (2, 2, y.lowest), (4, 2, k.idx), (6, 1, k.sub), (18, 8, k.step)]))
        let s2 := (s1.dropResults k)
        let s3 := s2.setChunk { s2.chunkOr k with ackedUp := true }
        (match c.parentDone with
        | some d => s3.chunkEnd k (d.num 36 1) (d.num 40 2) (FlagRec.read (d.num 37 1 % 32) (d.num 42 19))
        | none => s3)
    else s

/-- A parent's DONE with a chunk status ends the chunk without waiting for a hold: the hold is over, or the chunk has no
result (R290). -/
def Chunk.endsWith (c : Chunk) (e : Entry) (y : LineCopy) (st : Nat) : Bool :=
  decide (0x20 ≤ st) || c.ackedUp || (e.recipients y c.key.idx).isEmpty || (st == 1 && c.held.isEmpty)

/-- A parent's DONE with a chunk status, at a child line (R290, R291). -/
def State.parentDone (s : State) (e : Entry) (y : LineCopy) (k : CKey) (d : Pkt) : State :=
  if e.ended y k.idx then s
  else
    let c := s.chunkOr k
    if c.parentDone.isSome then s
    else
      let s1 := s.setChunk { c with parentDone := some d }
      if c.status.isSome then (State.flushDones (s1.coll.chunks.length + 1) k s1)
      else if e.state = .active ∧ c.endsWith e y (d.num 36 1) then
        s1.chunkEnd k (d.num 36 1) (d.num 40 2) (FlagRec.read (d.num 37 1 % 32) (d.num 42 19))
      else s1

/-- Resends of a held packet to a recipient. -/
def HeldPkt.triesTo (h : HeldPkt) (dst : Nat) : Nat := match h.tries.find? fun t => t.1 = dst with | some t => t.2 | none => 0

/-- A held packet toward one recipient alone, as its next resend: ATTEMPT counts the resends to it (R123, R148). -/
def HeldPkt.resent (h : HeldPkt) (dst : Nat) : Pkt :=
  ((h.pkt.patch 3 (toBytes 1 (h.pkt.byte 3 % 16 + 16 * min 15 (h.triesTo dst + 1)))).patch 8 (toBytes 2 dst)).seal

/-- A held packet after one more resend to a recipient. -/
def HeldPkt.tried (h : HeldPkt) (dst : Nat) : HeldPkt :=
  { h with tries := (dst, min 15 (h.triesTo dst + 1)) :: h.tries.filter fun t => t.1 ≠ dst }

/-- PAYLOAD_CRC inverted: the packet fails its check at the next hop (R291). -/
def Pkt.poison (k : Pkt) : Pkt := (k.patch 58 (toBytes 4 (k.payCrc ^^^ 0xFFFFFFFF))).seal

/-- A packet of a chunk's result met an uncorrectable granule as it was written and has left poisoned: the chunk is withdrawn
(R291). -/
def State.poisoned (s : State) (ch : Chunk) : State :=
  ((s.coachCause ch.key ch.coach K.COACH_STORE_UE true).coachCause ch.key ch.coach K.COACH_RESULT_POISONED false).withdraw
    ch.key 2 none

/-- Sends held packets of a chunk again, each to its recipient (R288, R289). -/
def State.resendHeld (s : State) (c : Chunk) (l : List (Nat × HeldPkt)) : State :=
  l.foldl (fun t r =>
    let c1 := t.chunkOr c.key
    let h1 := (c1.held.find? fun x => x.pkt.blk = r.2.pkt.blk).getD r.2
    let t1 := t.noteChunk { c1 with held := c1.held.map fun x => if x.pkt.blk = r.2.pkt.blk then x.tried r.1 else x }
    (t1.originate (coachPort c.coach) (h1.resent r.1) none (some c.key)).coachBump c.coach A.COACH_RESULT_RESENDS 1) s

/-- Sends held packets of a chunk again; where the write of packet `bad` meets an uncorrectable granule, that one leaves poisoned
after those before it, and nothing else of the chunk leaves (R288, R289, R291). -/
def State.resendResults (s : State) (c : Chunk) (l : List (Nat × HeldPkt)) (bad : Option Nat) : State :=
  match bad with
  | none => s.resendHeld c l
  | some n =>
    let t := s.resendHeld c (l.take n)
    match l[n]? with
    | none => t
    | some r =>
      ((t.originate (coachPort c.coach) (r.2.resent r.1).poison).coachBump c.coach A.COACH_RESULT_RESENDS 1).poisoned c

end Sys2Proof.Machine
end

