-- ==== Sys2Proof/Machine/Update.lean ====
section
/-! DEFINITION. Parameter update engine (12_update.md, R321 to R347): records, checks at ACTIVE, the rules, block
preconditioners, publication, local updates and commits. -/

namespace Sys2Proof.Machine

/-! ## FP32 operations that gather their flags (R334) -/

/-- An FP32 code and the flags raised on the way to it. -/
abbrev FV := Nat × Nat

/-- A value that raised nothing. -/
def fv (c : Nat) : FV := (c, 0)

/-- a + b. -/
def fadd (a b : FV) : FV := let r := fp32.add RNE a.1 b.1; (r.1, a.2 ||| b.2 ||| r.2)

/-- a − b. -/
def fsub (a b : FV) : FV := let r := fp32.sub RNE a.1 b.1; (r.1, a.2 ||| b.2 ||| r.2)

/-- a × b. -/
def fmul (a b : FV) : FV := let r := fp32.mul RNE a.1 b.1; (r.1, a.2 ||| b.2 ||| r.2)

/-- a / b. -/
def fdiv (a b : FV) : FV := let r := fp32.div RNE a.1 b.1; (r.1, a.2 ||| b.2 ||| r.2)

/-- Square root. -/
def fsqrt (a : FV) : FV := let r := fp32.sqrt RNE a.1; (r.1, a.2 ||| r.2)

/-- The larger value. -/
def fmax (a b : FV) : FV :=
  let r := pickN true (fp32.decode a.1) (fp32.decode b.1)
  ((fp32.round RNE 0 false r.1).1, a.2 ||| b.2 ||| r.2)

/-- FP32 1.0. -/
def f1 : FV := fv 0x3F800000

/-- sign(x) of R334. -/
def fsign (a : FV) : FV :=
  let x := fp32.decode a.1
  (if x.isNan then fp32.nanCode else if x.isZero then 0 else if x.neg? then 0xBF800000 else 0x3F800000, a.2)

/-- NaN or ±∞. -/
def nonFinite (c : Nat) : Bool := (fp32.decode c).isNan || (fp32.decode c).isInf

/-- b to the power t: square and multiply, leading bit first. -/
def fpow (b : FV) (t : Nat) : FV :=
  if t = 0 then f1
  else ((List.range (Nat.log2 t + 1)).reverse).foldl (fun r i =>
    let q := fmul r r
    if t.testBit i then fmul q b else q) f1

/-! ## Descriptors (R330, R331) -/

/-- A field of a table entry's copy. -/
def wordField (l : List Word) (w lo n : Nat) : Nat := bits (l.getD w 0).toNat lo n

/-- Words of TENSOR[t]. -/
def State.tensorWords (s : State) (t : Nat) : List Word := (List.range 8).map fun i => s.word (A.UPDATE_TENSOR t + 4 * i)

/-- Words of RULE[r]. -/
def State.ruleWords (s : State) (r : Nat) : List Word := (List.range 8).map fun i => s.word (A.UPDATE_RULE r + 4 * i)

/-- Byte offset of the record page in STATE space. -/
def recordPage (tw : List Word) : Nat := wordField tw 0 0 28 * 4096

/-- Byte offset of the tile area or gradient buffer. -/
def extPage (tw : List Word) : Nat := wordField tw 1 0 28 * 4096

/-- Byte offset of a local tensor's weights in EXPERT space. -/
def weightPage (tw : List Word) : Nat := wordField tw 2 0 28 * 4096

/-- ELEMS. -/
def tensorElems (tw : List Word) : Nat := (tw.getD 3 0).toNat

/-- T0. -/
def tensorT0 (tw : List Word) : Nat := (tw.getD 4 0).toNat + 2 ^ 32 * (tw.getD 5 0).toNat

/-- LAYOUT is RECORD_B. -/
def layoutB (tw : List Word) : Bool := wordField tw 6 6 1 == 1

/-- FROZEN. -/
def frozen (tw : List Word) : Bool := wordField tw 6 7 1 == 1

/-- GRAD_OUT. -/
def gradOut (tw : List Word) : Bool := wordField tw 6 8 1 == 1

/-- SOURCE local. -/
def isLocal (tw : List Word) : Bool := wordField tw 6 9 1 == 1

/-- VALID of a descriptor or rule set. -/
def entryValid (l : List Word) : Bool := wordField l 7 0 1 == 1

/-- KIND of a rule set. -/
def ruleKind (rw : List Word) : Nat := wordField rw 7 1 3

/-- AMS. -/
def ruleAms (rw : List Word) : Bool := wordField rw 7 5 1 == 1

/-- REFRESH. -/
def ruleRefresh (rw : List Word) : Nat := wordField rw 7 8 16

/-- ITER. -/
def ruleIter (rw : List Word) : Nat := wordField rw 7 24 8

/-- Bytes of a slot. -/
def slotBytes (tw : List Word) : Nat := if layoutB tw then 8 else 16

/-- Space offset of slot `sl` of record `e` (R322). -/
def slotAddr (tw : List Word) (e sl : Nat) : Nat := recordPage tw + 0x1000 + e * (2 * slotBytes tw) + sl * slotBytes tw

/-! ## Records (R322, R323) -/

/-- W, M, V and AUX of a slot as FP32 codes; an F16b code is the upper half of the FP32 code of its value. -/
def readSlot (tw : List Word) (l : List Byte) : List Nat :=
  if layoutB tw then
    let v := ofBytes l
    [v % 2 ^ 32, bits v 32 16 * 2 ^ 16, bits v 48 15 * 2 ^ 16, 0]
  else [numAt l 0 4, numAt l 4 4, numAt l 8 4, numAt l 12 4]

/-- The bytes of a new slot; `rm` and `rv` are r of R63 for M and V (R323). -/
def writeSlot (tw rw : List Word) (w m v aux rm rv : Nat) : List Byte :=
  if layoutB tw then
    let mode := if wordField rw 7 7 1 = 1 then RSR else RNE
    let mc := (f16b.round mode rm true (fp32.decode m)).1
    let vc := (f16b.round mode rv true (fp32.decode v)).1
    toBytes 8 (w + mc * 2 ^ 32 + (vc % 2 ^ 15) * 2 ^ 48)
  else toBytes 4 w ++ toBytes 4 m ++ toBytes 4 v ++ toBytes 4 aux

/-! ## Causes -/

/-- Raises a cause of the UPDATE page with its capture. -/
def State.updCause (s : State) (bitNo tensor elem step : Nat) : State :=
  (s.capture F.UPDATE_CAPTURE_VALID fun t =>
    (((t.put F.UPDATE_CAPTURE_TENSOR tensor).put F.UPDATE_CAPTURE_EVENT bitNo).put F.UPDATE_CAPTURE_ELEM_ELEM elem).wr64
      A.UPDATE_CAPTURE_STEP step).raise .UPDATE 0 0 bitNo

/-! ## Checks at ACTIVE (R325, R326, R329, R330, R332) -/

/-- What the checks find. -/
inductive UpdCheck where
  /-- ends the collective with a collective status -/
  | end_ (status : Nat)
  /-- the commit word or hyperparameter block is unreadable: every chunk ends RESULT_LOST -/
  | lost
  /-- the step runs -/
  | go
  deriving DecidableEq, Repr

/-- Space offset of the step hyperparameter block of rule `r` and step `step`. -/
def State.hpAddr (s : State) (r step : Nat) : Nat := s.get F.UPDATE_CFG_HP_PAGE * 4096 + 128 * r + 64 * (step % 2)

/-- Tensor of a line's UPDATE of a SUB. -/
def State.lineTensor (s : State) (g sub : Nat) : Nat := s.get (F.UPDATE_LINE_TENSOR_BASE g) + sub

/-- A tensor has a step that runs or whose commit decision is pending (R326). -/
def State.tensorBusy (s : State) (t : Nat) : Bool := s.upd.shards.any fun h => h.tensor = t

/-- Adds a step in progress. -/
def State.addShard (s : State) (h : Shard) : State := { s with upd := { s.upd with shards := s.upd.shards ++ [h] } }

/-- Reads the hyperparameter block and the commit word and, where both allow it, opens the step (R325, R329, R332). A step whose
block or commit word is unreadable is a step all the same: it ends without a commit (R328, R329). -/
def State.openStep (s : State) (h : Shard) : UpdCheck × State :=
  let r := wordField h.tw 6 0 6
  let bad (t : State) : UpdCheck × State :=
    (.lost, (t.updCause K.UPDATE_RECORD_UE h.tensor 0xFFFFFFFF h.step).addShard h)
  match s.readSpace SP_STATE (s.hpAddr r h.step) 64 with
  | (none, t) => bad t
  | (some b, t) =>
    if numAt b 16 8 ≠ h.step then (.end_ 0x10, t.updCause K.UPDATE_HP_STALE h.tensor 0 h.step)
    else
      match t.readSpace SP_STATE (recordPage h.tw) 16 with
      | (none, t1) => bad t1
      | (some c, t1) =>
        if h.step ≠ numAt c 0 8 + 1 then (.end_ 0x13, t1.updCause K.UPDATE_STEP_REFUSED h.tensor 0 h.step)
        else
          let h1 := { h with hp := [numAt b 0 4, numAt b 4 4, numAt b 8 4, numAt b 12 4], live := numAt c 8 1 % 2,
                             commits := numAt c 12 4 }
          (.go, t1.addShard h1)

/-- Records of a module's shard of a collective tensor: its largest e and one (R322). -/
def shardRecords (elems chunk count index : Nat) : Nat :=
  let n := (elems + chunk - 1) / chunk
  if n ≤ index then 0
  else
    let c := index + (n - 1 - index) / count * count
    c / count * chunk + min chunk (elems - c * chunk)

/-- The checks of an UPDATE entry at a ROOT line as it becomes ACTIVE. -/
def State.updateActive (s : State) (e : Entry) (y : LineCopy) : UpdCheck × State :=
  let t := s.lineTensor e.line e.sub
  let tw := s.tensorWords t
  let rw := s.ruleWords (wordField tw 6 0 6)
  let pre := ruleKind rw == 3
  let ok := s.flag (F.UPDATE_LINE_TENSOR_VALID e.line) && decide (t ≤ 4095) && entryValid tw && !isLocal tw &&
    tensorElems tw == e.elems y && entryValid rw && decide (ruleKind rw ≤ 3) &&
    !(layoutB tw && (pre || ruleAms rw)) &&
    (!pre || (e.chunkLen y == 16384 && e.elems y % 16384 == 0 && decide (1 ≤ ruleIter rw ∧ ruleIter rw ≤ 64) &&
      ruleRefresh rw != 0))
  if !ok then (.end_ 0x10, s.updCause K.UPDATE_TENSOR_INVALID (t % 4096) 0 e.step)
  else
    let kept := (t, e.chunkLen y) :: s.upd.chunks.filter fun c => c.1 ≠ t
    ({ s with upd := { s.upd with chunks := kept } } : State).openStep
      { line := e.line, local_ := false, step := e.step, sub := e.sub, tensor := t, tw := tw, rw := rw, hp := []
        live := 0, commits := 0, seed := y.seed, flags := 0, held := 0, firstHeld := none, chunksOk := 0
        chunks := e.owned y, closed := false, next := 0
        recs := shardRecords (tensorElems tw) (max 1 (e.chunkLen y)) (max 1 y.shardCount) y.shardIndex
        count := max 1 y.shardCount, index := y.shardIndex }

/-- The step of a line's UPDATE entry. -/
def State.shardOf (s : State) (g step sub : Nat) : Option Shard :=
  s.upd.shards.find? fun h => h.line = g && h.step = step && h.sub = sub && !h.local_

/-- Stores a step in progress. -/
def State.setShard (s : State) (h : Shard) : State :=
  let l := s.upd.shards.map fun x =>
    if x.line = h.line ∧ x.step = h.step ∧ x.sub = h.sub ∧ x.local_ = h.local_ ∧ x.tensor = h.tensor then h else x
  { s with upd := { s.upd with shards := l } }

/-! ## The rules (R334, R335) -/

/-- Constants of a step. -/
structure StepConst where
  k : FV
  c1 : FV
  c2 : FV
  bc1 : FV
  bc2 : FV
  deriving DecidableEq, Repr

/-- The step constants (R334). -/
def stepConsts (h : Shard) : StepConst :=
  let t := min (h.step + 1 - tensorT0 h.tw) (2 ^ 32 - 1)
  let b1 := fv (h.rw.getD 0 0).toNat
  let b2 := fv (h.rw.getD 1 0).toNat
  let corr := wordField h.rw 7 6 1 == 1
  { k := fmul (fv (h.hp.getD 0 0)) (fv (h.hp.getD 3 0)), c1 := fsub f1 b1, c2 := fsub f1 b2,
    bc1 := if corr then fsub f1 (fpow b1 t) else f1, bc2 := if corr then fsub f1 (fpow b2 t) else f1 }

/-- Flags of the step constants. -/
def StepConst.flags (c : StepConst) : Nat := c.k.2 ||| c.c1.2 ||| c.c2.2 ||| c.bc1.2 ||| c.bc2.2

/-- The result of a rule at one element: W, M, V, AUX, whether it is held, and its flags. -/
structure ElemOut where
  w : Nat
  m : Nat
  v : Nat
  aux : Nat
  held : Bool
  flags : Nat
  deriving DecidableEq, Repr

/-- The scaled gradient g. -/
def scaledGrad (h : Shard) (g0 : Nat) : FV := fmul (fmul (fv g0) (fv (h.hp.getD 1 0))) (fv (h.hp.getD 2 0))

/-- The end of a rule: w′ from d, and the hold test: a value that is not finite, or a division by zero (R334, R335). -/
def ruleEnd (h : Shard) (kc : StepConst) (g0 : Nat) (g : FV) (w : Nat) (d m1 v1 aux1 : FV) : ElemOut :=
  let w1 := fsub (fv w) (fmul (kc.k.1, 0) (fv w))
  let w2 := fsub w1 (fmul (fv (h.hp.getD 0 0)) d)
  let fl := g.2 ||| w2.2 ||| m1.2 ||| v1.2 ||| aux1.2
  { w := w2.1, m := m1.1, v := v1.1, aux := aux1.1
    held := [g0, g.1, d.1, w2.1, m1.1, v1.1, aux1.1].any nonFinite || fl &&& FL_DIVZERO != 0
    flags := fl }

/-- A rule other than BLOCK_PRECOND at one element. -/
def ruleElem (h : Shard) (kc : StepConst) (g0 : Nat) (old : List Nat) : ElemOut :=
  let w := old.getD 0 0
  let m := fv (old.getD 1 0)
  let v := fv (old.getD 2 0)
  let b1 := fv (h.rw.getD 0 0).toNat
  let b2 := fv (h.rw.getD 1 0).toNat
  let g := scaledGrad h g0
  let c1 : FV := fv kc.c1.1
  let c2 : FV := fv kc.c2.1
  match ruleKind h.rw with
  | 0 =>
    let m1 := fadd (fmul b1 m) g
    let d := if wordField h.rw 7 4 1 = 1 then fadd (fmul b1 m1) g else m1
    ruleEnd h kc g0 g w d m1 (fv 0) (fv 0)
  | 1 =>
    let m1 := fadd (fmul b1 m) (fmul c1 g)
    let v1 := fadd (fmul b2 v) (fmul c2 (fmul g g))
    let aux1 := if ruleAms h.rw then fmax (fv (old.getD 3 0)) v1 else fv 0
    let vh := fdiv (if ruleAms h.rw then aux1 else v1) (fv kc.bc2.1)
    let d := fdiv (fdiv m1 (fv kc.bc1.1)) (fadd (fsqrt vh) (fv (h.rw.getD 2 0).toNat))
    ruleEnd h kc g0 g w d m1 v1 aux1
  | _ =>
    let d := fsign (fadd (fmul b1 m) (fmul c1 g))
    let m1 := fadd (fmul b2 m) (fmul c2 g)
    ruleEnd h kc g0 g w d m1 (fv 0) (fv 0)

/-! ## Block preconditioners (R337 to R340) -/

/-- A 128 × 128 matrix of FP32 codes, row-major. -/
abbrev Mat := List Nat

/-- Element of a matrix. -/
def Mat.at_ (a : Mat) (i j : Nat) : Nat := List.getD a (128 * i + j) 0

/-- A matrix from its elements. -/
def mkMat (f : Nat → Nat → Nat) : Mat := (List.range 16384).map fun n => f (n / 128) (n % 128)

/-- Flags that are sticky over elements. -/
def joined (l : List Nat) : Nat := l.foldl (· ||| ·) 0

/-- A · B in FP32 by split, without C0 (R71, R311, R338): the product and the flags of its elements. -/
def matmul128 (a b : Mat) : Mat × List Nat :=
  let r := (List.range 16384).map fun n =>
    dotN true 0 ((List.range 128).map fun k => (fp32.decode (a.at_ (n / 128) k), fp32.decode (b.at_ k (n % 128))))
  (r.map (·.1), r.map (·.2))

/-- Transpose. -/
def Mat.transpose (a : Mat) : Mat := mkMat fun i j => a.at_ j i

/-- VSCALE with scale x and y added on the diagonal, 0 elsewhere: one fused step per element (R311, R339). -/
def vscale128 (a : Mat) (x d : Nat) : Mat × List Nat :=
  let r := (List.range 16384).map fun n =>
    fp32.fma RNE (a.at_ (n / 128) (n % 128)) x (if n / 128 = n % 128 then d else 0)
  (r.map (·.1), r.map (·.2))

/-- Identity. -/
def idMat : Mat := mkMat fun i j => if i = j then 0x3F800000 else 0

/-- What inv_root4 finds: the matrix, the flags of the elements that its runs wrote, and those of the update pipe. -/
structure RootOut where
  mat : Mat
  runs : List Nat
  pipe : Nat
  deriving DecidableEq, Repr

/-- inv_root4 (R339). -/
def invRoot4 (sm : Mat) (eps iters : Nat) : RootOut :=
  let a0 := (List.range 128).foldl (fun a i => fadd a (fv (sm.at_ i i))) (fv 0)
  let a := fadd a0 (fmul (fv 0x43000000) (fv eps))
  let r := fdiv f1 a
  let q := fdiv f1 (fsqrt (fsqrt a))
  let e := fmul (fv eps) r
  let x0 := vscale128 sm r.1 e.1
  let st := (List.range iters).foldl (fun (z : Mat × Mat × List Nat) _ =>
    let t := vscale128 z.1 0xBE800000 0x3FA00000
    let t2 := matmul128 t.1 t.1
    let p := matmul128 z.2.1 t.1
    let t4 := matmul128 t2.1 t2.1
    let x := matmul128 t4.1 z.1
    (x.1, p.1, z.2.2 ++ t.2 ++ t2.2 ++ p.2 ++ t4.2 ++ x.2)) (x0.1, idMat, x0.2)
  let out := vscale128 st.2.1 q.1 0
  { mat := out.1, runs := st.2.2 ++ out.2, pipe := q.2 ||| e.2 }

/-- Space offset of matrix `n` of a tile: 0 to 3 SL, SR of slots 0 and 1; 4 + 4 × bank the bank's PL, PR, SLC, SRC. -/
def tileAddr (tw : List Word) (tile n : Nat) : Nat := extPage tw + 0xC0000 * tile + 0x10000 * n

/-- Reads a matrix of a tile. -/
def State.readMat (s : State) (tw : List Word) (tile n : Nat) : Option Mat × State :=
  match s.readSpace SP_STATE (tileAddr tw tile n) 65536 with
  | (some b, t) => (some ((List.range 16384).map fun i => numAt b (4 * i) 4), t)
  | (none, t) => (none, t)

/-- Writes a matrix of a tile. -/
def State.writeMat (s : State) (tw : List Word) (tile n : Nat) (m : Mat) : State :=
  s.writeSpace SP_STATE (tileAddr tw tile n) (m.flatMap (toBytes 4))

/-- Refresh period ⌊(s − T0)/REFRESH⌋ of a step. -/
def Shard.period (h : Shard) : Nat := (h.step - tensorT0 h.tw) / max 1 (ruleRefresh h.rw)

/-- A tile's APPLY waits for the refresh of the bank it uses (R340). -/
def State.refreshWait (s : State) (h : Shard) (tile : Nat) : Bool :=
  ruleKind h.rw == 3 && decide (2 ≤ h.period) &&
    s.upd.refreshes.any fun r => r.tensor = h.tensor && r.tile = tile && r.bank = (h.period - 2) % 2

/-- A bank of a tile holds preconditioners, or does not (DESIGN CHOICE, log 103). -/
def State.markBank (s : State) (tensor tile bank : Nat) (bad : Bool) : State :=
  let rest := s.upd.badBanks.filter fun b => b ≠ (tensor, tile, bank)
  { s with upd := { s.upd with badBanks := if bad then rest ++ [(tensor, tile, bank)] else rest } }

/-- Starts refresh `q` of a tile: the statistics of slot `live` are copied to the bank. Where they cannot be read the bank is left
without preconditioners (R339; log 103). -/
def State.startRefresh (s : State) (h : Shard) (live q tile : Nat) (copy : Bool) : State :=
  let bank := q % 2
  let r : Refresh := { tensor := h.tensor, tile := tile, bank := bank, tw := h.tw, rw := h.rw, recs := h.recs, step := h.step
                       coach := logicalCoach h.line (tile * h.count + h.index) h.step h.sub }
  let begin_ (t : State) : State := { t with upd := { t.upd with refreshes := t.upd.refreshes ++ [r] } }
  if copy then
    let a := s.readMat h.tw tile (2 * live)
    let b := a.2.readMat h.tw tile (2 * live + 1)
    match a.1, b.1 with
    | some sl, some sr => begin_ ((b.2.writeMat h.tw tile (6 + 4 * bank) sl).writeMat h.tw tile (7 + 4 * bank) sr)
    | _, _ => b.2.markBank h.tensor tile bank true
  else begin_ s

/-- Flags of a refresh join the tensor's next completion record (R336; DESIGN CHOICE, log 103). -/
def State.refreshFlags (s : State) (tensor fl : Nat) : State :=
  let old := match s.upd.refreshFlags.find? fun x => x.1 = tensor with | some x => x.2 | none => 0
  { s with upd := { s.upd with refreshFlags := (tensor, old ||| fl) :: s.upd.refreshFlags.filter fun x => x.1 ≠ tensor } }

/-- What the run of a refresh does: PL and PR are written from the copies; the flags of the elements that it wrote, or none where a
copy cannot be read (R69, R336, R339). -/
def State.refreshRun (s : State) (r : Refresh) : Option (List Nat) × State :=
  let a := s.readMat r.tw r.tile (6 + 4 * r.bank)
  let b := a.2.readMat r.tw r.tile (7 + 4 * r.bank)
  match a.1, b.1 with
  | some sl, some sr =>
    let root (m : Mat) : RootOut := invRoot4 m (r.rw.getD 3 0).toNat (ruleIter r.rw)
    let pl := root sl
    let pr := root sr
    let pipe := pl.pipe ||| pr.pipe
    let t := (b.2.writeMat r.tw r.tile (4 + 4 * r.bank) pl.mat).writeMat r.tw r.tile (5 + 4 * r.bank) pr.mat
    let t1 := t.refreshFlags r.tensor (joined (pl.runs ++ pr.runs) ||| pipe)
    (some (pl.runs ++ pr.runs), if pipe &&& FL_DIVZERO = 0 then t1 else t1.updCause K.UPDATE_DIVZERO r.tensor 0 r.step)
  | _, _ => (none, b.2)

/-- A refresh is over, and its bank holds preconditioners or, where its statistics could not be read, does not. -/
def State.endRefresh (s : State) (r : Refresh) (bad : Bool) : State :=
  let t : State := { s with upd := { s.upd with refreshes := s.upd.refreshes.filter fun x => x ≠ r } }
  (t.markBank r.tensor r.tile r.bank bad).bump A.UPDATE_REFRESHES (b2n (!bad))

/-! ## APPLY (R334 to R338, R344) -/

/-- Outcome of applying a rule to a run of elements: new weights and the state, or the index that was unreadable. -/
structure Applied where
  st : State
  weights : List Nat
  shard : Shard
  lost : Option Nat
  deriving DecidableEq, Repr

/-- Notes a held element in a step. -/
def Shard.hold (h : Shard) (elem : Nat) : Shard :=
  { h with held := h.held + 1, firstHeld := some (match h.firstHeld with | some f => min f elem | none => elem) }

/-- Reads slot LIVE of records `e0` to `e0 + n − 1`; an element index where one is unreadable. -/
def State.readSlots (s : State) (h : Shard) (e0 n : Nat) : Except Nat (List (List Byte)) × State :=
  (List.range n).foldl (fun (r : Except Nat (List (List Byte)) × State) i =>
    match r.1 with
    | .error _ => r
    | .ok l =>
      match r.2.readSpace SP_STATE (slotAddr h.tw (e0 + i) h.live) (slotBytes h.tw) with
      | (some b, t) => (.ok (l ++ [b]), t)
      | (none, t) => (.error i, t)) (.ok [], s)

/-- Writes the new slots of a run of elements, with holds, counters and causes (R335). `elem0` is the tensor element
index of the first, `e0` its record, `outs` the rule's results, `olds` the old slots. -/
def State.writeSlots (s : State) (h : Shard) (e0 elem0 : Nat) (olds : List (List Byte)) (outs : List ElemOut) : Applied :=
  let stream := wordField h.tw 7 16 16
  let r := (List.range outs.length).foldl (fun (a : Applied) i =>
    let o := outs.getD i { w := 0, m := 0, v := 0, aux := 0, held := true, flags := 0 }
    let old := olds.getD i []
    let dst := slotAddr h.tw (e0 + i) (1 - h.live)
    let elem := elem0 + i
    let sh := { a.shard with flags := a.shard.flags ||| o.flags }
    if o.held then
      let copy := if layoutB h.tw then toBytes 8 (ofBytes old % 2 ^ 63 + 2 ^ 63) else old
      { a with
        st := ((a.st.writeSpace SP_STATE dst copy).bump A.UPDATE_HELD_ELEMS 1).updCause K.UPDATE_HELD h.tensor elem h.step,
        weights := a.weights ++ [(readSlot h.tw old).getD 0 0], shard := sh.hold elem }
    else
      let rm := gen h.seed h.step stream elem
      let rv := gen h.seed h.step (stream + 1) elem
      { a with
        st := a.st.writeSpace SP_STATE dst (writeSlot h.tw h.rw o.w o.m o.v o.aux rm rv),
        weights := a.weights ++ [o.w], shard := sh })
    { st := s, weights := [], shard := h, lost := none }
  let st1 := (r.st.bump A.UPDATE_CHUNKS_APPLIED 1).bump A.UPDATE_ELEMS_APPLIED outs.length
  let div := outs.any fun o => o.flags &&& FL_DIVZERO ≠ 0
  { r with st := (if div then st1.updCause K.UPDATE_DIVZERO h.tensor 0 h.step else st1).setShard r.shard }

/-- Applies a rule other than BLOCK_PRECOND. -/
def State.applyPlain (s : State) (h : Shard) (e0 elem0 : Nat) (gs : List Nat) : Applied :=
  let kc := stepConsts h
  let h1 := { h with flags := h.flags ||| kc.flags }
  match s.readSlots h e0 gs.length with
  | (.error i, t) => { st := t, weights := [], shard := h, lost := some (elem0 + i) }
  | (.ok olds, t) =>
    t.writeSlots h1 e0 elem0 olds ((List.range gs.length).map fun i =>
      ruleElem h1 kc (gs.getD i 0) (readSlot h.tw (olds.getD i [])))

/-- What a tile's APPLY reads: the old slots, the statistics of slot LIVE, PL and PR (R338). -/
structure TileIn where
  olds : List (List Byte)
  sl : Mat
  sr : Mat
  pl : Mat
  pr : Mat
  deriving DecidableEq, Repr

/-- Reads what a tile's APPLY needs; the index of an element where something is unreadable or the bank holds no preconditioners
(R329, R338, R340). -/
def State.tileIn (s : State) (h : Shard) (e0 n : Nat) : Except Nat TileIn × State :=
  let tile := e0 / 16384
  let bank := (h.period - 2) % 2
  match s.readSlots h e0 n with
  | (.error i, t) => (.error i, t)
  | (.ok olds, t) =>
    let sl := t.readMat h.tw tile (2 * h.live)
    let sr := sl.2.readMat h.tw tile (2 * h.live + 1)
    if h.period < 2 then
      (match sl.1, sr.1 with | some a, some b => .ok ⟨olds, a, b, [], []⟩ | _, _ => .error 0, sr.2)
    else if s.upd.badBanks.contains (h.tensor, tile, bank) then (.error 0, sr.2)
    else
      let pl := sr.2.readMat h.tw tile (4 + 4 * bank)
      let pr := pl.2.readMat h.tw tile (5 + 4 * bank)
      (match sl.1, sr.1, pl.1, pr.1 with | some a, some b, some p, some q => .ok ⟨olds, a, b, p, q⟩ | _, _, _, _ => .error 0, pr.2)

/-- What a tile's APPLY computes up to D: g and M1 by the pipe; G·Gᵀ, Gᵀ·G, PL·M1 and D as runs (R321, R338). -/
structure TileOut where
  g : List FV
  m1 : List FV
  left : Mat × List Nat
  right : Mat × List Nat
  d1 : Mat × List Nat
  d : Mat × List Nat
  deriving DecidableEq, Repr

/-- The products of a tile (R338). -/
def tileOut (h : Shard) (i : TileIn) (gs : List Nat) : TileOut :=
  let kc := stepConsts h
  let b1 := fv (h.rw.getD 0 0).toNat
  let g := gs.map (scaledGrad h)
  let gm : Mat := g.map (·.1)
  let m1 := (List.range 16384).map fun n =>
    fadd (fmul b1 (fv ((readSlot h.tw (i.olds.getD n [])).getD 1 0))) (fmul (fv kc.c1.1) (fv (List.getD gm n 0)))
  let mm : Mat := m1.map (·.1)
  let d1 := if h.period < 2 then (mm, []) else matmul128 i.pl mm
  { g := g, m1 := m1, left := matmul128 gm gm.transpose, right := matmul128 gm.transpose gm, d1 := d1
    d := if h.period < 2 then (mm, []) else matmul128 d1.1 i.pr }

/-- Flags of the elements that the runs of a tile wrote. -/
def TileOut.runs (o : TileOut) : List Nat := o.left.2 ++ o.right.2 ++ o.d1.2 ++ o.d.2

/-- Applies BLOCK_PRECOND to a tile (R338). -/
def State.applyTile (s : State) (h : Shard) (e0 elem0 : Nat) (gs : List Nat) : Applied :=
  let kc := stepConsts h
  let tile := e0 / 16384
  match s.tileIn h e0 gs.length with
  | (.error i, t) => { st := t, weights := [], shard := h, lost := some (elem0 + i) }
  | (.ok x, t) =>
    let o := tileOut h x gs
    let b2 := fv (h.rw.getD 1 0).toNat
    let mixS (a b : Mat) : List FV := (List.range 16384).map fun i =>
      fadd (fmul b2 (fv (List.getD a i 0))) (fmul (fv kc.c2.1) (fv (List.getD b i 0)))
    let sl1 := mixS x.sl o.left.1
    let sr1 := mixS x.sr o.right.1
    let keep := (sl1 ++ sr1).any fun v => nonFinite v.1
    let fl := joined o.runs ||| joined ((sl1 ++ sr1).map (·.2)) ||| kc.flags
    let outs := (List.range gs.length).map fun i =>
      ruleEnd h kc (gs.getD i 0) (o.g.getD i (0, 0)) ((readSlot h.tw (x.olds.getD i [])).getD 0 0) (fv (List.getD o.d.1 i 0))
        (o.m1.getD i (0, 0)) (fv 0) (fv 0)
    ((t.writeMat h.tw tile (2 * (1 - h.live)) (if keep then x.sl else sl1.map (·.1))).writeMat h.tw tile (2 * (1 - h.live) + 1)
      (if keep then x.sr else sr1.map (·.1))).writeSlots { h with flags := h.flags ||| fl } e0 elem0 x.olds outs

/-- The tensor element index and record of a chunk's first element at a collective shard (R322). -/
def shardPlace (y : LineCopy) (e : Entry) (c : Nat) : Nat × Nat := (c / max 1 y.shardCount * e.chunkLen y, c * e.chunkLen y)

/-- g0 of a chunk's elements with the flags of its rounding (R333). -/
def Chunk.grads (ch : Chunk) : List (Nat × Nat) := (ch.values 0).1.map fun x => fp32.round RNE 0 false x

/-- Applies the rule of a chunk in APPLY and forms its publication (R329, R333, R344). -/
def State.applyChunk (s : State) (e : Entry) (y : LineCopy) (ch : Chunk) (h : Shard) : State :=
  let k := ch.key
  let n := ch.slots.length
  let g := ch.grads
  let fl := (ch.flags.merge (ch.values 0).2).merge (roundFlags (g.map fun c => clr c.2 FL_INVALID))
  let pl := shardPlace y e k.idx
  let a := if ruleKind h.rw = 3 then s.applyTile h pl.1 pl.2 (g.map (·.1)) else s.applyPlain h pl.1 pl.2 (g.map (·.1))
  match a.lost with
  | some elem => (a.st.updCause K.UPDATE_RECORD_UE h.tensor elem h.step).withdraw k 1 none
  | none =>
    let ws := a.weights.map fp32.decode
    let rs := e.rsr y k.idx
    let enc (b m : Nat) := encodeVec y.outFmt y.outMode y.outSat (fun i => rs (32 * b + i)) ((ws.drop (32 * b)).take (32 * m))
    let all := encodeVec y.outFmt y.outMode y.outSat rs ws
    let pk := a.st.resultPkts y k 0x3001 (n / 32) fun b m => (enc b m).1
    a.st.packResult e y ch (pk, fl.merge (roundFlags all.2))

/-! ## Local updates (R345) -/

/-- Elements per chunk of a local update. -/
abbrev LOCAL_CHUNK : Nat := 16384

/-- Writes elements `e0` on of an expert's weight vector (R60, R345); r of R63 from stream STREAM + 2 (R407). -/
def State.writeWeights (s : State) (tw : List Word) (seed step e0 : Nat) (ws : List Nat) : State :=
  let fmt := wordField tw 6 10 4
  let n := tensorElems tw
  let rs (i : Nat) : Nat := gen seed step (wordField tw 7 16 16 + 2) (e0 + i)
  let enc := (encodeVec fmt (wordField tw 6 14 3) true rs (ws.map fp32.decode)).1
  let codes := vecBytes fmt ws.length - (if isK fmt then ws.length / 32 else 0)
  let per := vecBytes fmt 32 - (if isK fmt then 1 else 0)
  let s1 := s.writeSpace SP_EXPERT (weightPage tw + e0 / 32 * per) (enc.take codes)
  if isK fmt then s1.writeSpace SP_EXPERT (weightPage tw + n / 32 * per + e0 / 32) (enc.drop codes) else s1

/-- Applies the next chunk of a local update; the last closes the step. -/
def State.localChunk (s : State) (h : Shard) : State :=
  let e0 := h.next * LOCAL_CHUNK
  let n := min LOCAL_CHUNK (tensorElems h.tw - e0)
  let h0 := { h with next := h.next + 1, closed := decide (h.chunks ≤ h.next + 1) }
  let s0 := s.bump A.UPDATE_LOCAL_CHUNKS 1
  if frozen h.tw then
    (s0.bump A.UPDATE_FROZEN_SKIPPED 1).setShard { h0 with chunksOk := h0.chunksOk + 1 }
  else
    match s0.readSpace SP_EXPERT (extPage h.tw + 4 * e0) (4 * n) with
    | (none, t) => t.setShard h0
    | (some b, t) =>
      let a := t.applyPlain h0 e0 e0 ((List.range n).map fun i => numAt b (4 * i) 4)
      match a.lost with
      | some elem => (a.st.setShard h0).updCause K.UPDATE_RECORD_UE h.tensor elem h.step
      | none => (a.st.writeWeights h.tw h.seed h.step e0 a.weights).setShard { a.shard with chunksOk := a.shard.chunksOk + 1 }

/-! ## Commit (R12, R328, R336) -/

/-- The update completion record. -/
def Shard.record (h : Shard) (committed : Bool) : List Byte :=
  toBytes 8 h.step ++ toBytes 1 (b2n (!committed)) ++
    toBytes 1 (h.flags &&& 15 ||| (if h.flags &&& FL_DIVZERO = 0 then 0 else 16)) ++ toBytes 2 0 ++ toBytes 4 h.held ++
    toBytes 4 (h.firstHeld.getD 0xFFFFFFFF) ++ toBytes 4 h.chunksOk ++ toBytes 4 h.chunks ++ toBytes 36 0

/-- The tiles of a shard under BLOCK_PRECOND. -/
def Shard.tiles (h : Shard) : List Nat := List.range h.chunks

/-- Ends a step: completion record, and the commit word where every chunk ended OK or OK_FROZEN. -/
def State.commitShard (s : State) (h : Shard) : State :=
  let ok := decide (h.chunksOk = h.chunks)
  let live := if frozen h.tw then h.live else 1 - h.live
  let pre := match s.upd.refreshFlags.find? fun x => x.1 = h.tensor with | some x => x.2 | none => 0
  let s0 : State := { s with upd := { s.upd with shards := s.upd.shards.filter fun x => x ≠ h
                                                 refreshFlags := s.upd.refreshFlags.filter fun x => x.1 ≠ h.tensor } }
  let s1 := s0.writeSpace SP_STATE (recordPage h.tw + 0x40) (({ h with flags := h.flags ||| pre } : Shard).record ok)
  if ok then
    let s2 := (s1.writeSpace SP_STATE (recordPage h.tw)
      (toBytes 8 h.step ++ toBytes 1 live ++ toBytes 3 0 ++ toBytes 4 (h.commits + 1))).bump A.UPDATE_COMMITS 1
    let n := h.step + 1 - tensorT0 h.tw
    if ruleKind h.rw = 3 ∧ ruleRefresh h.rw ≠ 0 ∧ n ≠ 0 ∧ n % ruleRefresh h.rw = 0 ∧ ¬ h.local_ ∧ tensorT0 h.tw ≤ h.step then
      h.tiles.foldl (fun t k => t.startRefresh h live (n / ruleRefresh h.rw - 1) k true) s2
    else s2
  else s1.bump A.UPDATE_STEPS_UNCOMMITTED 1

/-! ## Extents of a tensor (R322, R337, R342, R343) -/

/-- Indices of the entries of a table of which a word is listed as written: `base`, `stride` and `n` entries, word `w`. -/
def State.written (s : State) (base stride n w : Nat) : List Nat :=
  s.regs.filterMap fun r =>
    if base ≤ r.1 ∧ r.1 < base + stride * n ∧ (r.1 - base) % stride = 4 * w then some ((r.1 - base) / stride) else none

/-- The first line whose tensors include one (R330). -/
def State.tensorLine (s : State) (t : Nat) : Option Nat :=
  (s.written (A.UPDATE_LINE_TENSOR 0) 4 4096 0).find? fun g =>
    s.flag (F.UPDATE_LINE_TENSOR_VALID g) && decide (s.get (F.UPDATE_LINE_TENSOR_BASE g) ≤ t) &&
      decide (t ≤ s.get (F.UPDATE_LINE_TENSOR_BASE g) + 255)

/-- SHARD_COUNT and SHARD_INDEX that a tensor's line holds; a tensor that no line names is one shard. -/
def State.tensorShard (s : State) (t : Nat) : Nat × Nat :=
  match s.tensorLine t with
  | some g => (max 1 (s.get (F.COLL_GROUP_SHARD_COUNT g)), s.get (F.COLL_GROUP_SHARD_INDEX g))
  | none => (1, 0)

/-- Records of a tensor at this module outside a step: those of its shard, or of the whole local tensor. CHUNK is that of the
tensor's last UPDATE here; before the first, 16,384 (R322; DESIGN CHOICE, log 30). -/
def State.tensorRecords (s : State) (t : Nat) (tw : List Word) : Nat :=
  if isLocal tw then tensorElems tw
  else
    let ch := match s.upd.chunks.find? fun c => c.1 = t with | some c => max 1 c.2 | none => 16384
    shardRecords (tensorElems tw) ch (s.tensorShard t).1 (s.tensorShard t).2

/-- Tensors whose descriptor was committed, or that a step or a refresh holds. -/
def State.tensors (s : State) : List Nat :=
  (s.written (A.UPDATE_TENSOR 0) 32 4096 7 ++ s.upd.shards.map (·.tensor) ++ s.upd.refreshes.map (·.tensor)).eraseDups

/-- A range of STATE space touches the record page or the tile area that a descriptor, a rule set and a count of records give
(R322, R337). -/
def extentMeets (tw rw : List Word) (recs off n : Nat) : Bool :=
  let meet (a len : Nat) : Bool := decide (off < a + len ∧ a < off + n)
  meet (recordPage tw) (0x1000 + recs * 2 * slotBytes tw) ||
    (ruleKind rw == 3 && !isLocal tw && meet (extPage tw) (0xC0000 * ((recs + 16383) / 16384)))

/-- A range of STATE space touches a frozen tensor, by its registers (R342). -/
def State.touchesFrozen (s : State) (t off n : Nat) : Bool :=
  let tw := s.tensorWords t
  entryValid tw && frozen tw && extentMeets tw (s.ruleWords (wordField tw 6 0 6)) (s.tensorRecords t tw) off n

/-- The update of a step is ACTIVE or ENDING: a collective one until its entry leaves the queue, a local one until its commit
decision (R343). -/
def State.stepRuns (s : State) (h : Shard) : Bool :=
  h.local_ || match s.entry h.line h.step h.sub 0 with
    | some e => e.state == .active
    | none => false

/-- A range of STATE space touches a tensor of which an update or a refresh runs, by their copies (R331, R343). -/
def State.touchesRunning (s : State) (t off n : Nat) : Bool :=
  (s.upd.shards.any fun h => h.tensor = t && s.stepRuns h && extentMeets h.tw h.rw h.recs off n) ||
    s.upd.refreshes.any fun r => r.tensor = t && extentMeets r.tw r.rw r.recs off n

end Sys2Proof.Machine
end

