-- ==== Sys2Proof/Machine/Coach.lean ====
section
/-! DEFINITION. Cores, coaches and the matrix arrays (11_core_array.md, R296 to R320): sliver stores, descriptors,
the activation menu (R364), runs and their completion records, and substitution of coaches. -/

namespace Sys2Proof.Machine

/-! ## Activation menu (R364) -/

/-- Bits of the fixed-point fraction used for e^−x. -/
abbrev EXPBITS : Nat := 512

/-- e^−y in 2^−512 for an exact y ≥ 0 held as m × 2^e; 0 beyond y = 256. -/
def expNeg (m : Nat) (e : Int) : Nat :=
  let y : Nat := if 0 ≤ e + EXPBITS then m * 2 ^ (e + EXPBITS).toNat else m >>> (-(e + EXPBITS)).toNat
  if 256 * 2 ^ EXPBITS ≤ y then 0
  else
    let r : Int := -((y >>> 12 : Nat) : Int)
    let st := (List.range 80).foldl (fun (z : Int × Int) k =>
      let t := z.2 * r / (2 ^ EXPBITS : Nat) / ((k + 1 : Nat) : Int)
      (z.1 + t, t)) (((2 ^ EXPBITS : Nat) : Int), ((2 ^ EXPBITS : Nat) : Int))
    (List.range 12).foldl (fun x _ => (x * x) >>> EXPBITS) st.1.toNat

/-- a / b as an exact-enough value with a sticky bit. -/
def ratio (neg : Bool) (a b : Nat) : Num :=
  let q := (a <<< EXPBITS) / b
  .fin neg (2 * q + (if (a <<< EXPBITS) % b = 0 then 0 else 1)) (-(EXPBITS : Int) - 1)

/-- σ(x), correctly rounded to FP32. -/
def sigmoid (x : FV) : FV :=
  let one := 2 ^ EXPBITS
  let v := fp32.decode x.1
  let r : Num × Nat :=
    match v with
    | .nan sg => (.nan false, if sg then FL_INVALID else 0)
    | .inf n => (if n then .fin false 0 0 else .fin false 1 0, 0)
    | .fin n m e =>
      let t := if m = 0 then one else max 1 (expNeg m e)
      (if n then ratio false t (one + t) else ratio false one (one + t), 0)
  let o := fp32.round RNE 0 false r.1
  (o.1, x.2 ||| r.2 ||| o.2)

/-- tanh(x), correctly rounded to FP32. -/
def tanhF (x : FV) : FV :=
  let one := 2 ^ EXPBITS
  let v := fp32.decode x.1
  let r : Num × Nat :=
    match v with
    | .nan sg => (.nan false, if sg then FL_INVALID else 0)
    | .inf n => (.fin n 1 0, 0)
    | .fin n 0 _ => (.fin n 0 0, 0)
    | .fin n m e => let t := max 1 (expNeg m (e + 1)); (ratio n (one - t) (one + t), 0)
  let o := fp32.round RNE 0 false r.1
  (o.1, x.2 ||| r.2 ||| o.2)

/-- C1, C2 and C3 of R364. -/
def actC1 : FV := fv 0x3F4C422A
def actC2 : FV := fv 0x3D372713
def actC3 : FV := fv 0x3E095D4F

/-- tanh term of GELU_TANH. -/
def geluT (a : FV) : FV := tanhF (fmul actC1 (fadd a (fmul actC2 (fmul (fmul a a) a))))

/-- Forward activations, codes 0x00 to 0x02. -/
def activate (code : Nat) (a b : FV) : FV :=
  match code with
  | 0 => fmul (fmul a (sigmoid a)) b
  | 1 => fmul (fmul (fv 0x3F000000) a) (fadd f1 (geluT a))
  | _ => let r := fmax a (fv 0); fmul r r

/-- Backward activations, codes 0x10 to 0x12: da and db. -/
def activateD (code : Nat) (dh a b : FV) : FV × FV :=
  match code with
  | 0x10 =>
    let s := sigmoid a
    (fmul (fmul dh b) (fmul s (fadd f1 (fmul a (fsub f1 s)))), fmul dh (fmul a s))
  | 0x11 =>
    let t := geluT a
    let half := fv 0x3F000000
    (fmul dh (fadd (fmul half (fadd f1 t)) (fmul (fmul (fmul half a) (fsub f1 (fmul t t)))
      (fmul actC1 (fadd f1 (fmul actC3 (fmul a a)))))), fv 0)
  | _ => (fmul dh (fmul (fv 0x40000000) (fmax a (fv 0))), fv 0)

/-- A code of the menu. -/
def isActCode (c : Nat) : Bool := c < 3 || (decide (0x10 ≤ c) && decide (c < 0x13))

/-! ## Sliver stores (R297) -/

/-- Bytes of one sliver store. -/
abbrev SLIVER : Nat := 0xC000

/-- Place of a sliver store address among the coach's stores one after the other; none where it breaks R297. A range
runs on from a store's last granule to the next store's first (log 31). -/
def sliverPlace (a : Nat) : Option Nat :=
  if a % 16 = 0 ∧ a % 65536 < SLIVER ∧ a < 2 ^ 20 then some (a / 65536 * SLIVER + a % 65536) else none

/-- A range of a coach's sliver stores. -/
def sliverRange (a n : Nat) : Option Nat :=
  match sliverPlace a with
  | some p => if p + n ≤ 16 * SLIVER then some p else none
  | none => none

/-- What a read of a granule of the sliver stores finds (R380). -/
def CoachHid.gran (c : CoachHid) (g : Nat) : Synd := Machine.synd (Tab.get 0 c.synd g).toNat

/-- Stores a granule's syndrome. -/
def CoachHid.setSynd (c : CoachHid) (g v : Nat) : CoachHid := { c with synd := Tab.put 0 c.synd g (BitVec.ofNat 16 v) }

/-- The byte that a reader sees: a single data error is corrected (R380). -/
def CoachHid.byte (c : CoachHid) (a : Nat) : Byte :=
  let b := Tab.get 0 c.sliver a
  match c.gran (a / 16) with
  | .bit i => if i / 8 = a % 16 then b ^^^ BitVec.ofNat 8 (2 ^ (i % 8)) else b
  | _ => b

/-- Reads sliver bytes; none where a granule is uncorrectable. -/
def CoachHid.read (c : CoachHid) (p n : Nat) : Option (List Byte) :=
  if (granules p n).any fun g => !(c.gran g).usable then none
  else some ((List.range n).map fun i => c.byte (p + i))

/-- A granule's check word is made to fit again before it is written: whole, or in part over data that is corrected. One that is
uncorrectable stays so where it is written in part (R297, R381). -/
def CoachHid.heal (c : CoachHid) (p n g : Nat) : CoachHid :=
  if p ≤ 16 * g ∧ 16 * g + 16 ≤ p + n then c.setSynd g 0
  else match c.gran g with
    | .good => c
    | .check => c.setSynd g 0
    | .bit i => { c.setSynd g 0 with sliver := Tab.put 0 c.sliver (16 * g + i / 8) (c.byte (16 * g + i / 8)) }
    | _ => c

/-- Writes sliver bytes. -/
def CoachHid.write (c : CoachHid) (p : Nat) (l : List Byte) : CoachHid :=
  let c1 := (granules p l.length).foldl (fun h g => h.heal p l.length g) c
  { c1 with sliver := (List.range l.length).foldl (fun t i => Tab.put 0 t (p + i) (l.getD i 0)) c1.sliver }

/-- Data and check bits of a granule flip, and the address bits of what stands there differ (R379, R380). -/
def CoachHid.upset (c : CoachHid) (g data check addr : Nat) : CoachHid :=
  let cells := (bitList data 128).foldl (fun t i =>
    Tab.put 0 t (16 * g + i / 8) (Tab.get 0 t (16 * g + i / 8) ^^^ BitVec.ofNat 8 (2 ^ (i % 8)))) c.sliver
  { c with sliver := cells }.setSynd g ((Tab.get 0 c.synd g).toNat ^^^ checkWord data addr ^^^ (check % 65536))

/-! ## Vectors in sliver rows (R60, R310) -/

/-- Bits of an element code. -/
def codeBits (fmt : Nat) : Nat := (elemFmt fmt).bits

/-- Bytes of the elements of a row of `n`. -/
def rowElemBytes (fmt n : Nat) : Nat := (n * codeBits fmt + 7) / 8

/-- Bytes of a row of `n` elements with its scales. -/
def rowBytes (fmt n : Nat) : Nat := rowElemBytes fmt n + (if isK fmt then (n + 31) / 32 else 0)

/-- A row's elements as values. -/
def rowValues (fmt n : Nat) (l : List Byte) : List Num :=
  let w := codeBits fmt
  let v := ofBytes (l.take (rowElemBytes fmt n))
  (List.range n).map fun i =>
    let x := (elemFmt fmt).decode (bits v (w * i) w)
    if isK fmt then
      let sc := (l.getD (rowElemBytes fmt n + i / 32) 0).toNat
      if sc = 0xFF then .nan false else x.shift ((sc : Int) - 127)
    else x

/-- A row in a format, its bytes and the flags per element. -/
def rowEncode (fmt mode : Nat) (sat : Bool) (rs : Nat → Nat) (l : List Num) : List Byte × List Nat :=
  let w := codeBits fmt
  let pack (codes : List Nat) : List Byte :=
    toBytes ((codes.length * w + 7) / 8) ((List.range codes.length).foldl (fun v i => v + (codes.getD i 0) * 2 ^ (w * i)) 0)
  if isK fmt then
    let bs := blocks32 l
    let ps := (List.range bs.length).map fun b => packBlock fmt mode (fun i => rs (32 * b + i)) (bs.getD b [])
    (pack (ps.flatMap fun p => p.2.map (·.1)) ++ ps.flatMap (fun p => toBytes 1 p.1), ps.flatMap fun p => p.2.map (·.2))
  else
    let rd := (List.range l.length).map fun i => (elemFmt fmt).round mode (rs i) sat (l.getD i Num.zero)
    (pack (rd.map (·.1)), rd.map (·.2))

/-! ## Descriptors (R310 to R313) -/

/-- A descriptor's fields. -/
structure Desc where
  opc : Nat
  varies : Bool
  amode : Nat
  rnd : Nat
  sat : Bool
  accIn : Bool
  fa : Nat
  fb : Nat
  fc : Nat
  fc0 : Nat
  m : Nat
  n : Nat
  k : Nat
  a : Nat
  b : Nat
  c : Nat
  c0 : Nat
  lda : Nat
  ldb : Nat
  ldc : Nat
  stream : Nat
  elemBase : Nat
  stack : Nat
  args : List Byte
  deriving DecidableEq, Repr

/-- Reads the 64 bytes of a descriptor. -/
def readDesc (l : List Byte) : Desc :=
  let b0 := numAt l 0 1
  let b1 := numAt l 1 1
  { opc := b0 % 64, varies := bit b0 6, amode := b1 % 4, rnd := bits b1 2 3, sat := bit b1 5, accIn := bit b1 6
    fa := numAt l 2 1 % 16, fb := numAt l 2 1 / 16, fc := numAt l 3 1 % 16, fc0 := numAt l 3 1 / 16
    m := numAt l 4 2, n := numAt l 6 2, k := numAt l 8 4 % 2 ^ 24, a := numAt l 12 4 % 2 ^ 20, b := numAt l 16 4 % 2 ^ 20
    c := numAt l 20 4 % 2 ^ 20, c0 := numAt l 24 4 % 2 ^ 20, lda := numAt l 28 2, ldb := numAt l 30 2, ldc := numAt l 32 2
    stream := numAt l 34 2, elemBase := numAt l 36 4, stack := numAt l 40 6 % 2 ^ 44, args := slice l 48 8 }

/-- Operand pairs of the array (R70). -/
def arrayPair (a b : Nat) : Bool :=
  let eight (x : Nat) : Bool := decide (4 ≤ x ∧ x ≤ 7)
  (eight a && eight b) || (a == b && (a == 9 || a == 8 || a == 1 || a == 2 || a == 3))

/-- Arithmetic formats of the vector unit (R56). -/
def vectorFmt (f : Nat) : Bool := f == 1 || f == 2 || f == 3

/-- A format that an output may name. -/
def outFmtOk (f : Nat) : Bool := f ≤ 9

/-- Activation code of an ACTIVATE descriptor: ARGS[0]. -/
def Desc.actCode (d : Desc) : Nat := numAt d.args 0 1

/-- The activation reads operand B (R364). -/
def Desc.actUsesB (d : Desc) : Bool := d.actCode == 0 || d.actCode == 0x10

/-- The activation reads operand C0: the backward ones take dh from it (R364). -/
def Desc.actUsesC0 (d : Desc) : Bool := decide (0x10 ≤ d.actCode)

/-- Values per row that a TOPK or TOPK_APPROX keeps: ARGS[0]. -/
def Desc.topCount (d : Desc) : Nat := numAt d.args 0 1

/-- Bytes of a row that a TOPK or TOPK_APPROX writes: its values in FMT_C, then their indices in 32 bits (log 115). -/
def Desc.topBytes (d : Desc) : Nat := rowBytes d.fc d.topCount + 4 * d.topCount

/-- Bytes from the first to the last of `rows` rows of `cols` elements, `ld` elements apart. -/
def matBytes (rows ld cols fmt : Nat) : Nat := (rows - 1) * rowBytes fmt ld + rowBytes fmt cols

/-- The sliver ranges that a descriptor reads: (address, bytes). -/
def Desc.reads (d : Desc) : List (Nat × Nat) :=
  let a := (d.a, rowBytes d.fa d.k)
  let b := (d.b, rowBytes d.fb d.k)
  let c0 := (d.c0, rowBytes d.fc0 d.k)
  match d.opc with
  | 0x01 => [(d.a, matBytes d.m d.lda d.k d.fa), (d.b, matBytes d.n d.ldb d.k d.fb)] ++
      (if d.accIn then [(d.c0, matBytes d.m d.ldc d.n d.fc0)] else [])
  | 0x08 => [a, b, c0]
  | 0x09 => [a, b]
  | 0x0A => [a, b]
  | 0x0B => [a]
  | 0x0C => [a]
  | 0x0D => [a] ++ (if d.actUsesB then [b] else []) ++ (if d.actUsesC0 then [c0] else [])
  | 0x10 => [(d.a, matBytes d.m d.lda d.k d.fa)]
  | 0x11 => [(d.a, matBytes d.m d.lda d.k d.fa)]
  | 0x19 => [(d.a, d.k)]
  | _ => []

/-- The sliver range that a descriptor writes. -/
def Desc.wrote (d : Desc) : List (Nat × Nat) :=
  match d.opc with
  | 0x01 => [(d.c, matBytes d.m d.ldc d.n d.fc)]
  | 0x0D => [(d.c, (if d.actCode = 0x10 then 2 else 1) * rowBytes d.fc d.k)]
  | 0x10 => [(d.c, d.m * d.topBytes)]
  | 0x11 => [(d.c, d.m * d.topBytes)]
  | 0x18 => [(d.a, d.k)]
  | 0x19 => []
  | _ => [(d.c, rowBytes d.fc d.k)]

/-- The sliver ranges of a descriptor. -/
def Desc.ranges (d : Desc) : List (Nat × Nat) := d.reads ++ d.wrote

/-- Granules of the sliver stores that a descriptor reads. -/
def Desc.readGrans (d : Desc) : List Nat :=
  d.reads.flatMap fun r => match sliverPlace r.1 with | some p => granules p r.2 | none => []

/-- Formats and operand pairs (R56, R70). R70 pairs the array's operands only; the operands of a vector operation may
differ in format (DEDUCED, log 115); a format field that the operation does not use is not checked (DESIGN CHOICE, log 124). -/
def Desc.fmtOk (d : Desc) : Bool :=
  match d.opc with
  | 0x01 => arrayPair d.fa d.fb && outFmtOk d.fc && (!d.accIn || vectorFmt d.fc0)
  | 0x08 => vectorFmt d.fa && vectorFmt d.fb && vectorFmt d.fc0 && outFmtOk d.fc
  | 0x09 => vectorFmt d.fa && vectorFmt d.fb && outFmtOk d.fc
  | 0x0A => vectorFmt d.fa && vectorFmt d.fb && outFmtOk d.fc
  | 0x0B => vectorFmt d.fa && outFmtOk d.fc
  | 0x0C => outFmtOk d.fa && outFmtOk d.fc
  | 0x0D => vectorFmt d.fa && outFmtOk d.fc && isActCode d.actCode && (!d.actUsesB || vectorFmt d.fb) &&
      (!d.actUsesC0 || vectorFmt d.fc0)
  | 0x10 => vectorFmt d.fa && outFmtOk d.fc
  | 0x11 => vectorFmt d.fa && outFmtOk d.fc
  | _ => true

/-- Whether the sequencer refuses a descriptor (R312, R313). -/
def Desc.refused (d : Desc) : Bool :=
  !([0x01, 0x08, 0x09, 0x0A, 0x0B, 0x0C, 0x0D, 0x10, 0x11, 0x18, 0x19].contains d.opc) || !d.fmtOk ||
    (isK d.fc && d.n % 32 != 0) ||
    (d.ranges.any fun r => (sliverRange r.1 r.2).isNone) || (d.amode != 0 && d.opc != 0x01) ||
    (d.opc == 0x01 && d.amode == 0 && decide (4096 < d.m * d.n)) || d.varies != (d.opc == 0x11)

/-- What a descriptor did: outputs (place, bytes), flags, the outputs that raised INVALID, a free-value count. -/
structure DescOut where
  writes : List (Nat × List Byte)
  flags : Nat
  invalid : List Nat
  frees : Nat
  deriving DecidableEq, Repr

/-- Reads a row of an operand; none on an uncorrectable granule. -/
def CoachHid.row (c : CoachHid) (fmt base ld n i : Nat) : Option (List Num) :=
  match sliverPlace base with
  | none => none
  | some p => (c.read (p + i * rowBytes fmt ld) (rowBytes fmt n)).map (rowValues fmt n)

/-- Reads rows of an operand. -/
def CoachHid.rows (c : CoachHid) (fmt base ld n : Nat) : Nat → Option (List (List Num))
  | 0 => some []
  | k + 1 => match CoachHid.rows c fmt base ld n k, c.row fmt base ld n k with
    | some l, some r => some (l ++ [r])
    | _, _ => none

/-- An output row written at a place, with flags: row-major output indices from `base` on. -/
def outRow (d : Desc) (rsr : Nat → Nat) (place base : Nat) (vals : List (Num × Nat)) : DescOut :=
  let enc := rowEncode d.fc d.rnd d.sat (fun i => rsr (d.elemBase + base + i)) (vals.map (·.1))
  let fl := (List.range vals.length).map fun i => (vals.getD i (Num.zero, 0)).2 ||| enc.2.getD i 0
  { writes := [(place, enc.1)], flags := fl.foldl (· ||| ·) 0
    invalid := (List.range fl.length).filterMap fun i => if fl.getD i 0 &&& FL_INVALID = 0 then none else some (base + i)
    frees := 0 }

/-- Joins two results. -/
def DescOut.join (a b : DescOut) : DescOut :=
  ⟨a.writes ++ b.writes, a.flags ||| b.flags, a.invalid ++ b.invalid, a.frees + b.frees⟩

/-- Nothing. -/
def DescOut.none_ : DescOut := ⟨[], 0, [], 0⟩

/-- A vector operation over K elements: values of each operand give the output value and flags. -/
def CoachHid.elementwise (c : CoachHid) (d : Desc) (rsr : Nat → Nat) (ops : List (Nat × Nat)) (f : List Num → Num × Nat) :
    Option DescOut :=
  let rs := ops.map fun o => c.row o.1 o.2 d.k d.k 0
  if rs.any Option.isNone then none
  else
    let vs := rs.map fun r => r.getD []
    (sliverPlace d.c).map fun p =>
      outRow d rsr p 0 ((List.range d.k).map fun i => f (vs.map fun v => v.getD i Num.zero))

/-- The exact a × b + c of a vector operation with its INVALID; the one rounding is that of the output, in the
descriptor's mode with its SAT and, in RSR, the element's random word (R63, R64, R68; DEDUCED, log 115). 0 × ∞ raises
INVALID beside a quiet NaN addend too (DESIGN CHOICE, log 115). -/
def vecFma (mode : Nat) (a b c : Num) : Num × Nat :=
  let p := mulN a b
  let q := addN mode p.1 c
  (q.1, p.2 ||| q.2)

/-- A value as an FP32 operand. -/
def toFv (x : Num) : FV := fp32.round RNE 0 false x

/-- The indices of the `n` largest values, ties to the lower index. −0 lies below +0 and NaN below every number (DESIGN
CHOICE, log 115: R311 orders only the largest). -/
def topIdx (l : List Num) : Nat → List Nat → List Nat
  | 0, acc => acc
  | n + 1, acc =>
    let rest := (List.range l.length).filter fun i => !acc.contains i
    match rest with
    | [] => acc
    | a :: r =>
      let best := r.foldl (fun b i => if ltN (l.getD b Num.zero) (l.getD i Num.zero) ||
        ((l.getD b Num.zero).isNan && !(l.getD i Num.zero).isNan) then i else b) a
      topIdx l n (acc ++ [best])

/-- Executes a descriptor on a coach's sliver stores; none on an uncorrectable granule. COPY operations are apart.
`free` gives the values that a TOPK_APPROX leaves open (log 3). -/
def CoachHid.execute (c : CoachHid) (d : Desc) (seed step : Nat) (free : Nat → Nat) : Option DescOut :=
  let rsr := gen seed step d.stream
  let sc (o : Nat) : Num := fp32.decode (numAt d.args o 4)
  match d.opc with
  | 0x01 =>
    match c.rows d.fa d.a d.lda d.k d.m, c.rows d.fb d.b d.ldb d.k d.n,
        (if d.accIn then c.rows d.fc0 d.c0 d.ldc d.n d.m else some []), sliverPlace d.c with
    | some as, some bs, some cs, some p =>
      some ((List.range d.m).foldl (fun o i =>
        let ra := as.getD i []
        o.join (outRow d rsr (p + i * rowBytes d.fc d.ldc) (i * d.n) ((List.range d.n).map fun j =>
          let c0 := if d.accIn then fp32.round RNE 0 false ((cs.getD i []).getD j Num.zero) else (0, 0)
          let r := dotN (d.fa == 1) c0.1 (List.zip ra (bs.getD j []))
          (fp32.decode r.1, c0.2 ||| r.2)))) DescOut.none_)
    | _, _, _, _ => none
  | 0x08 => c.elementwise d rsr [(d.fa, d.a), (d.fb, d.b), (d.fc0, d.c0)] fun v =>
      vecFma d.rnd (v.getD 0 .zero) (v.getD 1 .zero) (v.getD 2 .zero)
  | 0x09 => c.elementwise d rsr [(d.fa, d.a), (d.fb, d.b)] fun v => addN d.rnd (v.getD 0 .zero) (v.getD 1 .zero)
  | 0x0A => c.elementwise d rsr [(d.fa, d.a), (d.fb, d.b)] fun v => mulN (v.getD 0 .zero) (v.getD 1 .zero)
  | 0x0B => c.elementwise d rsr [(d.fa, d.a)] fun v => vecFma d.rnd (v.getD 0 .zero) (sc 0) (sc 4)
  | 0x0C => c.elementwise d rsr [(d.fa, d.a)] fun v => (v.getD 0 .zero, 0)
  | 0x0D =>
    let code := d.actCode
    let ins := [(d.fa, d.a)] ++ (if d.actUsesB then [(d.fb, d.b)] else []) ++
      (if d.actUsesC0 then [(d.fc0, d.c0)] else [])
    let rs := ins.map fun o => c.row o.1 o.2 d.k d.k 0
    if rs.any Option.isNone then none
    else
      let v (n i : Nat) : FV := toFv ((((rs.getD n none).getD [])).getD i Num.zero)
      let outs := (List.range d.k).map fun i =>
        if code < 0x10 then (activate code (v 0 i) (v 1 i), fv 0)
        else activateD code (v (ins.length - 1) i) (v 0 i) (v 1 i)
      (sliverPlace d.c).map fun p =>
        let one := outRow d rsr p 0 (outs.map fun o => (fp32.decode o.1.1, o.1.2))
        if code = 0x10 then one.join (outRow d rsr (p + rowBytes d.fc d.k) d.k (outs.map fun o => (fp32.decode o.2.1, o.2.2)))
        else one
  | _ =>
    match c.rows d.fa d.a d.lda d.k d.m, sliverPlace d.c with
    | some rows, some p =>
      let kk := d.topCount
      let w := rowBytes d.fc kk
      some ((List.range d.m).foldl (fun o i =>
        let row := rows.getD i []
        let idx := if d.opc = 0x10 then topIdx row kk []
          else (List.range kk).map fun j => free (i * kk + j) % max 1 row.length
        let r := outRow d rsr (p + i * d.topBytes) (i * kk) (idx.map fun j => (row.getD j Num.zero, 0))
        let r2 : DescOut := ⟨[(p + i * d.topBytes + w, idx.flatMap (toBytes 4))], 0, [], 0⟩
        (o.join r).join r2) ⟨[], 0, [], if d.opc = 0x11 then d.m * kk else 0⟩)
    | _, _ => none

/-! ## Issue cycles (R299, R301) -/

/-- A core of a coach is fenced itself. -/
def State.coreFenced (s : State) (c k : Nat) : Bool := s.fencedSelf (dom 3 (16 * c + k))

/-- The array of core `k` takes work: it is enabled and its core is not fenced (R301, R435). -/
def State.arrayOn (s : State) (c k : Nat) : Bool :=
  (s.get (F.COACH_COACH_INFO_ARRAY_OK (c / 64) (c % 64))).testBit k && !s.coreFenced c k

/-- Arrays of a coach that take work. -/
def State.arraysOk (s : State) (c : Nat) : Nat := ((List.range 16).filter fun k => s.arrayOn c k).length

/-- The next core from `k` on, in ascending wrapping order, of those that are free to take a core's work (R301, R435). -/
def placeCore (on : Nat → Bool) (k : Nat) : Nat :=
  ((((List.range 16).map fun i => (k + i) % 16).find? fun j => on j)).getD k

/-- Core cycles of issue of an array descriptor. -/
def Desc.arrayCycles (d : Desc) (arrays : Nat) : Nat :=
  let g := (d.k + 31) / 32
  let rounds := (16 + max 1 arrays - 1) / max 1 arrays
  let step := match d.fa with | 9 => 4 | 2 => 16 | 3 => 16 | 1 => 96 | _ => 8
  match d.amode with
  | 1 => ((d.m + 31) / 32) * ((d.n + 31) / 32) * rounds * g * step
  | 2 => ((d.m + 7) / 8) * ((d.n + 7) / 8) * ((g * step * rounds + 15) / 16)
  | _ => ((d.m + 7) / 8) * ((d.n + 7) / 8) * g * step

/-- Core cycles of a vector descriptor: 32 FP32 or 64 packed operations a cycle. -/
def Desc.vectorCycles (d : Desc) : Nat :=
  let n := if d.opc = 0x10 ∨ d.opc = 0x11 then d.m * d.k else d.k
  if d.fa = 2 ∨ d.fa = 3 then (n + 63) / 64 else (n + 31) / 32

/-- Core that an output of a descriptor falls to (log 32): by rows and columns of its array in TILE32, else the run's core. -/
def Desc.writer (d : Desc) (core idx : Nat) : Nat :=
  if d.opc = 0x01 ∧ d.amode = 1 then 4 * ((idx / max 1 d.n / 8) % 4) + (idx % max 1 d.n / 8) % 4 else core

/-- Core that writes it: the work of a disabled array and that of a fenced core goes to the next one (R301, R435). -/
def State.writerOf (s : State) (c : Nat) (d : Desc) (core idx : Nat) : Nat :=
  placeCore (fun k => if d.opc = 0x01 then s.arrayOn c k else !s.coreFenced c k) (d.writer core idx)

/-! ## Runs (R308 to R317) -/

/-- A coach serves: some entry of its section's remap table names it, its section is UP, and it is not fenced. -/
def State.coachServes (s : State) (c : Nat) : Bool :=
  s.mach (.sect (c / 64)) == UP && !s.fenced (dom 2 c) &&
    (List.range 32).any fun l => s.get (F.SECTION_REMAP_PHYS (c / 64) l) = c % 64

/-- Queue depth of a queue. -/
def CoachHid.queued (c : CoachHid) (q : Nat) : Nat := (c.queues.filter fun r => r.queue = q).length

/-- The 32 bytes of a completion record. -/
def runRecord (r : Run) (status flags done : Nat) (first : Option Nat) (elem invalids err : Nat) : List Byte :=
  toBytes 4 r.tag ++ toBytes 1 status ++ toBytes 1 flags ++ toBytes 2 0 ++ toBytes 4 done ++
    toBytes 4 (first.getD 0xFFFFFFFF) ++ toBytes 4 elem ++ toBytes 4 invalids ++ toBytes 4 err ++ toBytes 4 0

/-- Writes bytes at a 44-bit fabric address of this module's stack memory. -/
def State.writeFabric (s : State) (a : Nat) (l : List Byte) : State := s.writeSpace (a / 2 ^ 40) (a % 2 ^ 40) l

/-- Reads bytes at a 44-bit fabric address of this module's stack memory. -/
def State.readFabric (s : State) (a n : Nat) : Option (List Byte) × State := s.readSpace (a / 2 ^ 40) (a % 2 ^ 40) n

/-- Counts and reports a run that has ended (R314, R316). -/
def State.countEnd (s : State) (c status : Nat) : State :=
  let p := c / 64
  let q := c % 64
  let s1 := s.bump (A.COACH_RUNS p q) 1
  match status with
  | 1 => (s1.bump (A.COACH_RUNS_ABORTED p q) 1).raise .COACH p q K.COACH_RUN_ABORTED
  | 2 => (s1.bump (A.COACH_RUNS_REFUSED p q) 1).raise .COACH p q K.COACH_RUN_REFUSED
  | 3 => s1.raise .COACH p q K.COACH_MEM_ERROR
  | _ => s1

/-- Writes the completion record of a run that has ended, then signals its requester (R314). -/
def State.recordRun (s : State) (c : Nat) (x : Running) (status err : Nat) : State :=
  let s1 := s.writeFabric x.run.record (runRecord x.run status x.flags x.done x.firstDesc x.firstElem x.invalids err)
  let h := s1.coach c
  let s2 := s1.setCoach c { h with signals := h.signals ++ [(x.run.queue, x.run.tag, status)] }
  if x.run.queue = 2 then s2.put (F.COACH_LAST_FW_TAG_TAG (c / 64) (c % 64)) x.run.tag else s2

/-- A run has ended: its record is written once the stacks serve, and the requester is signalled. A run of a station or of the
update engine leaves its outcome to its requester: where its record lies is given nowhere (R314, R397; log 105). -/
def State.closeRun (s : State) (c : Nat) (x : Running) (status err : Nat) : State :=
  let s1 : State :=
    if x.run.job ≠ .list then { s with stn := { s.stn with endings := s.stn.endings ++ [(x.run, status, x.done)] } }
    else if s.stacksServe then s.recordRun c x status err
    else s.setCoach c { s.coach c with late := (s.coach c).late ++ [(x, status, err)] }
  s1.countEnd c status

/-- Ends a running run of a coach (R314). -/
def State.endRun (s : State) (c : Nat) (x : Running) (status err : Nat) : State :=
  let h := s.coach c
  (s.setCoach c { h with running := h.running.filter (fun y => y ≠ x) }).closeRun c x status err

/-- The records that waited for the stacks are written (R314, R397). -/
def State.lateRecords (s : State) : State :=
  if !s.stacksServe then s
  else (s.coaches.filter fun p => p.2.late ≠ []).foldl (fun t p =>
    p.2.late.foldl (fun u r => u.recordRun p.1 r.1 r.2.1 r.2.2) (t.setCoach p.1 { t.coach p.1 with late := [] })) s

/-- A run as it starts. -/
def Run.start (r : Run) : Running :=
  { run := r, pc := 0, flags := 0, done := 0, firstDesc := none, firstElem := 0, invalids := 0, ending := none }

/-- Ends every queued run of a coach with a status (R304, R316, R320). -/
def State.endQueued (s : State) (c status : Nat) : State :=
  let h := s.coach c
  h.queues.foldl (fun t r => t.closeRun c r.start status 0xFFFFFFFF) (s.setCoach c { h with queues := [] })

/-- Ends every running run of a coach with a status. -/
def State.endRunning (s : State) (c status : Nat) : State :=
  (s.coach c).running.foldl (fun t x => t.endRun c x status 0xFFFFFFFF) s

/-- A run reaches a coach (R308, R316, R434). At a full queue a firmware submission is discarded with RUNQ_FULL; one of a
station or of the update engine waits behind the queue's 16 entries. -/
def State.submitRun (s : State) (c : Nat) (r : Run) : State :=
  let h := s.coach c
  if s.mach (.sect (c / 64)) ≠ UP ∨ s.fencedSelf (dom 2 c) then s.closeRun c r.start 4 0xFFFFFFFF
  else if r.queue = 2 ∧ 16 ≤ h.queued 2 then s.raise .COACH (c / 64) (c % 64) K.COACH_RUNQ_FULL
  else s.setCoach c { h with queues := h.queues ++ [r] }

/-- Cores of a coach are free for a run (R309). -/
def CoachHid.coresFree (c : CoachHid) (r : Run) : Bool :=
  if r.coachWide then c.running.isEmpty
  else c.running.all fun x => !x.run.coachWide && x.run.core != r.core

/-- The head of a queue. -/
def CoachHid.headRun (c : CoachHid) (q : Nat) : Option Run := c.queues.find? fun r => r.queue = q

/-- A substitution or return of a logical coach is pending. -/
def State.substPending (s : State) (sec l : Nat) : Bool :=
  s.flag (F.SECTION_SUBST_STATE_PENDING sec) && s.get (F.SECTION_SUBST_STATE_LOGICAL sec) == l

/-- Logical coach that a physical coach serves. -/
def State.logicalOf (s : State) (c : Nat) : Option Nat :=
  (List.range 32).find? fun l => s.get (F.SECTION_REMAP_PHYS (c / 64) l) = c % 64

/-- The run queues whose head may start, as the children of the coach arbiter (R193, R309). -/
def CoachHid.heads (c : CoachHid) : List Contender :=
  (List.range 3).filterMap fun q => match c.headRun q with
    | some r => if c.coresFree r then some ⟨q, 1, 1⟩ else none
    | none => none

/-- The head run that the coach arbiter grants next, one run start to a grant, with the arbiter moved on (R194, R195, R309). -/
def State.nextRun (s : State) (c : Nat) : Option (Run × Arb) :=
  let h := s.coach c
  let held := match s.logicalOf c with | some l => s.substPending (c / 64) l | none => true
  if !s.coachServes c || held then none
  else
    let r := (s.arb (.runs c)).serve 3 h.heads
    (r.1.bind h.headRun).map fun x => (x, r.2)

/-- Starts the head run that the coach arbiter grants; a queue that it leaves empty has a deficit of 0 (R195, R309). -/
def State.startRun (s : State) (c : Nat) : State :=
  let h := s.coach c
  match s.nextRun c with
  | some (r, a) =>
    let h1 := { h with queues := h.queues.erase r, running := h.running ++ [r.start] }
    (s.setCoach c h1).setArb (.runs c) (a.settle 3 ((List.range 3).filter fun q => (h1.headRun q).isSome))
  | none => s

/-- Notes what a descriptor did in its run (R89, R315). -/
def Running.note (x : Running) (d : Desc) (o : DescOut) : Running :=
  let fl := o.flags &&& (FL_INVALID + FL_OVERFLOW + FL_UNDERFLOW + FL_INEXACT)
  let lowest := o.invalid.foldl min (o.invalid.headD 0)
  { x with pc := x.pc + 1, done := x.done + 1, flags := x.flags ||| fl ||| (if d.varies then 16 else 0)
           firstDesc := if x.firstDesc.isSome ∨ o.invalid = [] then x.firstDesc else some x.pc
           firstElem := if x.firstDesc.isSome ∨ o.invalid = [] then x.firstElem else lowest
           invalids := x.invalids + o.invalid.length }

/-- Applies a descriptor's outputs to a coach, with its counters. -/
def State.applyOut (s : State) (c : Nat) (x : Running) (d : Desc) (o : DescOut) : State :=
  let p := c / 64
  let q := c % 64
  let h := s.coach c
  let h1 := o.writes.foldl (fun t w => t.write w.1 w.2) h
  let h2 := { h1 with running := h1.running.map fun y => if y = x then x.note d o else y }
  let s1 : State := { s.setCoach c h2 with free := s.free + o.frees }
  let s2 := s1.bump (A.COACH_DESCRIPTORS p q) 1
  let s3 := if d.opc = 0x01 then s2.bump (A.COACH_ARRAY_BUSY p q) (d.arrayCycles (s.arraysOk c))
    else if d.opc = 0x18 ∨ d.opc = 0x19 then s2 else s2.bump (A.COACH_VECTOR_BUSY p q) d.vectorCycles
  let s4 := if d.varies then s3.bump (A.COACH_VARIES_DESC p q) 1 else s3
  (List.range 16).foldl (fun t k =>
    t.bump (A.COACH_VX_INVALID p q k) (o.invalid.filter fun i => s.writerOf c d x.run.core i = k).length) s4

/-- Marks how a running run will end. -/
def State.setEnding (s : State) (c : Nat) (x : Running) (status err : Nat) : State :=
  let h := s.coach c
  s.setCoach c { h with running := h.running.map fun y => if y = x then { x with ending := some (status, err) } else y }

/-- Errors corrected in granules of a coach's stores are reported (R297). -/
def State.slivCorrected (s : State) (c : Nat) (gs : List Nat) : State :=
  (gs.filter fun g => ((s.coach c).gran g).ce).foldl (fun t _ => t.report 352 (dom 2 c) []) s

/-- Fetches, checks and executes the next descriptor of a run (R300, R310 to R316). -/
def State.issueDesc (s : State) (c : Nat) (x : Running) : State :=
  match s.readFabric ((x.run.list + 64 * x.pc) % 2 ^ 44) 64 with
  | (none, t) => t.setEnding c x 3 x.pc
  | (some l, u) =>
    let d := readDesc l
    if d.refused then u.setEnding c x 2 x.pc
    else
      let t := u.slivCorrected c d.readGrans
      let h := t.coach c
      match d.opc with
      | 0x18 =>
        (match t.readFabric d.stack d.k, sliverPlace d.a with
        | (some b, u), some p => u.applyOut c x d ⟨[(p, b)], 0, [], 0⟩
        | (_, u), _ => u.setEnding c x 3 x.pc)
      | 0x19 =>
        (match sliverPlace d.a with
        | none => t.setEnding c x 2 x.pc
        | some p => (match h.read p d.k with
          | some b => (t.writeFabric d.stack b).applyOut c x d DescOut.none_
          | none => t.setEnding c x 3 x.pc))
      | _ =>
        (match h.execute d x.run.seed x.run.step (fun i => Config.free (t.free + i)) with
        | some o => t.applyOut c x d o
        | none => t.setEnding c x 3 x.pc)

/-! ## Substitution (R302 to R307) -/

/-- COACH_INFO and MACHINE of every coach of a section follow the remap table (R24, R302, coach page fields). -/
def State.showCoaches (s : State) (sec : Nat) : State :=
  let up := s.mach (.sect sec) == UP
  let s1 := (List.range 33).foldl (fun t p =>
    let l := (List.range 32).find? fun l => t.get (F.SECTION_REMAP_PHYS sec l) = p
    let f := t.fstate (dom 2 (64 * sec + p))
    let m := if f = 3 then STOP else if f ≠ 0 then FENCED else if FENCED ≤ t.mach (.sect sec) then t.mach (.sect sec)
      else if up && l.isSome then UP else DOWN
    (((t.put (F.COACH_COACH_INFO_MAPPED sec p) (b2n l.isSome)).put (F.COACH_COACH_INFO_LOGICAL sec p) (l.getD 0)).put
      (F.COACH_COACH_INFO_SPARE sec p) (b2n (p == 32))).put (F.COACH_STATE_MACHINE sec p) m) s
  s1.put (F.SECTION_STATE_SPARE_IN_USE sec)
    (b2n ((List.range 32).any fun l => s1.get (F.SECTION_REMAP_PHYS sec l) = 32))

/-- The spare of a section is in use. -/
def State.spareInUse (s : State) (sec : Nat) : Bool := (List.range 32).any fun l => s.get (F.SECTION_REMAP_PHYS sec l) = 32

/-- Rewrites the remap entry of a logical coach. -/
def State.remap (s : State) (sec l p : Nat) : State := (s.put (F.SECTION_REMAP_PHYS sec l) p).showCoaches sec

/-- Logical coach numbered over the module. -/
def logicalNo (sec l : Nat) : Nat := 32 * sec + l

/-- Chunks at a logical coach. -/
def State.chunksAt (s : State) (L : Nat) : List Chunk := s.coll.chunks.filter fun c => c.coach = L

/-- A chunk in OPEN, ANCHOR or COMBINE starts again with fresh slots and records, and its sources are asked to resend
(R304). -/
def State.restartChunk (s : State) (c : Chunk) : State :=
  match s.entryOf c.key with
  | none => s
  | some e =>
    let y := s.line c.key.line
    let s1 : State := { s with coll := { s.coll with adding := s.coll.adding.filter fun p => p.key ≠ c.key } }
    let s2 := (s.coll.adding.filter fun p => p.key = c.key).foldl (fun t p => t.discard p.buf) s1
    let s3 := (s2.freeRecords c.key).freeSlots c.key 0
    let s4 := s3.setChunk { key := c.key, coach := c.coach, firstAt := c.firstAt, resendAt := some s3.clk
                            parentDone := c.parentDone }
    (e.suppliers y c.key.idx).foldl (fun t j =>
      let m := y.source j
      let req (u : State) (what : Nat) : State :=
        (u.lineSend c.key.line (u.linePkt 2 0x1006 m.node (e.tagOf j) (mkBody 30 [(0, 2, c.key.line), (2, 2, m.member),
          (4, 1, what), (6, 2, c.key.idx), (8, 1, c.key.sub), (18, 8, c.key.step)]))).bump A.COLL_RESEND_REQS 1
      if e.usesTt y || m.isLine then req (req t 2) 3 else req t 3) s4

/-- Settles the work of a coach that fails, then maps the spare in its place (R303, R304). -/
def State.substitute (s : State) (sec l : Nat) : State :=
  let old := s.get (F.SECTION_REMAP_PHYS sec l)
  let c := 64 * sec + old
  let s1 := (s.endQueued c 1).endRunning c 1
  let s2 := s1.inOrder fun u => (u.chunksAt (logicalNo sec l)).foldl (fun t ch =>
    match ch.stage with
    | .opening => if ch.status.isNone then t.restartChunk ch else t
    | .anchor => t.restartChunk ch
    | .combine => t.restartChunk ch
    | _ => if ch.status.isNone then t.withdraw ch.key 1 none else t) u
  let s3 := ((s2.put (F.SECTION_SUBST_STATE_PENDING sec) 0).stopTimer { kind := .substLimit, a := sec }).remap sec l 32
  (s3.bump (A.SECTION_SUBSTITUTIONS sec) 1).raise .SECTION sec 0 K.SECTION_COACH_FAILED

end Sys2Proof.Machine
end

