-- ==== Sys2Proof/Machine/Tickets.lean ====
section
/-! DEFINITION. Tickets (09_collectives.md, R240 to R246, and R352 to R355 for stations): their hashes and tests, the
entry they join, and the line ticket that goes up. -/

namespace Sys2Proof.Machine

/-- HASH of a collective ticket (R241). -/
def Pkt.ticketHash (k : Pkt) : Nat :=
  crc32 (slice k.hdr 32 2 ++ slice k.hdr 36 2 ++ slice k.hdr 40 4 ++ slice k.hdr 48 2 ++ slice k.hdr 50 8 ++ slice k.hdr 38 1)

/-- HASH of a station ticket (R354). -/
def Pkt.stationHash (k : Pkt) : Nat :=
  crc32 (slice k.hdr 32 2 ++ slice k.hdr 36 3 ++ toBytes 1 (k.byte 39 &&& 0x0C) ++ slice k.hdr 40 2 ++ slice k.hdr 44 2 ++
    slice k.hdr 50 8)

/-- Test 3 of R242: the fields of a collective ticket. -/
def ticketFormed (y : LineCopy) (k : Pkt) : Bool :=
  let op := k.byte 36 % 16
  let red := bits (k.byte 36) 4 2
  let varies := bit (k.byte 36) 6
  let inF := k.byte 37 % 16
  let outF := k.byte 37 / 16
  let elems := k.num 40 4
  let ch := k.num 48 2
  let seg := y.groupMembers * ch
  decide (op ≤ 8) &&
    (if op = 2 ∨ op = 3 ∨ op = 5 ∨ op = 6 ∨ op = 7 ∨ op = 8 then red == 0 else true) && varies == (red == 1) &&
    isReduceIn inF && outF == y.outFmt && (!(op == 2 || op == 3 || op == 5) || inF == outF) &&
    (if op = 6 then elems == 0 && ch == 0
      else ch % 32 == 0 && decide (32 ≤ ch ∧ ch ≤ 16384) && elems != 0 && elems % 32 == 0 && decide (elems ≤ 65536 * ch)) &&
    (if op = 1 ∨ op = 2 then elems % max 1 seg == 0
      else if op = 3 then elems == y.groupMembers * y.capacity && y.capacity % max 1 ch == 0 else true) &&
    k.num 58 4 == k.ticketHash

/-- Test 3 of R355: the fields of a station ticket. `nexp` is STATION_LINE's NEXP where it is VALID. -/
def stationTicketFormed (y : LineCopy) (j : Nat) (nexp : Option Nat) (k : Pkt) : Bool :=
  let op := k.byte 36 % 16
  let n := k.num 40 2
  let below := k.num 42 2
  let nmb := k.num 44 2
  let last := bit (k.byte 39) 3
  let need := if k.isLine then below * (6 + 2 * n) else 2 * n
  (op == 9 || op == 10) && !bit (k.byte 36) 6 && decide (1 ≤ k.byte 37 % 16 ∧ k.byte 37 % 16 ≤ 9) && decide (k.byte 37 / 16 ≤ 7) &&
    decide (1 ≤ n ∧ n ≤ 1024 ∧ 1 ≤ nmb ∧ nmb ≤ 256 ∧ k.sub < nmb) && (!last || (op == 10 && k.sub + 1 == nmb)) &&
    decide (need ≤ 4096) && k.pay == (need + 255) / 256 && below == (if k.isLine then (y.source j).below else 1) &&
    k.num 46 4 == k.stationHash && (!y.isRoot || nexp == some n)

/-- What becomes of a ticket. -/
inductive TixVerdict where
  | refuse (code : Nat)
  | dup
  | join (j : Nat)
  deriving DecidableEq, Repr

/-- The tests of R242 in order; `formed` is test 3. -/
def State.judgeTicket (s : State) (k : Pkt) (fam : Nat) (formed : LineCopy → Nat → Bool) : TixVerdict :=
  let g := k.group
  let m := s.mach (.line g)
  if m = DOWN ∨ m = STARTING then .refuse 0x10
  else if m ≠ UP then .refuse 0x03
  else
    let y := s.line g
    match y.findSource k.src k.member k.isLine with
    | none => .refuse 0x11
    | some j =>
      if !formed y j then .refuse 5
      else
        let e := s.entry g k.step k.sub fam
        let held := match e with | some e => (e.ticket j).isSome | none => false
        let old := s.coll.ended.any fun r =>
          r.line == g && r.step == k.step && r.sub == k.sub && r.fam == fam && r.sources.contains j
        if held || old then .dup
        else if e.isNone && decide (64 ≤ (s.lineEntries g).length) then .refuse 0x12
        else .join j

/-- The mismatch map of an entry: sources whose HASH differs from the reference, once that has arrived, and children that
found a mismatch below (R244). -/
def Entry.mismatches (e : Entry) (y : LineCopy) : List Nat :=
  let ref := e.ticket y.refSrc
  y.sources.filter fun j =>
    match e.ticket j with
    | none => false
    | some t => t.below || (match ref with | some r => t.hash != r.hash | none => false)

/-- The records of a station ticket that a line sends up (R353). -/
def Entry.stationRecords (e : Entry) (y : LineCopy) (nexp : Nat) : List Byte :=
  y.byMember.flatMap fun j =>
    match e.ticket j with
    | none => []
    | some t =>
      if (y.source j).isLine then t.payload.take ((y.source j).below * (6 + 2 * nexp))
      else toBytes 2 (y.source j).node ++ toBytes 4 t.tag ++ slice t.payload 0 (2 * nexp)

/-- ATTEMPT of the line ticket to a parent module (R148). -/
def Entry.attemptTo (e : Entry) (dst : Nat) : Nat :=
  match e.attempts.find? fun a => a.1 = dst with | some a => a.2 | none => 0

/-- The line ticket of an entry (R245, R353). -/
def State.lineTicket (s : State) (e : Entry) (y : LineCopy) (dst : Nat) : Pkt :=
  match e.ticket y.refSrc with
  | none => s.linePkt 0 0x1001 dst e.upTag []
  | some r =>
    let flags := (r.num 39 1 &&& 0x0C) + 1 + 2 * b2n (!e.mismatch.isEmpty)
    let b0 := toBytes 2 e.line ++ toBytes 2 y.lowest ++ slice r.body 4 3 ++ toBytes 1 flags
    let k :=
      if e.fam = 0 then
        s.linePkt 0 0x1001 dst e.upTag (b0 ++ slice r.body 8 4 ++ toBytes 4 0 ++ slice r.body 16 14)
      else
        let n := r.num 40 2
        let below := (y.members.map (·.below)).sum
        mkPkt true 0 false 0x2001 dst s.node 0 0 e.upTag (b0 ++ slice r.body 8 2 ++ toBytes 2 below ++ slice r.body 12 14)
          (e.stationRecords y n)
    (k.patch 3 (toBytes 1 (k.byte 3 % 16 + 16 * min 15 (e.attemptTo dst)))).seal

/-- Sends an entry's line ticket to a module. -/
def State.sendTicketUp (s : State) (e : Entry) (y : LineCopy) (dst : Nat) : State := s.lineSend e.line (s.lineTicket e y dst)

/-- Every ticket of an entry has arrived: it becomes MATCHED; a line with a parent sends its ticket up, and a ROOT with a
mismatch ends the collective (R245 to R247). -/
def State.matched (s : State) (e : Entry) (y : LineCopy) : State :=
  let e1 := { e with state := .matched, order := s.coll.nextOrder }
  let s1 : State := { s with coll := { s.coll with nextOrder := s.coll.nextOrder + 1 } }
  if y.isRoot then
    let s2 := s1.setEntry e1
    if e1.mismatch.isEmpty then s2 else s2.endCollective e1 0x10 [] false false
  else
    let tag := (s1.coll.lastTag + 1) % 2 ^ 32
    let e2 := { e1 with upTag := tag }
    let s2 : State := { s1 with coll := { s1.coll with lastTag := tag } }
    y.parentNodes.foldl (fun t n => t.sendTicketUp e2 y n) (s2.setEntry e2)

/-- A ticket joins the entry of its step counter (R243, R244). -/
def State.joinTicket (s : State) (k : Pkt) (j fam hash : Nat) : State :=
  let g := k.group
  let y := s.line g
  let t : Tix := { src := j, tag := k.tag, hash := hash, below := k.isLine && bit (k.byte 39) 1
                   body := slice k.hdr 32 30, payload := k.payload }
  let s1 := if (s.entry g k.step k.sub fam).isSome then s
    else { s with coll := { s.coll with entries := s.coll.entries ++
      [{ line := g, step := k.step, sub := k.sub, fam := fam, since := s.clk, resendAt := s.clk }] } }
  match s1.entry g k.step k.sub fam with
  | none => s1
  | some e =>
    let e1 := { e with tix := e.tix ++ [t] }
    let e2 := { e1 with mismatch := e1.mismatches y }
    let s2 := (s1.setEntry e2).bump A.COLL_TICKETS 1
    if y.sources.all fun i => (e2.ticket i).isSome then s2.matched e2 y else s2

/-- A ticket is tested and joins, is discarded, or is refused (R242). -/
def State.takeTicket (s : State) (o : Nat) (k : Pkt) (fam hash : Nat) (formed : LineCopy → Nat → Bool) : State :=
  match s.judgeTicket k fam formed with
  | .refuse c =>
    ((s.originate o (s.errorPkt k c)).bump A.COLL_TICKETS_REFUSED 1).lineRaise k.group K.COLL_TICKET_REFUSED
  | .dup => s.bump A.COLL_TICKETS_DUP 1
  | .join j => s.joinTicket k j fam hash

end Sys2Proof.Machine
end

