-- ==== Sys2Proof/Machine/Station.lean ====
section
/-! DEFINITION. Expert stations (13_stations.md, R348 to R376): checks at ACTIVE, admission and the arena, token rows,
forward and backward computation, combines and the return ring, replicas and weight rebuilds. -/

namespace Sys2Proof.Machine

/-! ## Experts (R348, R349) -/

/-- Width D. -/
def Work.dim (w : Work) (k : Nat) : Nat := 32 * w.expertField k 1 0 10

/-- Hidden width H. -/
def Work.hidden (w : Work) (k : Nat) : Nat := 32 * w.expertField k 1 16 10

/-- Capacity in rows. -/
def Work.cap (w : Work) (k : Nat) : Nat := 32 * w.expertField k 2 0 12

/-- Section of the expert's station. -/
def Work.sectionOf (w : Work) (k : Nat) : Nat := w.expertField k 0 12 4

/-- Update tensor. -/
def Work.tensor (w : Work) (k : Nat) : Nat := w.expertField k 0 0 12

/-- ACT: 0 SWIGLU, 1 GELU_TANH, 2 RELU_SQ. -/
def Work.act (w : Work) (k : Nat) : Nat := w.expertField k 0 28 2

/-- Sets a cause of the STATION page in a section's domain, with its capture. -/
def State.stnCause (s : State) (bitNo g x step : Nat) : State :=
  (s.capture F.STATION_CAPTURE_VALID fun t =>
    (((t.put F.STATION_CAPTURE_LINE g).put F.STATION_CAPTURE_EVENT bitNo).put F.STATION_CAPTURE_EXPERT x).wr64
      A.STATION_CAPTURE_STEP step).raise .STATION (s.get (F.STATION_EXPERT_SECTION x)) 0 bitNo

/-! ## Records and admission (R353, R358) -/

/-- Member records of an entry: member, NODE, TAG, counts. -/
def Entry.records (e : Entry) (y : LineCopy) (nexp : Nat) : List (Nat × Nat × Nat × List Nat) :=
  y.byMember.flatMap fun j =>
    let m := y.source j
    match e.ticket j with
    | none => []
    | some t =>
      let counts (o : Nat) : List Nat := (List.range nexp).map fun k => numAt t.payload (o + 2 * k) 2
      if m.isLine then (List.range m.below).map fun i =>
        let o := i * (6 + 2 * nexp)
        (m.member + i, numAt t.payload o 2, numAt t.payload (o + 2) 4, counts (o + 6))
      else [(m.member, m.node, t.tag, counts 0)]

/-- Admission of one expert of a capacity: (member, expert, base, adm) of every record, and the rows filled. -/
def admitExpert (recs : List (Nat × Nat × Nat × List Nat)) (k cap : Nat) : List (Nat × Nat × Nat × Nat) × Nat :=
  recs.foldl (fun (a : List (Nat × Nat × Nat × Nat) × Nat) r =>
    let n := min (r.2.2.2.getD k 0) (cap - a.2)
    (a.1 ++ [(r.1, k, a.2, n)], a.2 + n)) ([], 0)

/-- base and adm of a member and expert. -/
def Work.admitted (w : Work) (m k : Nat) : Nat × Nat :=
  match w.adm.find? fun a => a.1 = m ∧ a.2.1 = k with
  | some a => a.2.2
  | none => (0, 0)

/-- Record of a member. -/
def Work.rec_ (w : Work) (m : Nat) : Option (Nat × Nat × List Nat) := (w.recs.find? fun r => r.1 = m).map (·.2)

/-! ## Checks at ACTIVE (R356, R357, R369) -/

/-- What the checks of a station entry find. -/
inductive StnCheck where
  /-- an expert is being updated or awaits its rebuild -/
  | wait
  /-- a condition of R356 fails at an expert -/
  | invalid (x : Nat)
  /-- an expert's commit word names another step -/
  | uncommitted (x : Nat)
  /-- a commit word could not be read -/
  | lost (tensor : Nat)
  /-- no saved DISPATCH for a COMBINE -/
  | noSaved (x : Nat)
  | go
  deriving DecidableEq, Repr

/-- Experts that an entry's line names. -/
def State.lineExperts (s : State) (g : Nat) : List Nat :=
  (List.range (s.get (F.STATION_STATION_LINE_NEXP g))).map (s.get (F.STATION_STATION_LINE_EXPERT_BASE g) + ·)

/-- Operand formats of R356; a COMBINE's gradients are converted to F16b, so any array operand serves (log 34). -/
def stationFormats (op inFmt hid wf outFmt : Nat) : Bool :=
  (if op = 9 then arrayPair inFmt wf else decide (1 ≤ inFmt ∧ inFmt ≤ 9)) && arrayPair hid wf && isReduceIn outFmt

/-- Conditions of R356 at one expert. -/
def State.expertOk (s : State) (e : Entry) (y : LineCopy) (x : Nat) : Bool :=
  let t := s.get (F.STATION_EXPERT_TENSOR x)
  let tw := s.tensorWords t
  let d := 32 * s.get (F.STATION_EXPERT_DW x)
  let h := 32 * s.get (F.STATION_EXPERT_HW x)
  let pools := (List.range 16).flatMap fun i => (List.range 33).map fun p => 64 + 64 * i + p
  decide (x < 1024) && s.flag (F.STATION_EXPERT_VALID x) && s.mach (.station (s.get (F.STATION_EXPERT_SECTION x))) == UP &&
    decide (s.get (F.STATION_EXPERT_COACH_FIRST x) + s.get (F.STATION_EXPERT_COACH_COUNT x) ≤ 32) &&
    s.get (F.STATION_EXPERT_COACH_COUNT x) != 0 && entryValid tw && isLocal tw &&
    tensorElems tw == (if s.get (F.STATION_EXPERT_ACT x) = 0 then 3 else 2) * d * h &&
    stationFormats (e.op y) (e.inFmt y) (s.get (F.STATION_EXPERT_HID_FMT x)) (wordField tw 6 10 4) (e.num y 37 1 / 16) &&
    pools.all fun k => decide (d ≤ s.rd (A.POOL_QUOTA k 1))

/-- Reads the commit words of a list of experts in order. -/
def State.commitWords (s : State) (step : Nat) : List Nat → StnCheck × State
  | [] => (.go, s)
  | x :: l =>
    let t := s.get (F.STATION_EXPERT_TENSOR x)
    match s.readSpace SP_STATE (recordPage (s.tensorWords t)) 16 with
    | (none, u) => (.lost t, u)
    | (some b, u) =>
      if numAt b 0 8 ≠ (step + 2 ^ 64 - 1) % 2 ^ 64 then (.uncommitted x, u) else State.commitWords u step l

/-- The checks of a station entry at its ROOT line. -/
def State.stationCheck (s : State) (e : Entry) (y : LineCopy) : StnCheck × State :=
  let xs := s.lineExperts e.line
  if xs.any fun x => s.stn.updating.contains x || s.flag (F.STATION_EXPERT_STALE x) then (.wait, s)
  else
    match xs.find? fun x => !s.expertOk e y x with
    | some x => (.invalid x, s)
    | none =>
      if 65536 < y.groupMembers * xs.length then (.invalid (xs.headD 0), s)
      else
        match s.commitWords e.step xs with
        | (.go, t) => (if e.op y = 10 ∧ (s.savedWork e.line e.step e.sub).isNone then .noSaved (xs.headD 0) else .go, t)
        | r => r

/-! ## The arena (R372) -/

/-- Blocks of 4 MiB for a number of bytes. -/
def blocksOf (n : Nat) : Nat := (n + MIB4 - 1) / MIB4

/-- Bytes of one row in the entry's IN_FMT. -/
def Work.rowSize (w : Work) (k : Nat) : Nat := vecBytes w.inFmt (w.dim k)

/-- Blocks for the rows of an expert. -/
def Work.rowBlocks (w : Work) (k : Nat) : Nat := blocksOf (w.filled.getD k 0 * w.rowSize k)

/-- Blocks for an expert: rows, and the row table of a DISPATCH. -/
def Work.need (w : Work) (k : Nat) : Nat :=
  w.rowBlocks k + (if w.op = 9 then blocksOf (w.filled.getD k 0 * 16) else 0)

/-- Cuts a list into pieces of given lengths. -/
def cutList {α : Type} : List Nat → List α → List (List α)
  | [], _ => []
  | n :: l, r => r.take n :: cutList l (r.drop n)

/-- The work of an entry as it asks for its blocks, with EXPERT and STATION_LINE as they stand (R36). A COMBINE has the
admission and the counts of its saved DISPATCH, and the members' NODE and TAG of its own tickets (R353, R366, R369). -/
def State.newWork (s : State) (e : Entry) (y : LineCopy) : Work :=
  let xs := s.lineExperts e.line
  let w0 : Work := { line := e.line, step := e.step, sub := e.sub, op := e.op y, sline := s.word (A.STATION_STATION_LINE e.line)
                     experts := xs.map fun x => (List.range 8).map fun i => s.word (A.STATION_EXPERT x + 4 * i)
                     inFmt := e.inFmt y, outFmt := e.num y 37 1 / 16, recs := e.records y xs.length, adm := [], filled := []
                     blocks := [], granted := false, rows := [], tiles := [], z := [], gg := [], combined := [], rets := []
                     flags := [none, none, none, none, none], runFlags := 0, saved := false }
  match (if e.op y = 10 then s.savedWork e.line e.step e.sub else none) with
  | some d =>
    let counts (m : Nat) : List Nat := match d.recs.find? fun r => r.1 = m with | some r => r.2.2.2 | none => []
    { w0 with recs := w0.recs.map fun r => (r.1, r.2.1, r.2.2.1, counts r.1), adm := d.adm, filled := d.filled }
  | none =>
    let r := (List.range xs.length).map fun k => admitExpert w0.recs k (w0.cap k)
    { w0 with adm := r.flatMap (·.1), filled := r.map (·.2) }

/-- Free arena blocks, lowest first. -/
def State.freeArena (s : State) : List Nat :=
  (List.range s.stn.blocks).filter fun b => !s.stn.arena.contains b

/-- ADMIT to every member in ascending member index (R360). -/
def State.sendAdmits (s : State) (w : Work) : State :=
  let nexp := w.experts.length
  w.recs.foldl (fun t r =>
    let adm := (List.range nexp).map fun k => (w.admitted r.1 k).2
    t.lineSend w.line (mkPkt true 2 false 0x2003 r.2.1 t.node 0 0 r.2.2.1
      (mkBody 26 [(0, 2, w.line), (2, 2, r.1), (6, 1, w.sub), (8, 2, nexp), (10, 4, adm.sum), (14, 4, r.2.2.2.sum - adm.sum),
        (18, 8, w.step)]) (adm.flatMap (toBytes 2)))) s

/-- Counts and announces what admission decided. -/
def State.announce (s : State) (w : Work) : State :=
  let all := (w.recs.map fun r => r.2.2.2.sum).sum
  let adm := (w.adm.map fun a => a.2.2.2).sum
  let s1 := (s.bump A.STATION_TOKENS_ADMITTED adm).bump A.STATION_TOKENS_DROPPED (all - adm)
  let s2 := if adm < all then s1.stnCause K.STATION_TOKENS_DROPPED w.line (w.expertIds.headD 0) w.step else s1
  s2.sendAdmits w

/-- An entry waits for blocks ahead of this one (R247). -/
def State.arenaQueue (s : State) (order : Nat) : Bool :=
  s.stn.work.any fun w => !w.granted && (match s.entry w.line w.step w.sub w.op with
    | some f => decide (f.order < order)
    | none => false)

/-- SUB 0 of a step starts: what earlier attempts at the step ended or wrote no longer counts (R369, R370). -/
def State.restartStep (s : State) (w : Work) : State :=
  { s with stn := { s.stn with combines := s.stn.combines.filter (fun c => c.1 ≠ w.line) ++ [(w.line, w.step, [])]
                               grads := s.stn.grads.filter fun g => !w.expertIds.contains g.1 } }

/-- Takes an entry's blocks all or none; it becomes ACTIVE, or waits with ACT_WAIT (R360, R372). -/
def State.grantArena (s : State) (e : Entry) (w : Work) : State :=
  let need := (List.range w.experts.length).map w.need
  let free := s.freeArena
  if need.sum ≤ free.length ∧ s.arenaQueue e.order = false then
    let w1 := { w with blocks := cutList need free, granted := true }
    let t : State := { s with stn := { s.stn with arena := s.stn.arena ++ free.take need.sum } }
    let t1 := ((t.setWork w1).setEntry { e with state := .active, activeAt := t.clk }).put F.STATION_ACT_FREE_BLOCKS
      (t.get F.STATION_ACT_FREE_BLOCKS - need.sum)
    if w.op = 9 then (t1.bump A.STATION_DISPATCHES 1).announce w1
    else (if w.sub = 0 then t1.restartStep w else t1).bump A.STATION_COMBINES 1
  else if (s.work w.line w.step w.sub w.op).isSome then s.setWork w
  else ((s.setWork w).bump A.STATION_ACT_WAITS 1).stnCause K.STATION_ACT_WAIT w.line (w.expertIds.headD 0) w.step

/-- Key of chunk 0 of a station entry. -/
def Entry.zero (e : Entry) : CKey := e.key 0

/-- A MATCHED station entry at its ROOT line becomes ACTIVE where the checks and the arena allow; one that waits for its blocks
is checked again with each attempt (R356, R357, R369, R372). -/
def State.stationActive (s : State) (e : Entry) (y : LineCopy) : State :=
  match s.stationCheck e y with
  | (.wait, t) => t
  | (.invalid x, t) => (t.stnCause K.STATION_EXPERT_INVALID e.line x e.step).endCollective { e with mismatch := [] } 0x10 [] false false
  | (.uncommitted x, t) => (t.stnCause K.STATION_STEP_REFUSED e.line x e.step).endCollective e 0x13 [] false false
  | (.lost tn, t) => (t.updCause K.UPDATE_RECORD_UE tn 0xFFFFFFFF e.step).chunkEnd e.zero 0x21 0 {}
  | (.noSaved x, t) => (t.stnCause K.STATION_NO_SAVED e.line x e.step).endCollective e 0x12 [] false false
  | (.go, t) => t.grantArena e (t.newWork e y)

/-! ## Token rows (R361, R362) -/

/-- Byte offset in EXPERT space of an offset of a list of arena blocks. -/
def State.arenaAddr (s : State) (bl : List Nat) (off : Nat) : Nat :=
  s.stn.page * 4096 + bl.getD (off / MIB4) 0 * MIB4 + off % MIB4

/-- Writes bytes of a row, which spans at most two blocks. -/
def State.arenaWrite (s : State) (bl : List Nat) (off : Nat) (l : List Byte) : State :=
  let n := MIB4 - off % MIB4
  let s1 := s.writeSpace SP_EXPERT (s.arenaAddr bl off) (l.take n)
  if l.length ≤ n then s1 else s1.writeSpace SP_EXPERT (s.arenaAddr bl (off + n)) (l.drop n)

/-- Reads bytes of a row. -/
def State.arenaRead (s : State) (bl : List Nat) (off n : Nat) : Option (List Byte) × State :=
  let m := min n (MIB4 - off % MIB4)
  let a := s.readSpace SP_EXPERT (s.arenaAddr bl off) m
  if m = n then a
  else
    let b := a.2.readSpace SP_EXPERT (s.arenaAddr bl (off + m)) (n - m)
    (match a.1, b.1 with | some x, some z => some (x ++ z) | _, _ => none, b.2)

/-- Bytes of the element codes of a vector. -/
def codeBytes (fmt n : Nat) : Nat := vecBytes fmt n - (if isK fmt then n / 32 else 0)

/-- Parts of a row: first block and count of each (R285, R361). -/
def Work.parts (w : Work) (k : Nat) : List (Nat × Nat) := splitBlocks w.inFmt (w.dim k / 32)

/-- A row of an expert. -/
def Work.row (w : Work) (k r : Nat) : Option Row := w.rows.find? fun x => x.k = k ∧ x.row = r

/-- A row has landed whole. -/
def Work.landed (w : Work) (k r : Nat) : Bool :=
  match w.row k r with
  | some x => (List.range (w.parts k).length).all x.parts.contains
  | none => false

/-- What becomes of a TOKEN packet. -/
inductive TokVerdict where
  | park
  /-- refused with an ERROR code, with or without TOKEN_REFUSED -/
  | refuse (code : Nat) (cause : Bool)
  | dropped
  | dup
  | land
  deriving DecidableEq, Repr

/-- PART. -/
def Pkt.tokPart (k : Pkt) : Nat := k.byte 39 % 16

/-- BWD does not match the OP of a packet's entry: the queue has no entry of the operation that BWD names, and the one of the
other operation is ACTIVE with its blocks (R362; DEDUCED, log 35). -/
def State.bwdDiffers (s : State) (k : Pkt) : Bool :=
  (s.entry k.group k.step k.sub k.tokOp).isNone &&
    (match s.entry k.group k.step k.sub (19 - k.tokOp), s.work k.group k.step k.sub (19 - k.tokOp) with
    | some e, some w => e.state == .active && w.granted
    | _, _ => false)

/-- SRC_NODE of a packet whose BWD differs is that of its member's record in the entry of the other operation (R362). -/
def State.bwdSource (s : State) (k : Pkt) : Bool :=
  match s.work k.group k.step k.sub (19 - k.tokOp) with
  | some w => w.recs.any fun r => r.1 == k.member && r.2.1 == k.src
  | none => false

/-- J. -/
def Pkt.tokJ (k : Pkt) : Nat := k.num 40 2

/-- TOK. -/
def Pkt.tok (k : Pkt) : Nat := k.num 42 2

/-- The station work that a TOKEN packet is for, once it is granted (log 35). -/
def State.tokenWork (s : State) (k : Pkt) : Option Work :=
  match s.entry k.group k.step k.sub k.tokOp, s.work k.group k.step k.sub k.tokOp with
  | some e, some w => if e.state = .active ∧ w.granted then some w else none
  | _, _ => none

/-- The tests of R362 in order. -/
def State.judgeToken (s : State) (k : Pkt) : TokVerdict :=
  match s.tokenWork k with
  | none => if s.bwdDiffers k then .refuse (if s.bwdSource k then 5 else 0x11) true else .park
  | some w =>
    let x := k.tokK
    match w.rec_ k.member with
    | none => .refuse 0x11 true
    | some r =>
      let part := (w.parts x).getD k.tokPart (0, 0)
      let ad := w.admitted k.member x
      let others := (w.rows.filter fun q => q.member = k.member && q.tok = k.tok && q.k ≠ x).map (·.k)
      if r.1 ≠ k.src then .refuse 0x11 true
      else if w.experts.length ≤ x ∨ (w.parts x).length ≤ k.tokPart ∨ k.pay ≠ leastPay (vecBytes w.inFmt (32 * part.2)) ∨
          r.2.2.getD x 0 ≤ k.tokJ ∨ 4 ≤ (others.eraseDups).length then .refuse 5 true
      else if ad.2 ≤ k.tokJ then (if w.op = 9 then .dropped else .refuse 5 false)
      else match w.row x (ad.1 + k.tokJ) with
        | some q => if q.parts.contains k.tokPart then .dup else .land
        | none => .land

/-- Writes a part into its row and the row table entry (log 36). -/
def State.landToken (s : State) (k : Pkt) : State :=
  match s.tokenWork k with
  | none => s
  | some w =>
    let x := k.tokK
    let r := (w.admitted k.member x).1 + k.tokJ
    let bl := w.blocks.getD x []
    let d := w.dim x
    let part := (w.parts x).getD k.tokPart (0, 0)
    let n := codeBytes w.inFmt (32 * part.2)
    let base := r * w.rowSize x
    let s1 := s.arenaWrite bl (base + codeBytes w.inFmt (32 * part.1)) (slice k.payload 0 n)
    let s2 := if isK w.inFmt then s1.arenaWrite bl (base + codeBytes w.inFmt d + part.1) (slice k.payload n part.2) else s1
    let gate := k.num 44 4
    let s3 := if w.op = 9 then
      s2.arenaWrite (bl.drop (w.rowBlocks x)) (16 * r) (toBytes 2 k.member ++ toBytes 2 k.tok ++ toBytes 4 gate ++ toBytes 8 0)
      else s2
    let rows := match w.row x r with
      | some q => w.rows.map fun z => if z = q then { q with parts := q.parts ++ [k.tokPart] } else z
      | none => w.rows ++ [{ k := x, row := r, member := k.member, tok := k.tok, gate := gate, parts := [k.tokPart] }]
    s3.setWork { w with rows := rows }

/-- Key under which a token packet parks: its entry, with the expert as chunk index. -/
def Pkt.tokenKey (k : Pkt) : CKey := ⟨k.group, k.step, k.sub, k.tokOp, k.tokK⟩

/-- Logical coach whose page counts a token packet: the expert's first (log 36). -/
def State.tokenCoach (s : State) (k : Pkt) : Nat := 32 * (s.tokenExpert k).2.1 + (s.tokenExpert k).2.2

/-- Acts on a verdict that is not park, on a packet whose cells the caller frees. -/
def State.tokenOutcome (s : State) (o : Nat) (k : Pkt) (v : TokVerdict) : State :=
  let x := (s.tokenExpert k).1
  match v with
  | .refuse c cause =>
    let t := s.originate o (s.errorPkt k c)
    if cause then t.stnCause K.STATION_TOKEN_REFUSED k.group x k.step else t
  | .dropped => s.stnCause K.STATION_TOKENS_DROPPED k.group x k.step
  | .land => s.landToken k
  | _ => s

/-! ## Forward and backward computation (R363, R369) -/

/-- Values of an expert's weights, row by row: W1, W3 (empty but under SWIGLU), W2. -/
structure Weights where
  w1 : List (List Num)
  w3 : List (List Num)
  w2 : List (List Num)
  deriving DecidableEq, Repr

/-- Cuts a list into `r` rows of `c`. -/
def rowsOf {α : Type} (l : List α) (r c : Nat) : List (List α) := (List.range r).map fun i => (l.drop (c * i)).take c

/-- Reads an expert's weights from EXPERT space (R60, R349). -/
def State.readWeights (s : State) (w : Work) (k : Nat) : Option Weights × State :=
  let tw := s.tensorWords (w.tensor k)
  let fmt := wordField tw 6 10 4
  let n := tensorElems tw
  let d := w.dim k
  let h := w.hidden k
  match s.readSpace SP_EXPERT (weightPage tw) (vecBytes fmt n) with
  | (none, t) => (none, t)
  | (some b, t) =>
    let v := decodeVec fmt n b
    let m := d * h
    let three := w.act k = 0
    (some { w1 := rowsOf v h d, w3 := if three then rowsOf (v.drop m) h d else []
            w2 := rowsOf (v.drop (if three then 2 * m else m)) d h }, t)

/-- Values, and the flags of every output element (R89). -/
abbrev Flagged := List Num × List Nat

/-- Values of codes in FP32 or another format, with their flags. -/
def flagged (f : EFmt) (r : List (Nat × Nat)) : Flagged := (r.map fun x => f.decode x.1, r.map (·.2))

/-- P·Qᵀ of one row of P: FP32 values (R71). -/
def rowMul (split : Bool) (p : List Num) (q : List (List Num)) : Flagged :=
  flagged fp32 (q.map fun c => dotN split 0 (List.zip p c))

/-- FP32 code of a value that FP32 holds. -/
def codeOf (x : Num) : Nat := (fp32.round RNE 0 false x).1

/-- f16 of R369: each element in F16b by RNE with SAT 1. -/
def f16 (l : List Num) : Flagged :=
  flagged f16b (l.map fun x => f16b.round RNE 0 true x)

/-- VSCALE of a row by a gate with 0 added, in the row's own format where the vector units have it (log 37). -/
def scaleRow (fmt gate : Nat) (l : List Num) : Flagged :=
  let f := if fmt = 2 ∨ fmt = 3 then elemFmt fmt else fp32
  flagged f (l.map fun x =>
    let p := mulN x (fp32.decode gate)
    let q := addN RNE p.1 Num.zero
    f.finish RNE 0 false (q.1, p.2 ||| q.2))

/-- A converted row: HID_FMT by RNE with SAT 1. -/
def convertRow (fmt : Nat) (l : List Num) : Flagged :=
  let r := rowEncode fmt RNE true (fun _ => 0) l
  (rowValues fmt l.length r.1, r.2)

/-- What the forward pass finds at one row. -/
structure RowOut where
  a : List Num
  b : List Num
  h : List Num
  hq : List Num
  y : List Num
  flags : List Nat
  deriving DecidableEq, Repr

/-- The forward pass of one row (R363). -/
def forwardRow (act hid inFmt wf : Nat) (m : Weights) (x : List Num) : RowOut :=
  let split := inFmt == 1 && wf == 1
  let a := rowMul split x m.w1
  let b := if act = 0 then rowMul split x m.w3 else ([], [])
  let hv := (List.range a.1.length).map fun i =>
    activate act (fv (codeOf (a.1.getD i Num.zero))) (fv (codeOf (b.1.getD i Num.zero)))
  let h := hv.map fun v => fp32.decode v.1
  let q := convertRow hid h
  let y := rowMul (hid == 1 && wf == 1) q.1 m.w2
  { a := a.1, b := b.1, h := h, hq := q.1, y := y.1
    flags := a.2 ++ b.2 ++ hv.map (·.2) ++ q.2 ++ y.2 }

/-- What the backward pass finds at one row. -/
structure RowBack where
  gg : Nat
  dx : List Num
  da : List Num
  db : List Num
  dv : List Num
  flags : List Nat
  deriving DecidableEq, Repr

/-- Transpose of rows of length `n`. -/
def transposeRows (l : List (List Num)) (n : Nat) : List (List Num) :=
  (List.range n).map fun i => l.map fun r => r.getD i Num.zero

/-- The backward pass of one row; a padding row has dh and dv +0 (R369; log 38 for cat(w1, w3)). -/
def backwardRow (act dyFmt gate : Nat) (pad : Bool) (m : Weights) (d h : Nat) (f : RowOut) (dy : List Num) : RowBack :=
  let w2t := (transposeRows m.w2 h).map fun r => (f16 r).1
  let dy16 := f16 dy
  let u := rowMul false dy16.1 w2t
  let hq16 := f16 f.hq
  let u16 := f16 u.1
  let g := dotN false 0 (List.zip hq16.1 u16.1)
  let dh := if pad then (List.replicate h Num.zero, []) else scaleRow 1 gate u.1
  let dv := if pad then (List.replicate d Num.zero, []) else scaleRow dyFmt gate dy
  let back := (List.range h).map fun i =>
    activateD (act + 0x10) (fv (codeOf (dh.1.getD i Num.zero))) (fv (codeOf (f.a.getD i Num.zero)))
      (fv (codeOf (f.b.getD i Num.zero)))
  let da := back.map fun p => fp32.decode p.1.1
  let db := if act = 0 then back.map fun p => fp32.decode p.2.1 else []
  let cat16 := f16 (da ++ db)
  let wt1 := transposeRows m.w1 d
  let wt3 := if act = 0 then transposeRows m.w3 d else List.replicate d []
  let dx := rowMul false cat16.1 ((List.zip wt1 wt3).map fun p => (f16 (p.1 ++ p.2)).1)
  { gg := g.1, dx := dx.1, da := da, db := db, dv := dv.1
    flags := dy16.2 ++ u.2 ++ (if pad then [] else hq16.2 ++ u16.2 ++ [g.2]) ++ dh.2 ++ dv.2 ++ cat16.2 ++ dx.2 ++
      back.flatMap fun p => if act = 0 then [p.1.2, p.2.2] else [p.1.2] }

/-- Rows of a tile of an expert. -/
def Work.tileRows (w : Work) (k tile : Nat) : List Nat :=
  (List.range (min 512 (w.cap k - 512 * tile))).map (512 * tile + ·)

/-- Tiles of an expert. -/
def Work.tileCount (w : Work) (k : Nat) : Nat := (w.cap k + 511) / 512

/-- Every admitted row of a tile has landed. -/
def Work.tileLanded (w : Work) (k tile : Nat) : Bool :=
  (w.tileRows k tile).all fun r => decide (w.filled.getD k 0 ≤ r) || w.landed k r

/-- Reads rows of an expert's buffer as values; padding rows are +0. -/
def State.readRows (s : State) (w : Work) (k : Nat) (rows : List Nat) : Option (List (List Num)) × State :=
  rows.foldl (fun (a : Option (List (List Num)) × State) r =>
    if w.filled.getD k 0 ≤ r then (a.1.map fun l => l ++ [List.replicate (w.dim k) Num.zero], a.2)
    else
      let q := a.2.arenaRead (w.blocks.getD k []) (r * w.rowSize k) (w.rowSize k)
      (match a.1, q.1 with
        | some l, some b => some (l ++ [decodeVec w.inFmt (w.dim k) b])
        | _, _ => none, q.2)) (some [], s)

/-- Gate of a row of a saved or running DISPATCH, +0 for a padding row. -/
def Work.gate (w : Work) (k r : Nat) : Nat := match w.row k r with | some q => q.gate | none => 0

/-- acc of R369: products of a tile added to the gradient buffer of a matrix at element `base`, row-major rows `as` by
columns `bs` (each a list over the tile's rows); `fresh` starts the buffer anew. -/
def State.accGrad (s : State) (ext base : Nat) (fresh : Bool) (as bs : List (List Num)) : Option (List Nat) × State :=
  let n := as.length * bs.length
  let old := if fresh then (some (List.replicate (4 * n) (0 : Byte)), s) else s.readSpace SP_EXPERT (ext + 4 * base) (4 * n)
  match old.1 with
  | none => (none, old.2)
  | some b =>
    let r := (List.range n).map fun i =>
      dotN false (numAt b (4 * i) 4) (List.zip (as.getD (i / bs.length) []) (bs.getD (i % bs.length) []))
    (some (r.map (·.2)), old.2.writeSpace SP_EXPERT (ext + 4 * base) (r.flatMap fun x => toBytes 4 x.1))

/-- Adds a tile's gradient products (R369). -/
def State.tileGrads (s : State) (w : Work) (k : Nat) (fresh : Bool) (xs : List (List Num)) (fs : List RowOut)
    (bs : List RowBack) : Option (List Nat) × State :=
  let d := w.dim k
  let h := w.hidden k
  let ext := extPage (s.tensorWords (w.tensor k))
  let t16 (l : List (List Num)) (n : Nat) : List (List Num) := (transposeRows l n).map fun r => (f16 r).1
  let m := d * h
  let xt := t16 xs d
  let g1 := s.accGrad ext 0 fresh (t16 (bs.map (·.da)) h) xt
  let g3 := if w.act k = 0 then g1.2.accGrad ext m fresh (t16 (bs.map (·.db)) h) xt else (some [], g1.2)
  let g2 := g3.2.accGrad ext (if w.act k = 0 then 2 * m else m) fresh (t16 (bs.map (·.dv)) d) (t16 (fs.map (·.hq)) h)
  let conv := (bs.flatMap fun b => (f16 (b.da ++ b.db ++ b.dv)).2) ++ xs.flatMap fun x => (f16 x).2
  (match g1.1, g3.1, g2.1 with
    | some a, some b, some c => some (a ++ b ++ c ++ conv)
    | _, _, _ => none, g2.2)

/-- Flags that a run's record holds (R89). -/
def runFlagBits (f : Nat) : Nat := f &&& (FL_INVALID + FL_OVERFLOW + FL_UNDERFLOW + FL_INEXACT)

/-- What a tile's runs found at its rows, in place of what an earlier attempt at them found (R350, R376). -/
def Work.putTile (w : Work) (k tile : Nat) (z : List (Nat × Nat × List Nat)) (gg : List (Nat × Nat × Nat)) (flags : List Nat) :
    Work :=
  { w with z := w.z.filter (fun q => ¬ (q.1 = k ∧ q.2.1 / 512 = tile)) ++ z
           gg := w.gg.filter (fun q => ¬ (q.1 = k ∧ q.2.1 / 512 = tile)) ++ gg
           runFlags := w.runFlags ||| runFlagBits (joined flags) }

/-- The forward computation of a tile: the flags of the elements its runs wrote, or none where an operand cannot be read. -/
def State.forwardTile (s : State) (w : Work) (k tile : Nat) : Option (List Nat) × State :=
  let rows := w.tileRows k tile
  let a := s.readWeights w k
  let b := a.2.readRows w k rows
  match a.1, b.1 with
  | some m, some xs =>
    let wf := wordField (s.tensorWords (w.tensor k)) 6 10 4
    let outs := (List.range rows.length).map fun i =>
      let r := rows.getD i 0
      (r, forwardRow (w.act k) (w.expertField k 3 0 4) w.inFmt wf m (xs.getD i []))
    let real := outs.filter fun o => decide (o.1 < w.filled.getD k 0)
    let zs := real.map fun o =>
      let p := o.2.y.map fun v => fp32.mul RNE (codeOf v) (w.gate k o.1)
      ((k, o.1, p.map (·.1)), p.map (·.2))
    let fl := outs.flatMap (·.2.flags) ++ zs.flatMap (·.2)
    (some fl, b.2.setWork (w.putTile k tile (zs.map (·.1)) [] fl))
  | _, _ => (none, b.2)

/-- Flags of the conversions f16t of an expert's weights (R369). -/
def weightFlags (act : Nat) (m : Weights) (d h : Nat) : List Nat :=
  ((transposeRows m.w2 h ++ transposeRows m.w1 d ++ (if act = 0 then transposeRows m.w3 d else [])).map fun r => (f16 r).2).flatten

/-- The backward computation of a tile; `d` is the saved DISPATCH (R369, R370). -/
def State.backwardTile (s : State) (w d : Work) (k tile : Nat) : Option (List Nat) × State :=
  let rows := w.tileRows k tile
  let a := s.readWeights w k
  let b := a.2.readRows d k rows
  let e := b.2.readRows w k rows
  match a.1, b.1, e.1 with
  | some m, some xs, some dys =>
    let wf := wordField (s.tensorWords (w.tensor k)) 6 10 4
    let fs := xs.map (forwardRow (w.act k) (w.expertField k 3 0 4) d.inFmt wf m)
    let bs := (List.range rows.length).map fun i =>
      let r := rows.getD i 0
      backwardRow (w.act k) w.inFmt (d.gate k r) (decide (w.filled.getD k 0 ≤ r)) m (w.dim k) (w.hidden k)
        (fs.getD i ⟨[], [], [], [], [], []⟩) (dys.getD i [])
    match e.2.tileGrads w k (w.sub == 0 && tile == 0) xs fs bs with
    | (none, t) => (none, t)
    | (some gf, t) =>
      let real := (List.range rows.length).filter fun i => decide (rows.getD i 0 < w.filled.getD k 0)
      let bk (i : Nat) : RowBack := bs.getD i ⟨0, [], [], [], [], []⟩
      let zs := real.map fun i => (k, rows.getD i 0, (bk i).dx.map codeOf)
      let gs := real.map fun i => (k, rows.getD i 0, (bk i).gg)
      let fl := fs.flatMap (·.flags) ++ bs.flatMap (·.flags) ++ weightFlags (w.act k) m (w.dim k) (w.hidden k) ++ gf
      (some fl, t.setWork (w.putTile k tile zs gs fl))
  | _, _, _ => (none, e.2)

/-- The runs of a tile that a work has submitted. -/
def Work.runsOf (w : Work) (k tile : Nat) : Option TileRuns := w.passes.find? fun p => p.k = k ∧ p.tile = tile

/-- Stores the runs of a tile. -/
def Work.setRuns (w : Work) (p : TileRuns) : Work :=
  { w with passes := p :: w.passes.filter fun q => ¬ (q.k = p.k ∧ q.tile = p.tile) }

/-- A tile of a granted work may be computed: its rows have landed; gradient products of a SUB follow those of the SUB
before, tile after tile (R363, R370). -/
def State.tileReady (s : State) (w : Work) (k tile : Nat) : Bool :=
  let x := w.expertIds.getD k 0
  w.granted && !w.saved && decide (k < w.experts.length) && decide (tile < w.tileCount k) && !w.tiles.contains (k, tile) &&
    (w.runsOf k tile).isNone && w.tileLanded k tile && s.mach (.station (w.sectionOf k)) == UP && !s.fenced (dom 1 (w.sectionOf k)) &&
    (w.op = 9 || ((List.range tile).all (fun i => w.tiles.contains (k, i)) &&
      (tile ≠ 0 || w.sub = 0 || s.stn.grads.contains (x, w.step, w.sub - 1))))

/-! ## Combine and return (R365 to R368) -/

/-- Rows that give a token its identity: a COMBINE's are its DISPATCH's. -/
def State.tokenRows (s : State) (w : Work) : List Row :=
  if w.op = 9 then w.rows
  else match s.savedWork w.line w.step w.sub with | some d => d.rows | none => []

/-- Tokens with an admitted row: (member, TOK). -/
def State.dueTokens (s : State) (w : Work) : List (Nat × Nat) := ((s.tokenRows w).map fun q => (q.member, q.tok)).eraseDups

/-- A row of a member that has not landed could still hold a token, by the order of R359. -/
def mayHold (w : Work) (rows : List Row) (m tok : Nat) : Bool :=
  w.adm.any fun a => a.1 = m && (List.range a.2.2.2).any fun j =>
    let r := a.2.2.1 + j
    !(rows.any fun q => q.k = a.2.1 && q.row = r) &&
      rows.all fun q => q.k ≠ a.2.1 || q.member ≠ m || (if q.row < r then decide (q.tok < tok) else decide (tok < q.tok))

/-- The rows that hold a token, in ascending expert. -/
def heldRows (rows : List Row) (nexp m tok : Nat) : List Row :=
  (List.range nexp).flatMap fun k => rows.filter fun q => q.k = k && q.member = m && q.tok = tok

/-- FP32 elements of a computed row. -/
def Work.zRow (w : Work) (k r : Nat) : Option (List Nat) := (w.z.find? fun z => z.1 = k ∧ z.2.1 = r).map (·.2.2)

/-- Logical coach that combines a token (R365). -/
def tokenCombineCoach (g m tok step sub : Nat) : Nat :=
  bits (crc32 (toBytes 2 g ++ toBytes 2 m ++ toBytes 2 tok ++ toBytes 8 step ++ toBytes 1 sub)) 16 16 * 512 / 65536

/-- Keeps the lowest (member, TOK, i) of a flag. -/
def lowerTriple : Option (Nat × Nat × Nat) → Nat × Nat × Nat → Option (Nat × Nat × Nat)
  | none, b => some b
  | some a, b => if b.1 < a.1 ∨ (b.1 = a.1 ∧ (b.2.1 < a.2.1 ∨ (b.2.1 = a.2.1 ∧ b.2.2 < a.2.2))) then some b else some a

/-- Joins a token's flags, one mask per element, to a work's. -/
def joinFlags (old : List (Option (Nat × Nat × Nat))) (m tok : Nat) (fl : List Nat) : List (Option (Nat × Nat × Nat)) :=
  (List.range 5).map fun f => (List.range fl.length).foldl (fun o i =>
    if (fl.getD i 0).testBit f then lowerTriple o (m, tok, i) else o) (old.getD f none)

/-- The combined value of a token: result bytes part by part, and a flag mask per element (R80 to R84, R365). -/
def combineToken (w : Work) (y : LineCopy) (d m tok : Nat) (zs : List (List Nat)) : List (Nat × Nat × List Byte) × List Nat :=
  let el (z : List Nat) (i : Nat) : Num := fp32.decode (z.getD i 0)
  let entries (z : List Nat) : List Nat := (List.range (d / 32)).map fun b => ttEntry ((List.range 32).map fun i => el z (32 * b + i))
  let anchors := anchorsOf (d / 32) (zs.map entries)
  let sums := (List.range d).map fun i =>
    let a := anchors.getD (i / 32) 0
    let r := zs.foldl (fun (q : Slot × Bool) z => let t := q.1.window a m (el z i); (t.1, q.2 || t.2)) (({} : Slot), false)
    let v := r.1.value 0 a
    (v.1, v.2 ||| (if r.2 then FL_TRUNCATED else 0))
  let mode := bits w.sline.toNat 21 3
  let sat := bit w.sline.toNat 24
  let rs (i : Nat) : Nat := gen y.seed w.step y.stream (tok * d + i)
  let enc := encodeVec w.outFmt mode sat rs (sums.map (·.1))
  let parts := (splitBlocks w.outFmt (d / 32)).map fun r =>
    (r.1, r.2, (encodeVec w.outFmt mode sat (fun i => rs (32 * r.1 + i)) (((sums.map (·.1)).drop (32 * r.1)).take (32 * r.2))).1)
  (parts, (List.range d).map fun i => (sums.getD i (Num.zero, 0)).2 ||| clr (enc.2.getD i 0) FL_INVALID)

/-- The block being filled of a station's return ring, and the bytes used in it. -/
def State.ring (s : State) (n : Nat) : Nat × Nat :=
  match s.stn.rings.find? fun r => r.1 = n with | some r => r.2 | none => (0, 0)

/-- Ring blocks of a station that hold an unacknowledged RETURN. -/
def State.ringHeld (s : State) (n : Nat) : List Nat :=
  s.stn.work.flatMap fun w => w.rets.filterMap fun r => if r.station = n then r.blk else none

/-- Place in the return ring for a number of bytes (R366). -/
def State.ringPlace (s : State) (n size : Nat) : Option (Nat × Nat) :=
  let r := s.ring n
  let blocks := max 1 (s.get (F.STATION_RET_CFG_RET_BLOCKS n))
  if r.2 + size ≤ MIB4 then some r
  else if (s.ringHeld n).all fun b => decide (r.1 + 1 < b + blocks) then some (r.1 + 1, 0)
  else none

/-- Writes a RETURN into its ring and emits it. -/
def State.emitReturn (s : State) (r : Ret) (place : Nat × Nat) : State :=
  let bytes := r.pkt.hdr ++ r.pkt.payload
  let blocks := max 1 (s.get (F.STATION_RET_CFG_RET_BLOCKS r.station))
  let rings := s.stn.rings.filter (fun x => x.1 ≠ r.station) ++ [(r.station, place.1, place.2 + bytes.length)]
  let s1 : State := { s with stn := { s.stn with rings := rings } }
  let s2 := s1.writeSpace SP_EXPERT
    (s.get (F.STATION_RET_PAGE_PAGE r.station) * 4096 + place.1 % blocks * MIB4 + place.2) bytes
  (s2.originate (256 + 2 * r.station) r.pkt).bump A.STATION_RETURNS 1

/-- Emits the waiting RETURNs of a work in order, as long as its ring has room. -/
def State.emitWaiting (s : State) (w : Work) : State :=
  (List.range w.rets.length).foldl (fun t i =>
    match t.work w.line w.step w.sub w.op with
    | none => t
    | some v =>
      match v.rets[i]? with
      | none => t
      | some r =>
        if r.blk.isSome ∨ (v.rets.take i).any (fun q => q.station = r.station && q.blk.isNone) then t
        else match t.ringPlace r.station (r.pkt.hdr.length + r.pkt.payload.length) with
          | none => t
          | some p => (t.setWork { v with rets := v.rets.set i { r with blk := some p.1, at_ := t.clk } }).emitReturn r p) s

/-- Emits what waits in every work; the station ports place their packets on one edge (R169). -/
def State.drainReturns (s : State) : State := s.inOrder fun u => u.stn.work.foldl (fun t w => t.emitWaiting w) u

/-- RETURN packets of a token (R366). -/
def State.returnPkts (s : State) (w : Work) (m node tag tok : Nat) (ggs : List Nat) (parts : List (Nat × Nat × List Byte)) :
    List Pkt :=
  (List.range parts.length).map fun p =>
    let gg := if p = 0 then ggs else []
    mkPkt true 3 true 0x2004 node s.node 0 0 tag
      (mkBody 26 ([(0, 2, w.line), (2, 2, m), (4, 2, tok), (6, 1, p + 16 * gg.length)] ++
        (List.range gg.length).map fun i => (8 + 4 * i, 4, gg.getD i 0))) ((parts.getD p (0, 0, [])).2.2)

/-- Rows of a token, once every row that may hold it is computed and the token is not combined yet (R365). -/
def State.combineRows (s : State) (w : Work) (m tok : Nat) : List Row :=
  let rows := s.tokenRows w
  let held := heldRows rows w.experts.length m tok
  if w.granted && !w.saved && (w.rec_ m).isSome && held.all (fun q => w.tiles.contains (q.k, q.row / 512) && (w.zRow q.k q.row).isSome) &&
      !w.combined.contains (m, tok) && !(w.op == 9 && mayHold w rows m tok) then held else []

/-- Child of the station of section `sec` at the arbiter of a reduction unit; the lines come first (R193). -/
def stationChild (sec : Nat) : Nat := 4096 + sec

/-- Core cycles of the unit for adding `n` rows of `d` elements (R280). -/
def combineCost (n d : Nat) : Nat := n * ((d + 15) / 16)

/-- A token's combine has asked for its slots and waits. -/
def Work.asking (w : Work) (m tok : Nat) : Bool := w.asked.any fun a => a.1 = m && a.2.1 = tok

/-- A token's combine has its slots, or they are granted it now, with the pool's arbiter moved on: its station's turn among the
requests that can be granted (R14, R174, R193, R365). -/
def State.combineSlots (s : State) (w : Work) (m tok L d : Nat) : Option State :=
  let pool := s.slotPool L
  if !s.poolFits pool d 1 then none
  else
    let r := s.slotTurn pool (if w.asking m tok then [] else [⟨4096 * 5 + w.line, 1, d⟩])
    if r.1 = some (4096 * 5 + w.line) then some r.2 else none

/-- Combines at logical coach `L` whose slots are at hand, one for each station: the contenders that are stations. -/
def State.combinesAt (s : State) (L : Nat) : List Contender :=
  firstContenders (s.stn.work.flatMap fun w => (s.dueTokens w).flatMap fun t =>
    if tokenCombineCoach w.line t.1 t.2 w.step w.sub ≠ L then []
    else match s.combineRows w t.1 t.2 with
      | [] => []
      | q :: l =>
        if (s.combineSlots w t.1 t.2 L (w.dim q.k)).isSome then
          [⟨stationChild (w.sectionOf q.k), 1, combineCost (l.length + 1) (w.dim q.k)⟩]
        else [])

/-- Contributions that wait for the reduction unit of a logical coach, oldest first. -/
def State.unitQueue (s : State) (L : Nat) : List Parked :=
  s.coll.adding.filter fun p => logicalCoach p.key.line p.key.idx p.key.step p.key.sub == L

/-- A complete sum that the unit is to round or to narrow (R250, R284). -/
def State.sumWaits (s : State) (ch : Chunk) : Bool :=
  ch.key.fam == 0 && (match s.entryOf ch.key with
    | some e => e.state == .active && s.sumReady ch e (s.line e.line)
    | none => false)

/-- The chunk steps that a logical coach's unit has ready, one for each line (R193, R280). -/
def State.stepsAt (s : State) (L : Nat) : List Contender :=
  firstContenders (((s.unitQueue L).map fun p => ⟨p.key.line, 1, (32 * p.pkt.nblk + 15) / 16⟩) ++
    ((s.coll.chunks.filter fun c => c.coach = L && s.sumWaits c).map fun c => ⟨c.key.line, 1, (c.slots.length + 15) / 16⟩))

/-- The children of a reduction unit that have nothing ready have a deficit of 0 (R195). -/
def State.settleUnit (s : State) (L : Nat) : State :=
  s.setArb (.unit L) ((s.arb (.unit L)).settle LEAVES ((s.stepsAt L ++ s.combinesAt L).map (·.child)))

/-- The reduction unit of logical coach `L` serves a step now: it is the step's turn among what is ready at the unit (R14,
R193). -/
def State.unitServes (s : State) (L : Nat) (mine : Contender) : Option State :=
  let r := (s.arb (.unit L)).serve LEAVES (mine :: ((s.stepsAt L ++ s.combinesAt L).filter fun c => c.child ≠ mine.child))
  if r.1 = some mine.child then some (s.setArb (.unit L) r.2) else none

/-- The first contribution of the line whose turn it is at a reduction unit, with the arbiter moved on. -/
def State.unitTurn (s : State) (L : Nat) : Option (Parked × State) :=
  let r := (s.arb (.unit L)).serve LEAVES (s.stepsAt L ++ s.combinesAt L)
  match r.1 with
  | none => none
  | some c => ((s.unitQueue L).find? fun p => p.key.line = c).map fun p => (p, s.setArb (.unit L) r.2)

/-- The request of a token's combine for slots waits, and counts once (R174). -/
def State.askSlots (s : State) (w : Work) (m tok L d : Nat) : State :=
  if w.asking m tok then s
  else (s.setWork { w with asked := w.asked ++ [(m, tok, L, d)] }).bump A.POOL_QUOTA_WAITS 1

/-- Combines a token whose rows are all computed, on its coach's slots, and returns it (R365, R366). The z rows that travel to the
coach and park there are the work's own, and take no cells of a platform (DESIGN CHOICE, log 127). -/
def State.tokenCombine (s : State) (w : Work) (y : LineCopy) (m tok : Nat) : State :=
  let held := s.combineRows w m tok
  let L := tokenCombineCoach w.line m tok w.step w.sub
  let pool := s.slotPool L
  match held, w.rec_ m with
  | q :: l, some r =>
    let d := w.dim q.k
    if !s.coachServes (s.physCoach L) then s
    else match s.combineSlots w m tok L d with
      | none => s.askSlots w m tok L d
      | some u =>
        match u.unitServes L ⟨stationChild (w.sectionOf q.k), 1, combineCost (l.length + 1) d⟩ with
        | none => s
        | some v =>
          let t := v.poolTake pool d 1
          let c := combineToken w y d m tok (held.map fun h => (w.zRow h.k h.row).getD [])
          let ggs := if w.op = 9 then [] else held.map fun h =>
            match w.gg.find? fun g => g.1 = h.k ∧ g.2.1 = h.row with | some g => g.2.2 | none => 0
          let rets := (s.returnPkts w m r.1 r.2.1 tok ggs c.1).map fun p =>
            ({ member := m, tok := tok, station := w.sectionOf q.k, pkt := p, blk := none, at_ := s.clk } : Ret)
          let w1 := { w with asked := w.asked.filter (fun a => ¬ (a.1 = m ∧ a.2.1 = tok)), combined := w.combined ++ [(m, tok)]
                             rets := w.rets ++ rets, flags := joinFlags w.flags m tok c.2 }
          ((((t.2.poolFrees pool 1 t.1).setWork w1).emitWaiting w1).settleSlots pool).settleUnit L
  | _, _ => s

/-- Every admitted row has landed, every tile is computed, every token combined and acknowledged (R368; log 40). -/
def State.workDone (s : State) (w : Work) : Bool :=
  w.granted && (List.range w.experts.length).all (fun k =>
      (List.range (w.tileCount k)).all (fun t => w.tiles.contains (k, t)) &&
      (List.range (w.filled.getD k 0)).all (w.landed k)) &&
    (s.dueTokens w).all w.combined.contains && w.rets.isEmpty

/-- Chunk 0's flag record (R368). -/
def Work.record (w : Work) : FlagRec :=
  let f (i : Nat) : Option (Nat × Nat) := match w.flags.getD i none with
    | some t => some (t.2.2, t.1)
    | none => if w.runFlags.testBit i then some (0x3FFF, 0xFFFF) else none
  ⟨f 0, f 1, f 2, f 3, f 4⟩

/-- Chunk 0 ends OK (R368). -/
def State.stationEnd (s : State) (w : Work) : State :=
  if s.workDone w then s.chunkEnd ⟨w.line, w.step, w.sub, w.op, 0⟩ 0 0 w.record else s

/-- Sources whose records still await a token or an acknowledgement (R368). -/
def State.workMissing (s : State) (w : Work) (y : LineCopy) : List Nat :=
  let open_ (m : Nat) : Bool :=
    (w.rets.any fun r => r.member = m) ||
      (w.adm.any fun a => a.1 = m && (List.range a.2.2.2).any fun j => !w.landed a.2.1 (a.2.2.1 + j)) ||
      (s.dueTokens w).any fun t => t.1 = m && !w.combined.contains t
  y.sources.filter fun j => w.recs.any fun r => y.sourceOf r.1 = [j] && open_ r.1

/-- A packet as it is sent again (R148). -/
def Pkt.again (k : Pkt) : Pkt := (k.patch 3 (toBytes 1 (k.byte 3 % 16 + 16 * min 15 (k.attempt + 1)))).seal

/-- RETURNs unacknowledged for RESEND_US are emitted again (R367). -/
def State.resendReturns (s : State) (w : Work) : State :=
  let late (r : Ret) : Bool := r.blk.isSome && decide (r.at_ + us (max 10 (s.get F.COLL_CFG_RESEND_US)) ≤ s.clk)
  let rets := w.rets.map fun r => if late r then { r with at_ := s.clk, pkt := r.pkt.again } else r
  (s.setWork { w with rets := rets }).inOrder fun u =>
    (w.rets.filter late).foldl (fun t r => (t.originate (256 + 2 * r.station) r.pkt.again).bump A.STATION_RETURN_RESENDS 1) u

/-! ## Rebuild of weights (R371) -/

/-- Rewrites a weight vector from W of slot LIVE, from record `e0` on. -/
def State.rebuildFrom (s : State) (tw : List Word) (live seed step : Nat) : Nat → Nat → Bool × State
  | 0, _ => (true, s)
  | n + 1, e0 =>
    let m := min 16384 (tensorElems tw - e0)
    if m = 0 then (true, s)
    else
      let r := (List.range m).foldl (fun (a : Option (List Nat) × State) i =>
        let q := a.2.readSpace SP_STATE (slotAddr tw (e0 + i) live) (slotBytes tw)
        (match a.1, q.1 with | some l, some b => some (l ++ [(readSlot tw b).getD 0 0]) | _, _ => none, q.2)) (some [], s)
      match r.1 with
      | none => (false, r.2)
      | some ws => State.rebuildFrom (r.2.writeWeights tw seed step e0 ws) tw live seed step n (e0 + 16384)

/-- Rebuilds the weights of a STALE expert for an entry that waits for it, with the seed of its line (R371; log 41). -/
def State.rebuildWeights (s : State) (x : Nat) : State :=
  let waits := s.coll.entries.find? fun e => e.fam ≠ 0 && e.state = .matched && (s.line e.line).isRoot &&
    (s.lineExperts e.line).contains x
  match waits with
  | none => s
  | some e =>
    let t := s.get (F.STATION_EXPERT_TENSOR x)
    let tw := s.tensorWords t
    if s.flag (F.STATION_EXPERT_STALE x) ∧ ¬ s.stn.updating.contains x ∧ wordField tw 6 10 4 ≤ 9 then
      match s.readSpace SP_STATE (recordPage tw) 16 with
      | (none, u) => u.updCause K.UPDATE_RECORD_UE t 0xFFFFFFFF e.step
      | (some b, u) =>
        let r := u.rebuildFrom tw (numAt b 8 1 % 2) (s.line e.line).seed (numAt b 0 8) (tensorElems tw / 16384 + 1) 0
        if r.1 then
          ((r.2.put (F.STATION_EXPERT_STALE x) 0).bump A.STATION_WEIGHT_REBUILDS 1).stnCause K.STATION_WEIGHT_REBUILD e.line x e.step
        else r.2.updCause K.UPDATE_RECORD_UE t 0xFFFFFFFF e.step
    else s

/-! ## Faults of stations (R376) -/

/-- An entry names an expert of a section: an ACTIVE one by its copies (R36). -/
def State.namesSection (s : State) (e : Entry) (sec : Nat) : Bool :=
  e.fam ≠ 0 && (s.line e.line).isRoot &&
    match s.work e.line e.step e.sub e.fam with
    | some w => (List.range w.experts.length).any fun k => w.sectionOf k == sec
    | none => (s.lineExperts e.line).any fun x =>
        s.flag (F.STATION_EXPERT_VALID x) && s.get (F.STATION_EXPERT_SECTION x) == sec

/-- A station enters DRAINING, or its section is fenced or lost: every entry naming its experts ends ABORTED. -/
def State.abortStation (s : State) (sec : Nat) : State :=
  (s.coll.entries.filter fun e => s.namesSection e sec).foldl (fun t e => t.endCollective e 0x12 [] false false) s

/-- ACTIVE entries naming a station's experts (STN_STATE.ENTRIES). -/
def State.stationEntries (s : State) (sec : Nat) : Nat :=
  (s.coll.entries.filter fun e => e.state = .active && s.namesSection e sec).length

/-! ## Replicas (R374) -/

/-- The replica reduction that a packet from the line of a replica's group is for. -/
def State.replicaOf (s : State) (g step tag : Nat) : Option Replica :=
  s.stn.replicas.find? fun r => r.line = g && r.step = step && (tag = 0 || r.tag = tag)

/-- Stores a replica. -/
def State.setReplica (s : State) (r : Replica) : State :=
  { s with stn := { s.stn with replicas := s.stn.replicas.map fun x => if x.tag = r.tag then r else x } }

/-- Station port of a replica's expert. -/
def Replica.port (r : Replica) : Nat := 256 + 2 * r.section_

/-- Elements of chunk `c` of a replica. -/
def State.replicaLen (s : State) (r : Replica) (c : Nat) : Nat :=
  min REPLICA_CHUNK (tensorElems (s.tensorWords r.tensor) - REPLICA_CHUNK * c)

/-- A result packet that left at port `o` is written back into the gradient buffer; a whole chunk is acknowledged from that
port (R526). -/
def State.replicaResult (s : State) (r : Replica) (o : Nat) (k : Pkt) : State :=
  let ext := extPage (s.tensorWords r.tensor)
  let s1 := s.writeSpace SP_EXPERT (ext + 4 * (REPLICA_CHUNK * k.chunk + 32 * k.blk)) (slice k.payload 0 (128 * k.nblk))
  let new := ((List.range k.nblk).map fun b => (k.chunk, k.blk + b)).filter fun p => !r.got.contains p
  let r1 := { r with got := r.got ++ new }
  let s2 := s1.setReplica r1
  if (r1.got.filter fun p => p.1 = k.chunk).length * 32 = s.replicaLen r k.chunk then
    s2.originate o (s.linePkt 2 0x1007 s.node r.tag
      (mkBody 30 [(0, 2, r.line), (2, 2, r.member), (4, 2, k.chunk), (18, 8, r.step)]))
  else s2

/-- A DONE for a replica: with every chunk OK its local update is requested; any other ending drops it. -/
def State.replicaDone (s : State) (r : Replica) (k : Pkt) : State :=
  let st := k.num 36 1
  let n := (tensorElems (s.tensorWords r.tensor) + REPLICA_CHUNK - 1) / REPLICA_CHUNK
  let drop (t : State) : State :=
    { t with stn := { t.stn with replicas := t.stn.replicas.filter (fun x => x.tag ≠ r.tag),
                                 updating := t.stn.updating.erase r.expert } }
  if st ≠ 0 then drop s
  else
    let r1 := { r with done := if r.done.contains (k.num 38 2) then r.done else r.done ++ [k.num 38 2] }
    if n ≤ r1.done.length then (drop s).requestLocal r.expert r.tensor r.step r.seed
    else s.setReplica r1

/-- A RESEND_REQ to a replica: WHAT 1 ticket, 2 timetable, 3 contributions of a chunk. -/
def State.replicaResend (s : State) (r : Replica) (what chunk : Nat) : State :=
  let want (k : Pkt) : Bool :=
    match what with
    | 1 => k.op == 0x1001
    | 2 => k.op == 0x1002 && k.chunk == chunk
    | _ => k.op == 0x1003 && k.chunk == chunk
  let sent := r.sent.map fun k => if want k then k.again else k
  (sent.filter want).foldl (fun t k => t.originate (r.port) k) (s.setReplica { r with sent := sent })

end Sys2Proof.Machine
end

