-- ==== Sys2Proof/Machine/Collector.lean ====
section
/-! DEFINITION. The fault collector's pending slots and ring, its status, and the handling states of domains as records
show them (R412 to R429). -/

namespace Sys2Proof.Machine

/-! ## Status and ring (R419 to R423) -/

/-- Sets STATUS fields; SEQ advances at most once per slow cycle (R32, R423). -/
def State.faultStatus (s : State) (fields : Nat) : State :=
  let s1 := s.wr A.FAULT_STATUS (s.rd A.FAULT_STATUS ||| fields)
  if s.flt.seqAt = some s.clk then s1
  else
    let s2 := s1.put F.FAULT_STATUS_SEQ (s1.get F.FAULT_STATUS_SEQ + 1)
    { s2 with flt := { s2.flt with seqAt := some s.clk } }

/-- Records in the ring and not consumed (R420). -/
def State.unconsumed (s : State) : Nat := (s.rd A.FAULT_RING_WR + 2 ^ 32 - s.rd A.FAULT_RING_RD) % 2 ^ 32

/-- Record kinds of R421. -/
abbrev RK_EVENT : Nat := 1
abbrev RK_RECOVERED : Nat := 2
abbrev RK_STOPPED : Nat := 3
abbrev RK_RELEASED : Nat := 4

/-- Whether the ring takes a record of a severity and kind while `n` are not consumed (R420). -/
def ringTakes (n sev kind : Nat) : Bool :=
  n < 4080 || (n < 4096 && (4 ≤ sev || kind == RK_STOPPED || kind == RK_RELEASED))

/-- Offers a record to the ring (R420, R421, R423). -/
def State.offer (s : State) (r : FRec) : State :=
  let r1 := { r with seq := s.flt.offered % 2 ^ 32 }
  let s1 : State := { s with flt := { s.flt with offered := s.flt.offered + 1 } }
  if ringTakes s.unconsumed r.severity r.kind then
    let wr := s1.rd A.FAULT_RING_WR
    let ring := s1.flt.ring.filter (fun e => e.1 ≠ wr % 4096) ++ [(wr % 4096, r1)]
    let s2 : State := { s1 with flt := { s1.flt with ring := ring } }
    let s3 := s2.wr A.FAULT_RING_WR (wr + 1)
    let s4 := if r.kind = RK_EVENT then s3.bump A.FAULT_EVENT_RECORDS 1 else s3
    s4.faultStatus (1 + 2 * b2n (r.severity == 4) + 4 * b2n (r.severity == 5) + 8 * b2n (r.severity == 6) +
      64 * b2n (r.kind == RK_STOPPED))
  else
    let s2 := s1.bump A.FAULT_RING_DROPS 1
    (if r.kind = RK_EVENT then s2.bump A.FAULT_EVENT_DROPS 1 else s2).faultStatus 32

/-- The 32 bytes of a record in the ring (R421). -/
def FRec.bytes (r : FRec) : List Byte :=
  toBytes 8 r.time ++ toBytes 2 (r.source + 512 * r.severity + 4096 * r.kind) ++ toBytes 2 r.suppressed ++
    toBytes 4 r.domain ++ toBytes 4 r.seq ++ (List.range 3).flatMap fun i => toBytes 4 (r.detail.getD i 0)

/-- Word `w` of the ring window (16_faults.md, FAULT registers). -/
def State.ringWord (s : State) (w : Nat) : Nat :=
  match s.flt.ring.find? (fun e => e.1 = 512 * s.get F.FAULT_RING_VIEW_VIEW + w / 8) with
  | some e => numAt e.2.bytes (4 * (w % 8)) 4
  | none => 0

/-- A reported event of severity NOTE or above reaches its source's pending slot: it fills it, or is merged (R419). -/
def State.pendEvent (s : State) (r : Report) : State :=
  let n := r.source
  let gap := s.get (F.FAULT_SRC_CFG_GAP n) * 100000
  let recent : Bool := match Tab.find s.flt.lastRec n with | some t => decide (r.time < t + gap) | none => false
  match s.flt.pend.find? (fun p => p.source = n) with
  | some p =>
    let l := s.flt.pend.map fun q => if q.source = n then { p with merged := min 0xFFFF (p.merged + 1) } else q
    ({ s with flt := { s.flt with pend := l } } : State).bump A.FAULT_SUPPRESSED 1
  | none =>
    if recent then
      let c := min 0xFFFF (Tab.get 0 s.flt.carried n + 1)
      ({ s with flt := { s.flt with carried := Tab.put 0 s.flt.carried n c } } : State).bump A.FAULT_SUPPRESSED 1
    else
      let p : FPend := { source := n, severity := r.severity, kind := RK_EVENT, domain := r.domain, time := r.time,
                         detail := r.detail, merged := Tab.get 0 s.flt.carried n }
      { s with flt := { s.flt with pend := s.flt.pend ++ [p], carried := Tab.put 0 s.flt.carried n 0 } }

/-- One slow cycle of the collector: the first full slot from the rotating pointer is offered, and the pointer advances
(R419). -/
def State.collect (s : State) : State :=
  let next : State := { s with flt := { s.flt with ptr := (s.flt.ptr + 1) % 512 } }
  let rank (n : Nat) : Nat := (n + 512 - s.flt.ptr) % 512
  let best := s.flt.pend.foldl (fun b p =>
    match b with
    | some q => if rank p.source < rank q.source then some p else b
    | none => some p) none
  match best with
  | none => next
  | some p =>
    let l := next.flt.pend.filter fun q => q.source ≠ p.source
    let last := (next.flt.lastRec.filter fun e => e.1 ≠ p.source)
    let s1 : State := { next with flt := { next.flt with pend := l, lastRec := Tab.insert last p.source p.time } }
    s1.offer { time := p.time, source := p.source, severity := p.severity, kind := p.kind, suppressed := p.merged,
               domain := p.domain, seq := 0, detail := p.detail }

/-- The collector's step of a slow cycle, at most once in it (R419). -/
def State.collectCycle (s : State) : State :=
  if s.flt.takeAt = some s.clk then s
  else ({ s with flt := { s.flt with takeAt := some s.clk } } : State).collect

/-! ## Domains (R24, R424 to R432) -/

/-- The domain exists (R439; 17_reset.md, domain state words). -/
def State.domOk (s : State) (d : Nat) : Bool :=
  let i := domInst d
  match domKind d with
  | 0 => i == 0
  | 1 => i < 16
  | 2 => i < 1024 && decide (i % 64 ≤ 32)
  | 3 => i < 16384 && decide (i / 16 % 64 ≤ 32)
  | 4 => i < 4096
  | 5 => slotType s.asm i != 0
  | 6 => slotType s.asm (i / 128) != 0
  | 7 => i < stackCount s.asm
  | 8 => i < 8
  | _ => false

/-- Machines of a domain and of those below it. -/
def State.domMachs (s : State) (d : Nat) : List Mach :=
  let i := domInst d
  match domKind d with
  | 1 => [.sect i, .station i]
  | 4 => [.line i]
  | 5 => .die i :: (List.range 128).map (fun l => .lane (128 * i + l)) ++ (s.diePorts i).map .port
  | 6 => [.lane i]
  | 7 => [.stack i]
  | _ => []

/-- MACHINE of a processor's page. -/
def procMach (p : Nat) : Fld := ⟨A.CONSORT p + 12, 0, 3⟩

/-- Section of a section, coach or core domain. -/
def domSection (d : Nat) : Nat :=
  match domKind d with
  | 1 => domInst d
  | 2 => domInst d / 64
  | _ => domInst d / 1024

/-- Shows a domain's state on its machines: FENCED, or STOP (R426, R431). -/
def State.showFence (s : State) (d v : Nat) : State :=
  let s1 := (s.domMachs d).foldl (fun t m => if t.mach m = STOP then t else t.setMach m v) s
  match domKind d with
  | 1 => s1.showCoaches (domSection d)
  | 2 => s1.showCoaches (domSection d)
  | 8 => s1.put (procMach (domInst d)) v
  | _ => s1

/-- The handling record of a domain. -/
def State.handlingOf (s : State) (d : Nat) : Option Handling := s.flt.handling.find? fun h => h.domain = d

/-- Stores a handling record. -/
def State.setHandling (s : State) (h : Handling) : State :=
  { s with flt := { s.flt with handling := s.flt.handling.filter (fun x => x.domain ≠ h.domain) ++ [h] } }

/-- Drops a handling record. -/
def State.dropHandling (s : State) (d : Nat) : State :=
  { s with flt := { s.flt with handling := s.flt.handling.filter fun x => x.domain ≠ d } }

/-- WINDOW_COUNT of a domain (R429). -/
def State.windowCount (s : State) (d : Nat) : Nat := bits (s.dfault d) 8 8

/-- Stores WINDOW_COUNT. -/
def State.setWindow (s : State) (d n : Nat) : State := s.setFault d (setBits (s.dfault d) 8 8 n) (s.recovery d)

/-- Offers a RECOVERED, STOPPED or RELEASED record of a domain (R421). -/
def State.noteDomain (s : State) (d kind : Nat) : State :=
  let h := (s.handlingOf d).getD { domain := d, source := 0, severity := 0, how := .event }
  s.offer { time := s.time.ns, source := h.source, severity := h.severity, kind := kind, suppressed := 0, domain := d,
            seq := 0, detail := [bits (s.recovery d) 0 16, s.windowCount d, 0] }

/-- A domain enters STOP; `rec` tells whether a STOPPED record is written (R426, R437; log 53). -/
def State.markStop (s : State) (d : Nat) (rec : Bool) : State :=
  let s1 := (((s.setFstate d 3).stopTimer { kind := .quiet, a := d }).stopTimer { kind := .deadline, a := d }).bump
    A.FAULT_STOPS 1
  let s2 := if rec then s1.noteDomain d RK_STOPPED else s1
  if d = dom 0 0 then s2 else s2.showFence d STOP

/-- QUIET_MS of a domain's kind in slow cycles (16_faults.md, FAULT fields). -/
def State.quietTime (s : State) (d : Nat) : Nat := ms (max 1 (min 10000 (s.get (F.FAULT_POLICY_A_QUIET_MS (domKind d)))))

/-- WINDOW_S of a domain's kind in slow cycles. -/
def State.windowTime (s : State) (d : Nat) : Nat := ms (1000 * max 1 (s.get (F.FAULT_POLICY_B_WINDOW_S (domKind d))))

end Sys2Proof.Machine
end

