-- ==== Sys2Proof/Machine/Host.lean ====
section
/-! DEFINITION. The consort's hardware: the host event ring, log rings, images in flash, image banks, and starting,
stopping and reverting a processor's image (R444 to R461). -/

namespace Sys2Proof.Machine

/-! ## Host event ring (R460, R461) -/

/-- Entries of the host event ring not consumed. -/
def State.hevUnread (s : State) : Nat := (s.rd (A.CONSORT_HEV_WR 0) + 2 ^ 32 - s.rd (A.CONSORT_HEV_RD 0)) % 2 ^ 32

/-- The 64 bytes of an entry. -/
def State.hevBytes (s : State) (kind proc : Nat) (data : List Byte) : List Byte :=
  toBytes 8 s.time.ns ++ toBytes 2 kind ++ toBytes 1 proc ++ [0] ++ toBytes 4 s.cons.hevSeq ++ slice data 0 48

/-- Writes an entry at HEV_WR. -/
def State.hevWrite (s : State) (l : List Byte) : State :=
  let wr := s.rd (A.CONSORT_HEV_WR 0)
  let ring := s.cons.hev.filter (fun e => e.1 ≠ wr % 4096) ++ [(wr % 4096, l)]
  ({ s with cons := { s.cons with hev := ring } } : State).wr (A.CONSORT_HEV_WR 0) (wr + 1)

/-- Offers an event to the ring; `proc` is 0xFF for hardware (R461). -/
def State.pushHost (s : State) (kind proc : Nat) (data : List Byte) : State :=
  if s.hevUnread < 4096 then
    let s1 := s.hevWrite (s.hevBytes kind proc data)
    { s1 with cons := { s1.cons with hevSeq := s1.cons.hevSeq + 1 } }
  else
    let s1 : State := { s with cons := { s.cons with hevSeq := s.cons.hevSeq + 1, hevLost := s.cons.hevLost + 1 } }
    (s1.bump (A.CONSORT_HEV_OVERFLOW 0) 1).raise .CONSORT 0 0 K.CONSORT_HEV_OVERFLOW

/-- A write of HEV_RD; the space it frees first takes the OVERFLOW entry that is owed (R460, R461; log 54). -/
def State.hevRead (s : State) (v : Nat) : State :=
  if (s.rd (A.CONSORT_HEV_WR 0) + 2 ^ 32 - v) % 2 ^ 32 ≤ 4096 then
    let s1 := s.wr (A.CONSORT_HEV_RD 0) v
    if 0 < s1.cons.hevLost ∧ s1.hevUnread < 4096 then
      let s2 := s1.hevWrite (s1.hevBytes 0x0007 0xFF (toBytes 8 s1.cons.hevLost))
      { s2 with cons := { s2.cons with hevLost := 0 } }
    else s1
  else s

/-- Word `w` of the host event window. -/
def State.hevWord (s : State) (w : Nat) : Nat :=
  match s.cons.hev.find? (fun e => e.1 = 32 * s.get (F.CONSORT_HEV_VIEW_VIEW 0) + w / 16) with
  | some e => numAt e.2 (4 * (w % 16)) 4
  | none => 0

/-! ## Log rings (R447, R448) -/

/-- Writes an entry of a processor's log ring where its trace point is enabled (R447, R448). -/
def State.logWrite (s : State) (p point level : Nat) (args : List Word) : State :=
  if (s.get (F.CONSORT_TRACE_EN_EN p (point / 32))).testBit (point % 32) ∧ level ≤ s.get (F.CONSORT_TRACE_CFG_LEVEL p) then
    let n := s.rd (A.CONSORT_LOG_WR p)
    let w (v : Nat) : Word := BitVec.ofNat 32 v
    let e := [w s.time.ns, w (s.time.ns >>> 32), w (point + 65536 * level + 2 ^ 24 * args.length), w n] ++
      (List.range 4).map fun i => args.getD i 0
    let logs := s.cons.logs.filter (fun x => ¬ (x.1 = p ∧ x.2.1 = n % 2048)) ++ [(p, n % 2048, e)]
    (({ s with cons := { s.cons with logs := logs } } : State).wr (A.CONSORT_LOG_WR p) (n + 1)).bump (A.CONSORT_LOG_ENTRIES p) 1
  else s

/-- Word `w` of a processor's log window. -/
def State.logWord (s : State) (p w : Nat) : Nat :=
  match s.cons.logs.find? (fun x => x.1 = p ∧ x.2.1 = 32 * s.get (F.CONSORT_LOG_VIEW_VIEW p) + w / 8) with
  | some x => (x.2.2.getD (w % 8) 0).toNat
  | none => 0

/-! ## Flash, manifest, images (R449, R450, R494) -/

/-- One byte of flash: region 0 and 1 the image banks, 2 and 3 the manifest slots, 4 the certificate. -/
def State.flashByte (s : State) (region off : Nat) : Byte := Tab.get 0 s.cons.flash (region * 2 ^ 28 + off)

/-- Bytes of flash. -/
def State.flashBytes (s : State) (region off n : Nat) : List Byte := (List.range n).map fun i => s.flashByte region (off + i)

/-- A little-endian number in flash. -/
def State.flashNum (s : State) (region off n : Nat) : Nat := ofBytes (s.flashBytes region off n)

/-- Writes bytes of flash. -/
def State.flashWrite (s : State) (region off : Nat) : List Byte → State
  | [] => s
  | b :: l =>
    State.flashWrite { s with cons := { s.cons with flash := Tab.put 0 s.cons.flash (region * 2 ^ 28 + off) b } } region
      (off + 1) l

/-- Flash region of the manifest slot in use. -/
def State.manRegion (s : State) : Nat := 2 + s.get F.SIDING_BOOT_STATUS_MAN_SLOT

/-- Anti-rollback floor of a processor in the manifest in use. -/
def State.svnFloor (s : State) (p : Nat) : Nat := s.flashNum s.manRegion (0x50 + 4 * p) 4

/-- A section table entry of an image (R449). -/
structure SecEntry where
  at_ : Nat
  proc : Nat
  ilevel : Nat
  ilevelMin : Nat
  svn : Nat
  version : Nat
  off : Nat
  len : Nat
  deriving DecidableEq, Repr

/-- Reads a section table entry. -/
def State.secEntry (s : State) (b i : Nat) : SecEntry :=
  let o := 0x1000 + 512 * i
  { at_ := o, proc := s.flashNum b o 1, ilevel := s.flashNum b (o + 2) 2, ilevelMin := s.flashNum b (o + 4) 2
    svn := s.flashNum b (o + 8) 4, version := s.flashNum b (o + 12) 4, off := s.flashNum b (o + 16) 8
    len := s.flashNum b (o + 24) 4 }

/-- The header of a bank's image is well formed. -/
def State.headerOk (s : State) (b : Nat) : Bool :=
  s.flashNum b 0 4 == 0x4F445244 && s.flashNum b 4 2 == 1 && decide (1 ≤ s.flashNum b 6 2) && decide (s.flashNum b 6 2 ≤ 8)

/-- Entries of a bank's image. -/
def State.secEntries (s : State) (b : Nat) : List SecEntry := (List.range (min 8 (s.flashNum b 6 2))).map (s.secEntry b)

/-- Local memory of a processor in bytes (R444). -/
def procMem (p : Nat) : Nat := if p = 0 then 512 * 1024 else if p < 8 then 1024 * 1024 else 0

/-- DIGEST matches the section bytes. -/
def State.digestOk (s : State) (b : Nat) (e : SecEntry) : Bool :=
  s.flashBytes b (e.at_ + 32) 64 == sha512 (s.flashBytes b e.off e.len)

/-- Why a section is not valid, 0 where it is: 2 signature, 3 digest, 4 SVN, 5 duplicate PROC, 6 length (R450; log 55). -/
def State.secReason (s : State) (b : Nat) (e : SecEntry) : Nat :=
  if !Config.verifies (s.flashBytes s.manRegion 0x70 133) (s.flashBytes b e.at_ 128) (s.flashBytes b (e.at_ + 128) 132) then 2
  else if !s.digestOk b e then 3
  else if e.svn < s.svnFloor e.proc then 4
  else if ((s.secEntries b).filter fun f => f.proc = e.proc).length ≠ 1 then 5
  else if procMem e.proc < e.len then 6
  else 0

/-- Why a bank is not valid, 0 where it is (R451). -/
def State.bankReason (s : State) (b : Nat) : Nat :=
  if !s.headerOk b then 1 else (s.secEntries b).foldl (fun r e => if r = 0 then s.secReason b e else r) 0

/-- The section of a processor in a bank. -/
def State.secOf (s : State) (b p : Nat) : Option SecEntry := (s.secEntries b).find? fun e => e.proc = p

/-- A bank holds a section for every processor. -/
def State.allEight (s : State) (b : Nat) : Bool := (List.range 8).all fun p => (s.secOf b p).isSome

/-! ## Banks (R451) -/

abbrev BK_EMPTY : Nat := 0
abbrev BK_STAGING : Nat := 1
abbrev BK_VERIFYING : Nat := 2
abbrev BK_VERIFIED : Nat := 3
abbrev BK_INVALID : Nat := 4

/-- The state field of a bank. -/
def bankFld (b : Nat) : Fld := if b = 0 then F.CONSORT_BANK_STATE_BANK0 0 else F.CONSORT_BANK_STATE_BANK1 0

/-- State of a bank. -/
def State.bank (s : State) (b : Nat) : Nat := s.get (bankFld b)

/-- Moves a bank to a state, with its STAGING event (R461; log 56). -/
def State.setBank (s : State) (b v : Nat) : State :=
  let s1 := s.put (bankFld b) v
  s1.pushHost 0x0005 0xFF ((toBytes 1 b) ++ (toBytes 1 v) ++ toBytes 1 (s1.get (F.CONSORT_BANK_STATE_INVALID_REASON 0)))

/-! ## Processors (R444, R446, R452 to R457) -/

abbrev AS_IDLE : Nat := 0
abbrev AS_PENDING : Nat := 1
abbrev AS_LOADING : Nat := 2
abbrev AS_STARTING : Nat := 3
abbrev AS_PROBATION : Nat := 4

/-- ASTATE of a processor. -/
def State.astate (s : State) (p : Nat) : Nat := s.get (F.CONSORT_ACT_STATE_ASTATE p)

/-- The ACTIVATION event of a processor. -/
def State.pushAct (s : State) (p : Nat) : State :=
  let b := s.get (F.CONSORT_ACT_STATE_TARGET_BANK p)
  let v := match s.secOf b p with | some e => e.version | none => 0
  s.pushHost 0x0003 0xFF (toBytes 1 p ++ toBytes 1 (s.astate p) ++ toBytes 1 (s.get (F.CONSORT_ACT_STATE_LAST_RESULT p)) ++
    toBytes 1 b ++ toBytes 4 v)

/-- Moves ASTATE, with its event (log 56). -/
def State.setAstate (s : State) (p v : Nat) : State :=
  let s1 := s.put (F.CONSORT_ACT_STATE_ASTATE p) v
  let s2 := if s1.fencedSelf (dom 8 p) then s1
    else if v = AS_LOADING ∨ v = AS_STARTING then s1.put (procMach p) STARTING else s1
  s2.pushAct p

/-- Loads the run words of a processor from its section in a bank (18_consort.md, CONSORT fields). -/
def State.loadRun (s : State) (p b : Nat) : State :=
  match s.secOf b p with
  | some e =>
    (((s.put (F.CONSORT_RUN_INFO_RUN_BANK p) b).put (F.CONSORT_RUN_INFO_ILEVEL p) e.ilevel).wr (A.CONSORT_RUN_VERSION p)
      e.version).wr (A.CONSORT_RUN_SVN p) e.svn
  | none => s.put (F.CONSORT_RUN_INFO_RUN_BANK p) b

/-- RESTART_KIND values. -/
abbrev RS_BOOT : Nat := 0
abbrev RS_FAULT : Nat := 1
abbrev RS_COMMAND : Nat := 2
abbrev RS_ACTIVATION : Nat := 3
abbrev RS_REVERT : Nat := 4

/-- A processor's image starts (R446, R455). An image under activation is not watched before its first KICK (R436). -/
def State.startImage (s : State) (p kind : Nat) : State :=
  let s1 := s.put (F.CONSORT_RUN_INFO_RESTART_KIND p) kind
  let s2 : State := { s1 with cons := { s1.cons with running := s1.cons.running.filter (fun q => q ≠ p) ++ [p] } }
  let s3 := if kind = RS_BOOT then s2 else (s2.bump (A.CONSORT_RESTARTS p) 1).pushHost 0x0004 0xFF (toBytes 1 p ++ toBytes 1 kind)
  let s4 := s3.put (procMach p) (if kind = RS_ACTIVATION ∨ kind = RS_REVERT then STARTING else UP)
  if kind = RS_ACTIVATION ∨ kind = RS_REVERT then s4.startTimer { kind := .startLimit, a := p }
  else s4.startTimer { kind := .procWatch, a := p }

/-- A processor's image stops. -/
def State.stopImage (s : State) (p : Nat) : State :=
  let s1 : State := { s with cons := { s.cons with running := s.cons.running.filter fun q => q ≠ p } }
  ((s1.stopTimer { kind := .procWatch, a := p }).stopTimer { kind := .startLimit, a := p }).stopTimer
    { kind := .probation, a := p }

/-- The reverted image fails in turn: the processor enters STOP (R456). -/
def State.revertFailed (s : State) (p : Nat) : State :=
  let s0 := s.stopImage p
  let s1 : State := { s0 with cons := { s0.cons with reverting := s0.cons.reverting.filter fun q => q ≠ p } }
  let s2 := (s1.put (F.CONSORT_ACT_STATE_LAST_RESULT p) 0x04).setAstate p AS_IDLE
  let n := 16 * Blk.CONSORT.slot + K.CONSORT_REVERT_FAILED
  let s3 := s2.raise .CONSORT p 0 K.CONSORT_REVERT_FAILED
  (s3.setHandling { domain := dom 8 p, source := n, severity := s3.severity n, how := .event }).markStop (dom 8 p) true

/-- The section of the previous RUN_BANK starts again; RUN_BANK changes on that edge (R456, R502). -/
def State.startRevert (s : State) (p : Nat) : State :=
  let s1 := s.loadRun p (Tab.get (s.get (F.CONSORT_RUN_INFO_RUN_BANK p)) s.cons.oldBank p)
  ({ s1 with cons := { s1.cons with oldBank := s1.cons.oldBank.filter fun e => e.1 ≠ p } } : State).startImage p RS_REVERT

/-- Reverts an activation: the section of the previous RUN_BANK starts again, at once or when its domain serves (R456). -/
def State.revert (s : State) (p : Nat) : State :=
  if s.cons.reverting.contains p then s.revertFailed p
  else
    let run := s.get (F.CONSORT_RUN_INFO_RUN_BANK p)
    let old := if s.astate p = AS_PROBATION then 1 - run else run
    let s0 := s.stopImage p
    let s1 : State := { s0 with cons := { s0.cons with reverting := s0.cons.reverting ++ [p],
                                                       oldBank := Tab.insert (s0.cons.oldBank.filter fun e => e.1 ≠ p) p old } }
    let s2 := ((s1.bump (A.CONSORT_REVERTS p) 1).put (F.CONSORT_ACT_STATE_LAST_RESULT p) 0x03).raise .CONSORT p 0
      K.CONSORT_ACT_REVERTED
    let good : Bool := match s2.secOf old p with | some e => s2.digestOk old e | none => false
    if !good then s2.revertFailed p
    else
      let s3 := s2.setAstate p AS_STARTING
      if s3.fenced (dom 8 p) then s3 else s3.startRevert p

/-- A write of KICK for a processor (R436, R455). -/
def State.kick (s : State) (p : Nat) : State :=
  if ¬ s.cons.running.contains p ∨ s.fenced (dom 8 p) then s
  else
    let s1 := s.startTimer { kind := .procWatch, a := p }
    if s1.astate p = AS_STARTING then
      let s2 := if s1.cons.reverting.contains p then s1
        else s1.loadRun p (s1.get (F.CONSORT_ACT_STATE_TARGET_BANK p))
      (((s2.stopTimer { kind := .startLimit, a := p }).startTimer { kind := .probation, a := p }).put (procMach p) UP).setAstate p
        AS_PROBATION
    else s1

/-- What a processor runs when its domain serves again (R446, R456, R457). -/
def State.procServes (s : State) (p kind : Nat) : State :=
  if s.astate p = AS_LOADING then s.put (procMach p) STARTING
  else if s.astate p = AS_STARTING then s.startRevert p
  else s.startImage p kind

end Sys2Proof.Machine
end

