-- ==== Sys2Proof/Machine/Faults.lean ====
section
/-! DEFINITION. Reactions to faults: fencing, domain resets, quiet periods, recovery windows, releases, missed deadlines,
and reset commands (chapters 16 and 17). -/

namespace Sys2Proof.Machine

/-! ## Work ended by a fence (R431, R433, R434) -/

/-- Entries that hold a chunk at a coach of a section, or parked at its station ports. -/
def State.entriesAt (s : State) (sec : Nat) : List Entry :=
  s.coll.entries.filter fun e =>
    let mine (k : CKey) : Bool := k.line == e.line && k.step == e.step && k.sub == e.sub && k.fam == e.fam
    (s.coll.chunks.any fun c => mine c.key && c.coach / 32 == sec && (c.admitted || !c.held.isEmpty)) ||
      (s.coll.parked.any fun p => mine p.key && p.port / 2 == 128 + sec) ||
      (s.coll.adding.any fun p => mine p.key && p.port / 2 == 128 + sec)

/-- Ends every collective that holds a chunk at a section, with ABORT_UP to its parents (R266). -/
def State.abortAt (s : State) (sec : Nat) : State :=
  (s.entriesAt sec).foldl (fun t e => t.endCollective e 0x12 [] false true) s

/-- Ends what a section's coaches and station hold (R266, R320, R376): `queued` is the status of queued runs. -/
def State.endSection (s : State) (sec queued : Nat) : State :=
  let s1 := s.inOrder fun t => (t.abortAt sec).abortStation sec
  (List.range 33).foldl (fun t p => (t.endQueued (64 * sec + p) queued).endRunning (64 * sec + p) 1) s1

/-- Station ports of a section go down and are flushed (R172). -/
def State.flushStation (s : State) (sec : Nat) : State := (s.startFlush (256 + 2 * sec)).startFlush (257 + 2 * sec)

/-- Work of a coach that enters CONTAIN: the spare takes over, or its chunks and runs end (R434). -/
def State.fenceCoach (s : State) (c : Nat) : State :=
  let sec := c / 64
  match s.logicalOf c with
  | none => (s.endQueued c 1).endRunning c 1
  | some l =>
    if c % 64 ≠ 32 ∧ ¬ s.spareInUse sec then s.substitute sec l
    else
      let s1 := (s.endQueued c 1).endRunning c 1
      s1.inOrder fun u => (u.chunksAt (logicalNo sec l)).foldl (fun t ch =>
        if ch.status.isNone then t.withdraw ch.key 1 none else t) u

/-- Runs that use a core (R431). -/
def State.fenceCore (s : State) (i : Nat) : State :=
  let c := i / 16
  ((s.coach c).running.filter fun x => x.run.coachWide || x.run.core == i % 16).foldl
    (fun t x => t.endRun c x 1 0xFFFFFFFF) s

/-- A processor's fence discards its running code; an activation under test is reverted, but one whose reverted image has not
started yet starts it when the domain serves (R431, R456, R457). -/
def State.fenceProc (s : State) (p : Nat) : State :=
  let waits : Bool := s.astate p == AS_STARTING && s.cons.reverting.contains p && !s.cons.running.contains p
  if (s.astate p = AS_STARTING ∨ s.astate p = AS_PROBATION) ∧ !waits then (s.stopImage p).revert p else s.stopImage p

/-- A line's fence ends its entries and tells its parents (R431, R433). -/
def State.fenceLine (s : State) (g : Nat) : State :=
  (s.lineEntries g).foldl (fun t e => t.endCollective e 0x12 [] false true) s

/-- A stack controller's fence: shelter entries not yet written back are lost, and its reset initialises the stack again from
step 1 (R378, R430; DEDUCED, log 121). -/
def State.fenceStack (s : State) (n : Nat) : State :=
  let l := s.mem.shelter.filter fun e => ¬ (e.stack = n ∧ 0 < e.step)
  let s1 := ({ s with mem := { s.mem with shelter := l, initStep := s.mem.initStep.set n 0 } } : State).put
    (F.HBM_REPAIR_STATE_BUSY n) 0
  (s1.put (F.HBM_STATE_TRAINED n) 0).put (F.HBM_INFO_SHELTER_USED n) (l.filter fun e => e.stack = n).length

/-- The work that a domain holds ends on the edge of its fence. -/
def State.fenceWork (s : State) (d : Nat) : State :=
  let i := domInst d
  match domKind d with
  | 1 => (s.endSection i 1).flushStation i
  | 2 => s.fenceCoach i
  | 3 => s.fenceCore i
  | 4 => s.fenceLine i
  | 5 =>
    let s1 := (s.diePorts i).foldl (fun t p => t.linkDown p) s
    s1.idleDie i
  | 6 => s.loseLane i
  | 7 => s.fenceStack i
  | 8 => s.fenceProc i
  | _ => s

/-! ## Resets (R424 to R427, R438, R439) -/

/-- Deadline of a domain's reset in slow cycles (R430). -/
def deadlineOf (d : Nat) : Nat :=
  match domKind d with
  | 3 => us 2
  | 2 => us 10
  | 4 => us 20
  | 1 => us 50
  | 6 => ms 50
  | 5 => ms 300
  | 7 => ms 100
  | 8 => ms 10
  | _ => ms 8000

/-- Resets of the domains below end without escalation, covered by this one (R438). -/
def State.coverChildren (s : State) (d : Nat) : State :=
  (s.flt.handling.filter fun h => h.domain ≠ d && (domAbove h.domain 4).contains d && s.fstate h.domain == 1).foldl
    (fun t h => (t.setHandling { h with how := .parent }).stopTimer { kind := .deadline, a := h.domain }) s

/-- A domain's tokens on its fence: it keeps its floor and returns the rest; the switch core is the module's (R465). -/
def State.fenceTokens (s : State) (d : Nat) : State :=
  let r : Option Nat := match domKind d with
    | 0 => some 16
    | 1 => some (domInst d)
    | 7 => some (25 + domInst d)
    | _ => none
  match r with
  | some r =>
    let fl := tokenFloor s.asm ((s.get F.TOP_STATE_SECTION_AWAKE).testBit r) r
    let give := s.tokens r - fl
    (s.setHeld r (s.tokens r - give)).put F.POWER_FREE_TOKENS (s.get F.POWER_FREE_TOKENS + give)
  | none => s

/-- A power-gated domain is powered again and takes its floor from FREE (R465). -/
def State.ungate (s : State) (d : Nat) : State :=
  if !s.flt.gated.contains d then s
  else
    let s1 : State := { s with flt := { s.flt with gated := s.flt.gated.filter fun x => x ≠ d } }
    let r := match domKind d with
      | 1 => domInst d
      | 5 => 17 + domInst d
      | 7 => 25 + domInst d
      | _ => 34
    if s1.pow.gated.contains r then
      let fl := min (tokenFloor s1.asm false r) (s1.get F.POWER_FREE_TOKENS)
      let s2 := (s1.put F.POWER_FREE_TOKENS (s1.get F.POWER_FREE_TOKENS - fl)).setHeld r fl
      { s2 with pow := { s2.pow with gated := s2.pow.gated.filter fun x => x ≠ r } }
    else s1

/-- Starts the reset of a domain other than the module: fence, ended work, deadline (R424, R431, R434, R439). -/
def State.startReset (s : State) (d : Nat) (how : How) (source severity : Nat) : State :=
  let s1 := s.setHandling { domain := d, source := source, severity := severity, how := how }
  let s3 := (((s1.ungate d).setFstate d 1).stopTimer { kind := .quiet, a := d }).bump A.RESET_DOMAIN_RESETS 1
  let s4 := ((s3.coverChildren d).fenceWork d).fenceTokens d
  let rf := s4.refused.filter fun m => !(s4.domMachs d).contains m
  let s5 : State := { s4 with refused := rf }
  if s5.fstate d = 3 then s5 else (s5.showFence d FENCED).startTimer { kind := .deadline, a := d }

/-- A coach's reset: its signals and its arbiter start anew (R430). -/
def State.resetCoach (s : State) (c : Nat) : State := (s.setCoach c { s.coach c with signals := [] }).setArb (.runs c) {}

/-- What a reset clears besides the work that the fence ended (R430). -/
def State.resetClears (s : State) (d : Nat) : State :=
  let i := domInst d
  match domKind d with
  | 4 => { s with coll := { s.coll with ended := s.coll.ended.filter (fun r => r.line ≠ i) } }
  | 1 => (List.range 33).foldl (fun t p => t.resetCoach (64 * i + p)) s
  | 2 => s.resetCoach i
  | _ => s

/-- A domain enters QUIET (R425). -/
def State.enterQuiet (s : State) (d : Nat) : State := (s.setFstate d 2).startTimer { kind := .quiet, a := d }

/-- A machine of a domain that serves again enters DOWN and follows its ENABLE; a lane that has locked and may still train
rejoins its port (R100, R116, R432; 17_reset.md, Returning to service). -/
def State.unfence (s : State) (m : Mach) : State :=
  if s.mach m < FENCED ∨ s.fenced (s.machDom m) then s
  else
    match m with
    | .lane l =>
      if s.phase l = P_IDLE ∨ ¬ s.mayTrain l then ((s.idleLane l).setMach m DOWN).sendPattern l
      else (s.setMach m (if s.phase l = P_RUN then UP else STARTING)).sendLaneReady l
    | .port p => (((s.setPort p { s.port p with layout := none, conflict := false, waits := [] }).setMach m DOWN).noteDown
        p).reTopo p
    | _ => s.setMach m DOWN

/-- A domain returns to SERVING; `kind` is the RESTART_KIND of a processor. -/
def State.serve (s : State) (d kind : Nat) : State :=
  let s1 := s.setFstate d 0
  let s2 := (s1.domMachs d).foldl (fun t m => t.unfence m) s1
  let s3 := match domKind d with
    | 1 => s2.showCoaches (domSection d)
    | 2 => s2.showCoaches (domSection d)
    | 8 => s2.procServes (domInst d) kind
    | _ => s2
  s3.dropHandling d

/-- Children that were in CONTAIN enter QUIET with their parent (R438). -/
def State.childrenQuiet (s : State) (d : Nat) : State :=
  (s.flt.handling.filter fun h => h.domain ≠ d && (domAbove h.domain 4).contains d && s.fstate h.domain == 1).foldl
    (fun t h => (t.setHandling { h with how := .event }).enterQuiet h.domain) s

/-- A reset may complete: a lane that may train has retrained to MARKER_LOCK, a section's station ports are flushed, and a
stack is initialised or its training has failed (R172, R378, R430). -/
def State.resetDone (s : State) (d : Nat) : Bool :=
  match domKind d with
  | 6 => decide (P_MARKER ≤ s.phase (domInst d)) || !s.mayTrain (domInst d)
  | 1 => !(s.flushBusy (256 + 2 * domInst d)) && !(s.flushBusy (257 + 2 * domInst d))
  | 7 => s.flag (F.HBM_STATE_TRAINED (domInst d)) || s.refused.contains (.stack (domInst d))
  | _ => true

/-- A domain's reset completes (R425, R427, R438, R439). -/
def State.completeReset (s : State) (d : Nat) : State :=
  match s.handlingOf d with
  | none => s
  | some h =>
    if s.fstate d ≠ 1 ∨ h.how = .parent ∨ !s.resetDone d then s
    else
      let s1 := (s.stopTimer { kind := .deadline, a := d }).resetClears d
      match h.how with
      | .command =>
        ((s1.childrenQuiet d).serve d RS_COMMAND).raiseAs .RESET 0 0 (2 ^ K.RESET_SOFT_RESET) d []
      | .planned => (s1.childrenQuiet d).serve d RS_COMMAND
      | .release =>
        let s2 := (s1.setWindow d 0).stopTimer { kind := .window, a := d }
        ((s2.noteDomain d RK_RELEASED).childrenQuiet d).serve d RS_FAULT
      | _ => (s1.enterQuiet d).childrenQuiet d

/-- The quiet period ends: the domain recovers, or stops at the threshold (R425, R426, R429). -/
def State.quietEnd (s : State) (d : Nat) : State :=
  if s.fstate d = 2 ∧ s.due { kind := .quiet, a := d } (s.quietTime d) then
    let s0 := s.stopTimer { kind := .quiet, a := d }
    let s1 := if (s0.timer { kind := .window, a := d }).isNone then (s0.setWindow d 0).startTimer { kind := .window, a := d } else s0
    let n := s1.windowCount d + 1
    if s1.get (F.FAULT_POLICY_A_THRESHOLD (domKind d)) < n then s1.markStop d true
    else
      let rc := s1.recovery d
      let cnt := min 0xFFFF (bits rc 0 16 + 1)
      let s2 := (s1.setFault d (s1.dfault d) (cnt + 65536 * ((bits rc 16 16 + 1) % 65536))).setWindow d n
      ((s2.noteDomain d RK_RECOVERED).bump A.FAULT_RECOVERIES 1).serve d RS_FAULT
  else s

/-- A recovery window closes (R426). -/
def State.windowClose (s : State) (d : Nat) : State :=
  if s.due { kind := .window, a := d } (s.windowTime d) then (s.setWindow d 0).stopTimer { kind := .window, a := d } else s

/-- The whole module stops: every mainline transmitter goes idle, and the recipients return what they hold above their floors
(R418, R465). -/
def State.stopModule (s : State) : State :=
  let s0 := s.markStop (dom 0 0) false
  let s1 := (s0.lanesAwake 0 1024).foldl (fun t l => t.idleLane l) s0
  let s2 := ((List.range 16).map (dom 1) ++ dom 0 0 :: (List.range 8).map (dom 7)).foldl State.fenceTokens s1
  s2.put F.TOP_STATE_MODULE 2

/-- A STOP event moves a domain to STOP: it is fenced (R426). A processor's activation is not reverted, as R456 names no STOP
event among its cases. -/
def State.stopDomain (s : State) (d source severity : Nat) : State :=
  if s.fstate d = 3 then s
  else
    let how : How := .event
    let s1 := s.setHandling { domain := d, source := source, severity := severity, how := how }
    if d = dom 0 0 then s1.stopModule
    else
      let s2 := if s1.fstate d ≠ 0 then s1
        else if domKind d = 8 then (s1.setFstate d 1).stopImage (domInst d)
        else ((s1.setFstate d 1).fenceWork d).fenceTokens d
      s2.markStop d false

/-- RELEASE of a domain in STOP (R427). -/
def State.release (s : State) (d : Nat) : State :=
  if s.domOk d ∧ d ≠ dom 0 0 ∧ s.fstate d = 3 then
    let h := (s.handlingOf d).getD { domain := d, source := 0, severity := 0, how := .event }
    let l := (s.domMachs d).foldl (fun t m => if t.mach m = STOP then t.setMach m FENCED else t) s
    l.startReset d .release h.source h.severity
  else s

/-! ## Reactions (R414 to R416, R424 to R426, R436) -/

/-- Counts one reported event by its severity: it is lost, or pends for the ring (R415, R419, R424). -/
def State.countEvent (s : State) (r : Report) : State :=
  let s1 := if r.severity = 0 then s else s.bump32 (A.FAULT_SRC_COUNT r.source) 1
  if r.lost then (if r.severity = 0 then s1 else ((s1.bump A.FAULT_EVENTS 1).bump A.FAULT_LOST 1).faultStatus 16)
  else if 2 ≤ r.severity then (s1.bump A.FAULT_EVENTS 1).pendEvent r
  else s1

/-- The event has a reaction: it is neither lost nor of a stopped domain (R424, R426). -/
def Report.acts (r : Report) : Bool := !r.lost && !r.inert

/-- Reacts to one reported event: it counts, and its domain reacts by the severity held. A hang takes its domain to CONTAIN
whatever the severity of its source (R436). A parent's reset that an earlier event of the edge started covers it (R438). -/
def State.react (s : State) (r : Report) : State :=
  let n := r.source
  let d := r.domain
  let s1 := s.countEvent r
  if !r.acts || (domAbove d 4).any (fun x => s1.fstate x == 1) then s1
  else
    let s2 := if 2 ≤ r.severity ∨ r.hang then
      ((d :: domAbove d 4).filter fun x => s1.fstate x == 2).foldl (fun t x => t.startTimer { kind := .quiet, a := x }) s1
      else s1
    if r.severity = 5 ∨ r.hang then
      (if d = dom 0 0 then s2.moduleReset MR_CONTAIN 0 n
      else if s2.fstate d = 0 ∨ s2.fstate d = 2 then s2.startReset d .event n r.severity
      else s2)
    else if r.severity = 6 then s2.stopDomain d n 6
    else s2

/-- Reacts to the reported events, oldest first, those that the reactions raise among them; `n` bounds their number. -/
def State.reactN : Nat → State → State
  | 0, s => s
  | n + 1, s =>
    match s.flt.reports with
    | [] => s
    | r :: l => State.reactN n (({ s with flt := { s.flt with reports := l } } : State).react r)

/-- The reactions of an edge: every event reported on it has its reaction on that edge (R416). -/
def State.reacted (s : State) : State := State.reactN (s.flt.reports.length + 65536) s

/-- Ends a command: a fault where it names no unit of the part, else the next state, with the reactions to the events that
the command raised and the pins at their levels. -/
def State.finish (s : State) (ok : Bool) (f : State → State) : Host.Outcome State Fault Refusal :=
  if ok then .next (f s).reacted.drivePins else .fault .noSuchUnit

/-- The block of a source, if it has one. -/
def srcBlk (n : Nat) : Option Blk := Blk.all.find? fun b => b.slot = n / 16 && b != .FAULT

/-- Counts a completed access by the consort, 1, or over the siding link, 2 (02_registers.md, TOP page). -/
def State.countAccess (s : State) (master : Nat) : State :=
  s.bump (if master = 1 then A.TOP_ACCESS_CONSORT else A.TOP_ACCESS_SIDING) 1

/-- Records a bus error of a kind: the capture, BUS_ERR and the access count; its cause follows (R47). -/
def State.recordBusError (s : State) (master a : Nat) (write : Bool) (kind : Nat) : State :=
  let s1 := s.capture F.TOP_BUS_ERR_ADDR_VALID fun t =>
    (((t.put F.TOP_BUS_ERR_ADDR_ADDR a).put F.TOP_BUS_ERR_ADDR_MASTER master).put
      F.TOP_BUS_ERR_ADDR_WRITE (b2n write)).put F.TOP_BUS_ERR_KIND_KIND kind
  (s1.bump A.TOP_BUS_ERR 1).countAccess master

/-- An optical engine of a type O die fails: its eight lanes go out of service (R91). -/
def State.engineFault (s : State) (d e : Nat) : State :=
  if slotType s.asm d = 2 then
    let s1 := s.put (F.DIE_DIE_INFO_ENGINE_OK d) (clr (s.get (F.DIE_DIE_INFO_ENGINE_OK d)) (2 ^ e))
    (List.range 8).foldl (fun t i => t.loseLane (128 * d + 8 * e + i)) s1
  else s

/-- What an event from outside does besides its cause: a code error of the register bus is recorded, its access not made
(R47; DESIGN CHOICE, log 8); an engine fault takes eight lanes (R91); a marker mismatch changes the outcome (R221). -/
def State.outsideEffect (s : State) (b : Blk) (k i j : Nat) (detail : List Nat) : State :=
  if b = .TOP ∧ k = K.TOP_BUS_ECC then
    s.recordBusError (detail.getD 1 1) (detail.getD 0 0) (detail.getD 2 0 != 0) 6
  else if b = .DIE ∧ k = K.DIE_ENGINE_FAULT then s.engineFault i (j % 16)
  else if b = .PORT ∧ k = K.PORT_MARKER_MISMATCH then s.reTopo i
  else s

/-- Domain of an event from outside of instance `i` of a block (R412, R417, R436): on a page that several domains share, `i`
is the line, the section, the die of FLUSH_OVERRUN, or the domain that an event of RESET names; CONSERVATION names its check
and index in its first detail word. -/
def State.outsideDomain (s : State) (b : Blk) (k i j : Nat) (detail : List Nat) : Nat :=
  match b with
  | .RESET => if s.domOk i then i else dom 0 0
  | .SWITCH =>
    if k = K.SWITCH_FLUSH_OVERRUN then dom 5 i
    else if k = K.SWITCH_CONSERVATION then
      (let c := detail.getD 0 0
      if c % 16 = 7 then dom 4 (c / 16) else if c % 16 = 8 then dom 2 (c / 16) else dom 0 0)
    else dom 0 0
  | _ => s.evDomain b i j

/-- An event that reaches the module from outside it: an internal source, or a CAUSE bit of a block instance. -/
def State.outsideEvent (s : State) (n i j : Nat) (detail : List Nat) : State :=
  if 352 ≤ n then
    (if n < 358 then
      s.report n (match srcKind n with
        | 2 => dom 2 (64 * i + j)
        | 7 => dom 7 i
        | 5 => dom 5 i
        | _ => dom 0 0) detail
    else s)
  else
    match srcBlk n with
    | some b =>
      if b.info.causeMask.testBit (n % 16) then
        (s.raiseAs b i j (2 ^ (n % 16)) (s.outsideDomain b (n % 16) i j detail) detail).outsideEffect b (n % 16) i j detail
      else s
    | none => s

/-! ## Missed deadlines (R21, R303, R437) -/

/-- Domains with a supply gate of their own: all but lines, processors and the module (R437; log 57). -/
def gateable (d : Nat) : Bool := !(domKind d == 4 || domKind d == 8 || domKind d == 0)

/-- A section whose spare is in use loses a coach: it is fenced, not reset (R21). -/
def State.loseSection (s : State) (sec : Nat) : State :=
  let s1 := ((s.endSection sec 1).flushStation sec).raise .SECTION sec 0 K.SECTION_SECTION_LOST
  (((s1.setMach (.sect sec) FENCED).setMach (.station sec) FENCED).fenceTokens (dom 1 sec)).showCoaches sec

/-- What a missed deadline does to the parent (R437). -/
def State.escalate (s : State) (d source severity : Nat) : State :=
  let i := domInst d
  match domKind d with
  | 0 => s
  | 3 => if (s.fstate (dom 2 (i / 16))) % 2 = 0 then s.startReset (dom 2 (i / 16)) .event source severity else s
  | 2 =>
    (match s.logicalOf i with
    | some l => if s.spareInUse (i / 64) then s.loseSection (i / 64) else s.substitute (i / 64) l
    | none => s)
  | 6 => if (s.fstate (dom 5 (i / 128))) % 2 = 0 then s.startReset (dom 5 (i / 128)) .event source severity else s
  | _ => s.moduleReset MR_ESCALATION d 0

/-- Power-gates a domain: its counters clear, the VX_INVALID words of its coaches and the FEC_HIST counts of its lanes among
them, and its tokens return (R50, R437, R465; 11_core_array.md, COACH registers; 04_lanes.md). -/
def State.gateDomain (s : State) (d : Nat) : State :=
  let s1 : State := { s with flt := { s.flt with gated := s.flt.gated.filter (fun x => x ≠ d) ++ [d] } }
  let i := domInst d
  let pages : List Nat := match domKind d with
    | 1 => A.SECTION i :: (List.range 33).map (A.COACH i)
    | 2 => [A.COACH (i / 64) (i % 64)]
    | 5 => A.DIE i :: (List.range 128).map fun l => A.LANE (128 * i + l)
    | 6 => [A.LANE i]
    | 7 => [A.HBM i]
    | _ => []
  let fec : List Nat := match domKind d with
    | 5 => (List.range 128).map fun l => A.LANE (128 * i + l)
    | 6 => [A.LANE i]
    | _ => []
  let vx : Nat → Bool := fun a => match domKind d with
    | 1 => (List.range 33).any fun p => decide (A.COACH_VX_INVALID i p 0 ≤ a) && decide (a < A.COACH_VX_INVALID i p 0 + 0x80)
    | 2 => decide (A.COACH_VX_INVALID (i / 64) (i % 64) 0 ≤ a) && decide (a < A.COACH_VX_INVALID (i / 64) (i % 64) 0 + 0x80)
    | _ => false
  let l := s1.regs.filter fun e =>
    !((pages.any fun p => decide (p + 0x80 ≤ e.1) && decide (e.1 < p + 0x100)) ||
      (fec.any fun p => decide (p + 0x100 ≤ e.1) && decide (e.1 < p + 0x180)) || vx e.1)
  let s2 : State := { s1 with regs := l }
  let r : Option Nat := match domKind d with
    | 1 => some i
    | 5 => some (17 + i)
    | 7 => some (25 + i)
    | _ => none
  match r with
  | some r =>
    let s3 := (s2.put F.POWER_FREE_TOKENS (s2.get F.POWER_FREE_TOKENS + s2.tokens r)).setHeld r 0
    { s3 with pow := { s3.pow with gated := s3.pow.gated.filter (fun x => x ≠ r) ++ [r] } }
  | none => s2

/-- A reset has not completed by its deadline (R437). The module's is missed while boot runs, at a power-up as well; a level
that still holds the module in reset is no miss (log 99). -/
def State.deadlineMiss (s : State) (d : Nat) : State :=
  let run : Bool := if d = dom 0 0 then s.pow.released && s.get F.TOP_STATE_MODULE == 0 && s.fstate d != 3 else s.fstate d == 1
  let cov : Bool := match s.handlingOf d with | some h => h.how == .parent | none => false
  if run && !cov && s.due { kind := .deadline, a := d } (deadlineOf d) then
    let h := (s.handlingOf d).getD { domain := d, source := 0, severity := 0, how := .event }
    let s1 := (if gateable d then s.gateDomain d else s).markStop d true
    let s2 := s1.raiseAs .RESET 0 0 (2 ^ K.RESET_DEADLINE_MISS) d []
    let s3 := (s2.capture F.RESET_CAPTURE_VALID fun t => t.put F.RESET_CAPTURE_DOMAIN d).bump A.RESET_DEADLINE_MISSES 1
    ((s3.raiseAs .RESET 0 0 (2 ^ K.RESET_ESCALATED) d []).bump A.RESET_ESCALATIONS 1).escalate d h.source h.severity
  else s

/-! ## Commands (R439 to R441) -/

/-- What a write of RESET.CMD does. -/
def State.resetCmd (s : State) (v : Nat) : State :=
  let d := bits v 0 18
  let op := bits v 20 4
  let refuse := s.raiseAs .RESET 0 0 (2 ^ K.RESET_CMD_REFUSED) (if s.domOk d then d else dom 0 0) []
  if op = 2 ∨ (op = 1 ∧ domKind d = 0) then
    (if op = 2 ∧ d = 0 ∧ bits v 24 8 = 0xA5 then s.moduleReset MR_COMMAND 0 0 else refuse)
  else if op = 1 then
    (if s.domOk d ∧ s.fstate d = 0 then
      (s.bump A.RESET_CMD_RESETS 1).startReset d .command (16 * Blk.RESET.slot + K.RESET_SOFT_RESET)
        (s.severity (16 * Blk.RESET.slot + K.RESET_SOFT_RESET))
    else refuse)
  else s

/-- A write of RECOVERY of a domain: SQC (R32, R429). -/
def State.recoveryWrite (s : State) (d v : Nat) : State :=
  if bits v 16 16 = bits (s.recovery d) 16 16 then s.setFault d (s.dfault d) (bits (s.recovery d) 16 16 * 65536)
  else s.bump A.TOP_SQC_STALE 1

/-- PROC_HANG: a processor wrote no KICK within PROC_WD_MS (R436, R456). -/
def State.procHang (s : State) (p : Nat) : State :=
  if s.cons.running.contains p ∧ ¬ s.fenced (dom 8 p) ∧
      s.due { kind := .procWatch, a := p } (ms (max 1 (s.get F.RESET_CFG_PROC_WD_MS))) then
    let s1 := s.stopTimer { kind := .procWatch, a := p }
    s1.raiseHang .RESET 0 0 K.RESET_PROC_HANG (dom 8 p)
  else s

/-! ## Commands of the model -/

/-- FAULT_EVENT (R416): `ext` is an event from outside; it has its reaction as the command ends, as every event has. -/
def execFaultEvent (ext : Option (Nat × Nat × Nat × List Nat)) (s : State) : Host.Outcome State Fault Refusal :=
  s.finish true fun t =>
    match ext with
    | some (n, i, j, detail) => t.outsideEvent n i j detail
    | none => t

/-- COLLECTOR_TAKE (R419): the collector's step of this slow cycle. -/
def execCollectorTake (s : State) : Host.Outcome State Fault Refusal := s.finish true State.collectCycle

/-- DOMAIN_RESET_COMPLETE (R425). -/
def execDomainResetComplete (d : Nat) (s : State) : Host.Outcome State Fault Refusal :=
  s.finish (s.domOk d) fun t => t.completeReset d

/-- QUIET_PERIOD_END (R425, R426). -/
def execQuietPeriodEnd (d : Nat) (s : State) : Host.Outcome State Fault Refusal :=
  s.finish (s.domOk d) fun t => t.quietEnd d

/-- RECOVERY_WINDOW_CLOSE (R426). -/
def execRecoveryWindowClose (d : Nat) (s : State) : Host.Outcome State Fault Refusal :=
  s.finish (s.domOk d) fun t => t.windowClose d

/-- DEADLINE_MISS (R437). -/
def execDeadlineMiss (d : Nat) (s : State) : Host.Outcome State Fault Refusal :=
  s.finish (s.domOk d) fun t => t.deadlineMiss d

/-- PROC_HANG (R436). -/
def execProcHang (p : Nat) (s : State) : Host.Outcome State Fault Refusal :=
  s.finish (decide (p < 8)) fun t => t.procHang p

/-- MODULE_RESET_START (R442, R518): the first of the causes that fall on one edge is recorded. `contain` names a
source of the module domain at CONTAIN, `escalation` a domain whose deadline was missed. -/
def execModuleResetStart (modEnFalls resetNFalls : Bool) (contain : Option Nat) (command : Bool) (escalation : Option Nat)
    (s : State) : Host.Outcome State Fault Refusal :=
  s.finish true fun t =>
    let t1 : State := if modEnFalls then { t with pins := { t.pins with modEn := false } } else t
    let t2 : State := if resetNFalls then { t1 with pins := { t1.pins with resetN := false } } else t1
    let src : Option Report := match contain with
      | some n => if t2.severity n = 5 ∧ srcKind n = 0 then some (t2.mkReport n (dom 0 0) []) else none
      | none => none
    let t3 := match src with
      | some r => t2.countEvent r
      | none => t2
    if modEnFalls then t3.modEnFalls
    else if resetNFalls then t3.moduleReset MR_RESET_N 0 0
    else match src.filter Report.acts with
      | some r => t3.moduleReset MR_CONTAIN 0 r.source
      | none =>
        if command then t3.moduleReset MR_COMMAND 0 0
        else match escalation with
          | some d => if t3.domOk d ∧ d ≠ dom 0 0 then t3.moduleReset MR_ESCALATION d 0 else t3
          | none => t3

end Sys2Proof.Machine
end

