-- ==== Sys2Proof/Machine/Fences.lean ====
section
/-! DEFINITION. The reply cache and the fence counters of fabric memory (R150, R393, R394), and the answers that count
in them. -/

namespace Sys2Proof.Machine

/-- DUP_US in slow cycles; values outside 100 to 100,000 act as the nearer limit. -/
def State.replyTime (s : State) : Nat := us (max 100 (min 100000 (s.get F.WINDOW_DUP_CFG_DUP_US)))

/-- Timer of a reply cache entry, started when its reply is sent. -/
def cacheKey (src tag : Nat) : TKey := { kind := .cache, a := src, b := tag }

/-- Timer of a fence counter entry. -/
def fenceIdleKey (src epoch : Nat) : TKey := { kind := .fenceIdle, a := src, b := epoch }

/-- Reply cache entries in use: pending, or answered within the duplicate window (R150). -/
def State.cacheLive (s : State) : List Cached :=
  s.mem.cache.filter fun c => c.reply.isNone || !s.due (cacheKey c.src c.tag) s.replyTime

/-- The entry of a request in the reply cache. -/
def State.cached (s : State) (src tag : Nat) : Option Cached :=
  s.cacheLive.find? fun c => c.src = src && c.tag = tag

/-- Enters a request as pending. -/
def State.cachePend (s : State) (src tag : Nat) : State :=
  { s with mem := { s.mem with cache := s.cacheLive ++ [{ src := src, tag := tag, reply := none }] } }

/-- Stores the reply of a pending request, and keeps it for the duplicate window from now. -/
def State.cacheReply (s : State) (src tag : Nat) (k : Pkt) : State :=
  let l := s.mem.cache.map fun c => if c.src = src ∧ c.tag = tag then { c with reply := some k } else c
  ({ s with mem := { s.mem with cache := l } } : State).startTimer (cacheKey src tag)

/-- Count of a fence counter entry, if the table holds one. -/
def State.fenceCtr (s : State) (src epoch : Nat) : Option Nat :=
  (s.mem.fences.find? fun f => f.src = src && f.epoch = epoch).map (·.count)

/-- Drops a fence counter entry. -/
def State.dropFence (s : State) (src epoch : Nat) : State :=
  let l := s.mem.fences.filter fun f => ¬ (f.src = src ∧ f.epoch = epoch)
  ({ s with mem := { s.mem with fences := l } } : State).stopTimer (fenceIdleKey src epoch)

/-- A FENCE is answered: FENCE_ACK with the count at this moment; a completed one frees its entry (R393). -/
def State.fenceAck (s : State) (port : Nat) (req : Pkt) (epoch executed : Nat) (complete : Bool) : State :=
  let k := mkPkt false 2 false 0x4014 req.src s.node req.flow req.addr req.tag
    (mkBody 30 [(0, 4, executed), (4, 1, b2n (!complete))]) []
  let s1 := (s.cacheReply req.src req.tag k).originate port k
  if complete then s1.dropFence req.src epoch else s1.bump A.WINDOW_FENCE_INCOMPLETE 1

/-- Timer of a FENCE that waits. -/
def fenceKey (src tag : Nat) : TKey := { kind := .fence, a := src, b := tag }

/-- A FENCE that waits is answered, with the count `n` at this moment. -/
def State.endFence (s : State) (w : FenceWait) (n : Nat) (complete : Bool) : State :=
  let l := s.mem.fenceWaits.filter fun x => x ≠ w
  (({ s with mem := { s.mem with fenceWaits := l } } : State).stopTimer (fenceKey w.src w.tag)).fenceAck w.port w.req
    w.epoch n complete

/-- A request of an epoch comes: its counter entry, a new one where it holds none and the table has room, is kept from now
(R393, R394). -/
def State.fenceRequest (s : State) (src epoch : Nat) : State :=
  if (s.fenceCtr src epoch).isSome then s.startTimer (fenceIdleKey src epoch)
  else if 8192 ≤ s.mem.fences.length then s
  else
    let l := s.mem.fences ++ [{ src := src, epoch := epoch, count := 0 }]
    ({ s with mem := { s.mem with fences := l } } : State).startTimer (fenceIdleKey src epoch)

/-- A write-class request is answered: it counts in its epoch, in a new entry where the request's own has aged out or was freed and
the table has room, and every FENCE whose count is reached is answered with the count at this moment (R393, R394; log 120). -/
def State.countAnswer (s : State) (src epoch : Nat) : State :=
  let t := if (s.fenceCtr src epoch).isSome then s else s.fenceRequest src epoch
  match t.fenceCtr src epoch with
  | none => t
  | some c =>
    let n := c + 1
    let l := t.mem.fences.filter (fun f => ¬ (f.src = src ∧ f.epoch = epoch)) ++ [{ src := src, epoch := epoch, count := n }]
    let s1 : State := { t with mem := { t.mem with fences := l } }
    (s1.mem.fenceWaits.filter fun w => w.src = src && w.epoch = epoch && decide (w.n ≤ n)).foldl
      (fun u w => u.endFence w n true) s1

/-- OP of a write-class request: WRITE, FETCH_ADD or CAS. -/
def writeClass (op : Nat) : Bool := decide (0x4002 ≤ op ∧ op ≤ 0x4004)

/-- EPOCH of a write-class request or a FENCE (R388). -/
def Pkt.epoch (k : Pkt) : Nat := k.num 48 2

/-- An ERROR reply to a fabric memory request from a port, counted in its epoch where it is write-class (R393). -/
def State.memError (s : State) (port : Nat) (k : Pkt) (code : Nat) : State :=
  let s1 := s.originate port (s.errorPkt k code)
  if writeClass k.op then (s1.fenceRequest k.src k.epoch).countAnswer k.src k.epoch else s1

/-- The firmware port answers a packet that no unit can consume; a fabric memory request counts in REFUSED (R390, R526). -/
def State.answerUnconsumed (s : State) (k : Pkt) (code : Nat) : State :=
  if 0x4001 ≤ k.op ∧ k.op ≤ 0x4005 then (s.bump A.WINDOW_REFUSED 1).memError 288 k code
  else s.originate 288 (s.errorPkt k code)

end Sys2Proof.Machine
end

