-- ==== Sys2Proof/Machine/Fabric.lean ====
section
/-! DEFINITION. The commands of packets, tracks and flow control (05_packets.md) and of the switch core (06_switch_core.md). -/

namespace Sys2Proof.Machine

/-- A port of the switch core. -/
def portOk (p : Nat) : Bool := p < 289

/-- A pool of the module: the cell pool, the staging-slab pool, or the slot pool of a coach (R173). -/
def poolOk (k : Nat) : Bool := k < 2 || (decide (64 ≤ k ∧ k < 1088) && decide ((k - 64) % 64 < 33))

/-! ## Reception (R137, R142 to R147) -/

/-- The unit can be read as a header: row 1 of R146. -/
def unitParses (k : Pkt) (bad : Bool) (kinds : List Nat) : Bool :=
  !bad && k.sync == 0xC35A && kinds.contains k.kind && k.crcOk

/-- TC and PAYLOAD give a class and a length (R137). -/
def headerSized (k : Pkt) : Bool :=
  k.tc < 6 && (if k.kind = 1 then k.pay == 0 else decide (1 ≤ k.pay ∧ k.pay ≤ 16))

/-- The class may come in on the port: a port that is not PLANNED acts as if TC_ALLOW held only bit 4 (R127, R146, R222). -/
def State.classAllowed (s : State) (p : Nat) (k : Pkt) : Bool :=
  (if s.get (F.PORT_STATE_TOPO p) = 1 then (s.get (F.PORT_TC_ALLOW_ALLOW p)).testBit k.tc else k.tc == 4) &&
    (s.flag F.TOP_MODULE_NUM_VALID || (k.tc == 4 && k.dst == 0xFFFF))

/-- Adds to RX_TOTAL (R137). -/
def State.rxCharge (s : State) (p c n : Nat) : State :=
  s.put (F.PORT_CR_RX_TOTAL_TOTAL p c) ((s.get (F.PORT_CR_RX_TOTAL_TOTAL p c) + n) % 2 ^ 24)

/-- A packet that passed the header checks is discarded at its header: its cost returns on the same edge, and its
payload units are let pass (R137). -/
def State.dropHeader (s : State) (p : Nat) (k : Pkt) : State :=
  (s.returnCredit p k.tc k.cost).setPort p { s.port p with rxSkip := k.pay != 0 }

/-- DISC_POLICY with its cause (R146). -/
def State.discPolicy (s : State) (p cause : Nat) : State := (s.bump (A.PORT_DISC_POLICY p) 1).raise .PORT p 0 cause

/-- Resolves a received packet: DST_NODE 0xFFFF names this module too (R126, R127, R165). -/
def State.resolveIn (s : State) (k : Pkt) : Way × State :=
  if k.dst = 0xFFFF then ((match s.dest k with | .out p => .out p | .error c => .error c), s) else s.resolve k k.dst

/-- A packet whose header checks passed (R137, R146, R158). -/
def State.takeHeader (s : State) (p : Nat) (k : Pkt) : State :=
  let s1 := (s.rxCharge p k.tc k.cost).bump (A.PORT_UNITS_RX p) 1
  if k.ver ≠ 1 ∨ (k.dst = 0xFFFF ∧ k.tc ≠ 4) then (s1.bump (A.PORT_DISC_FORMAT p) 1).dropHeader p k
  else if !s1.classAllowed p k then (s1.discPolicy p K.PORT_CLASS_REFUSED).dropHeader p k
  else
    let own := decide (k.dst = 0xFFFF ∨ (k.dst < 0x1000 ∧ k.dst = s1.node))
    match s1.resolveIn k with
    | (.none, t) => (t.discPolicy p K.PORT_NO_ROUTE).dropHeader p k
    | (w, t) =>
      if ¬ own ∧ k.hops = 0 then (t.discPolicy p K.PORT_HOPS_EXPIRED).dropHeader p k
      else
        let a := t.allocate p k 1 false (match w with | .out o => some o | _ => none)
        a.2.setPort p { a.2.port p with rx := some a.1 }

/-- A LINK unit that passes its checks (R138, R142, R143). -/
def State.takeLinkUnit (s : State) (p : Nat) (k : Pkt) : State :=
  let d (t : State) (c : Nat) : Nat := (k.num (8 + 8 * c) 3 + 2 ^ 24 - t.get (F.PORT_CR_RX_TOTAL_TOTAL p c)) % 2 ^ 24
  let wrong := (List.range 6).any fun c => decide (65535 < d s c)
  let lost := (List.range 6).any fun c => d s c != 0 && decide (d s c ≤ 65535)
  let s1 := (List.range 6).foldl (fun t c =>
    let n := d t c
    let t1 := if n ≤ 65535 then ((t.rxCharge p c n).returnCredit p c n).bump (A.PORT_RECONCILED_CELLS p) n else t
    (t1.put (F.PORT_CR_RETURN_RX_TOTAL p c) (k.num (11 + 8 * c) 3)).put (F.PORT_CR_TX_GRANT_GRANT p c) (k.num (14 + 8 * c) 2)) s
  let s2 := if lost then s1.raise .PORT p 0 K.PORT_RECONCILE else s1
  let first := !(s2.port p).linkHeard
  let s3 := s2.setPort p { s2.port p with linkHeard := true, hunt := false }
  if wrong then (s3.raise .PORT p 0 K.PORT_CREDIT_PROTOCOL).linkDown p
  else if first then s3.sendHello p else s3

/-- No packet is being received: the next unit is a header unit or a LINK unit (R121). -/
def State.unitBoundary (s : State) (p : Nat) : Bool := s.linkIsUp p && (s.port p).rx.isNone && !(s.port p).rxSkip

/-- A unit at a boundary: a LINK unit, a header unit, or neither (R137, R145 to R147). -/
def State.takeUnit (t : State) (p : Nat) (k : Pkt) (bad : Bool) : State :=
  if unitParses k bad [3] then t.takeLinkUnit p k
  else if !unitParses k bad [1, 2] then
    if (t.port p).hunt then t
    else (t.bump (A.PORT_DISC_HDR p) 1).setPort p { t.port p with hunt := true }
  else if !headerSized k then (t.bump (A.PORT_DISC_FORMAT p) 1).setPort p { t.port p with hunt := true }
  else (t.setPort p { t.port p with hunt := false }).takeHeader p k

/-- PACKET_HEADER_RX (R114, R137, R145 to R147): a unit sent on a lost lane cannot be read. -/
def execPacketHeaderRx (p : Nat) (unit : List Byte) (bad : Bool) (s : State) : Host.Outcome State Fault Refusal :=
  s.finish (decide (p < 256) && unit.length == 64) fun t =>
    if t.unitBoundary p then
      (t.countUnits p 1).takeUnit p { hdr := unit, payload := [] } (bad || t.unitsLost p (t.port p).rxUnits 1)
    else t

/-- An output is not excluded from the choice (R165). -/
def State.outLive (s : State) (o tc : Nat) : Bool :=
  if o < 256 then s.portLive o tc else o == 288 || s.stationUp o

/-- A whole good packet is enqueued at the output chosen at its header where that is not excluded, else at one chosen anew;
one that no unit can consume is answered, and one without an output is discarded (R145, R158, R165, R526). -/
def State.placeReceived (s : State) (p : Nat) (b : BufPkt) : State :=
  let k := b.pkt
  let s1 := (s.bump (A.PORT_PKT_RX p) 1).bump A.SWITCH_UNITS_WRITTEN k.units
  let place (t : State) (o : Nat) : State :=
    (t.setBuf { b with pkt := if o < 256 then k.hop else k, whole := true }).enqueue b.id o k.tc k.dst
  match b.chosen.filter fun o => s1.outLive o k.tc with
  | some o => place s1 o
  | none =>
    match s1.resolveIn k with
    | (.out o, t) => place t o
    | (.error c, t) => (t.discard b.id).answerUnconsumed k c
    | (.none, t) => (t.discPolicy p K.PORT_NO_ROUTE).discard b.id

/-- PACKET_RX_COMPLETE (R114, R145, R146): a packet with a lost unit is bad. -/
def execPacketRxComplete (p : Nat) (payload : List Byte) (bad : Bool) (s : State) : Host.Outcome State Fault Refusal :=
  s.finish (decide (p < 256)) fun t =>
    if (t.port p).rxSkip then
      ((t.setPort p { t.port p with rxSkip := false }).bump (A.PORT_UNITS_RX p) ((payload.length + 63) / 64)).countUnits p
        ((payload.length + 63) / 64)
    else
      match (t.port p).rx with
      | none => t
      | some id =>
        match t.bufPkt id with
        | none => t
        | some b =>
          if payload.length ≠ 256 * b.pkt.pay then t
          else
            let lost := t.unitsLost p (t.port p).rxUnits (4 * b.pkt.pay)
            let t1 := ((t.setPort p { t.port p with rx := none }).bump (A.PORT_UNITS_RX p) (4 * b.pkt.pay)).countUnits p
              (4 * b.pkt.pay)
            if bad || lost then (t1.bump (A.PORT_DISC_FEC p) 1).discard id
            else if b.pkt.pay ≠ 0 ∧ crc32 payload ≠ b.pkt.payCrc then (t1.bump (A.PORT_DISC_PAYLOAD_CRC p) 1).discard id
            else t1.placeReceived p { b with pkt := { b.pkt with payload := payload } }

/-- LINK_UNIT_RX (R138, R142, R143); one that fails its checks is ignored (R139). -/
def execLinkUnitRx (p : Nat) (unit : List Byte) (bad : Bool) (s : State) : Host.Outcome State Fault Refusal :=
  s.finish (decide (p < 256) && unit.length == 64) fun t =>
    let k : Pkt := { hdr := unit, payload := [] }
    if t.unitBoundary p then
      let u := t.countUnits p 1
      if unitParses k (bad || t.unitsLost p (t.port p).rxUnits 1) [3] then u.takeLinkUnit p k else u
    else t

/-- A LINK unit is to be sent (R139). -/
def State.linkDue (s : State) (p : Nat) : Bool :=
  let h := s.port p
  let now := s.linkTotals p
  let changed := (List.range 6).any fun c =>
    now.getD (3 * c + 1) 0 != h.linkSent.getD (3 * c + 1) 0 || now.getD (3 * c + 2) 0 != h.linkSent.getD (3 * c + 2) 0
  (changed && decide (max 8 (s.get (F.PORT_FC_CFG_LINK_EVERY p)) ≤ h.unitsSince)) ||
    (match s.timer { kind := .linkTx, a := p } with
      | some t => decide (max 1 (s.get (F.PORT_FC_CFG_LINK_MAX_GAP p)) ≤ 10 * (s.clk - t))
      | none => true) ||
    (s.schedule p).1.isNone

/-- LINK_UNIT_TX (R121, R139, R418): between packets. -/
def execLinkUnitTx (p : Nat) (s : State) : Host.Outcome State Fault Refusal :=
  s.finish (decide (p < 256)) fun t =>
    if t.transmits p ∧ (t.port p).tx = none ∧ t.linkDue p then t.sendLink p else t

/-! ## Transmission (R136, R192, R199, R203) -/

/-- Inserts t1 or t3 into a time packet of the module as its header unit leaves (R203). -/
def State.insertTime (s : State) (p : Nat) (b : BufPkt) : State :=
  if b.acct = 288 ∧ b.pkt.dst = 0xFFFF ∧ b.pkt.op = 0x0101 then
    (s.setBuf { b with pkt := (b.pkt.patch 34 (stamp s.now)).seal }).setPort p
      { s.port p with syncT1 := some (s.time.ns, s.time.frac) }
  else if b.acct = 288 ∧ b.pkt.dst = 0xFFFF ∧ b.pkt.op = 0x0102 then
    s.setBuf { b with pkt := (b.pkt.patch 46 (stamp s.now)).seal }
  else s

/-- A copy starts to leave on a fabric port (R136, R199). -/
def State.startCopy (s : State) (p : Nat) (c : Copy) (k : Pkt) : State :=
  let s1 : State := { s with sw := { s.sw with
    queue := s.sw.queue.map fun x => if x.id = c.id then { x with sending := true } else x } }
  let s2 := (s1.put (F.PORT_CR_DEBIT_TOTAL_TOTAL p c.tc)
    ((s1.get (F.PORT_CR_DEBIT_TOTAL_TOTAL p c.tc) + k.cost) % 2 ^ 24)).bucketTake p c.tc k
  let s3 := match s2.bufPkt c.pkt with | some b => s2.insertTime p b | none => s2
  (s3.setPort p { s3.port p with tx := some c.id }).settle p

/-- PACKET_TX_START (R118, R136, R140, R192, R418). -/
def execPacketTxStart (p : Nat) (s : State) : Host.Outcome State Fault Refusal :=
  s.finish (decide (p < 256)) fun t0 =>
    let t := t0.noteNofit p
    if t.transmits p ∧ (t.port p).linkHeard ∧ t.mach (.port p) = UP ∧ (t.port p).tx = none then
      match t.schedule p with
      | (some c, t1) =>
        (match t1.head p c with
        | some y => (match t1.copyPkt y with | some k => t1.startCopy p y k | none => t1)
        | none => t1)
      | (none, t1) => t1
    else t

/-- The packet can be read out of an internal port without a command of its own: its consumer has room, or must take it
(R131). -/
def readable (o : Nat) (room : Bool) (k : Pkt) : Bool :=
  !hasConsumer o k.op && (room || k.tc == 2 || k.tc == 3 || k.tc == 4)

/-- PACKET_READ_OUT (R131, R137, R168, R192): at a fabric port the packet being sent ends; at an internal one the head of
the class goes to its consumer in the class's turn, and TC4 without room is discarded. -/
def execPacketReadOut (o tc : Nat) (room : Bool) (s : State) : Host.Outcome State Fault Refusal :=
  s.finish (portOk o && decide (tc < 6)) fun t =>
    if o < 256 then
      match (t.port o).tx with
      | none => t
      | some id =>
        let t0 := t.setPort o { t.port o with tx := none }
        match t0.sw.queue.find? fun c => c.id = id with
        | none => t0
        | some c =>
          match t0.copyPkt c with
          | none => t0.leave c
          | some k =>
            let lanes := t0.unitLanes o (t0.port o).txUnits k.units
            let t1 := ((t0.emit (.packet o k lanes)).bump (A.PORT_PKT_TX o) 1).bump (A.PORT_UNITS_TX o) k.units
            let t2 := (t1.setPort o { t1.port o with unitsSince := (t1.port o).unitsSince + k.units }).sentUnits o k.units
            t2.consume c k
    else
      match t.headFor o (readable o room) with
      | none => t
      | some (c, k) =>
        if k.tc ≠ tc then t
        else if tc = 4 ∧ ¬ room then
          let acct := match t.bufPkt c.pkt with | some b => b.acct | none => 288
          (if acct < 256 then t.bump (A.PORT_DISC_POLICY acct) 1 else t).consume c k
        else (t.emit (.packet o k [])).consume c k

/-! ## Limits and origination -/

/-- LIMIT_RELEASE (R162). -/
def execLimitRelease (p c : Nat) (s : State) : Host.Outcome State Fault Refusal :=
  s.finish (portOk p && decide (c < 6)) fun t =>
    if (t.sw.releasing.any fun e => e.1 = p ∧ e.2.1 = c) ∧ (t.linkIsDown p ∨
        (t.held p c ≤ t.eff p c ∧ t.due { kind := .release, a := p, b := c } (us 200))) then t.dropOldLimit p c
    else t

/-- LIMIT_PENDING_RAISE (R161): pending accounts are served in ascending order of 8p + c. -/
def execLimitPendingRaise (p c : Nat) (s : State) : Host.Outcome State Fault Refusal :=
  s.finish (portOk p && decide (c < 6)) fun t =>
    let lower := (List.range (8 * p + c)).any fun n => n % 8 < 6 && t.flag (F.SWITCH_EFF_PENDING (n / 8) (n % 8))
    if t.flag (F.SWITCH_EFF_PENDING p c) ∧ ¬ lower then t.raiseEff p c else t

/-- MULTICAST_ADMIT (R166, R167): an offer of a processor joins the firmware port's waiting packets; else the
multicast whose turn it is at the port is admitted once its account has room. -/
def execMulticastAdmit (o : Nat) (offer : Option (List Byte × List Byte × List Nat)) (s : State) :
    Host.Outcome State Fault Refusal :=
  s.finish (decide (256 ≤ o) && portOk o && (match offer with
      | some f => o == 288 && f.1.length == 64 && decide (1 ≤ f.2.2.length ∧ f.2.2.length ≤ 1024)
      | none => true)) fun t =>
    match offer with
    | some f => t.multicast 288 ({ hdr := f.1, payload := f.2.1 } : Pkt).launch f.2.2 none
    | none => t.admitNext o

/-- MC_BLOCKED (R167). -/
def execMcBlocked (o : Nat) (s : State) : Host.Outcome State Fault Refusal :=
  s.finish (decide (256 ≤ o) && portOk o) fun t => t.mcBlocked o

/-- ORIGINATED_SEND (R125, R126, R164): an offer of a processor names the link of a packet to 0xFFFF; without one, the
packet whose turn it is at the port and class leaves. -/
def execOriginatedSend (o tc : Nat) (offer : Option (List Byte × List Byte × Nat)) (s : State) :
    Host.Outcome State Fault Refusal :=
  s.finish (decide (256 ≤ o) && portOk o && decide (tc < 6) && (match offer with
      | some f => o == 288 && f.1.length == 64 && decide (f.2.2 < 256)
      | none => true)) fun t =>
    match offer with
    | some f =>
      let k : Pkt := ({ hdr := f.1, payload := f.2.1 } : Pkt).launch
      t.originate 288 k (if k.dst = 0xFFFF then some f.2.2 else none)
    | none => t.sendWaiting o tc

/-! ## Flush (R170, R172) -/

/-- FLUSH_COMPLETE (R170, R172). LINK leaves DOWN only now. -/
def execFlushComplete (p : Nat) (s : State) : Host.Outcome State Fault Refusal :=
  s.finish (portOk p) fun t =>
    if (t.port p).flushing then
      let t1 := t.endFlush p
      if p < 256 ∧ ¬ (t1.port p).flushing ∧ t1.get (F.PORT_STATE_LINK p) = LINK_DOWN ∧ (t1.portLanes p).any (fun l => t1.phase l != P_IDLE) then
        (t1.put (F.PORT_STATE_LINK p) LINK_TRAINING).startTimer { kind := .train, a := 0, b := p }
      else t1
    else t

/-- FLUSH_OVERRUN (R170): the domain of the lane die, or of the section, is treated as hung. -/
def execFlushOverrun (p : Nat) (s : State) : Host.Outcome State Fault Refusal :=
  s.finish (portOk p) fun t =>
    if (t.port p).flushing ∧ t.due { kind := .flush, a := p } (us 12) then
      t.raiseHang .SWITCH 0 0 K.SWITCH_FLUSH_OVERRUN
        (if p < 256 then t.evDomain .PORT p 0 else dom 1 ((p - 256) / 2))
    else t

/-! ## Pools (R174 to R177) -/

/-- Delivers the grant of a request by its tag; it waits no longer (R174). -/
def State.deliver (s : State) (k : Nat) (w : PoolReq) : State :=
  let s1 := s.setPool k { s.pool k with waits := (s.pool k).waits.filter fun x => x ≠ w }
  let g := s1.poolTake k w.n w.req
  let t := g.2.setPool k { g.2.pool k with grants := (g.2.pool k).grants ++ [(w.tag, g.1)] }
  if k < 64 then t else t.settleSlots k

/-- A request that is made: granted on this edge where it fits and, in an accumulator-slot pool, its turn among those that fit;
else it waits, and QUOTA_WAITS counts it (R14, R174, R193). -/
def State.poolRequest (s : State) (k : Nat) (w : PoolReq) : State :=
  let waits : State := (s.setPool k { s.pool k with waits := (s.pool k).waits ++ [w] }).bump A.POOL_QUOTA_WAITS 1
  if !s.poolFits k w.n w.req then waits
  else if k < 64 then s.deliver k w
  else
    match s.slotTurn k [⟨w.child, 1, w.n⟩] with
    | (some child, t) => if child = w.child && !((s.pool k).waits.any fun x => x.child = child) then t.deliver k w else waits
    | (none, _) => waits

/-- POOL_REQUEST (R174): a grant on the edge of the request is delivered by its tag. -/
def execPoolRequest (k r n tag : Nat) (s : State) : Host.Outcome State Fault Refusal :=
  s.finish (poolOk k && decide (k ≠ 0 ∧ r < 4)) fun t => t.poolRequest k ⟨r, n, tag⟩

/-- Grants a waiting request of a pool that fits: in an accumulator-slot pool the one whose turn it is, in the staging-slab
pool that of the first requester from the pool's pointer (R169, R174, R193). -/
def State.poolGrant (s : State) (k : Nat) : State :=
  if k < 64 then
    match s.nextRequest k with
    | some w => s.deliver k w
    | none => s
  else
    match s.slotTurn k [] with
    | (some child, t) =>
      (match (s.pool k).waits.find? fun w => w.child = child && s.poolFits k w.n w.req with
      | some w => t.deliver k w
      | none => s)
    | (none, _) => s

/-- POOL_GRANT (R174). -/
def execPoolGrant (k : Nat) (s : State) : Host.Outcome State Fault Refusal :=
  s.finish (poolOk k) fun t => t.poolGrant k

/-- POOL_FREE (R175). -/
def execPoolFree (k e r : Nat) (s : State) : Host.Outcome State Fault Refusal :=
  s.finish (poolOk k) fun t => if e < t.rd (A.POOL_SIZE k) then t.poolFree k e r else t

/-- POOL_WALK (R177). -/
def execPoolWalk (k : Nat) (errs : List Nat) (s : State) : Host.Outcome State Fault Refusal :=
  s.finish (poolOk k) fun t => t.poolWalk k errs

/-- POOL_RELINK_DONE (R177). -/
def execPoolRelinkDone (k i : Nat) (s : State) : Host.Outcome State Fault Refusal :=
  s.finish (poolOk k) fun t => t.relinkDone k i

/-! ## Path choice (R189, R190) -/

/-- PATH_REMOVED (R189). -/
def execPathRemoved (p : Nat) (s : State) : Host.Outcome State Fault Refusal :=
  s.finish (decide (p < 256)) fun t =>
    if (t.port p).live ∧ ¬ t.portLive p 0 then
      ((t.setPort p { t.port p with live := false }).bump A.ROUTE_PATH_REMOVALS 1).raise .ROUTE 0 0 K.ROUTE_PATH_REMOVED
    else t

/-- PATH_RETURN (R190). -/
def execPathReturn (p : Nat) (s : State) : Host.Outcome State Fault Refusal :=
  s.finish (decide (p < 256)) fun t =>
    if ¬ (t.port p).live ∧ t.portLive p 0 then
      (t.setPort p { t.port p with live := true }).bump A.ROUTE_PATH_RETURNS 1
    else t

/-! ## Shaping and network time (R198, R203 to R211) -/

/-- BUCKET_REFILL (R198). -/
def execBucketRefill (s : State) : Host.Outcome State Fault Refusal := s.finish true fun t => t.bucketRefill

/-- TIME_SYNC_TX (R203). -/
def execTimeSyncTx (p : Nat) (s : State) : Host.Outcome State Fault Refusal :=
  s.finish (decide (p < 256)) fun t => t.sendSync p

/-- The account, arrival time and packet at the head of the firmware port with an OP, already consumed. -/
def State.takeManagement (s : State) (op : Nat) : Option (Nat × Nat × Pkt) × State :=
  match s.headFor 288 fun k => k.op == op with
  | some (c, k) =>
    let a := match s.bufPkt c.pkt with | some b => (b.acct, b.arrived.1 * 2 ^ 32 + b.arrived.2) | none => (288, 0)
    (some (a.1, a.2, k), s.consume c k)
  | none => (none, s)

/-- TIME_SYNC (R203): answered on the port on which it came. -/
def execTimeSync (s : State) : Host.Outcome State Fault Refusal :=
  s.finish true fun t =>
    match t.takeManagement 0x0101 with
    | (some (p, t2, k), u) => if p < 256 then u.answerSync p k t2 else u
    | (none, u) => u

/-- TIME_REPLY (R204). -/
def execTimeReply (s : State) : Host.Outcome State Fault Refusal :=
  s.finish true fun t =>
    match t.takeManagement 0x0102 with
    | (some (p, t4, k), u) => if p < 256 then u.takeReply p k t4 else u
    | (none, u) => u

/-- TIME_EXCHANGE_MISSED (R205). -/
def execTimeExchangeMissed (s : State) : Host.Outcome State Fault Refusal :=
  s.finish true fun t =>
    let p := t.timeParent
    if t.due { kind := .sync, a := p } (us t.syncUs) then t.missExchange p else t

/-- TIME_PARENT_LOST (R205). -/
def execTimeParentLost (s : State) : Host.Outcome State Fault Refusal := s.finish true fun t => t.timeParentLost

/-- PPS_IN_EDGE (R206). -/
def execPpsInEdge (s : State) : Host.Outcome State Fault Refusal := s.finish true fun t => t.ppsEdge

/-- PPS_MISSING (R206). -/
def execPpsMissing (s : State) : Host.Outcome State Fault Refusal := s.finish true fun t => t.ppsMissing

/-- PPS_OUT_PULSE (R207). -/
def execPpsOutPulse (s : State) : Host.Outcome State Fault Refusal := s.finish true fun t => t.ppsPulse

/-- GATE_SWAP (R211). -/
def execGateSwap (p : Nat) (s : State) : Host.Outcome State Fault Refusal :=
  s.finish (decide (p < 256)) fun t => t.gateSwap p

/-- GATE_ENTRY_ADVANCE (R209). -/
def execGateEntryAdvance (p : Nat) (s : State) : Host.Outcome State Fault Refusal :=
  s.finish (decide (p < 256)) fun t => t.gateAdvance p

/-- GATE_BASE_REACHED (R209). -/
def execGateBaseReached (p : Nat) (s : State) : Host.Outcome State Fault Refusal :=
  s.finish (decide (p < 256)) fun t => t.gateBegin p

/-! ## Discovery (R217, R219, R221) -/

/-- HELLO_TX (R217): every HELLO_US. -/
def execHelloTx (p : Nat) (s : State) : Host.Outcome State Fault Refusal :=
  s.finish (decide (p < 256)) fun t =>
    if t.elapsed { kind := .hello, a := p } (us (t.helloUs p)) then t.sendHello p else t

/-- HELLO (R219): any packet of OP 0x0001 that comes to the firmware port is one (DESIGN CHOICE, log 126). -/
def execHello (s : State) : Host.Outcome State Fault Refusal :=
  s.finish true fun t =>
    match t.takeManagement 0x0001 with
    | (some (p, _, k), u) => if p < 256 then u.takeHello p k else u
    | (none, u) => u

/-- NEIGHBOUR_DEAD (R219). -/
def execNeighbourDead (p : Nat) (s : State) : Host.Outcome State Fault Refusal :=
  s.finish (decide (p < 256)) fun t =>
    if t.flag (F.PORT_NB_NODE_VALID p) ∧ t.due { kind := .dead, a := p } (us (t.deadCount p * t.helloUs p)) then
      (t.dropNeighbour p).reTopo p
    else t

/-- ABSENT_TIMEOUT (R221): the outcome is evaluated anew once ABSENT_MS has passed since STARTING. -/
def execAbsentTimeout (p : Nat) (s : State) : Host.Outcome State Fault Refusal :=
  s.finish (decide (p < 256)) fun t => t.reTopo p

end Sys2Proof.Machine
end

