-- ==== Sys2Proof/Machine/Jobs.lean ====
section
/-! DEFINITION. Runs that the stations and the update engine submit to the coaches (R308, R321, R338 to R340, R350, R376): what
they compute, what their endings mean to their requesters, and their resubmission. Their descriptors, and so how a tile or a
product is cut, are given nowhere (log 105). -/

namespace Sys2Proof.Machine

/-! ## Weight slices (R60, R310, R350) -/

/-- Rows of an expert's matrices, in the order of its weight vector: first element and length. -/
def Work.weightRows (w : Work) (k : Nat) : List (Nat × Nat) :=
  let d := w.dim k
  let h := w.hidden k
  let first := if w.act k = 0 then 2 * h else h
  (List.range first).map (fun i => (i * d, d)) ++ (List.range d).map fun i => (first * d + i * h, h)

/-- A row of a weight vector of `n` elements in the per-row layout: its codes, then its scales. -/
def rowOfVector (fmt n : Nat) (b : List Byte) (row : Nat × Nat) : List Byte :=
  slice b (codeBytes fmt row.1) (codeBytes fmt row.2) ++
    if isK fmt then slice b (codeBytes fmt n + row.1 / 32) (row.2 / 32) else []

/-- The slice of pass `pass` of `total`: its share of the rows of a weight vector of `n` elements. -/
def Work.weightSlice (w : Work) (k fmt n : Nat) (b : List Byte) (pass total : Nat) : List Byte :=
  let rows := w.weightRows k
  let a := pass * rows.length / total
  ((rows.drop a).take ((pass + 1) * rows.length / total - a)).flatMap (rowOfVector fmt n b)

/-- A slice moves into the sliver stores that a run uses: its core's, or all of the coach. What exceeds them passes through in
parts. -/
def CoachHid.moveSlice (c : CoachHid) (r : Run) (l : List Byte) : CoachHid :=
  let base := if r.coachWide then 0 else r.core * SLIVER
  let room := if r.coachWide then 16 * SLIVER else SLIVER
  (cutList (List.replicate ((l.length + room - 1) / room) room) l).foldl (fun h x => h.write base x) c

/-! ## Issue -/

/-- The one descriptor that stands for a run's own has been executed: `flags` are those of the elements that it wrote. How many
descriptors and busy cycles it took, and which core of a COACH run wrote an element, are free values (R89, R315; log 105). -/
def State.jobIssued (s : State) (c : Nat) (x : Running) (flags : List Nat) : State :=
  let p := c / 64
  let q := c % 64
  let h := s.coach c
  let n := (flags.filter fun f => f.testBit 0).length
  let y : Running := { x with pc := x.pc + 1, done := x.done + 1, flags := x.flags ||| runFlagBits (joined flags)
                              invalids := x.invalids + n }
  let s1 := s.setCoach c { h with running := h.running.map fun z => if z = x then y else z }
  let d := s1.fresh
  let a := d.2.fresh
  let v := a.2.fresh
  let s2 := ((v.2.bump (A.COACH_DESCRIPTORS p q) d.1).bump (A.COACH_ARRAY_BUSY p q) a.1).bump (A.COACH_VECTOR_BUSY p q) v.1
  if x.run.coachWide then
    let k := s2.fresh
    k.2.bump (A.COACH_VX_INVALID p q (k.1 % 16)) n
  else s2.bump (A.COACH_VX_INVALID p q (placeCore (s2.arrayOn c) x.run.core)) n

/-- A tile of a work whose runs have all issued is computed: forward, or backward with its saved DISPATCH (R363, R369). -/
def State.computeTile (s : State) (w : Work) (k tile : Nat) : Option (List Nat) × State :=
  if w.op = 9 then s.forwardTile w k tile
  else match s.savedWork w.line w.step w.sub with
    | some d => s.backwardTile w d k tile
    | none => (some [], s)

/-- A pass of a tile: its slice moves into the sliver stores; with the last pass to issue the tile's rows are computed, and its
gradient products written (R350). A run whose work has ended computes nothing. -/
def State.issueTile (s : State) (c : Nat) (x : Running) (w : Work) (p : TileRuns) (pass : Nat) : State :=
  let tw := s.tensorWords (w.tensor p.k)
  let fmt := wordField tw 6 10 4
  match s.readSpace SP_EXPERT (weightPage tw) (vecBytes fmt (tensorElems tw)) with
  | (none, t) => t.setEnding c x 3 x.pc
  | (some b, t) =>
    let t1 := t.setCoach c ((t.coach c).moveSlice x.run (w.weightSlice p.k fmt (tensorElems tw) b pass p.total))
    let p1 := { p with issued := p.issued.erase pass ++ [pass] }
    let w1 := w.setRuns p1
    if p1.issued.length < p.total then (t1.setWork w1).jobIssued c x []
    else
      match t1.computeTile w1 p.k p.tile with
      | (none, u) => u.setEnding c x 3 x.pc
      | (some fl, u) => u.jobIssued c x fl

/-- The products of a chunk's tile are computed at the coach (R321, R338). -/
def State.issueProducts (s : State) (c : Nat) (x : Running) (h : Shard) (ch : Chunk) : State :=
  let y := s.line ch.key.line
  let g := ch.grads.map (·.1)
  match s.tileIn h (ch.key.idx / max 1 y.shardCount * g.length) g.length with
  | (.error _, t) => t.setEnding c x 3 x.pc
  | (.ok i, t) => t.jobIssued c x (tileOut h i g).runs

/-- Issues the descriptor of a run of a station or of the update engine. -/
def State.issueJob (s : State) (c : Nat) (x : Running) : State :=
  match x.run.job with
  | .list => s
  | .tile g step sub op k tile pass =>
    (match s.work g step sub op with
    | some w => (match w.runsOf k tile with
      | some p => s.issueTile c x w p pass
      | none => s.jobIssued c x [])
    | none => s.jobIssued c x [])
  | .products g step sub idx =>
    (match s.chunk ⟨g, step, sub, 0, idx⟩, s.shardOf g step sub with
    | some ch, some h => if ch.stage = .apply ∧ ch.products = 1 then s.issueProducts c x h ch else s.jobIssued c x []
    | _, _ => s.jobIssued c x [])
  | .refresh tensor tile bank =>
    match s.upd.refreshes.find? fun r => r.tensor = tensor && r.tile = tile && r.bank = bank with
    | some r => (match s.refreshRun r with
      | (some fl, t) => t.jobIssued c x fl
      | (none, t) => t.setEnding c x 3 x.pc)
    | none => s.jobIssued c x []

/-! ## Submission (R308, R339, R340, R350) -/

/-- A run of the module's own: one descriptor, its record nowhere. -/
def ownRun (queue L core : Nat) (coachWide : Bool) (seed step : Nat) (j : Job) : Run :=
  { queue := queue, list := 0, count := 1, record := 0, core := core, coachWide := coachWide, seed := seed, step := step, tag := 0
    job := j, home := L }

/-- A station submits the runs of a tile, one for each pass (R350). -/
def State.submitTile (s : State) (w : Work) (k tile coach runs core : Nat) : State :=
  let L := 32 * w.sectionOf k + coach
  let w1 := w.setRuns { k := k, tile := tile, total := runs, issued := [], ended := [] }
  (List.range runs).foldl (fun t i => t.submitRun (t.physCoach L)
    (ownRun 0 L (core % 16) (decide (16 ≤ core)) (s.line w.line).seed w.step (.tile w.line w.step w.sub w.op k tile i)))
    (s.setWork w1)

/-- The products of a chunk in APPLY go to the update engine queue of the owning coach (R308, R321). -/
def State.submitProducts (s : State) (ch : Chunk) (h : Shard) : State :=
  (s.setChunk { ch with products := 1, applyWait := false }).submitRun (s.physCoach ch.coach)
    (ownRun 1 ch.coach 0 true h.seed h.step (.products ch.key.line ch.key.step ch.key.sub ch.key.idx))

/-- Refreshes that are in no queue go to the update engine queue of their coach as soon as it serves: at the commit, and again after
an ABORTED or FENCED ending (R339, R340). -/
def State.submitRefreshes (s : State) : State :=
  (s.upd.refreshes.filter fun r => !r.placed && !r.done).foldl (fun t r =>
    let c := t.physCoach r.coach
    if t.coachServes c then
      let u : State := { t with upd := { t.upd with refreshes := t.upd.refreshes.map fun x =>
        if x = r then { r with placed := true } else x } }
      u.submitRun c (ownRun 1 r.coach 0 true 0 r.step (.refresh r.tensor r.tile r.bank))
    else t) s

/-! ## Endings (R304, R314, R316, R340, R376) -/

/-- A pass of a tile has ended OK; with the last one the tile's rows are done, and an expert's last tile leaves its gradient products
written whole (R365, R370). -/
def State.tileEnded (s : State) (w : Work) (p : TileRuns) (pass : Nat) : State :=
  let sec := w.sectionOf p.k
  let s1 := s.bump (A.STATION_STN_RUNS sec) 1
  let p1 := { p with ended := p.ended.erase pass ++ [pass] }
  if p1.ended.length < p.total then s1.setWork (w.setRuns p1)
  else
    let x := w.expertIds.getD p.k 0
    let grads := s1.stn.grads.filter (fun g => g.1 ≠ x) ++ [(x, w.step, w.sub)]
    let s2 : State := if w.op = 10 ∧ w.tileCount p.k ≤ p.tile + 1 then { s1 with stn := { s1.stn with grads := grads } } else s1
    (s2.setWork { w with tiles := w.tiles ++ [(p.k, p.tile)]
                         passes := w.passes.filter fun q => ¬ (q.k = p.k ∧ q.tile = p.tile) }).bump
      (A.STATION_STN_ROWS sec) (w.tileRows p.k p.tile).length

/-- A pass of a tile ended ABORTED or FENCED: it is submitted again unchanged, unless it is a gradient product that had written the
gradient buffer (R376). -/
def State.tileAgain (s : State) (r : Run) (w : Work) (p : TileRuns) (pass done : Nat) : State :=
  if w.op = 10 ∧ done ≠ 0 ∧ p.total ≤ p.issued.length then
    (s.stnCause K.STATION_GRAD_LOST w.line (w.expertIds.getD p.k 0) w.step).chunkEnd ⟨w.line, w.step, w.sub, w.op, 0⟩ 0x21 0 {}
  else ((s.setWork (w.setRuns { p with issued := p.issued.erase pass })).submitRun (s.physCoach r.home) r).bump
    A.STATION_RUN_RESUBMITS 1

/-- A run ended in a way that has it submitted again. -/
def endedEarly (status : Nat) : Bool := status == 1 || status == 4

/-- What a requester does at the end of its run; none while it waits for the coach to serve again. -/
def State.runEnded (s : State) (r : Run) (status done : Nat) : Option State :=
  match r.job with
  | .list => some s
  | .tile g step sub op k tile pass =>
    (match s.work g step sub op with
    | some w => (match w.runsOf k tile with
      | some p =>
        if status = 0 then some (s.tileEnded w p pass)
        else if !endedEarly status then some s
        else if s.coachServes (s.physCoach r.home) then some (s.tileAgain r w p pass done)
        else none
      | none => some s)
    | none => some s)
  | .products g step sub idx =>
    (match s.chunk ⟨g, step, sub, 0, idx⟩ with
    | some ch => some (s.setChunk { ch with products := if endedEarly status then 0 else 2 })
    | none => some s)
  | .refresh tensor tile bank =>
    match s.upd.refreshes.find? fun x => x.tensor = tensor && x.tile = tile && x.bank = bank with
    | some x =>
      if status ≠ 0 ∧ !endedEarly status then some (s.endRefresh x true)
      else some { s with upd := { s.upd with refreshes := s.upd.refreshes.map fun y =>
        if y = x then { x with placed := false, done := status == 0 } else y } }
    | none => some s

/-- The requesters act on the runs that have ended. -/
def State.takeEndings (s : State) : State :=
  s.stn.endings.foldl (fun t e =>
    match t.runEnded e.1 e.2.1 e.2.2 with
    | some u => u
    | none => { t with stn := { t.stn with endings := t.stn.endings ++ [e] } })
    { s with stn := { s.stn with endings := [] } }

/-- A slow cycle of the runs: records that waited are written, and what has ended early is submitted again. -/
def State.runCycle (s : State) : State := s.lateRecords.takeEndings.submitRefreshes

end Sys2Proof.Machine
end

