-- ==== Sys2Proof/Machine/Collect.lean ====
section
/-! DEFINITION. The commands of collectives and of the reduction datapath (09_collectives.md, 10_reduction.md): what each
packet and each event of a line, an entry or a chunk does. -/

namespace Sys2Proof.Machine

/-! ## Common tests -/

/-- A station or firmware port. -/
def inPort (o : Nat) : Bool := decide (256 ≤ o ∧ o ≤ 288)

/-- A line of the part. -/
def lineOk (g : Nat) : Bool := decide (g < 4096)

/-- The head packet of a port with an OP. -/
def State.headOp (s : State) (o op : Nat) : Option (Copy × Pkt) := s.headFor o fun k => k.op == op

/-- CHUNK_TIMER of a line in slow cycles; values outside 10 to 100,000 µs act as the nearer limit (R259). -/
def State.chunkTime (s : State) (g : Nat) : Nat := us (max 10 (min 100000 (s.get (F.COLL_LINE_CTL_CHUNK_TIMER g))))

/-- RESEND_US in slow cycles. -/
def State.resendTime (s : State) : Nat := us (max 10 (s.get F.COLL_CFG_RESEND_US))

/-- The logical coach of a chunk serves and admits (R269, R303). -/
def State.coachOpen (s : State) (L : Nat) : Bool := s.coachServes (s.physCoach L) && !s.substPending (L / 32) (L % 32)

/-! ## Tickets (R242) -/

/-- TICKET. -/
def execTicket (o : Nat) (s : State) : Host.Outcome State Fault Refusal :=
  s.finish (inPort o) fun t =>
    match t.headOp o 0x1001 with
    | some (c, k) => (t.consume c k).takeTicket o k 0 (k.num 58 4) fun y _ => ticketFormed y k
    | none => t

/-- STATION_TICKET (R355). -/
def execStationTicket (o : Nat) (s : State) : Host.Outcome State Fault Refusal :=
  s.finish (inPort o) fun t =>
    match t.headOp o 0x2001 with
    | some (c, k) =>
      let g := k.group
      let nexp := if t.flag (F.STATION_STATION_LINE_VALID g) then some (t.get (F.STATION_STATION_LINE_NEXP g)) else none
      (t.consume c k).takeTicket o k (k.byte 36 % 16) (k.num 46 4) fun y j => stationTicketFormed y j nexp k
    | none => t

/-! ## Entries becoming ACTIVE (R247, R249, R325, R326, R527, R529) -/

/-- Entries of a line that are ACTIVE. -/
def State.activeCount (s : State) (g : Nat) : Nat := ((s.lineEntries g).filter fun e => e.state = .active).length

/-- The entry of a line that reached MATCHED first. -/
def State.nextMatched (s : State) (g : Nat) : Option Entry :=
  ((s.lineEntries g).filter fun e => e.state = .matched).foldl (fun b e =>
    match b with
    | none => some e
    | some f => if e.order < f.order then some e else some f) none

/-- Elements that ALL_GATHER_V drops of each member at this line (R238). -/
def State.countDropped (s : State) (e : Entry) (y : LineCopy) : Entry × State :=
  if e.op y = 3 then
    y.sources.foldl (fun (r : Entry × State) j =>
      let n := if (y.source j).isLine then 0 else e.vcount j - y.capacity
      if n = 0 then r
      else ({ r.1 with dropped := r.1.dropped ++ [j] }, r.2.bump (A.COLL_DROPPED (bits (y.word 0) 0 16 + j)) n)) (e, s)
  else (e, s)

/-- What a chunk that heard from its parent early does as its entry becomes ACTIVE. -/
def State.earlyDones (s : State) (e : Entry) : State :=
  (s.coll.chunks.filter fun c => c.key.line = e.line ∧ c.key.step = e.step ∧ c.key.sub = e.sub ∧ c.key.fam = e.fam).foldl
    (fun t c => match c.parentDone with
      | some d => if c.status.isNone ∧ c.endsWith e (s.line e.line) (d.num 36 1) then
          t.chunkEnd c.key (d.num 36 1) (d.num 40 2) (FlagRec.read (d.num 37 1 % 32) (d.num 42 19)) else t
      | none => t) s

/-- Chunks that got a status before their entry became ACTIVE send their DONE from here (R292). -/
def State.earlyEnds (s : State) (e : Entry) : State :=
  if s.coll.chunks.any fun c => c.key.line = e.line && c.key.step = e.step && c.key.sub = e.sub && c.key.fam = e.fam &&
      c.status.isSome then State.flushDones (s.coll.chunks.length + 1) (e.key 0) s
  else s

/-- Chunks that the line owns and has not ended, with a fresh record where none is kept. -/
def State.chunksLeft (s : State) (e : Entry) (y : LineCopy) : List Chunk :=
  (List.range (e.owned y - e.cursor)).map fun i => s.chunkOr (e.key (y.ownChunk (e.cursor + i)))

/-- The chunks of an entry that come from above alone enter UP as it becomes ACTIVE (R529). -/
def State.openAbove (s : State) (e : Entry) (y : LineCopy) : State :=
  if e.fam ≠ 0 ∨ e.op y = 6 then s
  else ((s.chunksLeft e y).filter fun c => e.fromAbove y c.key.idx && c.status.isNone).foldl
    (fun t c => t.setChunk { c with stage := .up }) s

/-- An entry becomes ACTIVE. -/
def State.startEntry (s : State) (e : Entry) (y : LineCopy) : State :=
  let r := s.countDropped { e with state := .active, activeAt := s.clk } y
  let t := r.2.setEntry r.1
  if r.1.owned y = 0 then t.leaveEntry r.1 y 0
  else if r.1.fam = 0 ∧ e.op y = 6 ∧ y.isRoot then t.chunkEnd (e.key 0) 0 0 {}
  else ((t.openAbove r.1 y).earlyDones r.1).earlyEnds r.1

/-- An UPDATE at its ROOT line: its checks, then ACTIVE or its end (R325, R326, R329, R330). -/
def State.startUpdate (s : State) (e : Entry) (y : LineCopy) : State :=
  if s.tensorBusy (s.lineTensor e.line e.sub) ∨ ¬ s.stacksServe then s
  else
    match s.updateActive e y with
    | (.end_ c, t) => t.endCollective { e with mismatch := [] } c [] false false
    | (.lost, t) => (List.range (e.owned y)).foldl (fun u i => u.withdraw (e.key (y.ownChunk i)) 1 none) t
    | (.go, t) => t.startEntry e y

/-- A line's next MATCHED entry becomes ACTIVE when fewer than two are and its own conditions allow. -/
def State.activate (s : State) (g : Nat) : State :=
  let y := s.line g
  if s.mach (.line g) ≠ UP ∨ 2 ≤ s.activeCount g then s
  else
    match s.nextMatched g with
    | none => s
    | some e =>
      if e.fam ≠ 0 ∧ y.isRoot then (if s.stacksServe then s.stationActive e y else s)
      else if e.fam = 0 ∧ y.isRoot ∧ e.op y = 8 ∧ e.owned y ≠ 0 then s.startUpdate e y
      else s.startEntry e y

/-- ENTRY_ACTIVATE. -/
def execEntryActivate (g : Nat) (s : State) : Host.Outcome State Fault Refusal := s.finish (lineOk g) fun t => t.activate g

/-- ARENA_GRANT (R372): the line's waiting station entry asks for its blocks again, after the checks of R356 and R357. -/
def execArenaGrant (g : Nat) (s : State) : Host.Outcome State Fault Refusal :=
  s.finish (lineOk g) fun t =>
    match t.nextMatched g with
    | some e =>
      if t.mach (.line g) = UP ∧ t.activeCount g < 2 ∧ (t.work e.line e.step e.sub e.fam).isSome ∧ t.stacksServe then
        t.stationActive e (t.line g)
      else t
    | none => t

/-! ## Chunk packets (R270 to R279) -/

/-- A packet of the chunk is at its station port or parked, or its sources supply nothing: its request is made then; a line in
staging mode makes it on the chunk's first contribution (R252, R270). -/
def State.chunkHere (s : State) (e : Entry) (y : LineCopy) (key : CKey) : Bool :=
  let o := coachPort (logicalCoach key.line key.idx key.step key.sub)
  let counts (k : Pkt) : Bool := k.op == 0x1003 || (k.op == 0x1002 && !y.staging)
  (s.coll.parked.any fun p => p.key = key && counts p.pkt) ||
    s.anyHead o (fun k => counts k && k.chunkKey == key) ||
    (e.suppliers y key.idx).all fun j => e.needBlocks y j key.idx = 0 && !(y.source j).isLine

/-- CHUNK_ADMIT (R270, R271). -/
def execChunkAdmit (g step sub c : Nat) (s : State) : Host.Outcome State Fault Refusal :=
  s.finish (lineOk g) fun t =>
    match t.entry g step sub 0 with
    | none => t
    | some e =>
      let y := t.line g
      let ch := t.chunkOr (e.key c)
      if e.state = .active ∧ t.mach (.line g) = UP ∧ e.op y ≠ 6 ∧ e.owns y c ∧ ¬ e.ended y c ∧ ¬ e.fromAbove y c ∧ ¬ ch.admitted ∧
          ch.status.isNone ∧ ch.stage = .opening ∧ t.coachOpen ch.coach ∧ t.chunkHere e y ch.key then t.admitChunk e y ch
      else t

/-- What a verdict that is not park does to a timetable whose cells are already freed. -/
def State.ttOutcome (s : State) (o : Nat) (k : Pkt) (v : Verdict) : State :=
  match v with
  | .refuse c sh => s.refuseChunkPkt o k c sh
  | .dup => s.countDiscard k A.COACH_DUP_PKTS
  | .ttDiscard => s.countDiscard k A.COACH_TT_DISCARDED
  | .violation j => s.ttViolation (s.chunkOr k.chunkKey) (s.line k.group) j
  | .take j => (s.noteFirst k.chunkKey).holdTt k j
  | .beyond _ => s
  | .park => s

/-- TIMETABLE (R275 to R277). -/
def execTimetable (o : Nat) (s : State) : Host.Outcome State Fault Refusal :=
  s.finish (inPort o) fun t =>
    match t.headOp o 0x1002 with
    | none => t
    | some (c, k) =>
      match t.judgeTt k with
      | .park => t.parkCopy c k k.chunkKey
      | v => (t.consume c k).ttOutcome o k v

/-- What a verdict that neither parks nor takes does to a contribution whose cells are already freed. -/
def State.dataOutcome (s : State) (o : Nat) (k : Pkt) (v : Verdict) : State :=
  match v with
  | .refuse c sh => s.refuseChunkPkt o k c sh
  | .dup => s.countDiscard k A.COACH_DUP_PKTS
  | .beyond j => (s.dropBeyond k j).markArrived k j
  | _ => s

/-- CONTRIBUTION (R276 to R278). -/
def execContribution (o : Nat) (s : State) : Host.Outcome State Fault Refusal :=
  s.finish (inPort o) fun t =>
    match t.headOp o 0x1003 with
    | none => t
    | some (c, k) =>
      match t.judgeData k with
      | .park => t.parkCopy c k k.chunkKey
      | .take j => t.takeData c k j
      | v => (t.consume c k).dataOutcome o k v

/-- A packet whose chunk or entry is not ready for it. -/
def State.parks (s : State) (k : Pkt) : Bool :=
  (k.op == 0x1002 && decide (s.judgeTt k = .park)) || (k.op == 0x1003 && decide (s.judgeData k = .park)) ||
    (k.op == 0x2002 && decide (s.judgeToken k = .park))

/-- STATION_TAKEOVER (R171, R277, R278): the head packet of a class at a station port parks where its chunk or entry is
not ready for it; while the section's clock is stopped the packet waits (R319). -/
def execStationTakeover (o tc : Nat) (s : State) : Host.Outcome State Fault Refusal :=
  s.finish (decide (256 ≤ o ∧ o < 288) && decide (tc < 6)) fun t =>
    match t.headFor o t.parks with
    | none => t
    | some (c, k) =>
      if k.tc ≠ tc then t
      else if k.op = 0x2002 then t.parkAt c k k.tokenKey (t.tokenCoach k)
      else t.parkCopy c k k.chunkKey

/-- The condition that parked a packet has cleared. -/
def State.releasable (s : State) (p : Parked) : Bool :=
  match p.pkt.op with
  | 0x1002 => s.judgeTt p.pkt != .park
  | 0x1003 => s.judgeData p.pkt != .park
  | _ => s.judgeToken p.pkt != .park

/-- A parked packet leaves its platform and is tested (R279). -/
def State.releaseParked (s : State) (p : Parked) : State :=
  let s0 := if p.pkt.op = 0x1002 ∨ p.pkt.op = 0x1003 then s.noteFirstAt p.key p.at_ else s
  let s1 : State := { s0 with coll := { s0.coll with parked := s0.coll.parked.filter fun x => x.buf ≠ p.buf } }
  let k := p.pkt
  match k.op with
  | 0x1002 => (s1.discard p.buf).ttOutcome p.port k (s.judgeTt k)
  | 0x1003 =>
    (match s.judgeData k with
    | .take j =>
      let s2 := ((s1.dropBeyond k j).markArrived k j)
      if (s.line k.group).staging then (s2.discard p.buf).landData k j
      else { s2 with coll := { s2.coll with adding := s2.coll.adding ++ [p] } }
    | v => (s1.discard p.buf).dataOutcome p.port k v)
  | _ => (s1.discard p.buf).tokenOutcome p.port k (s.judgeToken k)

/-- PLATFORM_RELEASE (R279): the first packet of a station port that may leave. -/
def execPlatformRelease (o : Nat) (s : State) : Host.Outcome State Fault Refusal :=
  s.finish (inPort o) fun t =>
    match t.coll.parked.find? fun p => p.port = o && t.releasable p with
    | some p => t.releaseParked p
    | none => t

/-- PLATFORM_EXPIRY (R279): packets of a chunk whose collective has no entry. -/
def execPlatformExpiry (g step sub fam c : Nat) (s : State) : Host.Outcome State Fault Refusal :=
  s.finish (lineOk g) fun t =>
    let key : CKey := ⟨g, step, sub, fam, c⟩
    match t.coll.parked.filter fun p => p.key = key with
    | [] => t
    | p :: l =>
      let first := l.foldl (fun m q => min m q.at_) p.at_
      if (t.entryOf key).isNone ∧ first + t.chunkTime g ≤ t.clk then
        let L := if fam = 0 then logicalCoach g c step sub else t.tokenCoach p.pkt
        (t.dropParked fun x => x = key).coachBump L A.COACH_PLATFORM_DISCARDS (l.length + 1)
      else t

/-- CONTRIBUTION_ADD (R193, R280): the unit of logical coach `L` finishes a contribution of the line whose turn it is. -/
def execContributionAdd (L : Nat) (s : State) : Host.Outcome State Fault Refusal :=
  s.finish (decide (L < 512)) fun t =>
    match t.unitTurn L with
    | some (p, u) => if t.coachServes (t.physCoach L) then (u.addParked p).settleUnit L else t
    | none => t

/-! ## Sums (R84, R250, R252, R284, R341) -/

/-- The entry, line and chunk of a key of family 0, where the entry is ACTIVE and the chunk has no status. -/
def State.openChunk (s : State) (g step sub c : Nat) : Option (Entry × LineCopy × Chunk) :=
  match s.entry g step sub 0, s.chunk ⟨g, step, sub, 0, c⟩ with
  | some e, some ch => if e.state = .active ∧ ch.status.isNone then some (e, s.line g, ch) else none
  | _, _ => none

/-- STAGING_SCAN (R84, R252): contributions that cannot be read back from their slabs are lost (R291; DEDUCED, log 119). -/
def execStagingScan (g step sub c : Nat) (s : State) : Host.Outcome State Fault Refusal :=
  s.finish (lineOk g) fun t =>
    match t.openChunk g step sub c with
    | some (e, y, ch) =>
      if y.staging ∧ t.sumReady ch e y ∧ ch.landed ≠ [] ∧ t.coachServes (t.physCoach ch.coach) ∧ t.stacksServe then
        match t.unitServes ch.coach ⟨g, 1, ((ch.landed.map fun l => 32 * l.2.2).sum + 15) / 16⟩ with
        | none => t
        | some v =>
          match v.readLanded e y ch with
          | (some l, u) =>
            ((u.setChunk { ch.combineLanded e y l with landed := [] }).coachBump ch.coach A.COACH_CONTRIB_PKTS
              ch.landed.length).settleUnit ch.coach
          | (none, u) => u.withdraw ch.key 1 none
      else t
    | none => t

/-- A complete sum leaves COMBINE: its coach serves, and it is its line's turn at the unit (R14, R193). -/
def State.sumDone (s : State) (ch : Chunk) (e : Entry) (y : LineCopy) : Option State :=
  if s.sumReady ch e y && ch.landed.isEmpty && s.coachServes (s.physCoach ch.coach) then
    s.unitServes ch.coach ⟨e.line, 1, (ch.slots.length + 15) / 16⟩
  else none

/-- CHUNK_SEND_UP (R250, R275). -/
def execChunkSendUp (g step sub c : Nat) (s : State) : Host.Outcome State Fault Refusal :=
  s.finish (lineOk g) fun t =>
    match t.openChunk g step sub c with
    | some (e, y, ch) =>
      (match t.sumDone ch e y with
      | some u => if y.isRoot then t else (u.sendUp e y ch).settleUnit ch.coach
      | none => t)
    | none => t

/-- The ROOT's rounding, or the hand-over of an UPDATE (R249, R284, R341). -/
def State.roundChunk (s : State) (e : Entry) (y : LineCopy) (ch : Chunk) : State :=
  if e.op y = 8 then
    match s.shardOf e.line e.step e.sub with
    | none => s
    | some h =>
      if frozen h.tw then
        let s1 := s.bump A.UPDATE_FROZEN_SKIPPED 1
        if gradOut h.tw then
          (s1.setChunk { ch with okStatus := 1 }).packResult e y ch (s.rootResult e y ch)
        else
          let v := ch.values 0
          (s1.setEntry { e with combined := true }).chunkEnd ch.key 1 0 (ch.flags.merge v.2)
      else
        let s1 := s.freeRecords ch.key
        (s1.setChunk { s1.chunkOr ch.key with stage := .apply }).setEntry { e with combined := true }
  else s.packResult e y ch (s.rootResult e y ch)

/-- CHUNK_ROUND. -/
def execChunkRound (g step sub c : Nat) (s : State) : Host.Outcome State Fault Refusal :=
  s.finish (lineOk g) fun t =>
    match t.openChunk g step sub c with
    | some (e, y, ch) =>
      (match t.sumDone ch e y with
      | some u => if y.isRoot then (u.roundChunk e y ch).settleUnit ch.coach else t
      | none => t)
    | none => t

/-- The pipe of a chunk serves; the matrix products of BLOCK_PRECOND need the owning coach too (R308, R321, R431). -/
def State.pipeServes (s : State) (ch : Chunk) (h : Shard) : Bool :=
  s.mach (.sect (ch.coach / 32)) == UP && s.stacksServe && (ruleKind h.rw != 3 || s.coachServes (s.physCoach ch.coach))

/-- UPDATE_APPLY (R334, R338, R340): a BLOCK_PRECOND chunk first submits the run of its products, and is applied once that has
ended. -/
def execUpdateApply (g step sub c : Nat) (s : State) : Host.Outcome State Fault Refusal :=
  s.finish (lineOk g) fun t =>
    match t.openChunk g step sub c, t.shardOf g step sub with
    | some (e, y, ch), some h =>
      if ch.stage = .apply ∧ ¬ ch.applyWait ∧ t.pipeServes ch h then
        if ch.products = 0 ∧ t.refreshWait h (c / max 1 y.shardCount) then
          ((t.setChunk { ch with applyWait := true }).bump A.UPDATE_PRECOND_WAITS 1).updCause K.UPDATE_PRECOND_LATE h.tensor
            (c * e.chunkLen y) step
        else if ruleKind h.rw = 3 ∧ ch.products ≠ 2 then (if ch.products = 0 then t.submitProducts ch h else t)
        else t.applyChunk e y ch h
      else t
    | _, _ => t

/-- PRECOND_READY (R340). -/
def execPrecondReady (g step sub c : Nat) (s : State) : Host.Outcome State Fault Refusal :=
  s.finish (lineOk g) fun t =>
    match t.openChunk g step sub c, t.shardOf g step sub with
    | some (_, y, ch), some h =>
      if ch.stage = .apply ∧ ch.applyWait ∧ t.pipeServes ch h ∧ ¬ t.refreshWait h (c / max 1 y.shardCount) then
        t.submitProducts ch h
      else t
    | _, _ => t

/-! ## Results (R285 to R291) -/

/-- Blocks of a chunk's result already emitted. -/
def Chunk.emittedBlocks (c : Chunk) : Nat := ((c.held.filter (·.emitted)).map fun h => h.pkt.nblk).sum

/-- The held packet that is emitted next, in ascending BLK. -/
def Chunk.nextEmit (c : Chunk) : Option HeldPkt := c.held.find? fun h => !h.emitted && h.pkt.blk == c.emittedBlocks

/-- A chunk in EMIT or HOLD sends its next held packet to every recipient; the hold that begins with the last one ends at once
where every recipient has acknowledged what RESULT_REQ brought it (R289, R290); `poison` tells that the write of the packet
met an uncorrectable granule (R285, R291). -/
def State.emitResult (s : State) (e : Entry) (y : LineCopy) (ch : Chunk) (poison : Bool) : State :=
  match ch.nextEmit with
  | none => s
  | some h =>
    let dsts := (e.recipients y ch.key.idx).map fun j => (y.source j).node
    let port := coachPort ch.coach
    if poison then (s.multicast port h.pkt.poison dsts none).poisoned ch
    else
      let c1 := { ch with held := ch.held.map fun x => if x = h then { x with emitted := true } else x }
      let c2 := { c1 with stage := if c1.heldWhole e y && c1.held.all (·.emitted) then .hold else .emit }
      let s1 := s.setChunk c2
      (if dsts = [] then s1 else s1.multicast port h.pkt dsts (some ch.key) h.buf).checkHold e y ch.key

/-- RESULT_EMIT. -/
def execResultEmit (g step sub c : Nat) (poison : Bool) (s : State) : Host.Outcome State Fault Refusal :=
  s.finish (lineOk g) fun t =>
    match t.openChunk g step sub c with
    | some (e, y, ch) => if t.coachServes (t.physCoach ch.coach) then t.emitResult e y ch poison else t
    | none => t

/-- A child line takes a result packet of its parent over, or discards it (R286, R287). -/
def State.takeResult (s : State) (c : Copy) (k : Pkt) : State :=
  let key := k.chunkKey
  match s.entryOf key with
  | none => s.consume c k
  | some e =>
    let y := s.line key.line
    if y.isRoot ∨ e.state = .gathering ∨ ¬ e.owns y key.idx ∨ e.ended y key.idx ∨ k.src ≠ y.parentOf key.idx then s.consume c k
    else
      let ch := s.chunkOr key
      if ch.status.isSome then s.consume c k
      else if s.coachRefuses k then (s.consume c k).refuseChunkPkt c.out k 0x03 false
      else if ch.ackedUp then
        (s.consume c k).originate (coachPort ch.coach) (s.linePkt 2 0x1007 (y.parentOf key.idx) e.upTag
          (mkBody 30 [(0, 2, key.line), (2, 2, y.lowest), (4, 2, key.idx), (6, 1, key.sub), (18, 8, key.step)]))
      else if ch.held.any fun h => h.pkt.blk = k.blk then s.consume c k
      else if s.fits c.out k.tc k.cost then
        (s.takeOver c).setChunk { ch with stage := .emit, held := ch.held ++ [{ pkt := k.anew s.node, buf := some c.pkt, emitted := false }] }
      else s

/-- RESULT (R286; R374 for a replica). -/
def execResult (o : Nat) (s : State) : Host.Outcome State Fault Refusal :=
  s.finish (inPort o) fun t =>
    match t.headFor o fun k => k.op == 0x1004 || k.op == 0x3001 with
    | none => t
    | some (c, k) =>
      if k.src = t.node then
        (match t.replicaOf k.group k.step 0 with
        | some r => (t.consume c k).replicaResult r o k
        | none => t.consume c k)
      else t.takeResult c k

/-- RESULT_ACK (R287, R290). -/
def execResultAck (o : Nat) (s : State) : Host.Outcome State Fault Refusal :=
  s.finish (inPort o) fun t =>
    match t.headOp o 0x1007 with
    | none => t
    | some (c, k) =>
      let u := t.consume c k
      match u.openChunk k.group k.step k.sub k.chunk with
      | some (e, y, ch) =>
        (match (e.recipients y k.chunk).find? fun j => (y.source j).node = k.src ∧ (y.source j).member = k.member with
        | some j =>
          (if ch.acked.contains j then u else u.setChunk { ch with acked := ch.acked ++ [j] }).checkHold e y ch.key
        | none => u)
      | none => u

/-- RESULT_REQ (R289) at port `o.1`; `o.2` is the packet of the answer whose write met an uncorrectable granule (R291). -/
def execResultReq (o : Nat × Option Nat) (s : State) : Host.Outcome State Fault Refusal :=
  s.finish (inPort o.1) fun t =>
    match t.headOp o.1 0x1008 with
    | none => t
    | some (c, k) =>
      let u := t.consume c k
      let asked (h : HeldPkt) : Bool := decide (h.pkt.blk < k.blk + k.nblk ∧ k.blk < h.pkt.blk + h.pkt.nblk)
      match u.openChunk k.group k.step k.sub k.chunk with
      | some (_, _, ch) =>
        if (ch.held.filter asked).isEmpty then u.originate o.1 (u.errorPkt k 0x14)
        else u.resendResults ch ((ch.held.filter asked).map fun h => (k.src, h)) o.2
      | none => u.originate o.1 (u.errorPkt k 0x14)

/-- RESULT_RESEND_TIMER (R288) of chunk `c.1`; `c.2` is the packet whose write met an uncorrectable granule (R291). -/
def execResultResendTimer (g step sub : Nat) (c : Nat × Option Nat) (s : State) : Host.Outcome State Fault Refusal :=
  s.finish (lineOk g) fun t =>
    match t.openChunk g step sub c.1 with
    | some (e, y, ch) =>
      let owed := (e.recipients y c.1).filter fun j => !ch.acked.contains j
      if ch.held ≠ [] ∧ ch.heldWhole e y ∧ ch.held.all (·.emitted) ∧ ¬ (t.sw.waiting.any fun o => o.chunk = some ch.key) ∧
          ch.emitAt + t.resendTime ≤ t.clk then
        (t.noteChunk { ch with emitAt := t.clk }).resendResults ch
          (owed.flatMap fun j => ch.held.map fun h => ((y.source j).node, h)) c.2
      else t
    | none => t

/-! ## DONE, ABORT_UP, WITHDRAW (R256, R261, R290 to R292, R528) -/

/-- The entry of a child line whose line ticket a packet from a parent answers, by its TAG. -/
def State.childEntry (s : State) (g src tag : Nat) : Option Entry :=
  (s.lineEntries g).find? fun e => e.upTag ≠ 0 && e.upTag = tag && !(s.line g).isRoot && (s.line g).parentNodes.contains src

/-- DONE (R256, R290, R528; R374 for a replica). -/
def execDone (o : Nat) (s : State) : Host.Outcome State Fault Refusal :=
  s.finish (inPort o) fun t =>
    match t.headOp o 0x1005 with
    | none => t
    | some (c, k) =>
      let u := t.consume c k
      if k.src = u.node then
        (match u.stn.replicas.find? fun r => r.line = k.group && r.tag = k.tag with
        | some r => u.replicaDone r k
        | none => u)
      else
        match u.childEntry k.group k.src k.tag with
        | none => u
        | some e =>
          let st := k.num 36 1
          let y := u.line k.group
          if 0x10 ≤ st ∧ st < 0x20 then
            (if st = 0x10 ∨ st = 0x11 then u else u.captureStep e).endCollective e st [] false false
          else if e.owns y (k.num 38 2) then u.parentDone e y (e.key (k.num 38 2)) k
          else u

/-- ABORT_UP (R261). -/
def execAbortUp (o : Nat) (s : State) : Host.Outcome State Fault Refusal :=
  s.finish (inPort o) fun t =>
    match t.headOp o 0x1009 with
    | none => t
    | some (c, k) =>
      let u := t.consume c k
      let y := u.line k.group
      let here := (u.lineEntries k.group).filter fun e => e.step = k.step && e.sub = k.sub
      match y.sources.find? fun j => (y.source j).node = k.src && (y.source j).isLine with
      | none => u
      | some j =>
        match (here.find? fun e => e.tagOf j = k.tag).orElse fun _ => here.find? fun e => e.fam = 0 with
        | some e => u.endCollective e 0x11 [j] false true
        | none => u

/-- WITHDRAW (R292; R374 for a replica). -/
def execWithdraw (o : Nat) (s : State) : Host.Outcome State Fault Refusal :=
  s.finish (inPort o) fun t =>
    match t.headOp o 0x100A with
    | none => t
    | some (c, k) =>
      let u := t.consume c k
      let key := k.chunkKey
      if k.src = u.node then u
      else
        match u.entryOf key with
        | none => u
        | some e =>
          let y := u.line key.line
          let from_ := decide (k.src = y.parentOf key.idx ∧ ¬ y.isRoot) ||
            y.sources.any fun j => (y.source j).node = k.src && (y.source j).isLine
          let mine : Bool := if (e.ticket y.refSrc).isSome then e.owns y key.idx && !e.ended y key.idx
            else key.idx % max 1 y.shardCount == y.shardIndex
          if from_ ∧ mine ∧ (u.chunkOr key).status ≠ some 0x21 then u.withdraw key 3 (some k.src)
          else u

/-! ## Resends and timers (R148, R259 to R262, R267) -/

/-- An item of a child line is sent again: 1 its ticket, 2 a chunk's timetable, 3 its contribution. -/
def State.resendItem (s : State) (e : Entry) (what chunk dst : Nat) : State :=
  let y := s.line e.line
  if what = 1 then
    let e1 := { e with attempts := (dst, e.attemptTo dst + 1) :: e.attempts.filter fun a => a.1 ≠ dst }
    (s.setEntry e1).sendTicketUp e1 y dst
  else
    match s.chunk (e.key chunk) with
    | none => s
    | some ch =>
      let want (k : Pkt) : Bool := k.op == (if what = 2 then 0x1002 else 0x1003)
      let sent := ch.sent.map fun k => if want k then k.again else k
      (sent.filter want).foldl (fun t k => t.originate (coachPort ch.coach) k) (s.noteChunk { ch with sent := sent })

/-- RESEND_REQ (R148, R262; R374 for a replica). -/
def execResendReq (o : Nat) (s : State) : Host.Outcome State Fault Refusal :=
  s.finish (inPort o) fun t =>
    match t.headOp o 0x1006 with
    | none => t
    | some (c, k) =>
      let u := t.consume c k
      let what := k.byte 36
      if k.src = u.node then
        (match u.replicaOf k.group k.step k.tag with
        | some r => u.replicaResend r what (k.num 38 2)
        | none => u)
      else
        ((u.lineEntries k.group).filter fun e => e.step = k.step && e.sub = k.byte 40 && e.upTag ≠ 0 &&
            (k.tag = 0 || e.upTag = k.tag) && (u.line k.group).parentNodes.contains k.src).foldl
          (fun v e => v.resendItem e what (k.num 38 2) k.src) u

/-- RESEND_REQ to a source of an entry. -/
def State.askResend (s : State) (e : Entry) (y : LineCopy) (j what chunk : Nat) : State :=
  let m := y.source j
  (s.lineSend e.line (s.linePkt 2 0x1006 m.node (if what = 1 then 0 else e.tagOf j)
    (mkBody 30 [(0, 2, e.line), (2, 2, m.member), (4, 1, what), (6, 2, chunk), (8, 1, e.sub), (18, 8, e.step)]))).bump
    A.COLL_RESEND_REQS 1

/-- Slow cycle at which the first packet of a chunk came, parked or taken: the chunk is OPEN from then on (R249). -/
def State.openSince (s : State) (ch : Chunk) : Option Nat :=
  (s.coll.parked.filter fun p => p.key = ch.key).foldl (fun m p => match m with
    | some t => some (min t p.at_)
    | none => some p.at_) ch.firstAt

/-- Slow cycle at which a chunk's timer started: its first packet, or the entry's becoming ACTIVE, whichever came first
(R259); chunk 0 of a station entry has the latter alone (R368). -/
def State.chunkSince (s : State) (e : Entry) (ch : Chunk) : Option Nat :=
  if e.fam ≠ 0 then (if e.state = .active then some e.activeAt else none)
  else if e.state = .active then some (min ((s.openSince ch).getD e.activeAt) e.activeAt)
  else s.openSince ch

/-- The chunks that the line has to do with: of an entry whose reference ticket has come, those it owns and has not ended;
before that, those that packets have named. -/
def State.chunksNamed (s : State) (e : Entry) (y : LineCopy) : List Chunk :=
  if (e.ticket y.refSrc).isSome ∨ e.fam ≠ 0 then s.chunksLeft e y
  else
    let mine (k : CKey) : Bool := k.line == e.line && k.step == e.step && k.sub == e.sub && k.fam == e.fam
    ((((s.coll.chunks.map (·.key)) ++ s.coll.parked.map (·.key)).filter mine).eraseDups).map s.chunkOr

/-- A chunk is OPEN or beyond it and awaits something from below, and RESEND_US has passed since its first packet came or since
it was last asked for (R262). -/
def State.askDue (s : State) (ch : Chunk) : Bool :=
  match s.openSince ch with
  | none => false
  | some f => ch.status.isNone && (ch.stage == .opening || ch.stage == .anchor || ch.stage == .combine) &&
      decide (ch.resendAt.getD f + s.resendTime ≤ s.clk)

/-- Asks again for what a chunk still awaits from below. -/
def State.askChunk (s : State) (e : Entry) (y : LineCopy) (ch : Chunk) : State :=
  match s.awaited ch e y with
  | [] => s
  | l => l.foldl (fun t w => t.askResend e y w.1 w.2 ch.key.idx)
      (if (s.chunk ch.key).isSome then s.noteChunk { ch with resendAt := some s.clk }
       else s.setChunk { ch with resendAt := some s.clk })

/-- Asks for what the OPEN chunks of an entry await, once its operation is known. -/
def State.askChunks (s : State) (e : Entry) (y : LineCopy) : State :=
  if e.fam = 0 ∧ (e.ticket y.refSrc).isSome then ((s.chunksLeft e y).filter s.askDue).foldl (fun t c => t.askChunk e y c) s else s

/-- RESEND_TIMER (R262). -/
def execResendTimer (g step sub fam : Nat) (s : State) : Host.Outcome State Fault Refusal :=
  s.finish (lineOk g) fun t =>
    match t.entry g step sub fam with
    | none => t
    | some e =>
      let y := t.line g
      let u := if e.state = .gathering ∧ e.resendAt + t.resendTime ≤ t.clk then
          (y.sources.filter fun j => (e.ticket j).isNone).foldl (fun u j => u.askResend e y j 1 0)
            (t.setEntry { e with resendAt := t.clk })
        else t
      u.askChunks e y

/-- Chunks of an entry whose timer has expired: their records, a fresh one where none is kept (R259). -/
def State.expiredChunks (s : State) (e : Entry) (y : LineCopy) : List Chunk :=
  (s.chunksNamed e y).filter fun c =>
    (match s.chunkSince e c with | some t => decide (t + s.chunkTime e.line ≤ s.clk) | none => false) && c.status.isNone

/-- A chunk of an ACTIVE entry awaits its parent: its result, all of it, or its DONE (R249, R260). -/
def Chunk.awaitsParent (c : Chunk) (e : Entry) (y : LineCopy) : Bool :=
  !y.isRoot && e.state == .active && (c.stage == .up || e.fam != 0 || e.op y == 6 ||
    (c.stage == .emit && !c.heldWhole e y) ||
    (c.ackedUp && c.parentDone.isNone))

/-- Sources nothing of which has come for a chunk. -/
def State.silentSources (s : State) (y : LineCopy) (c : Chunk) : List Nat :=
  y.sources.filter fun j => !(s.coll.parked.any fun p => p.key = c.key &&
    y.findSource p.pkt.src p.pkt.member p.pkt.isLine == some j)

/-- Sources that an expired chunk still awaited. -/
def State.missingOf (s : State) (e : Entry) (y : LineCopy) (c : Chunk) : List Nat :=
  if e.fam ≠ 0 then (match s.work e.line e.step e.sub e.fam with | some w => s.workMissing w y | none => [])
  else if c.awaitsParent e y then []
  else if (e.ticket y.refSrc).isNone then s.silentSources y c
  else (s.awaited c e y).map (·.1)

/-- CHUNK_TIMER_EXPIRY (R246, R259, R260). -/
def execChunkTimerExpiry (g step sub fam : Nat) (s : State) : Host.Outcome State Fault Refusal :=
  s.finish (lineOk g) fun t =>
    match t.entry g step sub fam with
    | none => t
    | some e =>
      let y := t.line g
      let late := decide (e.state = .gathering ∧ e.since + t.chunkTime g ≤ t.clk)
      let l := t.expiredChunks e y
      if (late ∨ l ≠ []) ∧ e.state = .gathering ∧ y.isRoot ∧ e.mismatch ≠ [] ∧ (e.ticket y.refSrc).isSome then
        t.endCollective e 0x10 [] false false
      else if late ∨ l ≠ [] then
        let miss := y.sources.filter fun j => (late && (e.ticket j).isNone) || l.any fun c => (t.missingOf e y c).contains j
        (t.endCollective e 0x11 miss (l.any fun c => c.awaitsParent e y) true).drainReturns
      else t

/-- An entry of a line is ready to become ACTIVE: it is the line's next, and nothing that its activation waits for is held by
another. A station entry that waits for arena blocks is not (R247, R326, R372). -/
def State.entryReady (s : State) (e : Entry) : Bool :=
  let y := s.line e.line
  decide (s.activeCount e.line < 2) && (s.nextMatched e.line).any (fun f => f.same e) &&
    (if e.fam ≠ 0 ∧ y.isRoot then s.stacksServe && (s.work e.line e.step e.sub e.fam).isNone
     else !(y.isRoot && e.op y == 8 && (s.tensorBusy (s.lineTensor e.line e.sub) || !s.stacksServe)))

/-- A slow cycle of the lines' watchdogs: each entry notes since when it is ready (R267). -/
def State.watchEntries (s : State) : State :=
  { s with coll := { s.coll with entries := s.coll.entries.map fun e =>
      { e with readyAt := if s.entryReady e then some (e.readyAt.getD s.clk) else none } } }

/-- A chunk's inputs are complete, and the work that follows is the line's own. -/
def State.chunkReady (s : State) (c : Chunk) : Bool :=
  c.key.fam == 0 && (match s.openChunk c.key.line c.key.step c.key.sub c.key.idx with
    | some (e, y, ch) => ch.inputsHere e y || (ch.stage == .apply && !ch.applyWait && ch.products != 1) || ch.nextEmit.isSome
    | none => false)

/-- A station's work has the inputs of a step: a tile whose rows are all here, a token whose rows are all computed, or all of it
is done (R267, R363, R365, R368). -/
def State.workReady (s : State) (x : Work) : Bool :=
  x.granted && !x.saved && (s.workDone x ||
    ((List.range x.experts.length).any fun k => (List.range (x.tileCount k)).any (s.tileReady x k)) ||
    (s.dueTokens x).any fun t => !(s.combineRows x t.1 t.2).isEmpty)

/-- The line holds an entry ready to become ACTIVE, or a chunk or a station's work whose inputs are complete, and has made no
progress on it for `w` slow cycles (R267). -/
def State.lineStuck (s : State) (g w : Nat) : Bool :=
  ((s.lineEntries g).any fun e => match e.readyAt with | some t => s.entryReady e && decide (t + w ≤ s.clk) | none => false) ||
    (s.coll.chunks.any fun c => c.key.line = g && decide (c.lastAt + w ≤ s.clk) && s.chunkReady c) ||
    s.stn.work.any fun x => x.line = g && decide (x.lastAt + w ≤ s.clk) && s.workReady x

/-- LINE_HANG (R267, R436). -/
def execLineHang (g : Nat) (s : State) : Host.Outcome State Fault Refusal :=
  s.finish (lineOk g) fun t =>
    if t.mach (.line g) = UP ∧ t.lineStuck g (us (max 1 (t.get F.COLL_WATCHDOG_WATCHDOG_US))) then
      (t.causeLine g).raiseHang .COLL g 0 K.COLL_LINE_HANG (dom 4 g)
    else t

/-- ENDED_MEMORY_EXPIRY (R247). -/
def execEndedMemoryExpiry (g : Nat) (s : State) : Host.Outcome State Fault Refusal :=
  s.finish (lineOk g) fun t =>
    { t with coll := { t.coll with ended := t.coll.ended.filter fun r => !(r.line = g && decide (r.at_ + t.replyTime ≤ t.clk)) } }

/-- STORE_SCRUB (R283, R291, R293): `met.1` counts the errors it corrects, and `met.2` names the chunks (line, STEP, SUB,
chunk) at the coach in whose cells it meets an uncorrectable error. One found after the line's hold of the chunk has ended is
counted and changes nothing. -/
def execStoreScrub (n p : Nat) (met : Nat × List (Nat × Nat × Nat × Nat)) (s : State) : Host.Outcome State Fault Refusal :=
  s.finish (decide (n < 16 ∧ p < 33)) fun t =>
    if t.elapsed { kind := .scrub, a := n, b := p } (ms 1) then
      met.2.foldl (fun u q =>
        match u.openChunk q.1 q.2.1 q.2.2.1 q.2.2.2 with
        | some (e, y, ch) =>
          if u.physCoach ch.coach = 64 * n + p ∧ ¬ e.ended y q.2.2.2 ∧ ¬ ch.ackedUp ∧ (ch.admitted ∨ ch.held ≠ []) then
            (u.coachCause ch.key ch.coach K.COACH_STORE_UE true).withdraw ch.key 1 none
          else u.report 357 (dom 2 (64 * n + p)) []
        | none => u.report 357 (dom 2 (64 * n + p)) [])
        ((List.range met.1).foldl (fun u _ => u.report 352 (dom 2 (64 * n + p)) [])
          (t.startTimer { kind := .scrub, a := n, b := p }))
    else t

/-! ## Commits, refreshes and local updates (R328, R339, R345, R370, R371) -/

/-- A local update ended without a commit: its expert's weights are STALE (R371). -/
def State.localEnded (s : State) (x : Nat) (committed : Bool) : State :=
  let s1 := if committed then s else s.put (F.STATION_EXPERT_STALE x) 1
  { s1 with stn := { s1.stn with updating := s1.stn.updating.erase x } }

/-- SHARD_COMMIT (R12, R328, R370). -/
def execShardCommit (tensor : Nat) (s : State) : Host.Outcome State Fault Refusal :=
  s.finish (decide (tensor < 4096)) fun t =>
    match t.upd.shards.find? fun h => h.tensor = tensor && h.closed with
    | none => t
    | some h =>
      if t.stacksServe then
        let u := t.commitShard h
        if h.local_ then (u.bump A.STATION_LOCAL_UPDATES 1).localEnded h.line (decide (h.chunksOk = h.chunks))
        else u.submitRefreshes
      else t

/-- REFRESH_COMPLETE (R339, R340): the run of a refresh has ended at its coach, and its bank is usable. -/
def execRefreshComplete (tensor tile bank : Nat) (s : State) : Host.Outcome State Fault Refusal :=
  s.finish (decide (tensor < 4096)) fun t =>
    match t.upd.refreshes.find? fun r => r.tensor = tensor && r.tile = tile && r.bank = bank with
    | some r => if t.stacksServe ∧ r.done then t.endRefresh r false else t
    | none => t

/-- Every chunk of a local update ends at its start with RESULT_LOST (R329, R345). -/
def State.closeLocal (s : State) (tensor : Nat) : State :=
  { s with upd := { s.upd with shards := s.upd.shards.map fun h =>
      if h.tensor = tensor ∧ h.local_ then { h with closed := true } else h } }

/-- Starts the oldest local update requested of a tensor (R332, R345; log 42 for BLOCK_PRECOND). -/
def State.startLocal (s : State) (x tensor step seed : Nat) : State :=
  let s1 : State := { s with upd := { s.upd with requests := s.upd.requests.erase (x, tensor, step, seed) } }
  let tw := s.tensorWords tensor
  let rw := s.ruleWords (wordField tw 6 0 6)
  let ok := entryValid tw && isLocal tw && entryValid rw && decide (ruleKind rw ≤ 2) && !(layoutB tw && ruleAms rw) &&
    decide (wordField tw 6 10 4 ≤ 9)
  if !ok then (s1.updCause K.UPDATE_TENSOR_INVALID tensor 0 step).localEnded x false
  else
    match s1.openStep { line := x, local_ := true, step := step, sub := 0, tensor := tensor, tw := tw, rw := rw, hp := [], live := 0
                        commits := 0, seed := seed, flags := 0, held := 0, firstHeld := none, chunksOk := 0
                        chunks := (tensorElems tw + LOCAL_CHUNK - 1) / LOCAL_CHUNK, closed := false, next := 0
                        recs := tensorElems tw } with
    | (.go, t) => t
    | (.lost, t) => t.closeLocal tensor
    | (.end_ _, t) => t.localEnded x false

/-- A chunk of a local update cannot be served: its section is fenced or lost, which refuses it (R269, R321). -/
def State.localRefused (s : State) (h : Shard) : Bool :=
  let n := logicalCoach h.tensor h.next h.step 0 / 32
  s.fenced (dom 1 n) || decide (FENCED ≤ s.mach (.sect n))

/-- The next chunk of a local update ends with RESULT_LOST before it is applied. -/
def State.localLost (s : State) (h : Shard) : State :=
  s.setShard { h with next := h.next + 1, closed := decide (h.chunks ≤ h.next + 1) }

/-- LOCAL_UPDATE (R326, R345): the request starts when no other step of the tensor runs; then chunk after chunk. -/
def execLocalUpdate (tensor : Nat) (s : State) : Host.Outcome State Fault Refusal :=
  s.finish (decide (tensor < 4096)) fun t =>
    match t.upd.shards.find? fun h => h.tensor = tensor && h.local_ && !h.closed with
    | some h =>
      if t.localRefused h then t.localLost h
      else if t.mach (.sect (logicalCoach tensor h.next h.step 0 / 32)) = UP ∧ t.stacksServe then t.localChunk h else t
    | none =>
      match t.upd.requests.find? fun r => r.2.1 = tensor with
      | some r => if t.tensorBusy tensor ∨ ¬ t.stacksServe then t else t.startLocal r.1 tensor r.2.2.1 r.2.2.2
      | none => t

/-! ## Stations (R362 to R373) -/

/-- TOKEN (R362). -/
def execToken (o : Nat) (s : State) : Host.Outcome State Fault Refusal :=
  s.finish (inPort o) fun t =>
    match t.headOp o 0x2002 with
    | none => t
    | some (c, k) =>
      match t.judgeToken k with
      | .park => t.parkAt c k k.tokenKey (t.tokenCoach k)
      | v => (t.consume c k).tokenOutcome o k v

/-- TILE_COMPUTE (R350, R363, R369): the station submits the `runs` runs of a tile to the station queue of logical coach `coach` of
its section: CORE runs of core `core`, COACH runs where that is 16. -/
def execTileCompute (g step sub op k tile coach runs core : Nat) (s : State) : Host.Outcome State Fault Refusal :=
  s.finish (lineOk g && decide (coach < 32) && decide (1 ≤ runs ∧ core ≤ 16)) fun t =>
    match t.work g step sub op with
    | none => t
    | some w =>
      let first := w.expertField k 0 16 5
      if t.tileReady w k tile ∧ first ≤ coach ∧ coach < first + w.expertField k 0 21 6 ∧
          t.coachServes (t.physCoach (32 * w.sectionOf k + coach)) then t.submitTile w k tile coach runs core
      else t

/-- TOKEN_COMBINE (R365, R366). -/
def execTokenCombine (g step sub op member tok : Nat) (s : State) : Host.Outcome State Fault Refusal :=
  s.finish (lineOk g) fun t =>
    match t.work g step sub op with
    | some w => t.tokenCombine w (t.line g) member tok
    | none => t

/-- RETURN_ACK (R367). -/
def execReturnAck (o : Nat) (s : State) : Host.Outcome State Fault Refusal :=
  s.finish (inPort o) fun t =>
    match t.headOp o 0x2005 with
    | none => t
    | some (c, k) =>
      let u := t.consume c k
      match u.work k.group k.step k.sub (k.byte 36 % 16) with
      | none => u
      | some w =>
        let first := k.num 40 2
        let gone (r : Ret) : Bool := r.member = k.member && decide (first ≤ r.tok ∧ r.tok < first + k.num 42 2) && r.blk.isSome
        (u.setWork { w with rets := w.rets.filter fun r => !gone r }).drainReturns

/-- RETURN_RESEND_TIMER (R367). -/
def execReturnResendTimer (g step sub op : Nat) (s : State) : Host.Outcome State Fault Refusal :=
  s.finish (lineOk g) fun t =>
    match t.work g step sub op with
    | some w => (t.resendReturns w).drainReturns
    | none => t

/-- STATION_CHUNK_END (R368). -/
def execStationChunkEnd (g step sub op : Nat) (s : State) : Host.Outcome State Fault Refusal :=
  s.finish (lineOk g) fun t =>
    match t.work g step sub op with
    | some w => t.stationEnd w
    | none => t

/-- WEIGHT_REBUILD (R371). -/
def execWeightRebuild (x : Nat) (s : State) : Host.Outcome State Fault Refusal :=
  s.finish (decide (x < 1024)) fun t => if t.stacksServe then t.rebuildWeights x else t

/-- ACT_EXPIRED (R373). -/
def execActExpired (g step sub : Nat) (s : State) : Host.Outcome State Fault Refusal :=
  s.finish (lineOk g) fun t =>
    let running : Bool := match t.work g step sub 10 with | some w => w.granted | none => false
    let old (d : Work) : Bool :=
      d.of g step sub 9 && d.saved && decide (d.lastAt + ms (max 1 (t.get F.STATION_CFG_ACT_HOLD_MS)) ≤ t.clk)
    match t.stn.work.filter old with
    | [] => t
    | d :: l =>
      if running then t
      else ((t.dropWorks old).bump A.STATION_ACT_EXPIRED (l.length + 1)).stnCause K.STATION_ACT_EXPIRED g (d.expertIds.headD 0) step

end Sys2Proof.Machine
end

