-- ==== Sys2Proof/Machine/FabricMemory.lean ====
section
/-! DEFINITION. Fabric memory operations and their windows, and the stacks' scrub, refresh, repair and initialisation
(R342, R343, R347, R378 to R398, R411; 14_memory.md). -/

namespace Sys2Proof.Machine

/-! ## Windows (R395 to R397) -/

/-- Right that an operation needs: bit 0 READ, 1 WRITE, 2 ATOMIC. -/
def rightOf (op : Nat) : Nat := if op = 0x4001 then 0 else if op = 0x4002 then 1 else 2

/-- A node is named by a window's range or by its entries of the list table (R395). -/
def State.winNode (s : State) (w src : Nat) : Bool :=
  let b := s.get (F.WINDOW_WIN_LIST_BASE w)
  (decide (s.get (F.WINDOW_WIN_NODE_FIRST w) ≤ src) && decide (src ≤ s.get (F.WINDOW_WIN_NODE_LAST w))) ||
    (src != 0xFFFF && (List.range (min (s.get (F.WINDOW_WIN_LIST_COUNT w)) (4096 - b))).any fun i =>
      s.get (F.WINDOW_LIST_NODE (b + i)) == src)

/-- A window covers a request, whatever its MACHINE. -/
def State.winCovers (s : State) (w op src space off n : Nat) : Bool :=
  let b := s.get (F.WINDOW_WIN_BASE w) * 4096
  s.winNode w src && (s.get (F.WINDOW_WIN_RIGHTS w)).testBit (rightOf op) &&
    (op == 0x4005 || (s.get (F.WINDOW_WIN_SPACE w) == space && decide (b ≤ off) &&
      decide (off + n ≤ b + s.get (F.WINDOW_WIN_SIZE w) * 4096)))

/-- The lowest window in a MACHINE state that allows a request. -/
def State.winAllows (s : State) (st op src space off n : Nat) : Option Nat :=
  (List.range 256).find? fun w => s.mach (.window w) == st && s.winCovers w op src space off n

/-! ## Tests (R397) -/

/-- Space code of a request. -/
def Pkt.space (k : Pkt) : Nat := bits k.addr 40 4

/-- Offset within the space. -/
def Pkt.offset (k : Pkt) : Nat := bits k.addr 0 40

/-- LENGTH of a READ or WRITE; an atomic acts on 8 bytes. -/
def Pkt.memLen (k : Pkt) : Nat := if k.op = 0x4001 ∨ k.op = 0x4002 then k.num 32 2 else 8

/-- Test 2. -/
def Pkt.memFormed (k : Pkt) : Bool :=
  let n := k.memLen
  if k.op = 0x4005 then k.pay == 0
  else decide (k.space ≤ SP_LOG) &&
    (if k.op = 0x4001 ∨ k.op = 0x4002 then
      k.offset % 16 == 0 && n % 16 == 0 && decide (16 ≤ n) && decide (n ≤ 4096) &&
        k.pay == (if k.op = 0x4002 then leastPay n else 0)
    else k.offset % 8 == 0 && k.pay == 0)

/-- A write-class request touches the records or tile area of a tensor, as a test of ranges finds. -/
def State.writeTouches (s : State) (k : Pkt) (test : Nat → Nat → Nat → Bool) : Bool :=
  writeClass k.op && k.space == SP_STATE && s.tensors.any fun t => test t k.offset k.memLen

/-- What the tests of a request that the memory agent takes decide. -/
inductive MemVerdict where
  | malformed | range | access | draining | busy | retry
  /-- admitted by window `w` -/
  | ok (w : Nat)
  deriving DecidableEq, Repr

/-- Tests 2 to 7. -/
def State.memJudge (s : State) (k : Pkt) : MemVerdict :=
  let n := k.memLen
  let up := s.winAllows UP k.op k.src k.space k.offset n
  let dr := s.winAllows DRAINING k.op k.src k.space k.offset n
  let w := up.orElse fun _ => dr
  if !k.memFormed then .malformed
  else if k.op ≠ 0x4005 ∧ s.spaceSize k.space < k.offset + n then .range
  else if w = none ∨ (writeClass k.op ∧ k.space = SP_LOG) ∨
      (w ≠ some 0 ∧ s.writeTouches k s.touchesFrozen) then .access
  else
    match up with
    | none => .draining
    | some x =>
      if s.writeTouches k s.touchesRunning then .busy
      else if k.op ≠ 0x4001 ∧ 16384 ≤ s.cacheLive.length then .retry
      else if writeClass k.op ∧ (s.fenceCtr k.src k.epoch).isNone ∧ 8192 ≤ s.mem.fences.length then .retry
      else .ok x

/-- Every ACCESS refusal (R397). -/
def State.accessRefused (s : State) (k : Pkt) : State :=
  let s1 := (s.bump A.WINDOW_ACCESS_REFUSED 1).raise .WINDOW 0 0 K.WINDOW_ACCESS
  s1.capture F.WINDOW_ACC_NODE_VALID fun t =>
    ((t.put F.WINDOW_ACC_NODE_NODE k.src).put F.WINDOW_ACC_NODE_SPACE k.space).put F.WINDOW_ACC_ADDR_OFFSET k.offset

/-- A STATE_BUSY refusal (R343): counted, with WRITE_REFUSED captured for the tensor. The step captured is that of the
tensor's step in progress; while only a refresh runs the spec names none, and it is a free value (log 114). -/
def State.busyRefused (s : State) (k : Pkt) : State :=
  let t := (s.tensors.find? fun t => s.touchesRunning t k.offset k.memLen).getD 0
  let u := s.bump A.UPDATE_WRITES_REFUSED 1
  match s.upd.shards.find? fun h => h.tensor = t with
  | some h => u.updCause K.UPDATE_WRITE_REFUSED t 0 h.step
  | none => let r := u.fresh; r.2.updCause K.UPDATE_WRITE_REFUSED t 0 r.1

/-- Counters and causes of a refusal, and its ERROR. -/
def State.memRefuse (s : State) (o : Nat) (k : Pkt) : MemVerdict → State
  | .malformed => (s.bump A.WINDOW_REFUSED 1).memError o k 0x05
  | .range => (s.bump A.WINDOW_REFUSED 1).memError o k 0x15
  | .access => (s.accessRefused k).memError o k 0x01
  | .draining => (s.bump A.WINDOW_REFUSED 1).memError o k 0x03
  | .busy => (s.busyRefused k).memError o k 0x18
  | .retry => ((s.bump A.WINDOW_RETRIES 1).raise .WINDOW 0 0 K.WINDOW_RETRY).memError o k 0x02
  | .ok _ => s

/-- Every stack that holds a byte of a range serves (test 8). -/
def State.stacksOf (s : State) (a n : Nat) : Bool := (granules a n).all fun g => s.stackServes (s.stackOf (16 * g))

/-- Module memory address of a request that passed test 3. -/
def State.memAddr (s : State) (k : Pkt) : Nat := s.get (F.WINDOW_SPACE_BASE_BASE k.space) * MIB4 + k.offset

/-! ## What a write of a commit word starts (R347, R411) -/

/-- EXPERT entries that software has written: those with a word other than its reset value, and those that were VALID (log 120). -/
def State.expertsWritten (s : State) : List Nat :=
  (((List.range 8).flatMap fun w => s.written (A.STATION_EXPERT 0) 32 1024 w) ++ s.stn.seenValid).eraseDups

/-- A commit word was written through a window: the EXPERT entries that name the tensor, whatever their VALID, are STALE, and the
preconditioners of a BLOCK_PRECOND tensor are recomputed. An entry never written names no tensor (DEDUCED, log 120). -/
def State.commitWritten (s : State) (t : Nat) : State :=
  let s1 := s.expertsWritten.foldl (fun u x =>
    if u.get (F.STATION_EXPERT_TENSOR x) = t then u.put (F.STATION_EXPERT_STALE x) 1
    else u) s
  let tw := s1.tensorWords t
  let rw := s1.ruleWords (wordField tw 6 0 6)
  let rec_ := s1.spaceAddr SP_STATE (recordPage tw) 16
  match rec_ with
  | none => s1
  | some a =>
    let b := (List.range 16).map fun i => s1.seenByte (a + i)
    let step := numAt b 0 8
    let n := step + 1 - tensorT0 tw
    if ruleKind rw = 3 ∧ ¬ isLocal tw ∧ tensorT0 tw ≤ step ∧ ruleRefresh rw ≠ 0 ∧ ruleRefresh rw ≤ n then
      let g := (s1.tensorLine t).getD 0
      let recs := s1.tensorRecords t tw
      let h : Shard := { line := g, local_ := false, step := step, sub := t - s1.get (F.UPDATE_LINE_TENSOR_BASE g), tensor := t
                         tw := tw, rw := rw, hp := [], live := 0, commits := 0, seed := 0, flags := 0, held := 0, firstHeld := none
                         chunksOk := 0, chunks := 0, closed := true, next := 0, recs := recs
                         count := (s1.tensorShard t).1, index := (s1.tensorShard t).2 }
      (List.range ((recs + 16383) / 16384)).foldl (fun u k =>
        u.startRefresh h (numAt b 8 1 % 2) (n / ruleRefresh rw - 1) k (decide (n % ruleRefresh rw = 0))) s1
    else s1

/-- Tensors whose commit word a write in STATE space covers. -/
def State.commitsIn (s : State) (k : Pkt) : List Nat :=
  if k.space ≠ SP_STATE then []
  else s.tensors.filter fun t =>
    let p := recordPage (s.tensorWords t)
    entryValid (s.tensorWords t) && decide (k.offset < p + 16) && decide (p < k.offset + k.memLen)

/-- A write executed: its bytes, what it starts, and the wait for the controller's acknowledgement (R391). An operation that
writes no byte starts nothing. -/
def State.memWrite (s : State) (o w : Nat) (k : Pkt) (l : List Byte) (reply : Pkt) : State :=
  let s1 := (s.cachePend k.src k.tag).storeMem (s.memAddr k) l
  let s2 := if l = [] then s1 else (s1.commitsIn k).foldl State.commitWritten s1
  let i := s2.newId
  let m : MemWait := { id := i.1, port := o, src := k.src, tag := k.tag, epoch := k.epoch, reply := reply, win := w }
  { i.2 with mem := { i.2.mem with pendingAcks := i.2.mem.pendingAcks ++ [m] } }

/-! ## The operations (R388 to R393) -/

/-- READ_DATA of a request. -/
def State.readData (s : State) (k : Pkt) (l : List Byte) : Pkt :=
  mkPkt true 3 true 0x4011 k.src s.node k.flow k.addr k.tag (mkBody 26 [(0, 2, l.length)]) l

/-- WRITE_ACK of a request. -/
def State.writeAck (s : State) (k : Pkt) : Pkt := mkPkt false 2 false 0x4012 k.src s.node k.flow k.addr k.tag [] []

/-- ATOMIC_REPLY of a request. -/
def State.atomicReply (s : State) (k : Pkt) (old : Nat) (swapped : Bool) : Pkt :=
  mkPkt false 2 false 0x4013 k.src s.node k.flow k.addr k.tag (mkBody 30 [(0, 8, old), (8, 1, b2n swapped)]) []

/-- Runs a request that passed tests 1 to 7: tests 8 and 9, then `f` with the state after the read of `n` bytes. A
request refused here was not executed, and enters no reply in the cache (log 61). -/
def State.memExecute (s : State) (o : Nat) (k : Pkt) (n : Nat) (f : State → List Byte → State) : State :=
  if !s.stacksOf (s.memAddr k) k.memLen then (s.bump A.WINDOW_REFUSED 1).memError o k 0x03
  else
    match s.readMem (s.memAddr k) n with
    | (some l, t) => f t l
    | (none, t) => (t.bump A.WINDOW_MEM_ERRORS 1).memError o k 0x16

/-- A request of the reply cache's kinds: a duplicate is answered from the cache or absorbed (test 1, R150). -/
def State.memRequest (s : State) (o : Nat) (k : Pkt) (f : State → Nat → State) : State :=
  match s.cached k.src k.tag with
  | some c =>
    let s1 := s.bump A.WINDOW_DUP_REPLAYED 1
    (match c.reply with | some r => s1.originate o r | none => s1)
  | none =>
    match s.memJudge k with
    | .ok w => f (if writeClass k.op then s.fenceRequest k.src k.epoch else s) w
    | v => s.memRefuse o k v

/-- The head request of an operation at a station port is taken by its memory agent. -/
def State.takeMem (s : State) (o op : Nat) (f : State → Pkt → State) : State :=
  match s.headOp o op with
  | some (c, k) => f (s.consume c k) k
  | none => s

/-- A station port. -/
def stationPort (o : Nat) : Bool := decide (256 ≤ o ∧ o < 288)

/-- READ (R389). -/
def execRead (o : Nat) (s : State) : Host.Outcome State Fault Refusal :=
  s.finish (stationPort o) fun t => t.takeMem o 0x4001 fun u k =>
    match u.memJudge k with
    | .ok _ => u.memExecute o k k.memLen fun v l => (v.bump A.WINDOW_READS 1).originate o (v.readData k l)
    | x => u.memRefuse o k x

/-- WRITE (R389). -/
def execWrite (o : Nat) (s : State) : Host.Outcome State Fault Refusal :=
  s.finish (stationPort o) fun t => t.takeMem o 0x4002 fun u k =>
    u.memRequest o k fun v w => v.memExecute o k 0 fun x _ =>
      (x.bump A.WINDOW_WRITES 1).memWrite o w k (k.payload.take k.memLen) (x.writeAck k)

/-- FETCH_ADD (R389). -/
def execFetchAdd (o : Nat) (s : State) : Host.Outcome State Fault Refusal :=
  s.finish (stationPort o) fun t => t.takeMem o 0x4003 fun u k =>
    u.memRequest o k fun v w => v.memExecute o k 8 fun x l =>
      (x.bump A.WINDOW_ATOMICS 1).memWrite o w k (toBytes 8 (ofBytes l + k.num 32 8)) (x.atomicReply k (ofBytes l) false)

/-- CAS (R389). One that does not swap writes nothing. -/
def execCas (o : Nat) (s : State) : Host.Outcome State Fault Refusal :=
  s.finish (stationPort o) fun t => t.takeMem o 0x4004 fun u k =>
    u.memRequest o k fun v w => v.memExecute o k 8 fun x l =>
      let hit := ofBytes l == k.num 32 8
      (x.bump A.WINDOW_ATOMICS 1).memWrite o w k (if hit then toBytes 8 (k.num 40 8) else []) (x.atomicReply k (ofBytes l) hit)

/-- FENCE (R393). -/
def execFence (o : Nat) (s : State) : Host.Outcome State Fault Refusal :=
  s.finish (stationPort o) fun t => t.takeMem o 0x4005 fun u k =>
    u.memRequest o k fun v w =>
      let n := (v.fenceCtr k.src k.epoch).getD 0
      let v1 := (v.bump A.WINDOW_FENCES 1).cachePend k.src k.tag
      let v2 := if (v.fenceCtr k.src k.epoch).isSome then v1.startTimer (fenceIdleKey k.src k.epoch) else v1
      if k.num 32 4 ≤ n then v2.fenceAck o k k.epoch n true
      else
        let x : FenceWait := { src := k.src, tag := k.tag, epoch := k.epoch, n := k.num 32 4, port := o, req := k, win := w }
        let v3 : State := { v2 with mem := { v2.mem with fenceWaits := v2.mem.fenceWaits ++ [x] } }
        v3.startTimer (fenceKey k.src k.tag)

/-- FENCE_TIMEOUT (R393). -/
def execFenceTimeout (src tag : Nat) (s : State) : Host.Outcome State Fault Refusal :=
  s.finish true fun t =>
    match t.mem.fenceWaits.find? fun w => w.src = src && w.tag = tag with
    | some w => if t.due (fenceKey src tag) (us (max 1 (t.get F.WINDOW_FENCE_CFG_FENCE_US))) then
        t.endFence w ((t.fenceCtr w.src w.epoch).getD 0) false
      else t
    | none => t

/-- FENCE_ENTRY_IDLE (R393). -/
def execFenceEntryIdle (src epoch : Nat) (s : State) : Host.Outcome State Fault Refusal :=
  s.finish true fun t =>
    if (t.fenceCtr src epoch).isSome ∧ t.due (fenceIdleKey src epoch) (ms (max 1 (t.get F.WINDOW_FENCE_CFG_FENCE_IDLE_MS)))
    then t.dropFence src epoch else t

/-- STACK_WRITE_ACK (R391): write `id` is acknowledged, answered and counted. -/
def execStackWriteAck (id : Nat) (s : State) : Host.Outcome State Fault Refusal :=
  s.finish true fun t =>
    match t.mem.pendingAcks.find? fun m => m.id = id with
    | some m =>
      let l := t.mem.pendingAcks.filter fun x => x ≠ m
      let t1 : State := { t with mem := { t.mem with pendingAcks := l } }
      ((t1.cacheReply m.src m.tag m.reply).originate m.port m.reply).countAnswer m.src m.epoch
    | none => t

/-! ## Scrub, refresh, repair (R382 to R386) -/

/-- Bits of a granule that have flipped since it was written: data bits and check bits (R380). -/
def State.upset (s : State) (g data check : Nat) : State :=
  let s1 := (bitList data 128).foldl (fun t i => t.setByte (16 * g + i / 8)
    (t.byteAt (16 * g + i / 8) ^^^ BitVec.ofNat 8 (2 ^ (i % 8)))) s
  s1.setSynd g (s1.granSynd g ^^^ checkWord data 0 ^^^ (check % 65536))

/-- The scrub's action on a granule it has read (R381, R382). -/
def State.scrubGran (s : State) (g : Nat) : State :=
  match synd (s.granSynd g) with
  | .good => s
  | .check => s.setSynd g 0
  | .bit i => s.correct g i
  | .addr => s.poison g
  | .ue => s.poison g
  | .poisoned => s

/-- Timer of the patrol scrub's last read of a granule. -/
def patrolKey (g : Nat) : TKey := { kind := .patrol, a := g }

/-- PATROL_SCRUB (R382): the scrub of stack `n` reads granule `g`, of which the bits of `data` and `check` have flipped;
`race` tells that a write of the granule came between its read and its write. It reads a granule once in SCRUB_H hours, with
SCRUB_H 0 acting as 1 (DEDUCED, log 120). -/
def execPatrolScrub (n g data check : Nat) (race : Bool) (s : State) : Host.Outcome State Fault Refusal :=
  s.finish (decide (n < stackCount s.asm) && s.stackOf (16 * g) == n && decide (g < stackCount s.asm * 3221225472)) fun t =>
    if t.stackServes n ∧ ((t.timer (patrolKey g)).isNone ∨ t.due (patrolKey g) (ms (3600000 * max 1 (t.get (F.HBM_CFG_SCRUB_H n))))) then
      let t1 := ((t.startTimer (patrolKey g)).upset g data check).readGran g
      if race then t1.2 else t1.2.scrubGran g
    else t

/-- Slow cycles between two refreshes of a bank: half as many above 85 °C (R383, R475; log 130). -/
def State.refreshPace (s : State) (n : Nat) : Nat :=
  if (16 * 85 : Int) < signed (s.get (F.HBM_INFO_TEMP n) % 4096) 12 then Config.refreshTime / 2 else Config.refreshTime

/-- REFRESH (R383): one bank of one pseudo-channel; accesses to it waited `waits` core cycles. No stored bit changes. -/
def execRefresh (n pc bank waits : Nat) (s : State) : Host.Outcome State Fault Refusal :=
  s.finish (decide (n < stackCount s.asm) && decide (pc < 32) && decide (bank < 64)) fun t =>
    let k : TKey := { kind := .bankRefresh, a := n, b := pc, c := bank }
    if t.stackServes n ∧ ((t.timer k).isNone ∨ t.due k (t.refreshPace n)) then
      (t.bump (A.HBM_REFRESH_WAITS n) waits).startTimer k
    else t

/-- Shelter entries of a stack. -/
def State.shelters (s : State) (n : Nat) : List Shelter := s.mem.shelter.filter fun e => e.stack = n

/-- Stores the shelter entries, with the stack's INFO fields. -/
def State.setShelters (s : State) (n : Nat) (l : List Shelter) : State :=
  let mine := l.filter fun e => e.stack = n
  (({ s with mem := { s.mem with shelter := l } } : State).put (F.HBM_INFO_SHELTER_USED n) mine.length).put
    (F.HBM_INFO_RETIRED n) (mine.filter fun e => e.step = 0).length

/-- A write of HBM.REPAIR_CMD START (R384, R385): the copy reads the named row, corrects single errors and poisons in the shelter
what it finds ADDR or UE. `flips` are the data and check bits of granules of the row that have flipped since they were read last
(DEDUCED, log 120). -/
def State.repairStart (s : State) (n : Nat) (flips : List (Nat × Nat × Nat)) : State :=
  if s.mach (.stack n) = UP ∧ ¬ s.flag (F.HBM_REPAIR_STATE_BUSY n) ∧ (s.shelters n).length < 8 then
    let e : Shelter := { stack := n, pc := s.get (F.HBM_REPAIR_ADDR_PC n), bank := s.get (F.HBM_REPAIR_ADDR_BANK n)
                         row := s.get (F.HBM_REPAIR_ADDR_ROW n), step := 2 }
    let inRow (g : Nat) : Bool := s.inRow n e.pc e.bank e.row g
    let s1 := (s.put (F.HBM_REPAIR_STATE_BUSY n) 1).setShelters n (s.mem.shelter ++ [e])
    let s2 := (flips.filter fun f => inRow f.1).foldl (fun t f => t.upset f.1 f.2.1 f.2.2) s1
    ((s2.mem.synd.map (·.1)).filter inRow).foldl (fun t g => (t.readGran g).2.scrubGran g) s2
  else s.raise .HBM n 0 K.HBM_REPAIR_REFUSED

/-- REPAIR_PPR_DONE (R384, R386): the repair of step 3 is done and the row written back, with `left` resources left in
the stack; `exhausted` tells that the bank had none, and the row stays in its shelter entry. -/
def execRepairPprDone (n left : Nat) (exhausted : Bool) (s : State) : Host.Outcome State Fault Refusal :=
  s.finish (decide (n < stackCount s.asm)) fun t =>
    match (t.shelters n).find? fun e => e.step = 2 with
    | some e =>
      let t1 := t.put (F.HBM_REPAIR_STATE_LEFT n) (min 255 left)
      if exhausted then
        ((t1.setShelters n (t1.mem.shelter.map fun x => if x = e then { x with step := 0 } else x)).put
          (F.HBM_REPAIR_STATE_BUSY n) 0).raise .HBM n 0 K.HBM_REPAIR_EXHAUSTED
      else t1.setShelters n (t1.mem.shelter.map fun x => if x = e then { x with step := 4 } else x)
    | none => t

/-- REPAIR_DONE (R384): the shelter entry is released and the repair is listed. -/
def execRepairDone (n : Nat) (s : State) : Host.Outcome State Fault Refusal :=
  s.finish (decide (n < stackCount s.asm)) fun t =>
    match (t.shelters n).find? fun e => e.step = 4 with
    | some e =>
      let t1 := t.setShelters n (t.mem.shelter.filter fun x => x ≠ e)
      let t2 : State := { t1 with mem := { t1.mem with repairs := t1.mem.repairs ++ [(e.stack, e.pc, e.bank, e.row)] } }
      ((t2.put (F.HBM_REPAIR_STATE_BUSY n) 0).bump (A.HBM_REPAIRS n) 1).raise .HBM n 0 K.HBM_REPAIR_DONE
    | none => t

/-! ## Initialisation (R378) -/

/-- Step reached in a stack's initialisation. -/
def State.initAt (s : State) (n : Nat) : Nat := s.mem.initStep.getD n 0

/-- Stores the step reached. -/
def State.setInit (s : State) (n k : Nat) : State := { s with mem := { s.mem with initStep := s.mem.initStep.set n k } }

/-- The stack keeps zeros with valid check bits in every granule. -/
def State.fillStack (s : State) (n : Nat) : State :=
  let b := s.mem.bytes.filter fun e => s.stackOf e.1 ≠ n
  let y := s.mem.synd.filter fun e => s.stackOf (16 * e.1) ≠ n
  { s with mem := { s.mem with bytes := b, synd := y } }

/-- The stack's initialisation is complete: steps 1 to 6, and the fill since the main rails came up. -/
def State.stackReady (s : State) (n : Nat) : Bool := s.flag (F.HBM_STATE_TRAINED n) && s.flag (F.HBM_STATE_FILLED n)

/-- Makes the stack's first eight soft repairs hard: they leave its repair list. -/
def hardRepairs (n : Nat) (l : List (Nat × Nat × Nat × Nat)) : List (Nat × Nat × Nat × Nat) :=
  (l.filter fun e => e.1 ≠ n) ++ (l.filter fun e => e.1 = n).drop 8

/-- A stack whose training fails stays DOWN; in a reset it stays fenced until the reset has ended (R378, R431). -/
def State.trainFailed (s : State) (n : Nat) : State :=
  if s.mach (.stack n) = STARTING then s.setMach (.stack n) DOWN else s

/-- STACK_INIT_STEP (R378): step `k` of stack `n` ends, well or not, in the stack's start-up or in its controller's reset;
`left` is the repair resources that step 2 reads. With the core PLL stopped the controller has no clock: the initialisation starts the
PLL first (R474; DEDUCED, log 131). -/
def execStackInitStep (n k : Nat) (ok : Bool) (left : Nat) (s : State) : Host.Outcome State Fault Refusal :=
  s.finish (decide (n < stackCount s.asm) && decide (1 ≤ k ∧ k ≤ 7)) fun t =>
    if (t.mach (.stack n) ≠ STARTING ∧ t.fstate (dom 7 n) ≠ 1) ∨ t.initAt n + 1 ≠ k ∨ (k = 7 ∧ t.flag (F.HBM_STATE_FILLED n)) then t
    else if ¬ t.flag F.TOP_STATE_CORE_PLL_LOCK then t.startPll
    else if (k = 4 ∨ k = 5) ∧ ¬ ok then
      let t1 : State := { t with refused := t.refused ++ [.stack n] }
      ((t1.setInit n 0).trainFailed n).raise .HBM n 0 K.HBM_TRAIN_FAIL
    else
      let t1 := t.setInit n k
      if k = 2 then t1.put (F.HBM_REPAIR_STATE_LEFT n) (min 255 left)
      else if k = 6 then
        ({ t1 with mem := { t1.mem with repairs := hardRepairs n t1.mem.repairs } } : State).put (F.HBM_STATE_TRAINED n) 1
      else if k = 7 then (t1.fillStack n).put (F.HBM_STATE_FILLED n) 1
      else t1

end Sys2Proof.Machine
end

