-- ==== Sys2Proof/Machine/Lanes.lean ====
section
/-! DEFINITION. The commands of lanes and ports (04_lanes.md): bring-up, control blocks, adaptation, eye scan, LINK. An
event that does not apply to the lane or port as it stands changes nothing (log 1). -/

namespace Sys2Proof.Machine

/-! ## Bring-up -/

/-- LANE_TRAIN_START (R100, R101, R116): not within the 1 ms of idle that follows TRAIN_FAIL. -/
def execLaneTrainStart (l : Nat) (s : State) : Host.Outcome State Fault Refusal :=
  s.finish (s.laneOk l) fun t =>
    if t.phase l = P_IDLE ∧ t.mayTrain l ∧ t.timer { kind := .trainIdle, a := l } = none then t.startTraining l else t

/-- TRAINING_FRAME_RX (R99, R116): the 64 symbols of the frame marker, the 64 of the control bits and the 896 of the PRBS13Q, as
they come in. The polarity follows from the PRBS13Q. What no frame marker precedes is no frame, and one whose CRC-8 is wrong is
not used. A frame that repeats the last request carries no new request (log 28). -/
def execTrainingFrameRx (l : Nat) (marker ctrlSyms prbsSyms : List Nat) (s : State) : Host.Outcome State Fault Refusal :=
  s.finish (s.laneOk l && marker.length == 64 && ctrlSyms.length == 64 && prbsSyms.length == 896 &&
      (marker ++ ctrlSyms ++ prbsSyms).all (fun v => decide (v < 4))) fun t =>
    let inv := polarityOf prbsSyms
    let right (x : List Nat) : List Nat := if inv then inverted x else x
    let ctrl := ofBits (pam4Bits (right ctrlSyms))
    if right marker != frameMarker || !trainOk ctrl then t
    else
      let out := !t.flag (F.LANE_STATE_RX_IN_PORT l) && !t.flag (F.LANE_STATE_TX_IN_PORT l)
      let t0 := if (t.phase l = P_IDLE ∨ t.phase l = P_RUN) ∧ out ∧ t.mayTrain l ∧
          t.timer { kind := .trainIdle, a := l } = none then t.startTraining l else t
      if t0.phase l < P_WAIT ∨ P_TUNE < t0.phase l then t0
      else
        let h := t0.lane l
        let req := bits ctrl 8 9
        let tap := bits req 0 3
        let action := bits req 3 2
        let new := decide (req ≠ h.lastReq ∧ action ≠ 0 ∧ tap ≠ 4)
        let r := if new then t0.applyTap l tap action (bits req 5 4) else (h.atLimit, t0)
        let t1 := r.2.setLane l { r.2.lane l with
          lastReq := req, atLimit := r.1, ackToggle := if new then !h.ackToggle else h.ackToggle
          partnerReady := bit ctrl 17, partnerPrecode := bit ctrl 18 }
        ((t1.put (F.LANE_STATE_LOGICAL l) (bits ctrl 0 4)).put (F.LANE_STATE_RX_INVERTED l) (b2n inv)).sendTrain l

/-- LANE_SIGNAL_DETECT (R100, R101): step 2 ends; steps 3 to 8 are timed from here. -/
def execLaneSignalDetect (l : Nat) (s : State) : Host.Outcome State Fault Refusal :=
  s.finish (s.laneOk l) fun t =>
    if t.phase l = P_WAIT then (t.setPhase l P_CDR).startTimer { kind := .train, a := 1, b := l } else t

/-- LANE_CDR_LOCK (R100). -/
def execLaneCdrLock (l : Nat) (s : State) : Host.Outcome State Fault Refusal :=
  s.finish (s.laneOk l) fun t => if t.phase l = P_CDR then t.setPhase l P_ADAPT else t

/-- LANE_RX_ADAPTED (R100): RX_READY is sent from here on. -/
def execLaneRxAdapted (l snr : Nat) (s : State) : Host.Outcome State Fault Refusal :=
  s.finish (s.laneOk l) fun t =>
    if t.phase l = P_ADAPT then
      (((t.setPhase l P_TUNE).put (F.LANE_RX_QUALITY_SNR l) snr).setLane l { t.lane l with rxReady := true }).sendTrain l
    else t

/-- LANE_TX_TUNED (R100, R102): both ends show RX_READY. -/
def execLaneTxTuned (l : Nat) (s : State) : Host.Outcome State Fault Refusal :=
  s.finish (s.laneOk l) fun t =>
    let h := t.lane l
    if t.phase l = P_TUNE ∧ h.rxReady ∧ h.partnerReady then
      (t.setPhase l P_PARTNER).put (F.LANE_STATE_PRECODE_ON l)
        (b2n (h.partnerPrecode && t.flag (F.LANE_CFG_PRECODE_REQ l)))
    else t

/-- LANE_CW_LOCK (R100; log 13: the lock shows that the partner has switched to coded blocks too). -/
def execLaneCwLock (l : Nat) (s : State) : Host.Outcome State Fault Refusal :=
  s.finish (s.laneOk l) fun t =>
    if t.phase l = P_PARTNER ∨ t.phase l = P_CW then t.setPhase l P_MARKER else t

/-- LANE_MARKER_LOCK (R96, R110, R116). -/
def execLaneMarkerLock (l logical check count skew : Nat) (s : State) : Host.Outcome State Fault Refusal :=
  s.finish (s.laneOk l && decide (logical < 16)) fun t =>
    if t.phase l = P_MARKER ∧ (t.lane l).lockLogical = none then t.markerLock l logical check count skew else t

/-- A lane enters RUN, and its machine UP; the port's masks hold as they stand (R100, R112). -/
def State.runLane (s : State) (l : Nat) : State :=
  let t1 := (s.setPhase l P_RUN).stopTimer { kind := .train, a := 1, b := l }
  let t2 := if t1.mach (.lane l) = STARTING then t1.setMach (.lane l) UP else t1
  match t2.lanePort l with
  | some (p, _) => t2.setMasks p (t2.rxMask p) (t2.txMask p)
  | none => t2

/-- A lane whose start-up ends with ENABLE 0 or TEST on is withdrawn (R40, R115). -/
def State.leaveDisabled (s : State) (l : Nat) : State :=
  if s.mach (.lane l) = UP ∧ (¬ s.enabled (.lane l) ∨ s.testOn l) then s.withdrawLane l else s

/-- LANE_RUN (R40, R100, R110). -/
def execLaneRun (l : Nat) (s : State) : Host.Outcome State Fault Refusal :=
  s.finish (s.laneOk l) fun t =>
    if t.phase l = P_MARKER ∧ (t.lane l).lockLogical ≠ none ∧ (t.lane l).skew ≤ 64 then (t.runLane l).leaveDisabled l else t

/-- TRAIN_FAIL (R101). -/
def execTrainFail (l : Nat) (s : State) : Host.Outcome State Fault Refusal :=
  s.finish (s.laneOk l) fun t =>
    if P_CDR ≤ t.phase l ∧ t.phase l ≤ P_MARKER ∧
        t.due { kind := .train, a := 1, b := l } (ms (t.get (F.LANE_CFG_TRAIN_LIMIT l))) then
      ((t.raise .LANE (l / 128) (l % 128) K.LANE_TRAIN_FAIL).idleLane l).startTimer { kind := .trainIdle, a := l }
    else t

/-- TRAIN_RESTART (R101): after 1 ms of electrical idle, step 1 again. -/
def execTrainRestart (l : Nat) (s : State) : Host.Outcome State Fault Refusal :=
  s.finish (s.laneOk l) fun t =>
    if t.due { kind := .trainIdle, a := l } (ms 1) then
      let t1 := t.stopTimer { kind := .trainIdle, a := l }
      if t1.phase l = P_IDLE ∧ t1.mayTrain l then t1.startTraining l else t1
    else t

/-! ## Codewords and control blocks -/

/-- The lane receives coded blocks. -/
def State.receives (s : State) (l : Nat) : Bool := decide (P_MARKER ≤ s.phase l)

/-- A codeword with `k` symbols corrected (R95; 04_lanes.md, LANE lane page registers). -/
def State.goodCodeword (s : State) (l k unknown : Nat) : State :=
  let s1 := (s.bump (A.LANE_CW_TOTAL l) 1).bump (A.LANE_FEC_HIST l k) 1
  let s2 := (s1.bump (A.LANE_CW_CORRECTED l) (b2n (k != 0) + unknown)).bump (A.LANE_SYM_CORRECTED l) k
  if k = 0 then s2
  else s2.setLane l { s2.lane l with
    symHist := ((s2.lane l).symHist.filter fun e => s2.clk < e.1 + ms 16) ++ [(s2.clk, k)] }

/-- An uncorrectable codeword; more than UNCORR_LIMIT in any 1 ms are a lane fault (R113). -/
def State.badCodeword (s : State) (l : Nat) : State :=
  let s1 := (s.bump (A.LANE_CW_TOTAL l) 1).bump (A.LANE_CW_UNCORRECTABLE l) 1
  let s2 := match s.lanePort l with | some (p, _) => s1.bump (A.PORT_CW_UNCORRECTABLE p) 1 | none => s1
  let u := ((s2.lane l).uncorr.filter fun t => s2.clk < t + ms 1) ++ [s2.clk]
  let s3 := s2.setLane l { s2.lane l with uncorr := u }
  if s3.get (F.LANE_CFG_UNCORR_LIMIT l) < u.length then s3.laneFault l K.LANE_UNCORR_LIMIT else s3

/-- The blocks of a codeword that cannot be corrected are bad: those of the units of the port's stream that lie in it, numbered
from the next unit to come (R95). -/
def State.markBad (s : State) (l : Nat) (units : List Nat) : State :=
  match s.lanePort l with
  | some (p, _) =>
    let h := s.port p
    s.setPort p { h with badUnits := h.badUnits ++ units.map (h.rxUnits + ·) }
  | none => s

/-- CODEWORD_RX (R93, R95, R113): the symbols corrected, or none where it cannot be corrected, and the units of the port's
stream in it; coded blocks in WAIT_PARTNER show that the partner has switched, and the phase is CW_LOCK (R100, log 13). -/
def execCodewordRx (l : Nat) (res : Option Nat × List Nat) (unknown : Nat) (s : State) : Host.Outcome State Fault Refusal :=
  s.finish (s.laneOk l && decide (res.1.getD 0 ≤ 15)) fun t =>
    if t.receives l then
      (match res.1 with
      | some k => t.goodCodeword l k unknown
      | none => (t.markBad l res.2).badCodeword l)
    else if t.phase l = P_PARTNER then t.setPhase l P_CW
    else t

/-- MARKER_RX (R94, R96, R113): a marker that differs, or a pair no block of which can be read, is a lane fault. -/
def execMarkerRx (l logical check count : Nat) (ok0 ok1 : Bool) (s : State) : Host.Outcome State Fault Refusal :=
  s.finish (s.laneOk l) fun t =>
    let h := t.lane l
    if t.receives l ∧ h.lockLogical ≠ none then
      if pairOk ok0 ok1 ∧ h.lockLogical = some logical ∧ h.lockCheck = some check then
        t.setLane l { h with lastMarker := some count }
      else t.laneFault l K.LANE_MARKER_LOSS
    else t

/-- FILLER_RX (R97). -/
def execFillerRx (l : Nat) (s : State) : Host.Outcome State Fault Refusal :=
  s.finish (s.laneOk l) fun t => if t.receives l then t.bump (A.LANE_FILLER_RX l) 1 else t

/-- FILLER_TX (R97): one pair on all active lanes. -/
def execFillerTx (p : Nat) (s : State) : Host.Outcome State Fault Refusal :=
  s.finish (decide (p < 256)) fun t =>
    let lanes := t.activeTx p
    lanes.foldl (fun u l => u.bump (A.LANE_FILLER_TX l) 1) (t.sendPairs lanes 0x1E 0)

/-- Whole slow cycles of the 4,096 codewords between two markers (R96; log 4). -/
abbrev markerGap : Nat := 10485

/-- MARKER_TX (R96): every 4,096 codewords, on every lane of the port that sends coded blocks, with one count. -/
def execMarkerTx (p : Nat) (s : State) : Host.Outcome State Fault Refusal :=
  s.finish (decide (p < 256)) fun t =>
    match (t.port p).layout with
    | none => t
    | some y =>
      let k : TKey := { kind := .markerTx, a := p }
      if (t.timer k).isSome ∧ ¬ t.due k markerGap then t
      else
        let n := (t.port p).txMarker
        let lanes := (List.range y.width).filter fun i => decide (P_PARTNER ≤ t.phase (y.base + i))
        (lanes.foldl (fun u i => u.emit (.pair (y.base + i) 0x4B (t.markerContent p i n)))
          (t.setPort p { t.port p with txMarker := (n + 1) % 65536 })).startTimer k

/-- The partner receives no longer on the lanes outside a mask: they join again only after a new LANE_READY (R116). -/
def State.forgetReady (s : State) (p mask : Nat) : State :=
  match (s.port p).layout with
  | some y => ((List.range y.width).filter fun i => !mask.testBit i).foldl (fun t i =>
      t.setLane (y.base + i) { t.lane (y.base + i) with partnerLaneReady := false }) s
  | none => s

/-- WIDTH_REQ (R112, R116): SWITCH at once, then the reduced mask. -/
def execWidthReq (p mask : Nat) (ok0 ok1 : Bool) (s : State) : Host.Outcome State Fault Refusal :=
  s.finish (decide (p < 256 ∧ mask < 65536)) fun t =>
    if pairOk ok0 ok1 ∧ t.linkIsUp p then (t.forgetReady p mask).switchTx p (t.txMask p &&& mask) else t

/-- SWITCH (R93, R112): the partner's new mask applies at the unit it names. -/
def execSwitch (p mask units : Nat) (ok0 ok1 : Bool) (s : State) : Host.Outcome State Fault Refusal :=
  s.finish (decide (p < 256 ∧ mask < 65536)) fun t =>
    if pairOk ok0 ok1 ∧ t.linkIsUp p then (t.bump (A.PORT_SWITCH_RX p) 1).takeSwitch p mask units else t

/-- LANE_READY (R116): the partner is ready for the lanes named, which join the transmit mask by SWITCH. -/
def execLaneReady (p mask : Nat) (ok0 ok1 : Bool) (s : State) : Host.Outcome State Fault Refusal :=
  s.finish (decide (p < 256 ∧ mask < 65536)) fun t =>
    match (t.port p).layout with
    | none => t
    | some y =>
      if pairOk ok0 ok1 then
        let ready := (List.range y.width).filter fun i => mask.testBit i && decide (P_PARTNER ≤ t.phase (y.base + i))
        (ready.foldl (fun u i => u.setLane (y.base + i) { u.lane (y.base + i) with partnerLaneReady := true }) t).joinReady p
      else t

/-- COEF_REQ (R103): one coefficient step, answered with COEF_ACK. -/
def execCoefReq (l tap action : Nat) (ok0 ok1 : Bool) (s : State) : Host.Outcome State Fault Refusal :=
  s.finish (s.laneOk l && decide (tap < 8 ∧ action < 4)) fun t =>
    match t.lanePort l with
    | some (p, i) =>
      if pairOk ok0 ok1 ∧ t.receives l then
        let n := t.fresh
        let r := if action = 3 then n.2.applyTap l tap action n.1 else t.applyTap l tap action 0
        r.2.sendMsg p 0x04 (2 ^ i) (b2n r.1)
      else t
    | none => t

/-- COEF_ACK (R103). -/
def execCoefAck (l : Nat) (atLimit ok0 ok1 : Bool) (s : State) : Host.Outcome State Fault Refusal :=
  s.finish (s.laneOk l) fun t =>
    let h := t.lane l
    if pairOk ok0 ok1 ∧ h.asked ≠ none then
      if atLimit then t.setLane l { h with asked := none, watched := none }
      else
        let t1 := t.setLane l { h with asked := none }
        if h.watched.isSome then t1.startTimer { kind := .adaptWindow, a := l } else t1
    else t

/-- GOODBYE (R118): LINK goes DOWN at once. -/
def execGoodbye (p : Nat) (ok0 ok1 : Bool) (s : State) : Host.Outcome State Fault Refusal :=
  s.finish (decide (p < 256)) fun t => if pairOk ok0 ok1 ∧ t.linkIsUp p then t.linkDown p else t

/-! ## Adaptation (R103) -/

/-- Symbols corrected within the last millisecond. -/
def State.symsLastMs (s : State) (l : Nat) : Nat :=
  (((s.lane l).symHist.filter fun e => s.clk < e.1 + ms 1).map (·.2)).sum

/-- Symbols corrected within the millisecond from slow cycle `t0` on. -/
def State.symsFrom (s : State) (l t0 : Nat) : Nat :=
  (((s.lane l).symHist.filter fun e => decide (t0 ≤ e.1 ∧ e.1 < t0 + ms 1)).map (·.2)).sum

/-- The millisecond after the step under watch has passed and corrected more than twice what the one before it did
(R103). The step is taken as made when its COEF_ACK comes; the millisecond before it is the one before the request
(DESIGN CHOICE, log 117). -/
def State.stepWorse (s : State) (l : Nat) : Bool :=
  match s.timer { kind := .adaptWindow, a := l } with
  | some t0 => decide (t0 + ms 1 ≤ s.clk) && decide (2 * (s.lane l).symBefore < s.symsFrom l t0)
  | none => false

/-- A step under watch is not judged yet, or is to be reversed first (R103). -/
def State.watching (s : State) (l : Nat) : Bool :=
  (s.timer { kind := .adaptWindow, a := l }).isSome &&
    (!s.due { kind := .adaptWindow, a := l } (ms 1) || s.stepWorse l)

/-- Adaptation is held by a running eye point (R106). -/
def State.adaptHeld (s : State) (l : Nat) : Bool :=
  s.flag (F.LANE_EYE_STATUS_BUSY l) && bit (s.lane l).eyeCtl.toNat 24 && !(s.lane l).eyeReleased

/-- Asks the partner for one coefficient step of the lane's transmitter. -/
def State.askStep (s : State) (l tap action : Nat) : State :=
  match s.lanePort l, (s.lane l).lockLogical with
  | some (p, _), some g =>
    (s.setLane l { s.lane l with asked := some (tap, action) }).sendMsg p 0x03 (2 ^ g) (tap + action * 2 ^ 3)
  | _, _ => s

/-- ADAPT_STEP (R103): at most one request per millisecond, and none while the step before it is under watch. A step
moves one coefficient up or down. -/
def execAdaptStep (l tap action : Nat) (s : State) : Host.Outcome State Fault Refusal :=
  s.finish (s.laneOk l && decide (tap < 4 ∧ 1 ≤ action ∧ action < 3)) fun t =>
    if t.phase l = P_RUN ∧ t.flag (F.LANE_CTL_ADAPT_EN l) ∧ ¬ t.watching l ∧ ¬ t.adaptHeld l ∧
        t.elapsed { kind := .adaptStep, a := l } (ms 1) then
      let t1 := ((t.bump (A.LANE_ADAPT_STEPS l) 1).startTimer { kind := .adaptStep, a := l }).stopTimer
        { kind := .adaptWindow, a := l }
      (t1.setLane l { t1.lane l with watched := some (tap, action), symBefore := t.symsLastMs l }).askStep l tap action
    else t

/-- ADAPT_REVERT (R103, R106): the millisecond after a step is judged against the one before it; the reversal is a request
too, and it waits while a point holds adaptation. -/
def execAdaptRevert (l : Nat) (s : State) : Host.Outcome State Fault Refusal :=
  s.finish (s.laneOk l) fun t =>
    let h := t.lane l
    match h.watched with
    | some (tap, action) =>
      if t.due { kind := .adaptWindow, a := l } (ms 1) ∧ ¬ t.adaptHeld l then
        let t1 := (t.stopTimer { kind := .adaptWindow, a := l }).setLane l { h with watched := none }
        if t.stepWorse l then
          (((t1.bump (A.LANE_ADAPT_REVERTS l) 1).raise .LANE (l / 128) (l % 128) K.LANE_ADAPT_REVERT).startTimer
            { kind := .adaptStep, a := l }).askStep l tap (if action = 1 then 2 else 1)
        else t1
      else t
    | none => t

/-! ## Eye scan (R104 to R106) -/

/-- What a write of EYE_CMD starts: both bits are judged on the point that ran before the write (R105). -/
def State.eyeCmd (s : State) (l v : Nat) : State :=
  let busy := s.flag (F.LANE_EYE_STATUS_BUSY l)
  let s1 :=
    if bit v 0 && !busy then
      let a := (((s.put (F.LANE_EYE_STATUS_BUSY l) 1).put (F.LANE_EYE_STATUS_DONE l) 0).put
        (F.LANE_EYE_STATUS_ADAPT_MOVED l) 0).put (F.LANE_EYE_STATUS_ABORTED l) 0
      (a.setLane l { a.lane l with eyeCtl := a.word (A.LANE_EYE_CTL l), eyeMoved := false, eyeReleased := false }).startTimer
        { kind := .eyeHold, a := l }
    else s
  if bit v 1 && busy then
    ((s1.put (F.LANE_EYE_STATUS_BUSY l) 0).put (F.LANE_EYE_STATUS_ABORTED l) 1).stopTimer { kind := .eyeHold, a := l }
  else s1

/-- Bits compared at a point: 2^(20 + DWELL); a DWELL above 12 is not defined, and its count is a free value (log 3). -/
def State.eyeBits (s : State) (dwell : Nat) : Nat × State :=
  if dwell ≤ 12 then (2 ^ (20 + dwell), s) else s.fresh

/-- EYE_POINT_DONE (R105, R106): held adaptation cannot move. -/
def execEyePointDone (l mismatches : Nat) (moved : Bool) (s : State) : Host.Outcome State Fault Refusal :=
  s.finish (s.laneOk l) fun t =>
    if t.flag (F.LANE_EYE_STATUS_BUSY l) then
      let h := t.lane l
      let r := t.eyeBits (bits h.eyeCtl.toNat 20 4)
      let held := bit h.eyeCtl.toNat 24
      let mv := if held then h.eyeReleased else moved
      let t1 := (r.2.bump (A.LANE_EYE_BITS l) r.1).bump (A.LANE_EYE_ERRS l) mismatches
      ((((t1.put (F.LANE_EYE_STATUS_POINT_SEQ l) (t1.get (F.LANE_EYE_STATUS_POINT_SEQ l) + 1)).put
        (F.LANE_EYE_STATUS_DONE l) 1).put (F.LANE_EYE_STATUS_ADAPT_MOVED l) (b2n mv)).put
        (F.LANE_EYE_STATUS_BUSY l) 0).stopTimer { kind := .eyeHold, a := l }
    else t

/-- EYE_HOLD_RELEASE (R106): a hold of 10 ms ends. -/
def execEyeHoldRelease (l : Nat) (s : State) : Host.Outcome State Fault Refusal :=
  s.finish (s.laneOk l) fun t =>
    if t.adaptHeld l ∧ t.due { kind := .eyeHold, a := l } (ms 10) then
      t.setLane l { t.lane l with eyeReleased := true } else t

/-! ## LINK -/

/-- LAYOUT_CONFLICT_CLEAR (R108). -/
def execLayoutConflictClear (p : Nat) (s : State) : Host.Outcome State Fault Refusal :=
  s.finish (decide (p < 256)) fun t => t.conflictClear p

/-- LINK_UP (R111, R140). -/
def execLinkUp (p back : Nat) (s : State) : Host.Outcome State Fault Refusal :=
  s.finish (decide (p < 256 ∧ back < 65536)) fun t => if t.linkReady p back then t.linkComesUp p back else t

/-- LANE_FAULT (R112, R113). -/
def execLaneFault (l kind : Nat) (s : State) : Host.Outcome State Fault Refusal :=
  s.finish (s.laneOk l && decide (kind < 4)) fun t => t.laneFault l kind

/-- LANE_WITHDRAW (R115). -/
def execLaneWithdraw (l : Nat) (s : State) : Host.Outcome State Fault Refusal :=
  s.finish (s.laneOk l) fun t =>
    if t.phase l = P_RUN ∧ (¬ t.flag (F.LANE_CTL_ENABLE l) ∨ t.testOn l) then t.withdrawLane l else t

/-- LINK_DOWN (R117): a mask holds fewer than MIN_WIDTH lanes. -/
def execLinkDown (p : Nat) (s : State) : Host.Outcome State Fault Refusal :=
  s.finish (decide (p < 256)) fun t => if t.linkIsUp p ∧ ¬ t.masksHold p then t.linkDown p else t

end Sys2Proof.Machine
end

