-- ==== Sys2Proof/Machine/Consort.lean ====
section
/-! DEFINITION. The firmware consort: staging, activation, host presence, the host event ring and the log rings (R444 to
R461; 18_consort.md). -/

namespace Sys2Proof.Machine

/-! ## Staging (R451, R459) -/

/-- A processor has a running section in a bank. Boot loads RUN_BANK; in recovery mode no processor has one. -/
def State.runsBank (s : State) (b : Nat) : Bool :=
  !s.sid.recovery && (List.range 8).any fun p => s.get (F.CONSORT_RUN_INFO_RUN_BANK p) == b

/-- BEGIN is refused (R451). -/
def State.beginRefused (s : State) (b : Nat) : Bool :=
  s.get (F.CONSORT_BANK_STATE_BOOT_BANK 0) == b || s.runsBank b ||
    ((List.range 8).any fun p => s.astate p != AS_IDLE && s.get (F.CONSORT_ACT_STATE_TARGET_BANK p) == b) ||
    s.bank (1 - b) == BK_STAGING || s.bank (1 - b) == BK_VERIFYING

/-- A bank leaves STAGING: no longer paused. -/
def State.leaveStaging (s : State) (b v : Nat) : State := (s.put (F.CONSORT_BANK_STATE_PAUSED 0) 0).setBank b v

/-- PAUSED of a STAGING bank follows HOST_ABSENT (R459). -/
def State.pause (s : State) : State := s.put (F.CONSORT_BANK_STATE_PAUSED 0) (s.get F.TOP_STATE_HOST_ABSENT)

/-- What a write of IMG_CMD does; a command that the bank's state does not take is ignored (log 62). -/
def State.imgCmd (s : State) (v : Nat) : State :=
  let b := bits v 4 1
  let st := s.bank b
  match bits v 0 4 with
  | 1 =>
    if s.beginRefused b then s.raise .CONSORT 0 0 K.CONSORT_ACT_REFUSED
    else if st = BK_STAGING ∨ st = BK_VERIFYING then s
    else (((s.put (F.CONSORT_BANK_STATE_INVALID_REASON 0) 0).wr (A.CONSORT_STAGED_BYTES 0) 0).leaveStaging b BK_STAGING).pause
  | 2 => if st = BK_STAGING then s.leaveStaging b BK_VERIFYING else s
  | 3 => if st = BK_STAGING then s.leaveStaging b BK_EMPTY else s
  | 4 => if st = BK_STAGING then s.pause else s
  | 5 => if st = BK_VERIFIED ∧ s.allEight b then s.put (F.CONSORT_BANK_STATE_BOOT_BANK 0) b else s
  | _ => s

/-- IMAGE_VERIFY_DONE (R451): the loader has checked bank `b`. -/
def execImageVerifyDone (b : Nat) (s : State) : Host.Outcome State Fault Refusal :=
  s.finish (decide (b < 2)) fun t =>
    if t.bank b ≠ BK_VERIFYING then t
    else
      let r := t.bankReason b
      if r = 0 then t.setBank b BK_VERIFIED
      else ((t.put (F.CONSORT_BANK_STATE_INVALID_REASON 0) r).setBank b BK_INVALID).raise .CONSORT 0 0 K.CONSORT_STAGE_INVALID

/-! ## Activation (R452 to R457) -/

/-- Interface levels of a section clash with those of another running section (R452). -/
def State.incompatible (s : State) (p : Nat) (e : SecEntry) : Bool :=
  (s.cons.running.filter fun q => q ≠ p).any fun q =>
    decide (s.get (F.CONSORT_RUN_INFO_ILEVEL q) < e.ilevelMin) ||
      (match s.secOf (s.get (F.CONSORT_RUN_INFO_RUN_BANK q)) q with
       | some f => decide (e.ilevel < f.ilevelMin)
       | none => false)

/-- LAST_RESULT of a refused activation, 0 where it is not refused; the conditions of R452 in their order. -/
def State.actRefusal (s : State) (p b : Nat) : Nat :=
  if s.astate p ≠ AS_IDLE ∨ s.fstate (dom 8 p) = 3 then 0x14
  else if s.bank b ≠ BK_VERIFIED ∨ s.get (F.CONSORT_RUN_INFO_RUN_BANK p) = b then 0x10
  else
    match s.secOf b p with
    | none => 0x11
    | some e => if e.svn < s.svnFloor p then 0x12 else if s.incompatible p e then 0x13 else 0

/-- What a write of ACT_CMD does (R452, R454). -/
def State.actCmd (s : State) (p v : Nat) : State :=
  let b := bits v 4 1
  let s1 :=
    if !bit v 0 then s
    else
      let r := s.actRefusal p b
      if r ≠ 0 then (s.put (F.CONSORT_ACT_STATE_LAST_RESULT p) r).raise .CONSORT p 0 K.CONSORT_ACT_REFUSED
      else (s.put (F.CONSORT_ACT_STATE_TARGET_BANK p) b).setAstate p AS_PENDING
  if bit v 1 ∧ s1.astate p = AS_PENDING then (s1.put (F.CONSORT_ACT_STATE_LAST_RESULT p) 0x02).setAstate p AS_IDLE else s1

/-- No emergency for at least 1 s and, for Piccolo, no reallocation (R453). -/
def State.holdoffOver (s : State) (p : Nat) : Bool :=
  !s.flag F.POWER_STATE_EMERGENCY && s.elapsed { kind := .emergClear, a := 0 } (ms 1000) &&
    !(p == 0 && s.flag F.POWER_STATE_REALLOC)

/-- A pending activation may enter LOADING (R453, R459). -/
def State.mayLoad (s : State) (p : Nat) : Bool :=
  s.astate p == AS_PENDING && s.holdoffOver p && !s.flag F.TOP_STATE_HOST_ABSENT

/-- EMERGENCY_HOLDOFF_END (R453, R457): processor `p` is the lowest that may load, and none is in LOADING. -/
def execEmergencyHoldoffEnd (p : Nat) (s : State) : Host.Outcome State Fault Refusal :=
  s.finish (decide (p < 8)) fun t =>
    if t.mayLoad p ∧ ¬ ((List.range p).any t.mayLoad) ∧ ¬ ((List.range 8).any fun q => t.astate q == AS_LOADING) then
      (t.setAstate p AS_LOADING).startTimer { kind := .safePoint, a := p }
    else t

/-- SAFE_POINT (R453): the old image reports `ready`, or 2 ms have passed. -/
def execSafePoint (p : Nat) (ready : Bool) (s : State) : Host.Outcome State Fault Refusal :=
  s.finish (decide (p < 8)) fun t =>
    let k : TKey := { kind := .safePoint, a := p }
    if t.astate p = AS_LOADING ∧ t.cons.running.contains p ∧ (ready ∨ t.due k (ms 2)) then
      let t1 := t.stopTimer k
      if t1.holdoffOver p then t1.stopImage p
      else (if t1.fencedSelf (dom 8 p) then t1 else t1.put (procMach p) UP).setAstate p AS_PENDING
    else t

/-- IMAGE_START (R455): the old image has stopped, and the section is loaded and checked. -/
def execImageStart (p : Nat) (s : State) : Host.Outcome State Fault Refusal :=
  s.finish (decide (p < 8)) fun t =>
    if t.astate p = AS_LOADING ∧ ¬ t.cons.running.contains p ∧ ¬ t.fenced (dom 8 p) then
      let b := t.get (F.CONSORT_ACT_STATE_TARGET_BANK p)
      let good : Bool := match t.secOf b p with | some e => t.digestOk b e | none => false
      if good then (t.setAstate p AS_STARTING).startImage p RS_ACTIVATION else t.revert p
    else t

/-- PROBATION_END (R455). -/
def execProbationEnd (p : Nat) (s : State) : Host.Outcome State Fault Refusal :=
  s.finish (decide (p < 8)) fun t =>
    let k : TKey := { kind := .probation, a := p }
    if t.astate p = AS_PROBATION ∧ t.due k (ms (1000 * max 1 (t.get (F.CONSORT_START_CFG_PROBATION_S p)))) then
      let t1 := t.stopTimer k
      if t1.cons.reverting.contains p then
        let t2 : State := { t1 with cons := { t1.cons with reverting := t1.cons.reverting.filter fun q => q ≠ p } }
        t2.setAstate p AS_IDLE
      else ((t1.put (F.CONSORT_ACT_STATE_LAST_RESULT p) 0x01).bump (A.CONSORT_ACTIVATIONS p) 1).setAstate p AS_IDLE
    else t

/-- START_LIMIT_EXPIRY (R456). -/
def execStartLimitExpiry (p : Nat) (s : State) : Host.Outcome State Fault Refusal :=
  s.finish (decide (p < 8)) fun t =>
    if t.astate p = AS_STARTING ∧ t.cons.running.contains p ∧
        t.due { kind := .startLimit, a := p } (ms (max 1 (t.get (F.CONSORT_START_CFG_START_LIMIT_MS p)))) then t.revert p
    else t

/-! ## Host presence (R458, R459) -/

/-- What a write of HEARTBEAT does; the stored word is the new one, `old` the one it replaced. -/
def State.heartbeat (s : State) (old v : Nat) : State :=
  if old = v then s
  else
    let s1 := if s.get F.TOP_STATE_MODULE ≠ 0 then s.startTimer { kind := .heartbeat, a := 0 } else s
    if s1.flag F.TOP_STATE_HOST_ABSENT then
      (s1.put F.TOP_STATE_HOST_ABSENT 0).pushHost 0x0006 0xFF (toBytes 8 (10 * (s1.clk - s1.cons.absentAt)))
    else s1

/-- HOST_ABSENT (R458, R459). -/
def execHostAbsent (s : State) : Host.Outcome State Fault Refusal :=
  s.finish true fun t =>
    let k : TKey := { kind := .heartbeat, a := 0 }
    if t.due k (ms (max 1000 (min 60000 (t.get (F.CONSORT_HB_CFG_HB_TIMEOUT_MS 0))))) then
      let t1 := (((t.stopTimer k).put F.TOP_STATE_HOST_ABSENT 1).bump (A.CONSORT_HOST_ABSENCES 0) 1).raise .CONSORT 0 0
        K.CONSORT_HOST_ABSENT
      let t2 : State := { t1 with cons := { t1.cons with absentAt := t1.clk } }
      if t2.bank 0 = BK_STAGING ∨ t2.bank 1 = BK_STAGING then t2.put (F.CONSORT_BANK_STATE_PAUSED 0) 1 else t2
    else t

/-! ## Rings (R447, R448, R460, R461) -/

/-- A processor's image runs and is not fenced. -/
def State.procRuns (s : State) (p : Nat) : Bool := s.cons.running.contains p && !s.fenced (dom 8 p)

/-- HOST_EVENT_PUSH (R460): processor `p` pushes an entry of a kind. -/
def execHostEventPush (p kind : Nat) (data : List Byte) (s : State) : Host.Outcome State Fault Refusal :=
  s.finish (decide (p < 8) && decide (kind < 65536) && decide (data.length ≤ 48)) fun t =>
    if t.procRuns p then t.pushHost kind p data else t

/-- LOG_ENTRY_WRITE (R447, R448): processor `p` passes a trace point. -/
def execLogEntryWrite (p point level : Nat) (args : List Word) (s : State) : Host.Outcome State Fault Refusal :=
  s.finish (decide (p < 8) && decide (point < 1024) && decide (level ≤ 4) && decide (args.length ≤ 4)) fun t =>
    if t.procRuns p then t.logWrite p point level args else t

end Sys2Proof.Machine
end

