-- ==== Sys2Proof/Machine/Sections.lean ====
section
/-! DEFINITION. Runs, sliver scrubbing, planned substitution and return, and the clock gating of sections (chapter 11). -/

namespace Sys2Proof.Machine

/-- The instance is a section and one of its physical coaches. -/
def coachOk (n p : Nat) : Bool := decide (n < 16) && decide (p < 33)

/-- A section's fast clock runs. -/
def State.awake (s : State) (n : Nat) : Bool := (s.get F.TOP_STATE_SECTION_AWAKE).testBit n

/-- Key of the scrub of a physical coach's sliver stores. -/
def scrubKey (n p : Nat) : TKey := { kind := .sliverScrub, a := 64 * n + p }

/-- A section's scrubs go on from where they stood when its clock stopped: only awake time counts (R297). -/
def State.resumeScrubs (s : State) (n : Nat) : State :=
  let gated := s.clk - (s.timer { kind := .wake, a := n }).getD 0
  let rest := s.timers.filter fun e => !(e.1.kind == .sliverScrub && e.1.a / 64 == n)
  { s with timers := rest ++ (List.range 33).map fun p => (scrubKey n p, min s.clk ((s.timer (scrubKey n p)).getD 0 + gated)) }

/-- Starts or stops a section's fast clock (R318, R319). -/
def State.setAwake (s : State) (n : Nat) (on : Bool) : State :=
  let m := s.get F.TOP_STATE_SECTION_AWAKE
  let s1 := (s.put F.TOP_STATE_SECTION_AWAKE (clr m (2 ^ n) + 2 ^ n * b2n on)).put (F.SECTION_STATE_AWAKE n) (b2n on)
  if on then s1.resumeScrubs n else s1.startTimer { kind := .wake, a := n }

/-- A gated section wakes; the tokens of its awake floor come from FREE as far as it goes (R319, R465, R467). -/
def State.wake (s : State) (n : Nat) : State :=
  if s.awake n then s
  else
    let want := tokenFloor s.asm true n - s.tokens n
    let give := min want (s.get F.POWER_FREE_TOKENS)
    let s1 := (s.put F.POWER_FREE_TOKENS (s.get F.POWER_FREE_TOKENS - give)).setHeld n (s.tokens n + give)
    (s1.setAwake n true).bump (A.SECTION_WAKES n) 1

/-- Work that keeps a section's clock running (R318). -/
def State.sectionBusy (s : State) (n : Nat) : Bool :=
  ((List.range 33).any fun p => !((s.coach (64 * n + p)).queues.isEmpty && (s.coach (64 * n + p)).running.isEmpty)) ||
    ((List.range 32).any fun l => s.rd (A.POOL_ALLOCATED (s.slotPool (logicalNo n l))) != 0) ||
    (s.sw.queue.any fun c => c.out / 2 == 128 + n) || (s.coll.parked.any fun p => p.port / 2 == 128 + n)

/-- What restarts the time that a section must have been idle: work, a register access within 1 µs, or a state other than UP
(R318). -/
def State.stirred (s : State) (n : Nat) : Bool :=
  s.sectionBusy n || s.mach (.sect n) != UP || !s.elapsed { kind := .sectionAccess, a := n } (us 1)

/-- One slow cycle of the idle time of a section whose clock runs (R318). -/
def State.idleTick (s : State) (n : Nat) : State :=
  if s.awake n ∧ (s.stirred n ∨ s.timer { kind := .idle, a := n } = none) then s.startTimer { kind := .idle, a := n } else s

/-- The scrub of a granule of a coach's sliver stores: an error is corrected in place and counted; an uncorrectable granule sets
MEM_ERROR and is poisoned (R297, R381). -/
def State.scrubSliver (s : State) (n p g : Nat) : State :=
  let c := 64 * n + p
  let h := s.coach c
  match h.gran g with
  | .good => s
  | .poisoned => s
  | .check => (s.slivCorrected c [g]).setCoach c (h.setSynd g 0)
  | .bit _ => (s.slivCorrected c [g]).setCoach c (h.heal 0 0 g)
  | _ => (s.setCoach c (h.setSynd g 0xFFFF)).raise .COACH n p K.COACH_MEM_ERROR

/-- SLIVER_SCRUB (R297): every granule of a coach's stores is read; `flips` are the data and check bits that have flipped, and
`moved` the granules that stand where another address was meant, with the address bits that differ. -/
def execSliverScrub (n p : Nat) (flips : List (Nat × Nat × Nat)) (moved : List (Nat × Nat)) (s : State) :
    Host.Outcome State Fault Refusal :=
  s.finish (coachOk n p) fun t =>
    let k := scrubKey n p
    if t.awake n ∧ t.elapsed k (ms 10) then
      let c := 64 * n + p
      let real (g : Nat) : Bool := decide (g < 16 * 3072)
      let h1 := (flips.filter fun f => real f.1).foldl (fun h f => h.upset f.1 f.2.1 f.2.2 0) (t.coach c)
      let h2 := (moved.filter fun f => real f.1).foldl (fun h f => h.upset f.1 0 0 f.2) h1
      (h2.synd.map (·.1)).foldl (fun u g => u.scrubSliver n p g) ((t.startTimer k).setCoach c h2)
    else t

/-- Key of the watch over the sequencer that a run has: its core's, or that of a coach run. -/
def Run.watch (r : Run) (c : Nat) : TKey := { kind := .seqWatch, a := c, b := if r.coachWide then 16 else r.core }

/-- RUN_START (R309). -/
def execRunStart (n p : Nat) (s : State) : Host.Outcome State Fault Refusal :=
  s.finish (coachOk n p) fun t =>
    let c := 64 * n + p
    if t.awake n then
      match t.nextRun c with
      | some r => (t.startRun c).startTimer (r.1.watch c)
      | none => t
    else t

/-- Issues the next descriptor of a run: of its list, or the one that stands for a run of the module's own. -/
def State.issueRun (s : State) (c : Nat) (x : Running) : State :=
  if x.run.job = .list then s.issueDesc c x else s.issueJob c x

/-- DESCRIPTOR_ISSUE (R300, R310 to R316): running run `i` of the coach issues its next descriptor; `throttled` is the
number of core cycles in which the throttle or a token wait held array issue. -/
def execDescriptorIssue (n p i throttled : Nat) (s : State) : Host.Outcome State Fault Refusal :=
  s.finish (coachOk n p) fun t =>
    let c := 64 * n + p
    match (t.coach c).running[i]? with
    | some x =>
      if t.awake n ∧ t.stacksServe ∧ ¬ t.fenced (dom 2 c) ∧ x.ending.isNone ∧ x.pc < x.run.count then
        ((t.issueRun c x).bump (A.COACH_THROTTLED n p) throttled).startTimer (x.run.watch c)
      else t
    | none => t

/-- RUN_COMPLETE (R314): running run `i` ends with OK after its last descriptor, or as its ending was decided. -/
def execRunComplete (n p i : Nat) (s : State) : Host.Outcome State Fault Refusal :=
  s.finish (coachOk n p) fun t =>
    let c := 64 * n + p
    match (t.coach c).running[i]? with
    | some x =>
      if ¬ (t.awake n ∧ t.stacksServe) then t
      else
        match x.ending with
        | some (st, err) => (t.endRun c x st err).takeEndings
        | none => if x.run.count ≤ x.pc then (t.endRun c x 0 0xFFFFFFFF).takeEndings else t
    | none => t

/-- SEQ_HANG (R317, R436): running run `run.1` of the coach (section and physical coach) has a descriptor ready and has issued
nothing for WATCHDOG_US; the `run.2` slow cycles of power tokens and the throttle do not count. -/
def execSeqHang (coach run : Nat × Nat) (s : State) : Host.Outcome State Fault Refusal :=
  s.finish (coachOk coach.1 coach.2) fun t =>
    let n := coach.1
    let p := coach.2
    let c := 64 * n + p
    match (t.coach c).running[run.1]? with
    | some x =>
      if t.awake n ∧ t.stacksServe ∧ x.ending.isNone ∧ x.pc < x.run.count ∧ ¬ t.fenced (dom 2 c) ∧
          t.due (x.run.watch c) (us (max 1 (t.get (F.COACH_SEQ_CFG_WATCHDOG_US n p))) + run.2) then
        (t.raiseHang .COACH n p K.COACH_SEQ_HANG (dom 2 c)).stopTimer (x.run.watch c)
      else t
    | none => t

/-! ## Planned substitution and return (R305, R307) -/

/-- SUBST_LIMIT_MS of a section in slow cycles. -/
def State.substTime (s : State) (n : Nat) : Nat := ms (max 1 (s.get (F.SECTION_CFG_SUBST_LIMIT_MS n)))

/-- A substitution or return becomes pending. -/
def State.setSubst (s : State) (n l p : Nat) (ret : Bool) : State :=
  ((((s.put (F.SECTION_SUBST_STATE_LOGICAL n) l).put (F.SECTION_SUBST_STATE_PHYS n) p).put
    (F.SECTION_SUBST_STATE_RETURNING n) (b2n ret)).put (F.SECTION_SUBST_STATE_PENDING n) 1).startTimer
      { kind := .substLimit, a := n }

/-- The pending substitution or return is over. -/
def State.endSubst (s : State) (n : Nat) : State :=
  (s.wr (A.SECTION_SUBST_STATE n) 0).stopTimer { kind := .substLimit, a := n }

/-- What a write of SECTION.CMD does (R305, R307). -/
def State.sectionCmd (s : State) (n v : Nat) : State :=
  let l := bits v 0 5
  let p := bits v 16 5
  let up : Bool := s.mach (.sect n) == UP
  let free : Bool := !s.flag (F.SECTION_SUBST_STATE_PENDING n)
  let s1 := if bit v 8 && up && free && !s.spareInUse n then s.setSubst n l 0 false else s
  if bit v 9 then
    let free1 : Bool := !s1.flag (F.SECTION_SUBST_STATE_PENDING n)
    let named := (List.range 32).any fun k => s1.get (F.SECTION_REMAP_PHYS n k) = p
    if up ∧ free1 ∧ s1.get (F.SECTION_REMAP_PHYS n l) = 32 ∧ ¬ named ∧ s1.get (F.COACH_STATE_MACHINE n p) = DOWN ∧
        s1.fstate (dom 2 (64 * n + p)) = 0 then s1.setSubst n l p true
    else s1.raise .SECTION n 0 K.SECTION_REMAP_REFUSED
  else s1

/-- The pending logical coach holds no slot and no run. -/
def State.logicalFree (s : State) (n l : Nat) : Bool :=
  s.rd (A.POOL_ALLOCATED (s.slotPool (logicalNo n l))) == 0 &&
    (s.coach (64 * n + s.get (F.SECTION_REMAP_PHYS n l))).running.isEmpty

/-- Queued runs of a physical coach move with its logical coach. -/
def State.moveQueues (s : State) (a b : Nat) : State :=
  let h := s.coach a
  (s.setCoach b { s.coach b with queues := h.queues }).setCoach a { h with queues := [] }

/-- SUBST_REMAP (R305). -/
def execSubstRemap (n : Nat) (s : State) : Host.Outcome State Fault Refusal :=
  s.finish (decide (n < 16)) fun t =>
    let l := t.get (F.SECTION_SUBST_STATE_LOGICAL n)
    let old := 64 * n + t.get (F.SECTION_REMAP_PHYS n l)
    if t.flag (F.SECTION_SUBST_STATE_PENDING n) ∧ ¬ t.flag (F.SECTION_SUBST_STATE_RETURNING n) ∧ t.logicalFree n l then
      (((t.endSubst n).moveQueues old (64 * n + 32)).remap n l 32).startReset (dom 2 old) .planned 0 0
    else t

/-- RETURN_REMAP (R307). -/
def execReturnRemap (n : Nat) (s : State) : Host.Outcome State Fault Refusal :=
  s.finish (decide (n < 16)) fun t =>
    let l := t.get (F.SECTION_SUBST_STATE_LOGICAL n)
    let p := t.get (F.SECTION_SUBST_STATE_PHYS n)
    if t.flag (F.SECTION_SUBST_STATE_PENDING n) ∧ t.flag (F.SECTION_SUBST_STATE_RETURNING n) ∧ t.logicalFree n l then
      ((t.endSubst n).moveQueues (64 * n + 32) (64 * n + p)).remap n l p
    else t

/-- SUBST_TIMEOUT (R305, R307): a substitution is completed as for a failed coach, a return is abandoned. -/
def execSubstTimeout (n : Nat) (s : State) : Host.Outcome State Fault Refusal :=
  s.finish (decide (n < 16)) fun t =>
    let k : TKey := { kind := .substLimit, a := n }
    if t.flag (F.SECTION_SUBST_STATE_PENDING n) ∧ t.due k (t.substTime n) then
      let l := t.get (F.SECTION_SUBST_STATE_LOGICAL n)
      let old := dom 2 (64 * n + t.get (F.SECTION_REMAP_PHYS n l))
      let t1 := (t.endSubst n).raise .SECTION n 0 K.SECTION_SUBST_TIMEOUT
      if t.flag (F.SECTION_SUBST_STATE_RETURNING n) then t1
      else (t1.substitute n l).startReset old .planned 0 0
    else t

/-! ## Clock gating (R318, R319) -/

/-- SECTION_CLOCK_GATE (R318): the conditions hold, and have held for IDLE_US. -/
def execSectionClockGate (n : Nat) (s : State) : Host.Outcome State Fault Refusal :=
  s.finish (decide (n < 16)) fun t =>
    let acc := t.elapsed { kind := .sectionAccess, a := n } (us 1)
    let idle := t.due { kind := .idle, a := n } (us (max 1 (t.get (F.SECTION_CFG_IDLE_US n))))
    let m := t.mach (.sect n)
    if t.awake n ∧ acc ∧ (m = DOWN ∨ (m = UP ∧ idle ∧ ¬ t.sectionBusy n)) then t.setAwake n false else t

/-- SECTION_WAKE (R319): a packet at a station port, or a run; a register access wakes as it is made. -/
def execSectionWake (n : Nat) (s : State) : Host.Outcome State Fault Refusal :=
  s.finish (decide (n < 16)) fun t =>
    if ¬ t.sectionBusy n ∨ t.fenced (dom 1 n) then t
    else if t.flag F.TOP_STATE_CORE_PLL_LOCK then t.wake n
    else t.startPll

end Sys2Proof.Machine
end

