-- ==== Sys2Proof/Machine/Power.lean ====
section
/-! DEFINITION. The power budget arbiter, the emergencies and trips, the sensors and the core PLL (R462 to R475;
19_power.md). -/

namespace Sys2Proof.Machine

/-! ## Recipients (R463, R465) -/

/-- Priority recipients: the switch core and the stacks. -/
def priorityRec (r : Nat) : Bool := r == 16 || (decide (25 ≤ r) && decide (r < 33))

/-- Shared recipients: the sections. -/
def sharedRec (r : Nat) : Bool := decide (r < 16)

/-- Domain of a recipient. -/
def recDom (r : Nat) : Nat :=
  if r < 16 then dom 1 r else if 17 ≤ r ∧ r < 25 then dom 5 (r - 17) else if 25 ≤ r ∧ r < 33 then dom 7 (r - 25) else dom 0 0

/-- Floor of a recipient now; a power-gated one has none. -/
def State.recFloor (s : State) (r : Nat) : Nat :=
  if s.pow.gated.contains r then 0 else tokenFloor s.asm (s.awake r) r

/-- CAP of a recipient; below its floor it acts as the floor. -/
def State.recCap (s : State) (r : Nat) : Nat := max (s.recFloor r) (s.get (F.POWER_REC_CAP_CAP r))

/-- A recipient's domain, or the machine that it powers, is fenced or in STOP (R431, R465). -/
def State.recFenced (s : State) (r : Nat) : Bool :=
  s.fenced (recDom r) ||
    (if r < 16 then decide (FENCED ≤ s.mach (.sect r))
     else if 25 ≤ r ∧ r < 33 then decide (FENCED ≤ s.mach (.stack (r - 25))) else false)

/-- Demand of a recipient, between its floor and its CAP; one that is fenced or power-gated has no more than its floor. -/
def State.recWant (s : State) (r : Nat) : Nat :=
  if s.pow.gated.contains r ∨ s.recFenced r then s.recFloor r
  else max (s.recFloor r) (min (s.get (F.POWER_REC_STATE_DEMAND r)) (s.recCap r))

/-- FREE. -/
def State.freeTokens (s : State) : Nat := s.get F.POWER_FREE_TOKENS

/-- Stores FREE. -/
def State.setFree (s : State) (v : Nat) : State := s.put F.POWER_FREE_TOKENS v

/-- A priority request is covered or not (R467). -/
def State.setShort (s : State) (r : Nat) (short : Bool) : State :=
  let s1 := s.put (F.POWER_REC_STATE_SHORT r) (b2n short)
  if short then s1.raise .POWER 0 0 K.POWER_BUDGET_SHORT else s1

/-- TOKEN_REQUEST (R466): the meter of recipient `r` predicts a draw of `demand`. The arbiter serves the requests of one slow cycle
at its end. -/
def execTokenRequest (r demand : Nat) (s : State) : Host.Outcome State Fault Refusal :=
  s.finish (decide (r < 34)) fun t =>
    if ¬ (priorityRec r ∨ sharedRec r) ∨ t.get F.POWER_TOTAL_TOKENS = 0 then t
    else
      let t1 := t.put (F.POWER_REC_STATE_DEMAND r) (min demand 4095)
      { t1 with pow := { t1.pow with requests := t1.pow.requests.filter (fun x => x ≠ r) ++ [r] } }

/-- The arbiter serves one request from FREE; a section whose clock is stopped has no use for tokens above its floor (R466,
R467). -/
def State.grant (s : State) (r : Nat) : State :=
  if sharedRec r ∧ ¬ s.awake r then s
  else
    let need := s.recWant r - s.tokens r
    let give := min need s.freeTokens
    let s1 := ((s.setFree (s.freeTokens - give)).setHeld r (s.tokens r + give)).bump A.POWER_GRANTS give
    if priorityRec r then s1.setShort r (decide (give < need)) else s1

/-- The recipients from the rotating pointer, of which a test names some (R466). -/
def State.fromPointer (s : State) (test : Nat → Bool) : List Nat :=
  ((List.range 34).map fun i => (s.clk + i) % 34).filter test

/-- The requests of a slow cycle are served: priority before shared, each kind from the rotating pointer (R466). -/
def State.grantRequests (s : State) : State :=
  let asked := fun r => s.pow.requests.contains r
  let l := s.fromPointer (fun r => priorityRec r && asked r) ++ s.fromPointer (fun r => sharedRec r && asked r)
  { l.foldl State.grant s with pow := { s.pow with requests := [] } }

/-! ## The epoch boundary (R467 to R469) -/

/-- A recipient returns its surplus (R466). -/
def State.returnSurplus (s : State) (r : Nat) : State :=
  if s.recWant r + 4 ≤ s.tokens r then (s.setFree (s.freeTokens + (s.tokens r - s.recWant r))).setHeld r (s.recWant r) else s

/-- TOTAL follows BUDGET: a raise adds to FREE, a lowering takes what FREE holds (R468). -/
def State.moveTotal (s : State) : State :=
  let total := s.get F.POWER_TOTAL_TOKENS
  if total ≤ s.budget then (s.put F.POWER_TOTAL_TOKENS s.budget).setFree (s.freeTokens + (s.budget - total))
  else
    let n := min s.freeTokens (total - s.budget)
    (s.put F.POWER_TOTAL_TOKENS (total - n)).setFree (s.freeTokens - n)

/-- Gives each recipient of a list what it asks, in order, as long as the remainder lasts: (recipient, given). -/
def handOut (ask : Nat → Nat) : List Nat → Nat → List (Nat × Nat) × Nat
  | [], n => ([], n)
  | r :: l, n =>
    let g := min (ask r) n
    let q := handOut ask l (n - g)
    ((r, g) :: q.1, q.2)

/-- What a list of grants gives a recipient. -/
def given (l : List (Nat × Nat)) (r : Nat) : Nat := ((l.filter fun e => e.1 = r).map (·.2)).sum

/-- Holdings of the priority recipients: floors, then what they hold within their CAP, then what they ask, out of `n` (R465,
R467, R468). -/
def State.priorityShares (s : State) (n : Nat) : Nat → Nat :=
  let l := s.fromPointer priorityRec
  let floors := (l.map s.recFloor).sum
  let a := handOut (fun r => min (s.tokens r) (s.recCap r) - s.recFloor r) l (n - floors)
  let b := handOut (fun r => s.recWant r - (s.recFloor r + given a.1 r)) l a.2
  fun r => s.recFloor r + given a.1 r + given b.1 r

/-- Sum of min(demand, L). -/
def levelSum (want : List Nat) (level : Nat) : Nat := (want.map fun d => min d level).sum

/-- The largest level below `n` whose sum fits. -/
def largestLevel (want : List Nat) (room : Nat) : Nat → Nat
  | 0 => 0
  | n + 1 => if levelSum want (n + 1) ≤ room then n + 1 else largestLevel want room n

/-- Shares of the awake sections out of `n` tokens (R467). -/
def State.sectionShares (s : State) (n : Nat) : Nat → Nat :=
  let l := s.fromPointer fun r => sharedRec r && s.awake r && !s.pow.gated.contains r
  let want := l.map s.recWant
  if want.sum ≤ n then s.recWant
  else
    let level := largestLevel want n 4095
    let extra := handOut (fun _ => 1) (l.filter fun r => level < s.recWant r) (n - levelSum want level)
    fun r => min (s.recWant r) level + given extra.1 r

/-- A recipient's holding becomes `v`, with the counters. -/
def State.moveHeld (s : State) (r v : Nat) : State :=
  let h := s.tokens r
  ((s.setHeld r v).bump A.POWER_GRANTS (v - h)).bump A.POWER_REVOCATIONS (h - v)

/-- The epoch boundary: returns, budget change, revocations, section shares, grants (R469). -/
def State.epoch (s : State) : State :=
  let all := List.range 34
  let s1 := ((all.filter fun r => priorityRec r || sharedRec r).foldl State.returnSurplus s).moveTotal
  let b := s1.budget
  let fixed := ((all.filter fun r => !(priorityRec r || sharedRec r)).map s1.recFloor).sum
  let asleep := ((all.filter fun r => sharedRec r && !s1.awake r).map s1.recFloor).sum
  let floors := ((all.filter fun r => sharedRec r && s1.awake r).map s1.recFloor).sum
  let prio := s1.priorityShares (b - fixed - asleep - floors)
  let prios := ((all.filter priorityRec).map prio).sum
  let share := s1.sectionShares (b - fixed - asleep - prios)
  let next (r : Nat) : Nat :=
    if priorityRec r then prio r
    else if sharedRec r && s1.awake r && !s1.pow.gated.contains r then share r
    else s1.recFloor r
  let takes : Bool := decide ((((all.filter priorityRec).map s1.tokens).sum + s1.freeTokens) < prios)
  let s2 := all.foldl (fun t r => t.moveHeld r (next r)) s1
  let held := (all.map next).sum
  let s3 := (s2.put F.POWER_TOTAL_TOKENS (max b held)).setFree (b - held)
  let s4 := (all.filter priorityRec).foldl (fun t r =>
    if next r < s1.recWant r then t.setShort r true else t.put (F.POWER_REC_STATE_SHORT r) 0) s3
  let s5 := if takes then s4.bump A.POWER_REALLOCATIONS 1 else s4
  s5.put F.POWER_STATE_REALLOC (b2n (takes || decide (b < held)))

/-- EPOCH_BOUNDARY (R463, R467 to R469): TOP.UPTIME is a multiple of 1,000. -/
def execEpochBoundary (s : State) : Host.Outcome State Fault Refusal :=
  s.finish true fun t =>
    let u := t.rd64 A.TOP_UPTIME
    if u % 1000 = 0 ∧ t.pow.epochAt ≠ some u ∧ t.get F.POWER_TOTAL_TOKENS ≠ 0 then
      ({ t with pow := { t.pow with epochAt := some u } } : State).epoch
    else t

/-- A write of REC_CAP: tokens that the recipient holds above its CAP return to FREE, as it never holds more (R465; DEDUCED, log
122). -/
def State.capWritten (s : State) (r : Nat) : State :=
  let give := s.tokens r - s.recCap r
  (s.setHeld r (s.tokens r - give)).setFree (s.freeTokens + give)

/-- What a write of BUDGET does; `old` is the budget that acted before it (R468). -/
def State.budgetWritten (s : State) (old : Nat) : State :=
  if s.budget = old then s else (s.put F.POWER_STATE_REALLOC (b2n (decide (s.get F.POWER_TOTAL_TOKENS ≠ s.budget)))).bump A.POWER_REALLOCATIONS 1

/-- REALLOC falls once TOTAL is BUDGET (R468). -/
def State.endRealloc (s : State) : State :=
  if s.flag F.POWER_STATE_REALLOC ∧ s.get F.POWER_TOTAL_TOKENS = s.budget then s.put F.POWER_STATE_REALLOC 0 else s

/-! ## The input (R462) -/

/-- A power in 0.1 µW of a VIN in 10 mV and an IIN in 10 mA, off by `dev` - 10 thousandths. -/
def inputPower (vin iin dev : Nat) : Nat := vin * iin * (990 + dev)

/-- Slow cycles of 1 ms. -/
abbrev PIN_WINDOW : Nat := 100000

/-- Input energy of the last 1 ms in 0.1 µW × slow cycles, from the powers drawn, newest first, each up to slow cycle `hi`. -/
def drawnSum (lo : Nat) : Nat → List (Nat × Nat) → Nat
  | _, [] => 0
  | hi, (t, p) :: l => p * (hi - max lo t) + (if t ≤ lo then 0 else drawnSum lo t l)

/-- The powers that reach into the last 1 ms. -/
def drawnKeep (lo : Nat) : List (Nat × Nat) → List (Nat × Nat)
  | [] => []
  | e :: l => e :: (if e.1 ≤ lo then [] else drawnKeep lo l)

/-- PIN, the mean of the last 1 ms in watts. -/
def State.pinMean (s : State) : Nat := drawnSum (s.clk - PIN_WINDOW) s.clk s.pow.drawn / (PIN_WINDOW * 10000000)

/-- One slow cycle of the input: VIN and IIN are sampled, PIN follows, and ENERGY_MJ counts (R462). -/
def State.sampleInput (s : State) : State :=
  match s.pow.input with
  | none => s
  | some p =>
    let e := s.pow.energy + p.drawn
    let s1 := ((s.put F.POWER_VIN_V p.vin).put F.POWER_IIN_I p.iin).put F.POWER_PIN_P s.pinMean
    let s2 := s1.bump A.POWER_ENERGY_MJ (e / 1000000000000)
    { s2 with pow := { s2.pow with energy := e % 1000000000000, drawn := drawnKeep (s.clk - PIN_WINDOW) s.pow.drawn } }

/-! ## Emergencies and trips (R470 to R472) -/

/-- A 12-bit temperature in 1/16 °C is above a limit in °C. -/
def hotter (v lim : Nat) : Bool := decide ((16 * lim : Int) < signed (v % 4096) 12)

/-- A timer runs while a condition holds. -/
def State.watch (s : State) (k : TKey) (holds : Bool) : State :=
  if holds then (if (s.timer k).isSome then s else s.startTimer k) else s.stopTimer k

/-- A test of the input's levels; none holds before the first reading. -/
def State.inputIs (s : State) (test : PowerInput → Bool) : Bool :=
  match s.pow.input with
  | some p => test p
  | none => false

/-- OC_A as it acts [A]. -/
def State.ocAmps (s : State) : Nat := max 20 (min 70 (s.get F.POWER_OC_CFG_OC_A))

/-- Any junction-die or lane-die sensor is above a limit. -/
def State.anyHotter (s : State) (lim : Nat) : Bool := s.pow.temps.any fun e => hotter e.2 lim

/-- Sensors of the junction die and the lane dies, the latter after the former. -/
abbrev TEMP_SENSORS : Nat := 29

/-- The comparators follow the levels (R470, R472). -/
def State.comparators (s : State) : State :=
  let s1 := s.watch { kind := .uvLow, a := 0 } (s.inputIs fun p => p.vin < 3800)
  let s2 := s1.watch { kind := .uvOk, a := 0 } (s.inputIs fun p => 3850 ≤ p.vin)
  let s3 := s2.watch { kind := .ocHigh, a := 0 } (s.inputIs fun p => 100 * s.ocAmps < p.iin)
  let s4 := s3.watch { kind := .ocOk, a := 0 } (s.inputIs fun p => p.iin ≤ 90 * s.ocAmps)
  let s5 := s4.watch { kind := .thermCool, a := 0 } (!s.pow.temps.isEmpty && !s.anyHotter 100)
  (List.range TEMP_SENSORS).foldl (fun t i =>
    t.watch { kind := .thermTrip, a := i } (s.pow.temps.any fun e => e.1 = i && hotter e.2 115)) s5

/-- The onset of an emergency is detected (R470). -/
def State.onsetDue (s : State) (k : Nat) : Bool :=
  match k with
  | 0 => s.due { kind := .uvLow, a := 0 } 10
  | 1 => s.due { kind := .ocHigh, a := 0 } 10
  | _ => s.anyHotter 105

/-- The clearing of an emergency is detected (R470). -/
def State.clearDue (s : State) (k : Nat) : Bool :=
  match k with
  | 0 => s.due { kind := .uvOk, a := 0 } (us 100)
  | 1 => s.due { kind := .ocOk, a := 0 } (us 100)
  | _ => s.due { kind := .thermCool, a := 0 } (ms 1)

/-- EMERGENCY_ONSET (R470, R471). -/
def execEmergencyOnset (k : Nat) (s : State) : Host.Outcome State Fault Refusal :=
  s.finish (decide (k < 3)) fun t =>
    if ¬ t.pow.hotSwap ∨ t.flag (emergFld k) ∨ ¬ t.onsetDue k then t
    else
      let t1 := (((t.put (emergFld k) 1).put F.POWER_STATE_EMERGENCY 1).put F.POWER_STATE_THROTTLE 1).put F.TOP_STATE_EMERGENCY 1
      let t2 := ((t1.bump A.POWER_EMERGENCIES 1).stopTimer { kind := .emergClear, a := 0 }).raise .POWER 0 0 k
      if k = 1 then t2.startTimer { kind := .ocLasting, a := 0 } else t2

/-- EMERGENCY_CLEAR (R470, R471). -/
def execEmergencyClear (k : Nat) (s : State) : Host.Outcome State Fault Refusal :=
  s.finish (decide (k < 3)) fun t =>
    if ¬ t.flag (emergFld k) ∨ ¬ t.clearDue k then t
    else
      let t1 := t.put (emergFld k) 0
      let t2 := if k = 1 then t1.stopTimer { kind := .ocLasting, a := 0 } else t1
      if (List.range 3).any fun j => t2.flag (emergFld j) then t2
      else
        (((t2.put F.POWER_STATE_EMERGENCY 0).put F.POWER_STATE_THROTTLE 0).put F.TOP_STATE_EMERGENCY 0).startTimer
          { kind := .emergClear, a := 0 }

/-- EMERG_CLEAR_MS: 0 during an emergency, else the time since the last ended (R471; 18_consort.md). -/
def State.emergClearMs (s : State) : Nat :=
  if s.flag F.POWER_STATE_EMERGENCY then 0
  else
    let t := (s.timer { kind := .emergClear, a := 0 }).getD 0
    min 0xFFFF ((s.clk - t) / ms 1)

/-- The condition of a trip holds: an OC emergency for 1 ms, or one sensor above 115 °C for 1 µs (R472). -/
def State.tripDue (s : State) (oc : Bool) : Bool :=
  if oc then s.flag F.POWER_STATE_OC && s.due { kind := .ocLasting, a := 0 } (ms 1)
  else (List.range TEMP_SENSORS).any fun i => s.due { kind := .thermTrip, a := i } (us 1)

/-- TRIP (R472): `oc` after an OC emergency of 1 ms, else by a sensor above 115 °C for 1 µs. Every rail but the always-on
rail goes off; the module resets when MOD_EN falls. -/
def execTrip (oc : Bool) (s : State) : Host.Outcome State Fault Refusal :=
  s.finish true fun t =>
    if t.pow.mainRails ∧ t.tripDue oc then
      let last := t.rd A.RESET_LAST_MODULE_RESET
      let t1 := (t.clearModule.railsOff).wr A.RESET_LAST_MODULE_RESET last
      ({ t1 with pow := { t1.pow with tripped := true } } : State).wr A.POWER_TRIP_LOG (if oc then 2 else 1)
    else t

/-! ## Sensors (R462, R475) -/

/-- The hottest of a list of readings, the lowest index among equals: (reading, index). -/
def hottest : List Nat → Nat → Option (Nat × Nat)
  | [], _ => none
  | v :: l, i =>
    match hottest l (i + 1) with
    | some (w, j) => if signed (v % 4096) 12 < signed (w % 4096) 12 then some (w, j) else some (v, i)
    | none => some (v, i)

/-- Stores a reading, and raises a cause where it goes above its limit (log 63). -/
def State.reading (s : State) (f : Fld) (v lim : Nat) (raise : State → State) : State :=
  let was := hotter (s.get f) lim
  let s1 := s.put f v
  if hotter v lim && !was then raise s1 else s1

/-- The temperature sensors are read: the 21 of the junction die, the lane dies, the stacks and the coolant inlet (R475). -/
def State.readTemps (s : State) (junction dies hbms : List Nat) (coolant : Nat) : State :=
  let slots := (List.range 8).filter fun d => slotType s.asm d ≠ 0
  let s1 := match hottest junction 0 with
    | some (v, i) => (s.put F.POWER_TEMP_MAX_TEMP v).put F.POWER_TEMP_MAX_SENSOR i
    | none => s
  let s2 := slots.foldl (fun u d =>
    u.reading (F.DIE_DIE_TEMP_TEMP d) (dies.getD d 0) 105 fun x => x.raise .DIE d 0 K.DIE_OVERTEMP) s1
  let s3 := (List.range (stackCount s.asm)).foldl (fun u n =>
    u.reading (F.HBM_INFO_TEMP n) (hbms.getD n 0) 95 fun x => x.raise .POWER 0 0 K.POWER_STACK_HOT) s2
  let s4 := s3.reading F.POWER_COOLANT_TEMP coolant 40 fun x => x.raise .POWER 0 0 K.POWER_COOLANT_WARM
  let temps := (List.range 21).map (fun i => (i, junction.getD i 0)) ++ slots.map fun d => (21 + d, dies.getD d 0)
  ({ s4 with pow := { s4.pow with temps := temps } } : State).startTimer { kind := .sensor, a := 0 }

/-- SENSOR_READ (R462, R475): the input stands at `vin` and `iin` as the module measures them, with the thousandths (less 10) by which
its measures of power and energy are off; the temperatures are read where 10 µs have passed since the last reading. -/
def execSensorRead (junction dies hbms : List Nat) (coolant vin iin powerDev energyDev : Nat) (s : State) :
    Host.Outcome State Fault Refusal :=
  s.finish (junction.length == 21 && dies.length == 8 && hbms.length == 8 && decide (powerDev ≤ 20) && decide (energyDev ≤ 20))
    fun t =>
      if ¬ t.pow.hotSwap then t
      else
        let p : PowerInput := ⟨vin, iin, inputPower vin iin powerDev, inputPower vin iin energyDev⟩
        let t1 : State := { t with pow := { t.pow with input := some p, drawn := (t.clk, p.power) :: t.pow.drawn } }
        let k : TKey := { kind := .sensor, a := 0 }
        (if (t1.timer k).isNone ∨ t1.due k (us 10) then t1.readTemps junction dies hbms coolant else t1).comparators

/-! ## The core PLL (R44, R474) -/

/-- A lane is up. -/
def State.laneUp (s : State) (l : Nat) : Bool :=
  match Tab.find s.regs (A.LANE l + 0xC) with
  | some w => w.toNat % 8 == UP
  | none => false

/-- Something holds the core PLL running (R474): a lane up, PLL_KEEP, a processor other than Piccolo out of reset. -/
def State.pllHeld (s : State) : Bool :=
  s.flag F.TOP_CTL_PLL_KEEP || (s.cons.running.any fun p => p != 0) ||
    (List.range 1024).any s.laneUp

/-- CORE_PLL_LOCKED (R44, R474): a PLL that was started, or that something holds, locks. -/
def execCorePllLocked (s : State) : Host.Outcome State Fault Refusal :=
  s.finish true fun t =>
    if t.pow.mainRails ∧ ¬ t.flag F.TOP_STATE_CORE_PLL_LOCK ∧ (t.pllHeld ∨ (t.timer { kind := .pll, a := 0 }).isSome) then
      (t.put F.TOP_STATE_CORE_PLL_LOCK 1).startTimer { kind := .pll, a := 0 }
    else t

/-- CORE_PLL_STOP (R474): nothing has held the PLL for 1 ms. Every section's clock stops with it. -/
def execCorePllStop (s : State) : Host.Outcome State Fault Refusal :=
  s.finish true fun t =>
    if t.flag F.TOP_STATE_CORE_PLL_LOCK ∧ ¬ t.pllHeld ∧ t.due { kind := .pll, a := 0 } (ms 1) then
      (List.range 16).foldl (fun u n => u.setAwake n false)
        ((t.put F.TOP_STATE_CORE_PLL_LOCK 0).stopTimer { kind := .pll, a := 0 })
    else t

end Sys2Proof.Machine
end

