-- ==== Sys2Proof/Machine/Siding.lean ====
section
/-! DEFINITION. The siding link below its frames, its eye scan, manifest staging, attestation, and boot (R477 to R502;
20_siding_boot.md). -/

namespace Sys2Proof.Machine

/-! ## The link (R477 to R483) -/

/-- LINK_UP. -/
def State.sidUp (s : State) : Bool := s.flag F.SIDING_STATE_LINK_UP

/-- The always-on rail is good: the siding link works. -/
def State.sidPowered (s : State) : Bool := s.pow.hotSwap

/-- Timer of a siding lane that may re-align by itself (R482). -/
def realignKey (n : Nat) : TKey := { kind := .realign, a := n }

/-! ## Symbols (R477, R478) -/

/-- Whether a symbol is a K code, and its number x + 32 y of Dx.y or Kx.y. -/
def Sym.code : Sym → Bool × Nat
  | .data b => (false, b.toNat)
  | .com => (true, 28 + 32 * 5)
  | .skp => (true, 28 + 32 * 0)
  | .tsy => (true, 28 + 32 * 2)
  | .ack => (true, 28 + 32 * 3)
  | .sfd => (true, 27 + 32 * 7)
  | .efd => (true, 29 + 32 * 7)
  | .pad => (true, 23 + 32 * 7)

/-- Symbol of a frame on a lane at a symbol time: SFD, the bytes, EFD and PAD in the lanes that remain. -/
def frameSyms (f : List Byte) (time lane : Nat) : Sym :=
  let k := 8 * time + lane
  if k = 0 then .sfd
  else if k = f.length + 1 then .efd
  else match f[k - 1]? with
    | some b => .data b
    | none => .pad

/-- The ordered set TS on a lane. -/
def tsSyms (d1 lane : Nat) : List Sym :=
  [.com, .tsy, .data (BitVec.ofNat 8 lane), .data (BitVec.ofNat 8 d1)] ++ List.replicate 12 (.data 0x4A)

/-- The ordered set SKIP. -/
def skipSyms : List Sym := [.com, .skp, .skp, .skp]

/-- The ordered set ACK. -/
def ackSyms (seq : Nat) (nak : Bool) (rxFree : Nat) : List Sym :=
  [.com, .ack, .data (BitVec.ofNat 8 seq), .data (BitVec.ofNat 8 (bits seq 8 4 + 16 * b2n nak)), .data (BitVec.ofNat 8 rxFree)]

/-- An ordered set that is equal on all eight lanes. -/
def orderedSet (l : List Sym) : SidTx := ⟨l.map (List.replicate 8), true⟩

/-- A frame's symbol times. -/
def frameTx (f : List Byte) : SidTx := ⟨(List.range ((f.length + 9) / 8)).map fun t => (List.range 8).map (frameSyms f t), false⟩

/-- D1 of the TS that a lane sends: its own receiver aligned, and all aligned and deskewed. -/
def State.tsD1 (s : State) (n : Nat) : Nat :=
  b2n (s.flag (F.SIDING_LANE_CTL_ALIGNED n)) + 2 * b2n (s.flag F.SIDING_STATE_ALL_ALIGNED)

/-- The ordered set TS as it is sent now. -/
def State.tsTx (s : State) : SidTx :=
  ⟨(List.range 16).map fun t => (List.range 8).map fun n => (tsSyms (s.tsD1 n) n).getD t .pad, true⟩

/-- Hands a frame or an ordered set to the transmitter. -/
def State.queueTx (s : State) (x : SidTx) : State := { s with sid := { s.sid with tx := s.sid.tx ++ [x] } }

/-- Hands SKIP to the transmitter: it goes next, inside a frame too, but not inside an ordered set (R483). -/
def State.queueSkip (s : State) : State :=
  match s.sid.tx with
  | [] => s.queueTx (orderedSet skipSyms)
  | x :: l =>
    { s with sid := { s.sid with
        tx := if x.ordered then x :: orderedSet skipSyms :: l else orderedSet skipSyms :: x :: l } }

/-- `n` symbol times of the transmitter, from what it has to send; with nothing to send it sends `fill`, PAD in UP and TS otherwise
(R478, R479): the symbol times, and what is left. -/
def sendTimes (fill : SidTx) : Nat → List SidTx → List (List Sym) × List SidTx
  | 0, q => ([], q)
  | n + 1, q =>
    let x := q.headD fill
    let l := q.tail
    let r := match x.rows with
      | [] => sendTimes fill n l
      | [_] => sendTimes fill n l
      | _ :: rest => sendTimes fill n (⟨rest, x.ordered⟩ :: l)
    ((x.rows.headD (List.replicate 8 .pad)) :: r.1, r.2)

/-- The code words of a lane from its running disparity, and the running disparity after them (R477). -/
def codeLane : Bool → List Sym → List Nat × Bool
  | rd, [] => ([], rd)
  | rd, x :: l =>
    let c := code10 (Sym.code x).1 (Sym.code x).2 rd
    let r := codeLane c.2 l
    (c.1 :: r.1, r.2)

/-- One slow cycle of the siding transmitter, 12 or 13 symbol times of 0.8 ns. -/
def State.sidCycle (s : State) : State :=
  let fill : SidTx := if s.sidUp then ⟨[List.replicate 8 .pad], false⟩ else s.tsTx
  let r := sendTimes fill (if s.sid.longCycle then 13 else 12) s.sid.tx
  let lanes := (List.range 8).map fun n => codeLane (s.sid.disparity.getD n false) (r.1.map fun row => row.getD n .pad)
  ({ s with sid := { s.sid with tx := r.2, disparity := lanes.map (·.2), longCycle := !s.sid.longCycle } } : State).emit
    (.siding (lanes.map (·.1)))

/-! ## Bring-up and loss (R479 to R483) -/

/-- A lane is aligned: ALIGNED stands, and the lane does not wait to re-align after the link left UP (R480, R482). -/
def State.laneAligned (s : State) (n : Nat) : Bool :=
  s.flag (F.SIDING_LANE_CTL_ALIGNED n) && (s.timer (realignKey n)).isNone

/-- Every lane of the receiver is aligned. -/
def State.lanesAligned (s : State) : Bool := (List.range 8).all s.laneAligned

/-- The receiver deskews the lanes; `skewed` is a mask of those beyond the limit (R481). -/
def State.deskew (s : State) (skewed : Nat) : State :=
  let t := (List.range 8).foldl (fun u n =>
    ((u.put (F.SIDING_LANE_STATE_SKEW_ERR n) (b2n (bit skewed n))).put (F.SIDING_LANE_STATE_DESKEWED n)
      (b2n (!bit skewed n))).put (F.SIDING_LANE_STATE_SIGNAL n) 1) s
  if skewed = 0 then ({ t with sid := { t.sid with partnerTs := 0 } } : State).put F.SIDING_STATE_ALL_ALIGNED 1 else t

/-- Consecutive TS with ALL_ALIGNED on every lane, at most 8, after more TS, each given by the D1 of its lanes. -/
def countTs (k : Nat) (l : List (List Nat)) : Nat :=
  l.foldl (fun k d => if 8 ≤ k then k else if (List.range 8).all fun n => bit (d.getD n 0) 1 then k + 1 else 0) k

/-- TS of the partner are received: each lane shows RX_ALIGNED of the last, and those with ALL_ALIGNED are counted once the end is
ALL_ALIGNED itself (R481). -/
def State.takeTs (s : State) (l : List (List Nat)) : State :=
  let t := match l.getLast? with
    | some d => ((List.range 8).filter s.laneAligned).foldl (fun (u : State) n =>
        u.put (F.SIDING_LANE_STATE_PARTNER_ALIGNED n) (b2n (bit (d.getD n 0) 0))) s
    | none => s
  if t.flag F.SIDING_STATE_ALL_ALIGNED then { t with sid := { t.sid with partnerTs := countTs t.sid.partnerTs l } } else t

/-- The link goes UP: SEQ starts at 0, and one NOTIFY is owed (R481, R485, R490). The TS in progress is finished. -/
def State.sidLinkUp (s : State) : State :=
  let t := s.put F.SIDING_STATE_LINK_UP 1
  { t with sid := { t.sid with txSeq := 0, rxSeq := 0, unacked := [], backlog := [], rxFree := 32, sentSince := 0,
                               ackDue := false, notifyDue := true, codeErrs := [] } }

/-- SIDING_LINK_UP (R481): the receiver, with every lane aligned, deskews and is ALL_ALIGNED; once it is, and has received eight
consecutive TS with ALL_ALIGNED on every lane, the link goes UP. The operand is the mask of lanes beyond the deskew limit, and
the TS received, each by the D1 of its eight lanes. -/
def execSidingLinkUp (inp : Nat × List (List Nat)) (s : State) : Host.Outcome State Fault Refusal :=
  s.finish (decide (inp.1 < 256) && inp.2.all fun d => d.length == 8) fun t =>
    if ¬ t.sidPowered ∨ t.sidUp then t
    else
      let t1 := t.takeTs inp.2
      if ¬ t1.lanesAligned then t1
      else if ¬ t1.flag F.SIDING_STATE_ALL_ALIGNED then t1.deskew inp.1
      else if 8 ≤ t1.sid.partnerTs then t1.sidLinkUp
      else t1

/-- The link leaves UP: unacknowledged frames are abandoned, TS are sent again, and each lane has 2 µs to re-align (R482, R486). -/
def State.sidLinkDown (s : State) (causes : Nat) : State :=
  let t1 := (List.range 8).foldl (fun u n =>
    ((u.put (F.SIDING_LANE_STATE_DESKEWED n) 0).put (F.SIDING_LANE_STATE_PARTNER_ALIGNED n) 0).startTimer (realignKey n)) s
  let t2 := ((t1.put F.SIDING_STATE_ALL_ALIGNED 0).put F.SIDING_STATE_LINK_UP 0).bump A.SIDING_LINK_DOWNS 1
  let t3 : State := { t2 with sid := { t2.sid with unacked := [], backlog := [], ackDue := false, tx := [], partnerTs := 0,
                                                   codeErrs := [] } }
  t3.raiseAs .SIDING 0 0 (2 ^ K.SIDING_LINK_DOWN + causes) (t3.evDomain .SIDING 0 0) []

/-- Code errors of a lane within the last 1 µs. -/
def State.lateErrs (s : State) (n : Nat) : Nat :=
  ((s.sid.codeErrs.filter fun e => e.2.1 = n && decide (s.clk < e.1 + us 1)).map (·.2.2)).sum

/-- SIDING_LINK_DOWN (R482, R483, R486): 0 loss of signal on the lanes of a mask, 1 the code error on the lanes of a mask that is the
17th within 1 µs, 2 loss of deskew, 3 the elastic buffer. -/
def execSidingLinkDown (reason lanes : Nat) (s : State) : Host.Outcome State Fault Refusal :=
  s.finish (decide (reason < 4) && decide (lanes < 256)) fun t =>
    if ¬ t.sidUp ∨ (reason < 2 ∧ lanes = 0) then t
    else
      let t1 := (bitList lanes 8).foldl (fun u n =>
        if reason = 0 then u.put (F.SIDING_LANE_STATE_SIGNAL n) 0
        else if reason = 1 then u.bump32 (A.SIDING_CODE_ERRS n) (17 - t.lateErrs n) else u) t
      t1.sidLinkDown (if reason = 3 then 2 ^ K.SIDING_ELASTIC_ERR else 0)

/-- SIDING_LANE_REALIGN (R479 to R482): over 2 µs lane `n` saw commas at its boundary, `seen.1` of them, and `errs` code errors. While
the link is UP, more than 16 code errors of a lane within 1 µs end it. After it left UP, a lane whose held SLIP still aligns keeps
ALIGNED, and another loses it; with every lane aligned the receiver deskews, where `seen.2` is the mask of lanes beyond the
limit. -/
def execSidingLaneRealign (n : Nat) (seen : Nat × Nat) (errs : Nat) (s : State) : Host.Outcome State Fault Refusal :=
  s.finish (decide (n < 8) && decide (seen.2 < 256)) fun t =>
    if ¬ t.sidPowered then t
    else
      let t1 := (t.bump32 (A.SIDING_COMMA_HITS n) seen.1).bump32 (A.SIDING_CODE_ERRS n) errs
      if t1.sidUp then
        let recent := t1.sid.codeErrs.filter fun e => decide (t1.clk < e.1 + us 1)
        let t2 : State := { t1 with sid := { t1.sid with codeErrs := recent ++ [(t1.clk, n, errs)] } }
        if 16 < t2.lateErrs n then t2.sidLinkDown 0 else t2
      else if ¬ t1.due (realignKey n) (us 2) then t1
      else
        let t2 := t1.stopTimer (realignKey n)
        if 0 < seen.1 ∧ errs = 0 then
          let t3 := t2.put (F.SIDING_LANE_STATE_SIGNAL n) 1
          if t3.lanesAligned then t3.deskew seen.2 else t3
        else t2.put (F.SIDING_LANE_CTL_ALIGNED n) 0

/-- A write of a lane's LANE_CTL: software has set its SLIP and ALIGNED; without ALIGNED not every lane is aligned (R480, R482). -/
def State.laneCtlWritten (s : State) (n : Nat) : State :=
  let t := s.stopTimer (realignKey n)
  if t.flag (F.SIDING_LANE_CTL_ALIGNED n) then t
  else
    let t1 := (t.put F.SIDING_STATE_ALL_ALIGNED 0).put (F.SIDING_LANE_STATE_DESKEWED n) 0
    { t1 with sid := { t1.sid with partnerTs := 0 } }

/-- SIDING_SKIP_TX (R483): once every 1,024 symbol times of 0.8 ns. -/
def execSidingSkipTx (s : State) : Host.Outcome State Fault Refusal :=
  s.finish true fun t =>
    let k : TKey := { kind := .sidingSkip, a := 0 }
    if t.sidPowered ∧ t.elapsed k 82 then ((t.startTimer k).queueSkip).emit .skip else t

/-! ## Frames sent (R484, R485) -/

/-- A frame without its SEQ and CRC: TYPE, FLAGS or STATUS, COUNT, TAG, ADDR, payload. -/
def frameOf (type status count tag addr : Nat) (payload : List Byte) : List Byte :=
  toBytes 1 type ++ toBytes 1 status ++ toBytes 2 0 ++ toBytes 2 count ++ toBytes 2 tag ++ toBytes 4 addr ++ payload

/-- A frame as it is sent: SEQ placed and CRC added. -/
def sealFrame (seq : Nat) (f : List Byte) : List Byte :=
  let b := slice f 0 2 ++ toBytes 2 seq ++ f.drop 4
  b ++ toBytes 4 (crc32 b)

/-- Sends waiting frames as the 64-frame limit and the partner's RX_FREE allow. -/
def State.sendFrames (s : State) : List (List Byte) → State
  | [] => { s with sid := { s.sid with backlog := [] } }
  | f :: l =>
    if s.sid.unacked.length < 64 ∧ s.sid.sentSince < s.sid.rxFree then
      let g := sealFrame s.sid.txSeq f
      let d := s.sid
      let s1 : State := { s with sid := { d with txSeq := (d.txSeq + 1) % 4096, unacked := d.unacked ++ [(d.txSeq, g)],
                                                 sentSince := d.sentSince + 1 } }
      State.sendFrames (((s1.queueTx (frameTx g)).emit (.frame g)).bump A.SIDING_FRAMES_TX 1) l
    else { s with sid := { s.sid with backlog := f :: l } }

/-- Hands a frame to the link; it is abandoned while the link is not UP (R486). -/
def State.sendFrame (s : State) (f : List Byte) : State := if s.sidUp then s.sendFrames (s.sid.backlog ++ [f]) else s

/-- Sends the ordered set ACK with the last good SEQ; the module's receive buffer is free, all 32 frames. -/
def State.sendAck (s : State) (nak : Bool) : State :=
  let last := (s.sid.rxSeq + 4095) % 4096
  (({ s with sid := { s.sid with ackDue := false } } : State).queueTx (orderedSet (ackSyms last nak 32))).emit (.ack last nak 32)

/-- ACK (R485): frames up to SEQ are released; NAK asks for those after it again. -/
def execAck (seq : Nat) (nak : Bool) (rxFree : Nat) (s : State) : Host.Outcome State Fault Refusal :=
  s.finish (decide (seq < 4096) && decide (rxFree < 256)) fun t =>
    if ¬ t.sidUp then t
    else
      let first := match t.sid.unacked with | (q, _) :: _ => q | [] => t.sid.txSeq
      let n := (seq + 1 + 4096 - first) % 4096
      let rest := if n ≤ t.sid.unacked.length then t.sid.unacked.drop n else t.sid.unacked
      let t1 : State := { t with sid := { t.sid with unacked := rest, rxFree := rxFree, sentSince := 0 } }
      let t2 :=
        if nak then
          let u : State := { t1 with sid := { t1.sid with sentSince := rest.length } }
          ((rest.foldl (fun v f => (v.queueTx (frameTx f.2)).emit (.frame f.2)) u).bump A.SIDING_REPLAYS rest.length).raise .SIDING 0 0 K.SIDING_NAK_RX
        else t1
      t2.sendFrames t2.sid.backlog

/-- SIDING_ACK_TIMER (R485): at least every 256 symbol times while frames stand unacknowledged. -/
def execSidingAckTimer (s : State) : Host.Outcome State Fault Refusal :=
  s.finish true fun t =>
    let k : TKey := { kind := .sidingAck, a := 0 }
    if t.sidUp ∧ t.sid.ackDue ∧ t.elapsed k 20 then (t.sendAck false).startTimer k else t

/-- A frame may leave now: the 64-frame limit and the partner's RX_FREE allow it, and no other frame waits (R485). -/
def State.maySend (s : State) : Bool :=
  s.sidUp && s.sid.backlog.isEmpty && decide (s.sid.unacked.length < 64) && decide (s.sid.sentSince < s.sid.rxFree)

/-- NOTIFY (R490): a change counts although the value has come back since. It is made up as it is sent, so that it does not wait
behind other frames. -/
def execNotify (s : State) : Host.Outcome State Fault Refusal :=
  s.finish true fun t =>
    let k : TKey := { kind := .notify, a := 0 }
    let w := t.notifyWords t.pins
    if t.maySend ∧ t.flag F.SIDING_CFG_NOTIFY_EN ∧ (t.sid.notifyDue ∨ t.pins.moved ∨ w ≠ t.sid.notified) ∧
        t.elapsed k (us (max 1 (t.get F.SIDING_CFG_NOTIFY_US))) then
      let t1 : State := { t with sid := { t.sid with notified := w, notifyDue := false }, pins := { t.pins with moved := false } }
      ((t1.startTimer k).bump A.SIDING_NOTIFIES 1).sendFrame (frameOf 0x20 0 16 0 0 (w.flatMap (toBytes 4)))
    else t

/-! ## Offset samplers (R491) -/

/-- Timer of a siding lane's running point. -/
def sidEyeKey (n : Nat) : TKey := { kind := .realign, a := n, b := 1 }

/-- What a write of a siding lane's EYE_CMD does. -/
def State.sidEyeCmd (s : State) (n v : Nat) : State :=
  let busy := s.flag (F.SIDING_EYE_STATUS_BUSY n)
  let s1 :=
    if bit v 0 && !busy then
      let a := ((s.put (F.SIDING_EYE_STATUS_BUSY n) 1).put (F.SIDING_EYE_STATUS_DONE n) 0).put (F.SIDING_EYE_STATUS_ABORTED n) 0
      ({ a with sid := { a.sid with eyeCtl := a.sid.eyeCtl.set n (a.word (A.SIDING_EYE_CTL n)) } } : State).startTimer (sidEyeKey n)
    else s
  if bit v 1 && busy then
    ((s1.put (F.SIDING_EYE_STATUS_BUSY n) 0).put (F.SIDING_EYE_STATUS_ABORTED n) 1).stopTimer (sidEyeKey n)
  else s1

/-- Time of a point of 2^(16 + DWELL) bits at 12.5 Gb/s in slow cycles; above 12 DWELL is not defined (log 3). -/
def sidEyeTime (dwell : Nat) : Nat := if dwell ≤ 12 then 2 ^ (16 + dwell) / 125 else 0

/-- SIDING_EYE_DONE (R491): the point of lane `n` ends with its mismatches. -/
def execSidingEyeDone (n mismatches : Nat) (s : State) : Host.Outcome State Fault Refusal :=
  s.finish (decide (n < 8)) fun t =>
    let c := (t.sid.eyeCtl.getD n 0).toNat
    if t.flag (F.SIDING_EYE_STATUS_BUSY n) ∧ t.due (sidEyeKey n) (sidEyeTime (bits c 16 4)) then
      let t1 := ((t.bump32 (A.SIDING_EYE_ERRS n) mismatches).put (F.SIDING_EYE_STATUS_BUSY n) 0).put (F.SIDING_EYE_STATUS_DONE n) 1
      (t1.put (F.SIDING_EYE_STATUS_POINT_SEQ n) (t1.get (F.SIDING_EYE_STATUS_POINT_SEQ n) + 1)).stopTimer (sidEyeKey n)
    else t

/-! ## The grade manifest (R493, R494, R496) -/

abbrev MS_EMPTY : Nat := 0
abbrev MS_STAGING : Nat := 1
abbrev MS_VERIFYING : Nat := 2
abbrev MS_VERIFIED : Nat := 3
abbrev MS_INVALID : Nat := 4

/-- State of the manifest slot that is staged. -/
def State.manState (s : State) : Nat := s.get F.SIDING_MAN_STATE_STATE

/-- Boot has chosen the manifest slot in use, or found none (R493, R495). -/
def State.manChosen (s : State) : Bool := s.sid.released || s.sid.recovery || decide (4 ≤ s.get F.SIDING_BOOT_STATUS_STEP)

/-- Flash region of the manifest slot that is staged: the one not in use as BEGIN opened it (R496). -/
def State.manOther (s : State) : Nat := s.sid.manStage.getD (3 - s.get F.SIDING_BOOT_STATUS_MAN_SLOT)

/-- Why a manifest slot is not valid by R493, 0 where it is: 1 header, 2 signature, 3 identity. -/
def State.slotReason (s : State) (region : Nat) (keyOk : Bool) : Nat :=
  if s.flashNum region 0 4 ≠ 0x464D4849 ∨ s.flashNum region 4 2 ≠ 1 then 1
  else if !Config.verifies Config.romKey (s.flashBytes region 0 0xFF00) (s.flashBytes region 0xFF00 132) then 2
  else if keyOk && s.flashBytes region 0x100 133 != slice Config.idPub 0 133 then 3
  else 0

/-- Fields that a staged manifest must keep: SERIAL, GRADE, LANE_SLOTS, STACKS, ARRAY_OFF. -/
def State.fixedFields (s : State) (region : Nat) : List Byte :=
  s.flashBytes region 0x10 16 ++ s.flashBytes region 0x40 12 ++ s.flashBytes region 0x200 1056

/-- Why a staged manifest is not VERIFIED, 0 where it is; with no slot in use only R493 is tested (log 64). -/
def State.stagedReason (s : State) : Nat :=
  let r := s.slotReason s.manOther s.sid.keyOk
  if r ≠ 0 then r
  else if !s.sid.manifestOk then 0
  else if s.fixedFields s.manOther ≠ s.fixedFields s.manRegion then 4
  else if (List.range 8).any fun p => decide (s.flashNum s.manOther (0x50 + 4 * p) 4 < s.svnFloor p) then 5
  else if s.flashNum s.manOther 8 4 ≤ s.flashNum s.manRegion 8 4 then 6
  else 0

/-- What a write of MAN_CMD does (R496). Which slot is staged and what its verification finds are settled at BEGIN and END, so that a
module reset in between, after which another slot may be in use, changes neither; before boot has chosen a slot they wait for its
choice (DEDUCED, log 64). -/
def State.manCmd (s : State) (v : Nat) : State :=
  match bits v 0 2 with
  | 1 =>
    if s.manState = MS_STAGING ∨ s.manState = MS_VERIFYING then s
    else
      let stage := if s.manChosen then some (3 - s.get F.SIDING_BOOT_STATUS_MAN_SLOT) else none
      let t : State := { s with sid := { s.sid with manStage := stage, manReason := none } }
      ((t.put F.SIDING_MAN_STATE_STATE MS_STAGING).put F.SIDING_MAN_STATE_REASON 0).put F.SIDING_MAN_STATE_STAGED 0
  | 2 =>
    if s.manState = MS_STAGING then
      let t : State := { s with sid := { s.sid with manReason := if s.manChosen then some s.stagedReason else none } }
      t.put F.SIDING_MAN_STATE_STATE MS_VERIFYING
    else s
  | 3 => if s.manState = MS_STAGING then s.put F.SIDING_MAN_STATE_STATE MS_EMPTY else s
  | _ => s

/-- MANIFEST_VERIFY_DONE (R496). -/
def execManifestVerifyDone (s : State) : Host.Outcome State Fault Refusal :=
  s.finish true fun t =>
    if t.manState ≠ MS_VERIFYING ∨ (t.sid.manReason = none ∧ ¬ t.manChosen) then t
    else
      let r := t.sid.manReason.getD t.stagedReason
      if r = 0 then t.put F.SIDING_MAN_STATE_STATE MS_VERIFIED
      else ((t.put F.SIDING_MAN_STATE_STATE MS_INVALID).put F.SIDING_MAN_STATE_REASON r).raise .SIDING 0 0 K.SIDING_MAN_INVALID

/-! ## Attestation (R501, R502) -/

/-- Bytes of a run of register words. -/
def State.wordBytes (s : State) (a n : Nat) : List Byte := (List.range n).flatMap fun i => toBytes 4 (s.rd (a + 4 * i))

/-- SECTION_HASH of a processor: of its section in RUN_BANK. -/
def State.sectionHash (s : State) (p : Nat) : List Byte :=
  let b := s.get (F.CONSORT_RUN_INFO_RUN_BANK p)
  match s.secOf b p with
  | some e => sha512 (s.flashBytes b e.off e.len)
  | none => toBytes 64 0

/-- Bytes 0 to 831 of the report as GO latches them. -/
def State.reportImage (s : State) : List Byte :=
  toBytes 4 0x54414849 ++ toBytes 2 1 ++ toBytes 1 (s.get F.SIDING_ID_INFO_ID_STATUS) ++ toBytes 1 0 ++
    toBytes 4 (s.rd A.TOP) ++ toBytes 4 (s.rd A.SIDING_DEVICE_TAG) ++ s.flashBytes s.manRegion 0x10 16 ++
    s.flashBytes s.manRegion 8 4 ++ toBytes 4 (s.get F.SIDING_BOOT_STATUS_ROM_VERSION) ++ toBytes 8 s.time.ns ++
    toBytes 8 s.sid.reports ++ toBytes 8 0 ++ s.wordBytes (A.SIDING_NONCE 0) 16 ++
    sha512 (s.flashBytes s.manRegion 0 0xFF00) ++ s.wordBytes (A.PROT_PROT_HASH 0) 16 ++
    (List.range 8).flatMap s.sectionHash ++
    ((List.range 8).flatMap fun p => toBytes 1 (s.get (F.CONSORT_RUN_INFO_RUN_BANK p)) ++ toBytes 1 (s.astate p) ++
      toBytes 1 (s.get (F.CONSORT_RUN_INFO_RESTART_KIND p)) ++ toBytes 1 0) ++
    (List.range 8).flatMap fun p => toBytes 4 (s.rd (A.CONSORT_RUN_SVN p))

/-- What a write of ATTEST_CMD does. -/
def State.attestCmd (s : State) (v : Nat) : State :=
  if !bit v 0 || s.flag F.SIDING_ATTEST_STATUS_BUSY then s
  else if s.get F.SIDING_ID_INFO_ID_STATUS = 1 then (s.put F.SIDING_ATTEST_STATUS_DONE 1).put F.SIDING_ATTEST_STATUS_RESULT 1
  else
    let s1 : State := { s with sid := { s.sid with reports := s.sid.reports + 1 } }
    ({ s1 with sid := { s1.sid with latched := s1.reportImage } } : State).put F.SIDING_ATTEST_STATUS_BUSY 1

/-- Writes bytes into a run of register words. -/
def State.wordsFrom (s : State) (a : Nat) (l : List Byte) : State :=
  (List.range ((l.length + 3) / 4)).foldl (fun t i => t.wr (a + 4 * i) (numAt l (4 * i) 4)) s

/-- REPORT_DONE (R501): the whole report is in place. -/
def execReportDone (s : State) : Host.Outcome State Fault Refusal :=
  s.finish true fun t =>
    if !t.flag F.SIDING_ATTEST_STATUS_BUSY then t
    else
      let l := slice (t.sid.latched ++ slice (Config.sign t.sid.latched) 0 132) 0 1024
      let t1 := ((t.wordsFrom (A.SIDING_REPORT 0) l).put F.SIDING_ATTEST_STATUS_BUSY 0).put F.SIDING_ATTEST_STATUS_DONE 1
      ((t1.put F.SIDING_ATTEST_STATUS_RESULT 0).put F.SIDING_ATTEST_STATUS_REPORT_SEQ
        (t1.get F.SIDING_ATTEST_STATUS_REPORT_SEQ + 1)).bump A.SIDING_REPORTS 1

/-! ## Boot (R3, R55, R492 to R500) -/

/-- Step of the boot table that runs. -/
def State.bootStep (s : State) : Nat := s.get F.SIDING_BOOT_STATUS_STEP

/-- Moves the boot to a step. -/
def State.setBootStep (s : State) (k : Nat) : State := s.put F.SIDING_BOOT_STATUS_STEP k

/-- Boot ends in recovery mode with a RESULT (R495). -/
def State.recover (s : State) (result : Nat) : State :=
  ({ s with sid := { s.sid with recovery := true } } : State).put F.SIDING_BOOT_STATUS_RESULT result

/-- Step 2: the identity key, or none (R497, R498). -/
def State.bootKey (s : State) (keyOk : Bool) : State :=
  let s1 : State := { s with sid := { s.sid with keyOk := keyOk } }
  if keyOk then
    ((s1.wordsFrom (A.SIDING_ID_PUB 0) (slice Config.idPub 0 133 ++ toBytes 3 0)).wr A.SIDING_DEVICE_TAG
      (numAt (sha512 (slice Config.idPub 0 133)) 0 4)).put F.SIDING_ID_INFO_ID_STATUS 0
  else
    (((s1.wordsFrom (A.SIDING_ID_PUB 0) (toBytes 136 0)).wr A.SIDING_DEVICE_TAG 0).put F.SIDING_ID_INFO_ID_STATUS 1).raise
      .SIDING 0 0 K.SIDING_ID_FAIL

/-- Step 3: the valid manifest slot with the highest MSEQ (R493). -/
def State.bootManifest (s : State) : State :=
  let ok (i : Nat) : Bool := s.slotReason (2 + i) s.sid.keyOk == 0
  let use (i : Nat) : State :=
    ({ s with sid := { s.sid with manifestOk := true } } : State).put F.SIDING_BOOT_STATUS_MAN_SLOT i
  if ok 0 ∧ ok 1 then use (if s.flashNum 2 8 4 < s.flashNum 3 8 4 then 1 else 0)
  else if ok 0 then use 0
  else if ok 1 then use 1
  else s.recover 2

/-- A bank boots: every section valid, one for each processor (R450, R495). -/
def State.bankBoots (s : State) (b : Nat) : Bool := s.bankReason b == 0 && s.allEight b

/-- Step 4: the bank that boots, with the run words of its sections (R495). -/
def State.bootBank (s : State) : State :=
  let b := s.get (F.CONSORT_BANK_STATE_BOOT_BANK 0)
  let load (t : State) (c : Nat) : State :=
    (List.range 8).foldl (fun u p => (u.loadRun p c).put (F.CONSORT_RUN_INFO_RESTART_KIND p) RS_BOOT) t
  if s.bankBoots b then load s b
  else if s.bank (1 - b) = BK_VERIFIED ∧ s.bankBoots (1 - b) then
    load (((s.put F.SIDING_BOOT_STATUS_FALLBACK 1).put (F.CONSORT_BANK_STATE_BOOT_BANK 0) (1 - b)).raise .SIDING 0 0
      K.SIDING_BOOT_FALLBACK) (1 - b)
  else s.recover 3

/-- Enabled arrays of a physical coach by the manifest, one bit per core. -/
def State.manArrays (s : State) (n p : Nat) : Nat := 0xFFFF - s.flashNum s.manRegion (0x200 + 2 * (33 * n + p)) 2

/-- Physical coaches of a section that the manifest marks failed, lowest first. -/
def State.manFailed (s : State) (n : Nat) : List Nat := bitList (s.flashNum s.manRegion (0x800 + 8 * n) 8) 33

/-- The spare of a section serves in place of a failed coach (R302). -/
def State.bootRemap (s : State) (n : Nat) : State :=
  let s1 := (List.range 33).foldl (fun t p => t.put (F.COACH_COACH_INFO_ARRAY_OK n p) (t.manArrays n p)) s
  match (s1.manFailed n).filter fun p => decide (p < 32) with
  | p :: _ => s1.remap n p 32
  | [] => s1.showCoaches n

/-- Bytes of the manifest from LANE_TRIM to ENERGY_CAL, those of 0 left out (R494). -/
def State.manTrims (s : State) : List (Nat × Byte) :=
  let o := s.manRegion * 2 ^ 28
  (s.cons.flash.filter fun e => decide (o + 0x1000 ≤ e.1) && decide (e.1 < o + 0x6420)).map fun e => (e.1 - o, e.2)

/-- Step 5: the grade, with the trims, calibrations and spare pins stored (R3, R55, R492). The spec names the GRADE_MISMATCH fault but gives it no CAUSE bit, source, severity or record:
RESULT 4 of BOOT_STATUS alone shows it, and no report is raised (DESIGN CHOICE, log 69). -/
def State.bootGrade (s : State) : State :=
  let r := s.manRegion
  let s1 := (List.range 16).foldl State.bootRemap s
  let mapped := (List.range 16).flatMap fun n => (List.range 32).map fun l => (n, s1.get (F.SECTION_REMAP_PHYS n l))
  let count (c : Nat × Nat) : Nat := if (s1.manFailed c.1).contains c.2 then 0 else popCount (s1.manArrays c.1 c.2) 16
  let arrays := (mapped.map count).sum
  let s2 := (((s1.wr A.TOP_GRADE (s.flashNum r 0x40 4)).put F.TOP_GRADE_ARRAYS arrays).wr A.TOP_LANE_SLOTS
    (s.flashNum r 0x44 4)).wr A.TOP_STACKS (s.flashNum r 0x48 4)
  let least := match s.asm.a with | .a8 => 8192 | .a7 => 7168 | .a6 => 6144
  let lame := (List.range 16).filter fun n => decide (2 ≤ (s1.manFailed n).length)
  let s3 : State := { s2 with sid := { s2.sid with lame := lame, trims := s2.manTrims } }
  let bad := decide (arrays < least) || !lame.isEmpty || mapped.any fun c => decide (count c < 8)
  if bad then s3.put F.SIDING_BOOT_STATUS_RESULT 4 else s3

/-- Bytes of a DER element with a two-byte length, as a certificate has; 0 where flash holds none (R498). -/
def derLength (l : List Byte) : Nat :=
  let b (i : Nat) : Nat := (l.getD i 0).toNat
  if b 0 ≠ 0x30 then 0
  else if b 1 < 0x80 then 2 + b 1
  else if b 1 = 0x81 then 3 + b 2
  else if b 1 = 0x82 then min 4096 (4 + 256 * b 2 + b 3)
  else 0

/-- Step 6: the certificate (R498). -/
def State.bootCert (s : State) : State :=
  let n := derLength (s.flashBytes 4 0 4)
  let s1 := s.put F.SIDING_ID_INFO_CERT_LEN n
  if s1.sid.keyOk ∧ Config.certKey (s1.flashBytes 4 0 n) ≠ Config.idPub then
    (s1.put F.SIDING_ID_INFO_ID_STATUS 2).raise .SIDING 0 0 K.SIDING_ID_FAIL
  else s1

/-- Boot runs: the reset has ended, and no outcome of R495 stopped it. -/
def State.booting (s : State) : Bool := s.pow.released && s.pow.mainRails && !s.sid.recovery && !s.sid.released

/-- BOOT_STEP (R492): the running step completes; the first one starts as the module reset ends, with the SLOT_ID straps on
that edge (R513). `keyOk` tells whether the helper data reproduce the secret (R497). -/
def execBootStep (inp : Bool × Nat) (s : State) : Host.Outcome State Fault Refusal :=
  s.finish (decide (inp.2 < 64)) fun t =>
    let keyOk := inp.1
    if t.bootStep = 0 then ({ t with pins := { t.pins with slotId := inp.2 } } : State).resetEnds
    else if ¬ t.booting then t
    else
      let t1 := match t.bootStep with
        | 1 => t.put F.SIDING_BOOT_STATUS_ROM_VERSION Config.romVersion
        | 2 => t.bootKey keyOk
        | 3 => t.bootManifest
        | 4 => t.bootBank
        | 5 => t.bootGrade
        | 6 => t.bootCert
        | _ => t
      if t1.sid.recovery ∨ 7 ≤ t1.bootStep then t1 else t1.setBootStep (t1.bootStep + 1)

/-- REGISTER_BUS_RELEASE (R488, R492, R499): protection is set up and locked, and the register bus released. -/
def execRegisterBusRelease (s : State) : Host.Outcome State Fault Refusal :=
  s.finish true fun t =>
    if ¬ t.booting ∨ t.bootStep ≠ 7 then t
    else
      let l := t.flashBytes t.manRegion 0x6500 384
      let t1 := (List.range 32).foldl (fun u i =>
        ((u.put (F.PROT_REGION_BASE_BASE i) (numAt l (12 * i) 4 / 4)).put (F.PROT_REGION_LIMIT_LIMIT i)
          (numAt l (12 * i + 4) 4 / 4)).wr (A.PROT_REGION_RIGHTS i) (numAt l (12 * i + 8) 4 % 32)) t
      let h := sha512 (t1.wordBytes (A.PROT_REGION_BASE 0) 96)
      let t2 := (t1.wordsFrom (A.PROT_PROT_HASH 0) h).put F.PROT_LOCK_LOCKED 1
      ({ t2 with sid := { t2.sid with released := true } } : State).setBootStep 8

/-- Every populated stack is trained, and filled where the rails came up (R378); a stack held in STOP is not waited for, as
only RELEASE returns it (R427; DEDUCED, log 53). -/
def State.stacksTrained (s : State) : Bool :=
  (List.range (stackCount s.asm)).all fun n => s.fstate (dom 7 n) == 3 ||
    s.flag (F.HBM_STATE_TRAINED n) && s.flag (F.HBM_STATE_FILLED n) && !bit (s.rd (A.HBM n + 0x10)) K.HBM_TRAIN_FAIL

/-- MODULE_READY (17_reset.md; R3, R378, R438, R458, R472, R495): the processors run, the stacks are initialised; the module
serves, and children that were in CONTAIN enter QUIET. -/
def execModuleReady (s : State) : Host.Outcome State Fault Refusal :=
  s.finish true fun t =>
    if t.sid.released ∧ t.pow.released ∧ ¬ t.sid.recovery ∧ t.get F.SIDING_BOOT_STATUS_RESULT = 0 ∧
        t.get F.TOP_STATE_MODULE = 0 ∧ t.stacksTrained ∧ t.fstate (dom 0 0) ≠ 3 then
      let t0 := (t.setFstate (dom 0 0) 0).childrenQuiet (dom 0 0)
      let t1 := (((List.range 8).filter fun p => !t0.fenced (dom 8 p)).foldl (fun u p => u.startImage p RS_BOOT) t0).put
        F.TOP_STATE_MODULE 1
      let t2 := (t1.stopTimer { kind := .deadline, a := dom 0 0 }).startTimer { kind := .heartbeat, a := 0 }
      let trips := (if t2.flag F.POWER_TRIP_LOG_THERM_TRIP then 2 ^ K.POWER_THERM_TRIP else 0) +
        (if t2.flag F.POWER_TRIP_LOG_OC_TRIP then 2 ^ K.POWER_OC_TRIP else 0)
      if trips ≠ 0 ∧ t2.get F.RESET_LAST_MODULE_RESET_CAUSE = MR_MOD_EN then
        t2.raiseAs .POWER 0 0 trips (dom 0 0) [] else t2
    else t

end Sys2Proof.Machine
end

