-- ==== Sys2Proof/Machine/Module.lean ====
section
/-! DEFINITION. Power states, the reset pins and the telemetry controller (R505, R511 to R520; 21_module.md). -/

namespace Sys2Proof.Machine

/-- HOT_SWAP_ON (R516, R517): a power-up. The always-on rail is good; the main rails follow MOD_EN. -/
def execHotSwapOn (s : State) : Host.Outcome State Fault Refusal :=
  s.finish true fun t =>
    if t.pow.hotSwap then t
    else
      let t1 := t.powerLoss
      ({ t1 with pow := { t1.pow with hotSwap := true } } : State).startTimer { kind := .emergClear, a := 0 }

/-- HOT_SWAP_OFF (R516, R520): a power loss. -/
def execHotSwapOff (s : State) : Host.Outcome State Fault Refusal :=
  s.finish true fun t => if t.pow.hotSwap then t.powerLoss else t

/-- MOD_EN_RISE (R517): a latched trip ends; the main rails ramp, and MAIN_RAILS_GOOD follows. -/
def execModEnRise (s : State) : Host.Outcome State Fault Refusal :=
  s.finish true fun t =>
    if t.pins.modEn then t
    else { t with pins := { t.pins with modEn := true }, pow := { t.pow with tripped := false } }

/-- MOD_EN_FALL (R517). -/
def execModEnFall (s : State) : Host.Outcome State Fault Refusal :=
  s.finish true fun t =>
    let t1 : State := { t with pins := { t.pins with modEn := false } }
    if ¬ t.pins.modEn ∨ ¬ t.pow.hotSwap then t1
    else t1.modEnFalls

/-- RESET_N_FALL (R517): a module reset starts. -/
def execResetNFall (s : State) : Host.Outcome State Fault Refusal :=
  s.finish true fun t =>
    let t1 : State := { t with pins := { t.pins with resetN := false } }
    if ¬ t.pins.resetN ∨ ¬ t.pow.hotSwap then t1 else t1.moduleReset MR_RESET_N 0 0

/-- RESET_N_RISE (R513, R517), with the SLOT_ID straps on that edge: the module reset ends where the rails are good. -/
def execResetNRise (slot : Nat) (s : State) : Host.Outcome State Fault Refusal :=
  s.finish (decide (slot < 64)) fun t =>
    if t.pins.resetN then t
    else ({ t with pins := { t.pins with resetN := true, slotId := slot } } : State).resetEnds

/-- MAIN_RAILS_GOOD (R517), with the SLOT_ID straps on that edge: the module reset ends where RESET_N is high. -/
def execMainRailsGood (slot : Nat) (s : State) : Host.Outcome State Fault Refusal :=
  s.finish (decide (slot < 64)) fun t =>
    if t.pow.mainRails ∨ ¬ t.pow.hotSwap ∨ ¬ t.pins.modEn ∨ t.pow.tripped then t
    else
      ({ t with pins := { t.pins with slotId := slot }, pow := { t.pow with mainRails := true } } : State).resetEnds

/-- Value of a telemetry command; none where the controller does not acknowledge (R514, R515). -/
def State.telemetry (s : State) (cmd : Nat) : Option Nat :=
  if !s.pow.hotSwap then none
  else
    match cmd with
    | 1 => some (s.get F.POWER_VIN_V)
    | 2 => some (s.get F.POWER_IIN_I)
    | 3 => some (s.get F.POWER_PIN_P)
    | 4 => some (s.get F.POWER_TEMP_MAX_TEMP)
    | 5 => some (s.get F.POWER_COOLANT_TEMP)
    | 6 => some (b2n s.pins.modEn + 2 * b2n s.pow.mainRails + 4 * b2n s.pins.ready + 8 * b2n s.pow.tripped)
    | _ => none

/-- Bytes of the FRU EEPROM. -/
abbrev FRU_BYTES : Nat := 8192

/-- Byte of the FRU EEPROM at an offset (R514). -/
def State.fruAt (s : State) (off : Nat) : Byte := Config.fruByte s.fru.partNumber s.fru.serial (off % FRU_BYTES)

/-- SMBus Read Word at a 7-bit address; none where no device acknowledges. The FRU EEPROM answers from its own supply, here with the
bytes at an offset (R514; log 85). -/
def State.smbRead (s : State) (addr code : Nat) (aux : Bool) : Option Nat :=
  if addr = 0x58 then s.telemetry code
  else if addr = 0x50 ∧ aux then some ((s.fruAt code).toNat + 256 * (s.fruAt (code + 1)).toNat)
  else none

/-- TELEMETRY_READ (R514, R515): SMBus Read Word at a 7-bit address, of a command code or an offset, with P3V3_AUX present or not. -/
def execTelemetryRead (read : Nat × Nat × Bool) (s : State) : Host.Outcome State Fault Refusal :=
  s.finish (decide (read.1 < 128) && decide (read.2.1 < if read.1 = 0x50 then FRU_BYTES else 256)) fun t =>
    t.emit (.smb (t.smbRead read.1 read.2.1 read.2.2))

end Sys2Proof.Machine
end

