-- ==== Sys2Proof/Machine/Bus.lean ====
section
/-! DEFINITION. The register bus: checks in their order, bus errors, reads with their computed words, and writes by access
type with what each register's write does (02_registers.md, R23 to R51, R525; R46, R120, R488, R495, R500). -/

namespace Sys2Proof.Machine

/-! ## Locations -/

/-- Byte address of word 0 of the register or entry at a location. -/
def Loc.entry (l : Loc) : Nat := l.blk.page l.i l.j + l.reg.off + l.k1 * l.reg.s1 + l.k2 * l.reg.s2

/-- The common header's register number `k`. -/
def Loc.hdr (l : Loc) (k : Nat) : Bool := l.reg.id == k

/-- The owning chapter defines this instance of the register: records of the pools that exist (06_switch_core.md). -/
def Loc.defined (l : Loc) : Bool :=
  if Id.POOL_SIZE ≤ l.reg.id ∧ l.reg.id ≤ Id.POOL_USED then poolOk l.k1 else true

/-- The address lies in a page of an empty lane-die slot or of an absent stack, which reads 0 and discards writes at
every offset (R5, R25). -/
def State.absentAt (s : State) (a : Nat) : Bool :=
  let at_ (b : Blk) (absent : Nat → Bool) : Bool := match b.find a with | some (i, _, _) => absent i | none => false
  at_ .DIE (fun i => slotType s.asm i == 0) || at_ .LANE (fun i => slotType s.asm i == 0) ||
    at_ .HBM (fun i => decide (stackCount s.asm ≤ i))

/-- The reset domain of a page whose clock domain can be power-gated (R46). -/
def Loc.domain (l : Loc) : Option Nat :=
  match l.blk with
  | .DIE => some (dom 5 l.i)
  | .LANE => some (dom 6 (l.i * 128 + l.j))
  | .SECTION => some (dom 1 l.i)
  | .COACH => some (dom 2 (l.i * 64 + l.j))
  | .HBM => some (dom 7 l.i)
  | _ => none

/-- The domain, or one above it but the module, is in STOP (R426). -/
def State.stoppedDom (s : State) (d : Nat) : Bool :=
  (d :: domAbove d 4).any fun x => x != dom 0 0 && s.fstate x == 3

/-- The page's domain is power-gated or in STOP, or a lane page's die is DOWN (R46, R120, R426). -/
def State.locGated (s : State) (l : Loc) : Bool :=
  (match l.domain with | some d => s.gatedDom d || s.stoppedDom d | none => false) ||
    (l.blk == .LANE && s.mach (.die l.i) == DOWN)

/-- Pages in a fast domain, which needs the core PLL (R43, R44). -/
def Blk.fast : Blk → Bool
  | .SWITCH | .POOL | .ROUTE | .SHAPE | .PORT | .COLL | .UPDATE | .STATION | .WINDOW | .SECTION | .COACH | .HBM => true
  | _ => false

/-- Section whose gated clock an access needs (R43). -/
def Loc.sectionNo (l : Loc) : Option Nat :=
  match l.blk with
  | .SECTION => some l.i
  | .COACH => some l.i
  | _ => none

/-- Domain of a pair of handling words (R429, domain state words). -/
def State.locHandling (s : State) (l : Loc) : Option Nat :=
  let id := l.reg.id
  if id = Id.RESET_DFAULT ∨ id = Id.RESET_RECOVERY then
    some (if l.k1 = 0 then dom 0 0 else if l.k1 < 17 then dom 1 (l.k1 - 1) else if l.k1 < 25 then dom 5 (l.k1 - 17)
      else if l.k1 < 33 then dom 7 (l.k1 - 25) else dom 8 (l.k1 - 33))
  else if id = Id.RESET_COACH_DFAULT ∨ id = Id.RESET_COACH_RECOVERY then some (dom 2 l.k1)
  else if id = Id.RESET_LANE_DFAULT ∨ id = Id.RESET_LANE_RECOVERY then some (dom 6 l.k1)
  else if id = Id.RESET_LINE_DFAULT ∨ id = Id.RESET_LINE_RECOVERY then some (dom 4 l.k1)
  else if id = Id.RESET_CORE_DFAULT ∨ id = Id.RESET_CORE_RECOVERY then
    some (dom 3 (s.get F.RESET_CORE_VIEW_COACH * 16 + l.k1))
  else none

/-! ## The checks of an access (R23, R25, R44, R46, R488, R495, R499, R500) -/

/-- Bus error kinds (R47), and NOT_READY of the siding link (20_siding_boot.md). -/
abbrev E_TIMEOUT : Nat := 1
abbrev E_DECODE : Nat := 2
abbrev E_PLL_COLD : Nat := 3
abbrev E_PROT : Nat := 4
abbrev E_GATED : Nat := 5
abbrev E_NOT_READY : Nat := 0x10

/-- A siding access that the module serves before release, or in recovery mode (R488, R495). -/
def State.sidingServed (s : State) (a v : Nat) (write : Bool) : Bool :=
  let own := decide (A.SIDING ≤ a) && decide (a < A.SIDING + 0x10000)
  if s.sid.recovery then
    own || decide (a < 0x1000) || (write && a == A.RESET_CMD && bits v 20 4 == 2) ||
      (s.sid.manifestOk && decide (A.CONSORT 0 ≤ a) && decide (a < A.CONSORT 0 + 0x1000))
  else s.sid.released || own || a == 0

/-- The right that an access needs: CR, CW, SR or SW, as a bit of REGION_RIGHTS (R500). -/
def rightBit (m : Master) (write : Bool) : Nat :=
  match m with
  | .consort => 1 + b2n write
  | .siding => 3 + b2n write

/-- Every enabled region that contains the address grants the right (R500). -/
def State.regionsGrant (s : State) (m : Master) (a : Nat) (write : Bool) : Bool :=
  (List.range 32).all fun i =>
    let r := s.rd (A.PROT_REGION_RIGHTS i)
    !(bit r 0 && decide (s.rd (A.PROT_REGION_BASE i) ≤ a) && decide (a ≤ s.rd (A.PROT_REGION_LIMIT i))) ||
      bit r (rightBit m write)

/-- What the bus decides about an access: it reaches its target, is absorbed, or ends with an error code (log 70). -/
inductive BusVerdict where
  | target (l : Loc)
  | absorbed
  | error (kind : Nat)
  deriving DecidableEq, Repr

/-- The checks of an access, in order (log 70). -/
def State.busCheck (s : State) (m : Master) (a width v : Nat) (write : Bool) : BusVerdict :=
  if m = .siding ∧ ¬ s.sidingServed a v write then .error E_NOT_READY
  else if width ≠ 32 ∨ a % 4 ≠ 0 ∨ 2 ^ 26 ≤ a then .error E_DECODE
  else if s.absentAt a then (if s.regionsGrant m a write then .absorbed else .error E_PROT)
  else
    match locate a with
    | none => .error E_DECODE
    | some l =>
      if !l.defined then .error E_DECODE
      else if (l.blk = .PROT ∧ write ∧ s.flag F.PROT_LOCK_LOCKED) ∨ ¬ s.regionsGrant m a write then .error E_PROT
      else if s.locGated l then
        (if !write && (l.hdr 0 || l.hdr 1 || l.hdr 3) then .target l else .error E_GATED)
      else if l.blk.fast ∧ ¬ s.flag F.TOP_STATE_CORE_PLL_LOCK then .error E_PLL_COLD
      else .target l

/-- Number of a master in BUS_ERR_ADDR. -/
def masterCode : Master → Nat
  | .consort => 1
  | .siding => 2

/-- Records a bus error of a kind (R44, R47, R500); NOT_READY is no bus error. -/
def State.busError (s : State) (m : Master) (a : Nat) (write : Bool) (kind : Nat) : State :=
  if kind = E_NOT_READY then s
  else
    let s2 := (s.recordBusError (masterCode m) a write kind).raise .TOP 0 0 (kind - 1)
    let s3 := if kind = E_PROT then (s2.bump A.PROT_REFUSED 1).raise .PROT 0 0 K.PROT_REFUSED else s2
    if kind = E_PLL_COLD then s3.startPll else s3

/-- An access reaches a page: it wakes a gated section and keeps it awake (R43). -/
def State.reach (s : State) (l : Loc) : State :=
  match l.sectionNo with
  | some n => if s.locGated l then s else (s.wake n).startTimer { kind := .sectionAccess, a := n }
  | none => s

/-! ## Copies of RWV words (R34, R35) -/

/-- The three copies of an RWV word are equal. -/
def State.copiesEqual (s : State) (a : Nat) : Bool :=
  let d := resetWord s.asm a
  Tab.get d s.regs a == Tab.get d s.rwv2 a && Tab.get d s.regs a == Tab.get d s.rwv3 a

/-- Bits of an RWV word in which any copy differs (16_faults.md, detail words). -/
def State.copiesDiffer (s : State) (a : Nat) : Nat :=
  let d := resetWord s.asm a
  ((Tab.get d s.regs a ^^^ Tab.get d s.rwv2 a) ||| (Tab.get d s.regs a ^^^ Tab.get d s.rwv3 a)).toNat

/-- Repairs an RWV word whose copies differ (R34). -/
def State.repairVote (s : State) (a : Nat) : State :=
  if isRwv a ∧ ¬ s.copiesEqual a then
    (((s.setWord a (s.word a)).put F.TOP_VOTE_ADDR_ADDR a).bump A.TOP_VOTE_MISMATCH 1).raise .TOP 0 0 K.TOP_VOTE_MISMATCH
      [a, s.rd a, s.copiesDiffer a]
  else s

/-- Addresses of the RWV words whose copies may differ, rising. -/
def State.rwvAddrs (s : State) : List Nat :=
  let l := (s.regs ++ s.rwv2 ++ s.rwv3).map (·.1)
  ((l.filter isRwv).foldl (fun r a => Tab.insert r a ()) []).map (·.1)

/-! ## Reads -/

/-- The machine whose ENABLE and STATE words a location belongs to. -/
def Loc.mach (l : Loc) : Option Mach :=
  match l.blk with
  | .PORT => some (.port l.i)
  | .LANE => some (.lane (l.i * 128 + l.j))
  | .DIE => some (.die l.i)
  | .SECTION => some (.sect l.i)
  | .HBM => some (.stack l.i)
  | .COLL => some (.line l.k1)
  | .STATION => some (.station l.k1)
  | .WINDOW => some (.window l.k1)
  | _ => none

/-- The machine whose ENABLE is in CTL of the page. -/
def Loc.ctlMach (l : Loc) : Option Mach :=
  match l.blk with
  | .COLL => none
  | .STATION => none
  | .WINDOW => none
  | _ => l.mach

/-- A STATE word with REQ reading ENABLE (R26). -/
def State.withReq (s : State) (l : Loc) (v : Nat) : Nat :=
  match l.mach with
  | some u => setBits v 3 1 (b2n (s.enabled u))
  | none => v

/-- Chunks of a line in the stages OPEN to HOLD (LINE_STATE.OPEN_CHUNKS; R249). -/
def State.openChunks (s : State) (g : Nat) : Nat :=
  (s.coll.chunks.filter fun c => c.key.line == g && c.status.isNone &&
    (c.stage != .opening || (s.openSince c).isSome)).length

/-- The oldest entry of a line: the earliest in the list of entries. -/
def State.headEntry (s : State) (g : Nat) : Option Entry := (s.lineEntries g).head?

/-- What a word reads where the spec gives it from other state; none where it reads as stored. -/
def State.computed (s : State) (l : Loc) (a : Nat) : Option Nat :=
  let id := l.reg.id
  let old := s.rd a
  if id = 3 then
    (match l.ctlMach with
    | some u =>
      let v := if s.locGated l then setBits old 0 3 (if s.get ⟨a, 0, 3⟩ = STOP then STOP else FENCED) else old
      some (setBits v 3 1 (b2n (s.enabled u)))
    | none => none)
  else if id = Id.LANE_CFG then some (if slotType s.asm l.i = 2 then setBits old 0 2 3 else old)
  else if id = Id.DIE_DIE_INFO then some (setBits old 0 2 (slotType s.asm l.i))
  else if id = Id.PORT_CR_HELD then some (s.held l.i l.k1)
  else if id = Id.PORT_CR_TX_AVAIL then
    some (unsigned ((s.get (F.PORT_CR_TX_GRANT_GRANT l.i l.k1) : Int) -
      ((s.get (F.PORT_CR_DEBIT_TOTAL_TOTAL l.i l.k1) + 2 ^ 24 - s.get (F.PORT_CR_RETURN_RX_TOTAL l.i l.k1)) % 2 ^ 24 : Nat)) 32)
  else if id = Id.PORT_NB_SEQ then some (setBits old 16 16 (s.nbAge l.i))
  else if id = Id.ROUTE_PORT_LIVE then
    some ((List.range 32).foldl (fun n j => n + 2 ^ j * b2n (s.portLive (32 * l.k1 + j) 0)) 0)
  else if id = Id.ROUTE_LIVE then
    let p := s.livePos l.k1 0
    some (p.foldl (fun n j => n + 2 ^ j) 0 + 65536 * p.length)
  else if id = Id.SHAPE_LEVEL then
    some (unsigned (max (-(2 ^ 31)) (min (2 ^ 31 - 1) (s.bucketLevel l.i l.k1 / 800))) 32)
  else if id = Id.COLL_LINE_STATE then
    let e := s.lineEntries l.k1
    let v := setBits (setBits (s.withReq l old) 4 7 e.length) 11 2 (e.filter fun x => decide (x.state = .active)).length
    some (setBits v 16 15 (s.openChunks l.k1))
  else if id = Id.COLL_HEAD_STEP then
    some (match s.headEntry l.k1 with | some e => bits e.step (32 * l.w) 32 | none => 0)
  else if id = Id.COLL_LINE_INFO then some (setBits old 0 8 (match s.headEntry l.k1 with | some e => e.sub | none => 0))
  else if id = Id.STATION_STN_STATE then some (setBits (s.withReq l old) 16 8 (s.stationEntries l.k1))
  else if id = Id.WINDOW_WIN_STATE then some (s.withReq l old)
  else if id = Id.WINDOW_CACHE_USED then some s.cacheLive.length
  else if id = Id.COACH_RUNQ then
    let h := s.coach (l.i * 64 + l.j)
    some (min 16 (h.queued 0) + 2 ^ 8 * min 16 (h.queued 1) + 2 ^ 16 * h.queued 2 + 2 ^ 24 * h.running.length)
  else if id = Id.COACH_RED_STATE then
    let n := match s.logicalOf (l.i * 64 + l.j) with
      | some c => (s.coll.chunks.filter fun x => decide (x.coach = logicalNo l.i c) && x.admitted).length
      | none => 0
    some (setBits old 20 12 n)
  else if id = Id.FAULT_RING_WINDOW then some (s.ringWord l.k1)
  else if id = Id.CONSORT_LOG_WINDOW then some (s.logWord l.i l.k1)
  else if id = Id.CONSORT_HEV_WINDOW then some (s.hevWord l.k1)
  else if id = Id.CONSORT_EMERG_CLEAR_MS ∨ id = Id.POWER_EMERG_CLEAR_MS then some s.emergClearMs
  else if id = Id.SIDING_CERT then some (numAt (s.flashBytes 4 (4 * l.k1) 4) 0 4)
  else if id = Id.RESET_CORE_DFAULT then (s.locHandling l).map s.dfault
  else if id = Id.RESET_CORE_RECOVERY then (s.locHandling l).map s.recovery
  else if id = Id.POWER_REC_CAP then some (if priorityRec l.k1 ∨ sharedRec l.k1 then old else tokenFloor s.asm true l.k1)
  else none

/-- The value that a read returns (R29). -/
def State.readWord (s : State) (l : Loc) (a : Nat) : Nat :=
  match l.reg.ty with
  | .wo => 0
  | .woe => 0
  | _ => (s.computed l a).getD (s.rd a)

/-- A 32-bit read by a master: the error code, 0 for none, the data, and the state (R28, R34, R42 to R49).
The data of a NOT_READY answer are not stated: a free value (log 3). -/
def State.busRead (s : State) (m : Master) (a : Nat) : Nat × Nat × State :=
  match s.busCheck m a 32 0 false with
  | .error k =>
    if k = E_NOT_READY then (k, s.fresh.1 % 2 ^ 32, s.fresh.2) else (k, 0xFFFFFFFF, s.busError m a false k)
  | .absorbed => (0, 0, s.countAccess (masterCode m))
  | .target l =>
    let s1 := (s.reach l).countAccess (masterCode m)
    (0, s1.readWord l a, s1.repairVote a)

/-! ## Writes -/

/-- A machine in UP enters DRAINING, with what its drain does at once (R40, R115, R120, R266, R320, R376). -/
def State.startDrain (s : State) (u : Mach) : State :=
  match u with
  | .lane l => s.withdrawLane l
  | .die d => (s.setMach u DRAINING).dieDraining d
  | .line g => (s.lineEntries g).foldl (fun t e => t.endCollective e 0x12 [] false false) (s.setMach u DRAINING)
  | .sect n => (s.setMach u DRAINING).endSection n 4
  | .station n => (s.setMach u DRAINING).inOrder fun t => t.abortStation n
  | _ => s.setMach u DRAINING

/-- A write of an ENABLE field: a held refusal clears, and 0 in UP starts the drain (R38, R40, R525). -/
def State.enableWritten (s : State) (u : Mach) : State :=
  let s1 : State := { s with refused := s.refused.filter fun x => x ≠ u }
  if s1.enabled u ∨ s1.mach u ≠ UP then s1 else s1.startDrain u

/-- Bits of a CAUSE_EN register that read 1 whatever is written (R414). -/
def Blk.forcedEn (b : Blk) : Nat :=
  (List.range 16).foldl (fun n k => n + 2 ^ k * b2n (decide (2 < (srcDefault (16 * b.slot + k)).2))) 0

/-- Bits that a write stores at a location (R27, R29). -/
def State.storeMask (s : State) (l : Loc) : Nat :=
  if l.reg.id = Id.SHAPE_OVH ∧ l.k1 = 1 then 0xFFFF
  else if l.reg.id = Id.LANE_CFG ∧ slotType s.asm l.i = 2 then clr (l.reg.wmask.getD 0 0) 3
  else l.reg.wmask.getD l.w 0

/-- The word stored by a write of `v` over `old`. -/
def merged (mask old v : Nat) : Nat := clr old mask + (v &&& mask)

/-- Module memory in 4 MiB units: 48 GiB for each populated stack (R377). -/
def State.memUnits (s : State) : Nat := 12288 * stackCount s.asm

/-- A space layout is accepted: inside module memory, no two spaces overlapping (R387). -/
def State.layoutFits (s : State) : Bool :=
  let b (n : Nat) : Nat := s.rd (A.WINDOW_SPACE_BASE n)
  let z (n : Nat) : Nat := s.rd (A.WINDOW_SPACE_SIZE n)
  (List.range 5).all fun n => (z n == 0 || decide (b n + z n ≤ s.memUnits)) &&
    (List.range 5).all fun k => n == k || z n == 0 || z k == 0 || decide (b n + z n ≤ b k) || decide (b k + z k ≤ b n)

/-- The staging-slab pool takes its SIZE from the STAGE space, while nothing of it is allocated; requests that wait go on
waiting (R174, R176, R387). -/
def State.layStage (s : State) : State :=
  if s.rd (A.POOL_ALLOCATED 1) ≠ 0 then s
  else
    let z := s.rd (A.WINDOW_SPACE_SIZE 2)
    let q := s.pool 1
    if s.rd (A.POOL_SIZE 1) = z then s
    else (((s.setPool 1 { waits := q.waits, grants := q.grants }).wr (A.POOL_SIZE 1) z).wr (A.POOL_FREE 1) z).quotaCheck 1

/-- SPACE_BASE or SPACE_SIZE of a space is written (R387). -/
def State.spaceWrite (s : State) (n a v : Nat) : State :=
  let t := s.wr a v
  if !t.layoutFits then s.raise .WINDOW 0 0 K.WINDOW_LAYOUT_INVALID
  else if n = 2 then t.layStage else t

/-- GATE_CTL is written (R209, R210); gating already in force goes on while its bank passes the check. -/
def State.gateCtlWritten (s : State) (p : Nat) : State :=
  if !s.flag (F.SHAPE_GATE_CTL_GATE_EN p) then s.gateDisable p
  else if (s.port p).gating ∧ s.gateBankOk p (s.gateBank p) then s
  else s.gateEnable p

/-- A write of SRC_CFG[n]: code 7 is ignored, a severity below the floor stores the floor (R415, R417). -/
def State.srcCfgWritten (s : State) (n a v : Nat) : State :=
  if 358 ≤ n ∨ bits v 0 3 = 7 then s
  else s.wr a (merged 0xFF07 (s.rd a) (setBits v 0 3 (max (bits v 0 3) (srcDefault n).2)))

/-- TEST selects a pattern (04_lanes.md: 1 to 3; others as 0). -/
def testPattern (cfg : Nat) : Bool := decide (1 ≤ bits cfg 24 3) && decide (bits cfg 24 3 ≤ 3)

/-- A write of a read-write word (R29, R36). -/
def State.writeRw (s : State) (l : Loc) (a v : Nat) : State :=
  let id := l.reg.id
  let old := s.rd a
  let t := s.wr a (merged (s.storeMask l) old v)
  if id = 2 then (match l.ctlMach with | some u => t.enableWritten u | none => t)
  else if id = 5 then (if l.blk = .FAULT then s else s.wr a (v ||| l.blk.forcedEn))
  else if id = Id.LANE_CFG then
    (let n := l.i * 128 + l.j
    if testPattern (t.rd a) ∧ ¬ testPattern old ∧ t.mach (.lane n) = UP then t.withdrawLane n
    else if testPattern (t.rd a) ∧ t.phase n ≠ P_IDLE ∧ t.mach (.lane n) ≠ UP ∧ t.mach (.lane n) ≠ DRAINING then t.endTraining n
    else if bits (t.rd a) 24 3 ≠ bits old 24 3 then t.sendPattern n else t)
  else if id = Id.PORT_LAYOUT then
    (let y := t.layoutReg l.i
    if t.layoutValid y then (y.lanes.filter fun n => t.testOn n && !s.inLayout n).foldl State.sendPattern t else t)
  else if id = Id.PORT_DISC_CFG then t.reTopo l.i
  else if id = Id.SWITCH_LIMIT then t.limitWritten l.k1 l.k2
  else if id = Id.POOL_QUOTA then (if l.k1 = 0 then s else t.quotaCheck l.k1)
  else if id = Id.SHAPE_RATE then (if bit (t.rd a) 31 ∧ ¬ bit old 31 then t.bucketEnabled l.i l.k1 else t)
  else if id = Id.SHAPE_OVH then t.shape l.i
  else if id = Id.SHAPE_GATE_CTL then t.gateCtlWritten l.i
  else if id = Id.TIME_CFG then t.timeCfgWritten old
  else if id = Id.TOP_MODULE_NUM then t.renumbered
  else if id = Id.SECTION_REMAP then
    (if s.mach (.sect l.i) = DOWN then t.showCoaches l.i else s.raise .SECTION l.i 0 K.SECTION_REMAP_REFUSED)
  else if id = Id.FAULT_RING_RD then
    (if (s.rd A.FAULT_RING_WR + 2 ^ 32 - v) % 2 ^ 32 ≤ 4096 then t else s)
  else if id = Id.FAULT_SRC_CFG then s.srcCfgWritten l.k1 a v
  else if id = Id.SIDING_LANE_CTL then t.laneCtlWritten l.k1
  else if id = Id.CONSORT_HEARTBEAT then t.heartbeat old v
  else if id = Id.CONSORT_HEV_RD then s.hevRead v
  else if id = Id.POWER_BUDGET then t.budgetWritten s.budget
  else if id = Id.POWER_REC_CAP then (if priorityRec l.k1 ∨ sharedRec l.k1 then t.capWritten l.k1 else s)
  else if id = Id.WINDOW_SPACE_BASE ∨ id = Id.WINDOW_SPACE_SIZE then s.spaceWrite l.k1 a (merged (s.storeMask l) old v)
  else if id = Id.STATION_ACT_BLOCKS ∨ id = Id.STATION_ACT_PAGE then t.arenaLayout
  else if id = Id.COLL_LINE_CTL then t.enableWritten (.line l.k1)
  else if id = Id.STATION_STN_CTL then t.enableWritten (.station l.k1)
  else t

/-- A write of a command register (R29). -/
def State.writeCmd (s : State) (l : Loc) (v : Nat) : State :=
  let id := l.reg.id
  if id = Id.LANE_EYE_CMD then s.eyeCmd (l.i * 128 + l.j) v
  else if id = Id.TIME_CMD then s.timeCmd v
  else if id = Id.SECTION_CMD then s.sectionCmd l.i v
  else if id = Id.HBM_REPAIR_CMD then (if bit v 0 then s.repairStart l.i [] else s)
  else if id = Id.FAULT_CMD then (if bit v 31 then s.release (bits v 0 18) else s)
  else if id = Id.RESET_CMD then s.resetCmd v
  else if id = Id.RESET_KICK then (bitList v 8).foldl (fun t p => t.kick p) s
  else if id = Id.CONSORT_ACT_CMD then s.actCmd l.i v
  else if id = Id.CONSORT_IMG_CMD then s.imgCmd v
  else if id = Id.SIDING_MAN_CMD then s.manCmd v
  else if id = Id.SIDING_ATTEST_CMD then s.attestCmd v
  else if id = Id.SIDING_EYE_CMD then s.sidEyeCmd l.k1 v
  else s

/-- A write of an SQC word (R32, R429). -/
def State.writeSqc (s : State) (l : Loc) (a v : Nat) : State :=
  match s.locHandling l with
  | some d => if s.domOk d then s.recoveryWrite d v else s
  | none =>
    let old := s.rd a
    if bits v 16 16 = bits old 16 16 then s.wr a (bits old 16 16 * 65536) else s.bump A.TOP_SQC_STALE 1

/-- A write to a read-only word, whose W1C bits clear unless an event sets them on the same edge (R29 to R31). -/
def State.writeW1c (s : State) (l : Loc) (a v : Nat) (events : Nat × Nat) : State :=
  let m := l.reg.w1c.getD l.w 0
  let ev := events.1 &&& m
  let i := match l.blk with
    | .COLL | .STATION | .RESET | .SWITCH => events.2
    | _ => l.i
  if l.reg.id = 4 then
    let pg := l.blk.page l.i l.j
    let en := s.rd (pg + 0x14)
    let t := s.clearCause pg (v &&& m) ev
    let t1 := if l.blk = .FAULT then t else (bitList ev 16).foldl (fun u k =>
      if en.testBit k then u.report (16 * l.blk.slot + k) (u.outsideDomain l.blk k i l.j []) [] else u) t
    if l.blk = .PORT then t1.reTopo l.i else t1
  else if m = 0 then s
  else s.wr a (clr (s.rd a) (v &&& m) ||| ev)

/-- The staging register of a master in a block, where it names an entry (R37). -/
def State.staged (s : State) (m : Master) (l : Loc) : Option Staging :=
  s.staging.find? fun x => x.master = m && x.block = l.blk && x.entry == l.entry

/-- The staging register of a master in a block, emptied. -/
def State.unstage (s : State) (m : Master) (l : Loc) : State :=
  { s with staging := s.staging.filter fun x => ¬ (x.master = m ∧ x.block = l.blk) }

/-- An entry's current lower words; a command entry reads 0. -/
def State.lowerWords (s : State) (l : Loc) : List Word :=
  (List.range (l.reg.words - 1)).map fun k => if l.reg.ty = .woe then 0 else s.word (l.entry + 4 * k)

/-- A write to a lower word of an entry (R37). -/
def State.stage (s : State) (m : Master) (l : Loc) (v : Word) : State :=
  let cur := match s.staged m l with
    | some x => x.words
    | none => s.lowerWords l
  let t := s.unstage m l
  let e : Staging := { master := m, block := l.blk, entry := l.entry, words := cur.set l.w v }
  { t with staging := t.staging ++ [e] }

/-- The run that twelve words name (11_core_array.md, RUN_SUBMIT words). -/
def runOfWords (w : List Word) : Run :=
  let n (i : Nat) : Nat := (w.getD i 0).toNat
  { queue := 2, list := n 0 + 2 ^ 32 * bits (n 1) 0 12, count := bits (n 1) 16 16,
    record := n 2 + 2 ^ 32 * bits (n 3) 0 12, core := bits (n 3) 16 4, coachWide := bit (n 3) 20,
    seed := n 4 + 2 ^ 32 * n 5, step := n 6 + 2 ^ 32 * n 7, tag := n 8 }

/-- An EXPERT entry's VALID is written 1 for the first time since module reset: the entry becomes STALE (R443). -/
def State.expertWritten (s : State) (x : Nat) : State :=
  if s.flag (F.STATION_EXPERT_VALID x) ∧ ¬ s.stn.seenValid.contains x then
    ({ s with stn := { s.stn with seenValid := s.stn.seenValid ++ [x] } } : State).put (F.STATION_EXPERT_STALE x) 1
  else s

/-- What a committed entry does beyond being stored. -/
def State.committed (s : State) (l : Loc) (w : List Word) : State :=
  let id := l.reg.id
  if id = Id.PORT_PLAN then s.planCommitted l.i
  else if id = Id.SHAPE_SWAP_AT then s.requestSwap l.i
  else if id = Id.STATION_EXPERT then s.expertWritten l.k1
  else if id = Id.WINDOW_WIN then s.enableWritten (.window l.k1)
  else if id = Id.COACH_RUN_SUBMIT then
    (if bit (w.getD 11 0).toNat 0 then s.submitRun (l.i * 64 + l.j) (runOfWords w) else s)
  else s

/-- A write to the highest word of an entry moves the whole entry into its table (R37). -/
def State.commitEntry (s : State) (m : Master) (l : Loc) (v : Word) : State :=
  let low := match s.staged m l with
    | some x => x.words
    | none => s.lowerWords l
  let w := low ++ [v]
  let t := s.unstage m l
  let t1 := if l.reg.ty = .woe then t
    else (List.range l.reg.words).foldl (fun u k =>
      u.wr (l.entry + 4 * k) (merged (l.reg.wmask.getD k 0) (u.rd (l.entry + 4 * k)) (w.getD k 0).toNat)) t
  t1.committed l w

/-- A write that reached its target, by the register's access type (R29, R36). -/
def State.writeWord (s : State) (m : Master) (l : Loc) (a : Nat) (v : Word) (events : Nat × Nat) : State :=
  match l.reg.ty with
  | .ro => s.writeW1c l a v.toNat events
  | .ctr => s
  | .rw => s.writeRw l a v.toNat
  | .sqc => s.writeSqc l a v.toNat
  | .wo => s.writeCmd l v.toNat
  | .ent => if l.w + 1 = l.reg.words then s.commitEntry m l v else s.stage m l v
  | .woe => if l.w + 1 = l.reg.words then s.commitEntry m l v else s.stage m l v

/-- A write by a master: the error code, 0 for none, and the state (R36, R42 to R48). -/
def State.busWrite (s : State) (m : Master) (a width : Nat) (v : Word) (events : Nat × Nat := (0, 0)) : Nat × State :=
  match s.busCheck m a width v.toNat true with
  | .error k => (k, s.busError m a true k)
  | .absorbed => (0, s.countAccess (masterCode m))
  | .target l => (0, ((s.reach l).countAccess (masterCode m)).writeWord m l a v events)

/-- An access by a master that its target does not complete within 10 µs: the error code and the state; a write so ended took effect
where `applied` (R45). An access that ends earlier, with another error or absorbed, has no TIMEOUT. -/
def State.busLate (s : State) (m : Master) (a : Nat) (v : Word) (write applied : Bool) : Nat × State :=
  match s.busCheck m a 32 v.toNat write with
  | .error k => (k, s.busError m a write k)
  | .absorbed => (0, s.countAccess (masterCode m))
  | .target l =>
    let t := if write && applied then (s.reach l).writeWord m l a v (0, 0) else s
    (E_TIMEOUT, t.busError m a write E_TIMEOUT)

/-- A register write as a command of the model; without the always-on rail there is no register bus (R516). -/
def State.busCmd (s : State) (m : Master) (a : Nat) (v : Nat) : State :=
  if s.pow.hotSwap then (s.busWrite m a 32 (BitVec.ofNat 32 v)).2 else s

end Sys2Proof.Machine
end

