-- ==== Sys2Proof/Machine/Audit.lean ====
section
/-! DEFINITION. The audit engine: the conservation identities of the switch core, the pools, the collectives, the arrival
records, the arena and the power tokens (R19, R144, R178, R254, R464; 10_reduction.md, 13_stations.md). -/

namespace Sys2Proof.Machine

/-- One identity: check number, INDEX, left side, right side, domain of a failure. -/
structure Identity where
  check : Nat
  index : Nat
  left : Nat
  right : Nat
  domain : Nat
  deriving DecidableEq, Repr

/-- Sum of a function over the 289 × 6 accounts below port `n`. -/
def accountSum (n : Nat) (f : Nat → Nat → Nat) : Nat :=
  ((List.range n).map fun p => ((List.range 6).map fun c => f p c).sum).sum

/-- Check 3, the account part: the first fabric account that fails R144. -/
def State.accountCheck (s : State) : Option Identity :=
  ((List.range 256).flatMap fun p => (List.range 6).map fun c => (p, c)).findSome? fun a =>
    let l := (s.get (F.PORT_CR_RX_TOTAL_TOTAL a.1 a.2) + 2 ^ 24 - s.get (F.PORT_CR_RETURN_TOTAL_TOTAL a.1 a.2)) % 2 ^ 24
    let r := s.held a.1 a.2
    if l = r then none else some ⟨3, 8 * a.1 + a.2, l, r, dom 0 0⟩

/-- Live copies of a packet in the buffer: those queued, or the one being received or taken over. -/
def State.liveCopies (s : State) (b : BufPkt) : Nat := max 1 (s.sw.queue.filter fun c => c.pkt = b.id).length

/-- Check 5 of a pool: FREE and ALLOCATED make up SIZE, and the requester kinds make up ALLOCATED. -/
def State.poolChecks (s : State) (k : Nat) : List Identity :=
  let al := s.rd (A.POOL_ALLOCATED k)
  [⟨5, k, s.rd (A.POOL_FREE k) + al, s.rd (A.POOL_SIZE k), dom 0 0⟩,
   ⟨5, k, al, ((List.range 4).map fun r => s.rd (A.POOL_USED k r)).sum, dom 0 0⟩]

/-- Check 7 of an open chunk: sources complete and sources awaited make up those that supply it (R254). -/
def State.chunkCheck (s : State) (ch : Chunk) : List Identity :=
  match s.entryOf ch.key with
  | none => []
  | some e =>
    if e.fam ≠ 0 ∨ ch.stage = .hold then []
    else
      let y := s.line e.line
      let sup := e.suppliers y ch.key.idx
      let got := y.sources.filter fun j => sup.contains j || ch.arrived.any fun a => a.1 == j
      [⟨7, e.line, got.length, sup.length, dom 4 e.line⟩]

/-- Check 8 of a physical coach: free arrival record cells and those of its chunks make up 65,536. -/
def State.recordCheck (s : State) (n p : Nat) : Identity :=
  let used := match s.logicalOf (64 * n + p) with
    | some l => ((s.coll.chunks.filter fun c => c.coach = logicalNo n l).map (·.recCells)).sum
    | none => 0
  ⟨8, 64 * n + p, s.get (F.COACH_RED_STATE_RECORD_FREE n p) + used, 65536, dom 2 (64 * n + p)⟩

/-- Check 10: free and held tokens make up TOTAL, and TOTAL is BUDGET outside a reallocation (R464). -/
def State.tokenChecks (s : State) : List Identity :=
  let total := s.get F.POWER_TOTAL_TOKENS
  let held := ((List.range 34).map s.tokens).sum
  [⟨10, 0, s.get F.POWER_FREE_TOKENS + held, total, dom 0 0⟩] ++
    (if s.flag F.POWER_STATE_REALLOC then [] else [⟨10, 0, total, s.budget, dom 0 0⟩])

/-- Every identity of the audit, in the order of its check. -/
def State.identities (s : State) : List Identity :=
  let al := s.rd (A.POOL_ALLOCATED 0)
  [⟨1, 0, s.rd (A.POOL_FREE 0) + al, 786432, dom 0 0⟩, ⟨2, 0, al, accountSum 289 s.held, dom 0 0⟩] ++
    (match s.accountCheck with
      | some i => [i]
      | none => [⟨3, 0, accountSum 256 s.held, s.rd (A.POOL_USED 0 0), dom 0 0⟩]) ++
    [⟨4, 0, accountSum 289 s.commit + s.get F.SWITCH_UNCOMMITTED_CELLS, 786432, dom 0 0⟩] ++
    (((List.range 1057).filter fun k => k ≠ 0 && poolOk k).flatMap s.poolChecks) ++
    [⟨6, 0, (s.sw.pkts.map fun b => b.refs * b.payCells.length).sum,
      (s.sw.pkts.map fun b => s.liveCopies b * b.payCells.length).sum, dom 0 0⟩] ++
    s.coll.chunks.flatMap s.chunkCheck ++
    ((List.range 16).flatMap fun n => (List.range 33).map fun p => s.recordCheck n p) ++
    [⟨9, 0, s.get F.STATION_ACT_FREE_BLOCKS + s.stn.arena.length, s.stn.blocks, dom 0 0⟩] ++ s.tokenChecks

/-- An identity fails (R178): CONSERVATION with its values, the capture, AUDIT_FAILS. -/
def State.auditFail (s : State) (i : Identity) : State :=
  let s1 := s.capture F.SWITCH_AUDIT_CHECK_VALID fun t =>
    (((t.put F.SWITCH_AUDIT_CHECK_CHECK i.check).put F.SWITCH_AUDIT_CHECK_INDEX i.index).wr A.SWITCH_AUDIT_LEFT i.left).wr
      A.SWITCH_AUDIT_RIGHT i.right
  (s1.bump A.SWITCH_AUDIT_FAILS 1).raiseAs .SWITCH 0 0 (2 ^ K.SWITCH_CONSERVATION) i.domain
    [i.check + 16 * i.index, i.left, i.right]

/-- CONSERVATION_AUDIT (R178): once per millisecond, in no STOP of the module (R19). -/
def execConservationAudit (s : State) : Host.Outcome State Fault Refusal :=
  s.finish true fun t =>
    let k : TKey := { kind := .audit, a := 0 }
    if t.elapsed k (ms 1) ∧ t.pow.mainRails ∧ t.sid.released ∧ t.fstate (dom 0 0) ≠ 3 then
      let t1 := (t.startTimer k).bump A.SWITCH_AUDITS 1
      (t.identities.filter fun i => i.left ≠ i.right).foldl (fun u i => u.auditFail i) t1
    else t

end Sys2Proof.Machine
end

