-- ==== Sys2Proof/Machine/Frames.lean ====
section
/-! DEFINITION. Frames received on the siding link: their checks, register requests and flash transfers (R484 to R489). -/

namespace Sys2Proof.Machine

/-- TYPE of a frame. -/
def frameType (f : List Byte) : Nat := numAt f 0 1

/-- ACK_REQ of a request frame. -/
def frameAckReq (f : List Byte) : Bool := bit (numAt f 1 1) 0

/-- COUNT of a frame. -/
def frameCount (f : List Byte) : Nat := numAt f 4 2

/-- TAG of a frame. -/
def frameTag (f : List Byte) : Nat := numAt f 6 2

/-- ADDR of a frame. -/
def frameAddr (f : List Byte) : Nat := numAt f 8 4

/-- Payload of a frame. -/
def framePayload (f : List Byte) : List Byte := slice f 12 (f.length - 16)

/-- The frame has its fixed bytes and a CRC that matches (R484). -/
def frameCrcOk (f : List Byte) : Bool :=
  decide (16 ≤ f.length) && numAt f (f.length - 4) 4 == crc32 (f.take (f.length - 4))

/-- A request frame of a TYPE the module takes, with COUNT and payload as the frame type table gives (R485, log 71). -/
def frameFormed (f : List Byte) : Bool :=
  let n := frameCount f
  let p := f.length - 16
  match frameType f with
  | 0x01 => decide (1 ≤ n ∧ n ≤ 64) && p == 0
  | 0x02 => decide (1 ≤ n ∧ n ≤ 64) && p == 4 * n
  | 0x10 => decide (16 ≤ n ∧ n ≤ 4096) && n % 16 == 0 && p == n
  | _ => false

/-- The frame carries the SEQ expected next (R485). -/
def State.frameNext (s : State) (f : List Byte) : Bool := numAt f 2 2 == s.sid.rxSeq

/-- The module accepts the frame (R485). -/
def State.frameGood (s : State) (f : List Byte) : Bool := s.sidUp && frameCrcOk f && s.frameNext f && frameFormed f

/-- A frame is accepted: it is counted and acknowledged in time (R485). -/
def State.acceptFrame (s : State) : State :=
  ({ s with sid := { s.sid with rxSeq := (s.sid.rxSeq + 1) % 4096, ackDue := true } } : State).bump A.SIDING_FRAMES_RX 1

/-- The reads of a REG_RD from word `i` on at address `a`: the words read, and the code and address of the first that failed. `late`
names the words whose target does not answer in time (R45). -/
def State.regReads (s : State) (late : List Nat) : Nat → Nat → Nat → List Nat × Option (Nat × Nat) × State
  | 0, _, _ => ([], none, s)
  | n + 1, i, a =>
    let r := if late.contains i then
        (let q := s.busLate .siding a 0 false false; (q.1, if q.1 = 0 then 0 else 0xFFFFFFFF, q.2))
      else s.busRead .siding a
    let k := State.regReads r.2.2 late n (i + 1) (a + 4)
    (r.2.1 :: k.1, (if r.1 = 0 then k.2.1 else some (r.1, a)), k.2.2)

/-- The writes of a REG_WR, and the code and address of the first that failed. `late` names the words whose target does not answer
in time, and whether their write took effect (R45). -/
def State.regWrites (s : State) (late : List (Nat × Bool)) : List Nat → Nat → Nat → Option (Nat × Nat) × State
  | [], _, _ => (none, s)
  | v :: l, i, a =>
    let r := match late.find? fun e => e.1 = i with
      | some e => s.busLate .siding a (BitVec.ofNat 32 v) true e.2
      | none => s.busWrite .siding a 32 (BitVec.ofNat 32 v)
    let k := State.regWrites r.2 late l (i + 1) (a + 4)
    ((if r.1 = 0 then k.1 else some (r.1, a)), k.2)

/-- REG_RD (R45, R487): a frame, and its words whose target does not answer in time. -/
def execRegRd (inp : List Byte × List Nat) (s : State) : Host.Outcome State Fault Refusal :=
  s.finish true fun t =>
    let frame := inp.1
    if t.frameGood frame ∧ frameType frame = 0x01 then
      let a := frameAddr frame
      let r := t.acceptFrame.regReads inp.2 (frameCount frame) 0 a
      let e := r.2.1.getD (0, a)
      r.2.2.sendFrame (frameOf 0x03 e.1 (frameCount frame) (frameTag frame) e.2 (r.1.flatMap (toBytes 4)))
    else t

/-- REG_WR (R45, R487): a frame, and its words whose target does not answer in time, with what their writes did. -/
def execRegWr (inp : List Byte × List (Nat × Bool)) (s : State) : Host.Outcome State Fault Refusal :=
  s.finish true fun t =>
    let frame := inp.1
    if t.frameGood frame ∧ frameType frame = 0x02 then
      let a := frameAddr frame
      let p := framePayload frame
      let r := t.acceptFrame.regWrites inp.2 ((List.range (frameCount frame)).map fun i => numAt p (4 * i) 4) 0 a
      let e := r.1.getD (0, a)
      if frameAckReq frame then r.2.sendFrame (frameOf 0x04 e.1 0 (frameTag frame) e.2 []) else r.2
    else t

/-- Bytes staged of a flash region (R489). -/
def State.stagedBytes (s : State) (region : Nat) : Nat :=
  if region = 2 then 16 * s.get F.SIDING_MAN_STATE_STAGED else s.rd (A.CONSORT_STAGED_BYTES 0)

/-- Why a FLASH_WR is not taken, 0 where it is (R459, R488, R489, R495). -/
def State.flashRefusal (s : State) (region off n : Nat) : Nat :=
  let ready := s.sid.released || (s.sid.recovery && (region == 2 || s.sid.manifestOk))
  let staging := if region = 2 then s.manState == MS_STAGING else decide (region < 2) && s.bank region == BK_STAGING
  if !ready then E_NOT_READY
  else if !staging then 0x20
  else if region < 2 ∧ s.flag (F.CONSORT_BANK_STATE_PAUSED 0) then 0x22
  else if off ≠ s.stagedBytes region then 0x21
  else if (if region = 2 then 2 ^ 16 else 2 ^ 28) < off + n then 0x23
  else 0

/-- The bytes of a FLASH_WR reach flash (R489): region 2 is the manifest slot not in use. -/
def State.flashStage (s : State) (region off : Nat) (l : List Byte) : State :=
  if region = 2 then
    let t := s.flashWrite s.manOther off l
    ({ t with sid := { t.sid with manStage := some s.manOther } } : State).put F.SIDING_MAN_STATE_STAGED ((off + l.length) / 16)
  else (s.flashWrite region off l).wr (A.CONSORT_STAGED_BYTES 0) (off + l.length)

/-- FLASH_WR (R489): `flashErr` tells that the flash write failed. -/
def execFlashWr (frame : List Byte) (flashErr : Bool) (s : State) : Host.Outcome State Fault Refusal :=
  s.finish true fun t =>
    if t.frameGood frame ∧ frameType frame = 0x10 then
      let region := bits (frameAddr frame) 28 4
      let off := bits (frameAddr frame) 0 28
      let t0 := t.acceptFrame
      let r := t0.flashRefusal region off (frameCount frame)
      let t1 := if r = 0 ∧ ¬ flashErr then t0.flashStage region off (framePayload frame) else t0
      let code := if r = 0 ∧ flashErr then 0x24 else r
      t1.sendFrame (frameOf 0x11 code 0 (frameTag frame) (t1.stagedBytes region) [])
    else t

/-- BAD_FRAME (R485): a frame that the module does not accept. A SEQ ahead of the one expected is a gap; one behind it is a frame
received before (DEDUCED, log 71). -/
def execBadFrame (frame : List Byte) (s : State) : Host.Outcome State Fault Refusal :=
  s.finish true fun t =>
    if !t.sidUp || t.frameGood frame then t
    else
      let t1 := t.bump A.SIDING_BAD_FRAMES 1
      let ahead := decide ((numAt frame 2 2 + 4096 - t.sid.rxSeq) % 4096 < 2048)
      if !frameCrcOk frame || (!t.frameNext frame && ahead) then t1.sendAck true
      else if !t.frameNext frame then { t1 with sid := { t1.sid with ackDue := true } }
      else { t1 with sid := { t1.sid with rxSeq := (t1.sid.rxSeq + 1) % 4096, ackDue := true } }

end Sys2Proof.Machine
end

