-- ==== Sys2Proof/Machine/Machines.lean ====
section
/-! DEFINITION. The state machines behind the ENABLE fields: DOWN, STARTING, UP and DRAINING of ports, lanes, dies,
sections, lines, stations, windows and stacks, with their refusals and drain limits (R38 to R41, R525). -/

namespace Sys2Proof.Machine

/-- The part holds the machine: not on an empty die slot, no absent stack (R5, R25). -/
def State.machHere (s : State) (u : Mach) : Bool :=
  u.ok && (match u with
    | .lane l => s.laneOk l
    | .die d => slotType s.asm d != 0
    | .stack n => decide (n < stackCount s.asm)
    | _ => true)

/-- A start-up is refused because of the settings (R525). -/
def State.refuseStart (s : State) (u : Mach) : State :=
  ({ s with refused := s.refused ++ [u] } : State).setMach u DOWN

/-- The remap table of a section names 32 distinct coaches, none of them FENCED or STOP (R306). A section with two failed coaches
has no such table without a failed one, and does not start (R302; DESIGN CHOICE, log 69: refused like a table that R306
refuses). -/
def State.remapValid (s : State) (n : Nat) : Bool :=
  let l := (List.range 32).map fun k => s.get (F.SECTION_REMAP_PHYS n k)
  !s.sid.lame.contains n && (l.all fun p => decide (p < 33) && s.fstate (dom 2 (64 * n + p)) == 0) &&
    (List.range 33).all fun p => decide ((l.filter fun q => q = p).length ≤ 1)

/-- A machine enters STARTING, or refuses to (R107, R108, R233, R234, R306, R525). A stack that its controller's reset has
initialised is not initialised again (R378; DEDUCED, log 121). -/
def State.starting (s : State) (u : Mach) : State :=
  match u with
  | .port p => s.portStarting p
  | .line g =>
    let y := s.readLine g
    if y.valid then (s.setLine g y).setMach u STARTING
    else ((s.refuseStart u).causeLine g).lineRaise g K.COLL_GROUP_INVALID
  | .sect n =>
    if s.remapValid n then (s.setMach u STARTING).wake n
    else (s.refuseStart u).raise .SECTION n 0 K.SECTION_REMAP_INVALID
  | _ => s.setMach u STARTING

/-- A machine runs from its die's own PLL; or, a stack, from the core PLL, which its initialisation starts (R474). -/
def ownClock : Mach → Bool
  | .lane _ | .die _ | .stack _ => true
  | _ => false

/-- A machine may leave DOWN: reset and boot are over, its region has its clock, no domain above it is fenced, and its die or test
mode lets it start, and a station port's flush has ended (R38, R115, R120, R172, R474). -/
def State.mayStart (s : State) (u : Mach) : Bool :=
  s.pow.mainRails && s.sid.released && !s.fenced (s.machDom u) && (ownClock u || s.flag F.TOP_STATE_CORE_PLL_LOCK) && (match u with
    | .lane l => s.mach (.die (l / 128)) == UP && !s.testOn l
    | .port p => s.mach (.die (s.layoutReg p).die) != DRAINING
    | .sect n => !s.flushBusy (256 + 2 * n) && !s.flushBusy (257 + 2 * n)
    | _ => true)

/-- DOWN_TIME_ELAPSED (R38, R39, R525). -/
def execDownTimeElapsed (u : Mach) (s : State) : Host.Outcome State Fault Refusal :=
  s.finish (s.machHere u) fun t =>
    if t.mach u = DOWN ∧ t.enabled u ∧ ¬ t.refused.contains u ∧ t.elapsed (u.key .down) (us 1) ∧ t.mayStart u then
      t.starting u
    else t

/-- The start-up sequence has run to its end: a port holds its lanes, a lane runs, a stack is initialised. -/
def State.started (s : State) (u : Mach) : Bool :=
  match u with
  | .port p => !(s.port p).conflict
  | .lane l => s.phase l == P_RUN
  | .stack n => s.stackReady n
  | _ => true

/-- The die of a port's layout drains (R120). -/
def State.dieLeaves (s : State) (u : Mach) : Bool :=
  match u with
  | .port p => (match (s.port p).layout with | some y => s.mach (.die y.die) == DRAINING | none => false)
  | _ => false

/-- STARTUP_COMPLETE (R38, R40, R120). -/
def execStartupComplete (u : Mach) (s : State) : Host.Outcome State Fault Refusal :=
  s.finish (s.machHere u) fun t =>
    if t.mach u ≠ STARTING ∨ ¬ t.started u then t
    else
      let t1 := match u with
        | .die d => t.dieStarted d
        | _ => t
      let t2 := if t1.enabled u ∧ ¬ t1.dieLeaves u then t1.setMach u UP else (t1.setMach u UP).startDrain u
      match u with
      | .sect n => t2.showCoaches n
      | .port p => t2.reTopo p
      | _ => t2

/-- A drain ends where the held work has finished (R115, R118, R120, R266, R320, R376, R398). A drained stack is in self-refresh
with its controller's clock stopped, and its next start-up initialises it (R378, R474). -/
def State.drained (s : State) (u : Mach) : State :=
  match u with
  | .port p => s.portDrained p
  | .lane l => s.laneDrained l
  | .die d => s.dieDrained d
  | .sect n =>
    if (List.range 33).all fun p =>
        (s.coach (64 * n + p)).queues.isEmpty && (s.coach (64 * n + p)).running.isEmpty then
      ((s.setMach u DOWN).flushStation n).showCoaches n
    else s
  | .line g => if (s.lineEntries g).isEmpty then s.setMach u DOWN else s
  | .station n => if s.stationEntries n = 0 then s.setMach u DOWN else s
  | .window w =>
    if (s.mem.pendingAcks.any fun x => x.win == w) || (s.mem.fenceWaits.any fun x => x.win == w) then s
    else s.setMach u DOWN
  | .stack n =>
    if s.flag (F.HBM_REPAIR_STATE_BUSY n) then s
    else ((s.setMach u DOWN).setInit n 0).put (F.HBM_STATE_TRAINED n) 0

/-- DRAIN_COMPLETE (R38, R39). -/
def execDrainComplete (u : Mach) (s : State) : Host.Outcome State Fault Refusal :=
  s.finish (s.machHere u) fun t => if t.mach u = DRAINING then t.drained u else t

/-- Drain limit of a machine in slow cycles (R41, R115, R118, R120, R320, R376, R398; 14_memory.md, HBM fields). -/
def drainLimit : Mach → Nat
  | .port _ => us 10
  | .lane _ => us 20
  | .die _ => us 50
  | .sect _ => us 100
  | .line _ => us 20
  | .station _ => us 200
  | .window _ => us 20
  | .stack _ => us 100

/-- DRAIN_TIMEOUT of a machine's block, whose domain is treated as hung. A window's page has no such cause, and so the SOURCE that
LAST_MODULE_RESET then shows is a free value (R41, R398; log 73). -/
def State.drainHang (s : State) (u : Mach) : State :=
  match u with
  | .port p => s.raiseHang .PORT p 0 K.PORT_DRAIN_TIMEOUT (s.machDom u)
  | .lane l => s.raiseHang .LANE (l / 128) (l % 128) K.LANE_DRAIN_TIMEOUT (s.machDom u)
  | .die d => s.raiseHang .DIE d 0 K.DIE_DRAIN_TIMEOUT (s.machDom u)
  | .sect n => s.raiseHang .SECTION n 0 K.SECTION_DRAIN_TIMEOUT (s.machDom u)
  | .line g => s.raiseHang .COLL g 0 K.COLL_DRAIN_TIMEOUT (s.machDom u)
  | .station n => s.raiseHang .STATION n 0 K.STATION_DRAIN_TIMEOUT (s.machDom u)
  | .window _ => let r := s.fresh; r.2.reportHang (r.1 % 512) (s.machDom u) false
  | .stack n => s.raiseHang .HBM n 0 K.HBM_DRAIN_TIMEOUT (s.machDom u)

/-- DRAIN_TIMEOUT (R41, R436). -/
def execDrainTimeout (u : Mach) (s : State) : Host.Outcome State Fault Refusal :=
  s.finish (s.machHere u) fun t =>
    if t.mach u = DRAINING ∧ t.due (u.key .drain) (drainLimit u + 1) then (t.drainHang u).stopTimer (u.key .drain) else t

end Sys2Proof.Machine
end

