-- ==== Sys2Proof/Machine/Writes.lean ====
section
/-! DEFINITION. The commands that are register writes (02_registers.md, and the chapters of the registers written). -/

namespace Sys2Proof.Machine

/-- A register-bus write as a whole command. -/
def State.put32 (s : State) (m : Master) (ok : Bool) (a v : Nat) : Host.Outcome State Fault Refusal :=
  s.finish ok fun t => t.busCmd m a v

/-! ## By access type (R29 to R37, R45, R525) -/

/-- REGISTER_WRITE (R23, R36). -/
def execRegisterWrite (m : Master) (addr width : Nat) (v : Word) (s : State) : Host.Outcome State Fault Refusal :=
  s.finish true fun t => if t.pow.hotSwap then (t.busWrite m addr width v).2 else t

/-- RESP_TIMEOUT (R45): an access that reached its target is not completed; a timed-out write took effect where `applied`. An access of a siding frame ends so in
REG_RD and REG_WR, which send its completion. -/
def execRespTimeout (m : Master) (addr : Nat) (write applied : Bool) (v : Word) (s : State) :
    Host.Outcome State Fault Refusal :=
  s.finish true fun t =>
    if t.pow.hotSwap then (t.busLate m addr v write applied).2 else t

/-- W1C_WRITE (R29 to R31): `events` are the bits that events set on the edge of the write, and the line, section, die or
domain that they are of where the page is shared (R412). -/
def execW1cWrite (m : Master) (addr : Nat) (v : Word) (events : Word × Nat) (s : State) : Host.Outcome State Fault Refusal :=
  s.finish true fun t => if t.pow.hotSwap then (t.busWrite m addr 32 v (events.1.toNat, events.2)).2 else t

/-- SQC_WRITE (R32). -/
def execSqcWrite (m : Master) (addr : Nat) (v : Word) (s : State) : Host.Outcome State Fault Refusal :=
  s.put32 m true addr v.toNat

/-- RWV_WRITE (R29, R34). -/
def execRwvWrite (m : Master) (addr : Nat) (v : Word) (s : State) : Host.Outcome State Fault Refusal :=
  s.put32 m true addr v.toNat

/-- RWV_SCRUB (R34, R35): once per millisecond every RWV word is read, and unequal copies are repaired. -/
def execRwvScrub (s : State) : Host.Outcome State Fault Refusal :=
  s.finish true fun t =>
    let k : TKey := { kind := .scrub, a := 16 }
    if t.elapsed k (ms 1) then t.rwvAddrs.foldl (fun u a => u.repairVote a) (t.startTimer k) else t

/-- TABLE_ENTRY_LOWER_WRITE (R37). -/
def execTableEntryLowerWrite (m : Master) (addr : Nat) (v : Word) (s : State) : Host.Outcome State Fault Refusal :=
  s.put32 m true addr v.toNat

/-- TABLE_ENTRY_COMMIT (R37). -/
def execTableEntryCommit (m : Master) (addr : Nat) (v : Word) (s : State) : Host.Outcome State Fault Refusal :=
  s.put32 m true addr v.toNat

/-- ENABLE_WRITE (R38 to R40, R525). -/
def execEnableWrite (m : Master) (addr : Nat) (v : Word) (s : State) : Host.Outcome State Fault Refusal :=
  s.put32 m true addr v.toNat

/-! ## Lanes, switch, shaping, time, topology -/

/-- EYE_START (R105). -/
def execEyeStart (m : Master) (l : Nat) (s : State) : Host.Outcome State Fault Refusal :=
  s.put32 m (decide (l < 1024)) (A.LANE_EYE_CMD l) 1

/-- EYE_ABORT (R105). -/
def execEyeAbort (m : Master) (l : Nat) (s : State) : Host.Outcome State Fault Refusal :=
  s.put32 m (decide (l < 1024)) (A.LANE_EYE_CMD l) 2

/-- LIMIT_WRITE (R161, R162). -/
def execLimitWrite (m : Master) (p c : Nat) (v : Word) (s : State) : Host.Outcome State Fault Refusal :=
  s.put32 m (decide (p < 289) && decide (c < 6)) (A.SWITCH_LIMIT p c) v.toNat

/-- QUOTA_WRITE (R176). -/
def execQuotaWrite (m : Master) (k r : Nat) (v : Word) (s : State) : Host.Outcome State Fault Refusal :=
  s.put32 m (poolOk k && decide (r < 4)) (A.POOL_QUOTA k r) v.toNat

/-- BUCKET_ENABLE (R200): RATE is written with EN 1. -/
def execBucketEnable (m : Master) (p c : Nat) (v : Word) (s : State) : Host.Outcome State Fault Refusal :=
  s.put32 m (decide (p < 256) && decide (c < 6)) (A.SHAPE_RATE p c) (setBits v.toNat 31 1 1)

/-- LATCH (R202). -/
def execTimeLatch (m : Master) (s : State) : Host.Outcome State Fault Refusal := s.put32 m true A.TIME_CMD 1

/-- SET (R206). -/
def execTimeSet (m : Master) (s : State) : Host.Outcome State Fault Refusal := s.put32 m true A.TIME_CMD 2

/-- RESTART (R205). -/
def execTimeRestart (m : Master) (s : State) : Host.Outcome State Fault Refusal := s.put32 m true A.TIME_CMD 4

/-- GATE_ENABLE (R209, R210). -/
def execGateEnable (m : Master) (p : Nat) (s : State) : Host.Outcome State Fault Refusal :=
  s.put32 m (decide (p < 256)) (A.SHAPE_GATE_CTL p) 1

/-- SWAP_AT_WRITE (R211): both words, lowest first (R37). -/
def execSwapAtWrite (m : Master) (p lo hi : Nat) (s : State) : Host.Outcome State Fault Refusal :=
  s.finish (decide (p < 256)) fun t => (t.busCmd m (A.SHAPE_SWAP_AT p) lo).busCmd m (A.SHAPE_SWAP_AT p + 4) hi

/-- PLAN_COMMIT (R215, R217): PLAN_CTL is written. -/
def execPlanCommit (m : Master) (p : Nat) (v : Word) (s : State) : Host.Outcome State Fault Refusal :=
  s.put32 m (decide (p < 256)) (A.PORT_PLAN p + 12) v.toNat

/-- MODULE_NUM_WRITE (R217, R221). -/
def execModuleNumWrite (m : Master) (v : Word) (s : State) : Host.Outcome State Fault Refusal :=
  s.put32 m true A.TOP_MODULE_NUM v.toNat

/-! ## Coaches, sections, memory -/

/-- RUN_SUBMIT (R308): word 11 of the page of physical coach `p` of section `n` is written. -/
def execRunSubmit (m : Master) (n p : Nat) (v : Word) (s : State) : Host.Outcome State Fault Refusal :=
  s.put32 m (coachOk n p) (A.COACH_RUN_SUBMIT n p + 44) v.toNat

/-- SUBST (R305). -/
def execSubst (m : Master) (n logical : Nat) (s : State) : Host.Outcome State Fault Refusal :=
  s.put32 m (decide (n < 16) && decide (logical < 32)) (A.SECTION_CMD n) (logical + 2 ^ 8)

/-- RETURN (R307). -/
def execReturnCoach (m : Master) (n logical phys : Nat) (s : State) : Host.Outcome State Fault Refusal :=
  s.put32 m (decide (n < 16) && decide (logical < 32) && decide (phys < 32)) (A.SECTION_CMD n)
    (logical + 2 ^ 9 + phys * 2 ^ 16)

/-- REMAP_WRITE (R306). -/
def execRemapWrite (m : Master) (n l : Nat) (v : Word) (s : State) : Host.Outcome State Fault Refusal :=
  s.put32 m (decide (n < 16) && decide (l < 32)) (A.SECTION_REMAP n l) v.toNat

/-- SPACE_LAYOUT_WRITE (R387): SPACE_BASE and then SPACE_SIZE of a space. -/
def execSpaceLayoutWrite (m : Master) (i base size : Nat) (s : State) : Host.Outcome State Fault Refusal :=
  s.finish (decide (i < 5)) fun t =>
    (t.busCmd m (A.WINDOW_SPACE_BASE i) base).busCmd m (A.WINDOW_SPACE_SIZE i) size

/-- START of HBM.REPAIR_CMD (R384): `row` lists the granules of the row that REPAIR_ADDR names. -/
def execStartRepair (m : Master) (n : Nat) (flips : List (Nat × Nat × Nat)) (s : State) : Host.Outcome State Fault Refusal :=
  s.finish (decide (n < 8)) fun t =>
    if !t.pow.hotSwap then t
    else
      match t.busCheck m (A.HBM_REPAIR_CMD n) 32 1 true with
      | .error k => t.busError m (A.HBM_REPAIR_CMD n) true k
      | .absorbed => t.countAccess (masterCode m)
      | .target _ => (t.countAccess (masterCode m)).repairStart n flips

/-! ## Faults, resets -/

/-- RING_RD_WRITE (R420). -/
def execRingRdWrite (m : Master) (v : Word) (s : State) : Host.Outcome State Fault Refusal :=
  s.put32 m true A.FAULT_RING_RD v.toNat

/-- SRC_CFG_WRITE (R415, R417). -/
def execSrcCfgWrite (m : Master) (n : Nat) (v : Word) (s : State) : Host.Outcome State Fault Refusal :=
  s.put32 m (decide (n < 512)) (A.FAULT_SRC_CFG n) v.toNat

/-- RELEASE (R427). -/
def execRelease (m : Master) (domain : Nat) (s : State) : Host.Outcome State Fault Refusal :=
  s.put32 m (decide (domain < 2 ^ 18)) A.FAULT_CMD (domain + 2 ^ 31)

/-- KICK (R436). -/
def execKick (m : Master) (v : Word) (s : State) : Host.Outcome State Fault Refusal :=
  s.put32 m true A.RESET_KICK v.toNat

/-- RESET.CMD with OP RESET (R439). -/
def execResetCmd (m : Master) (domain : Nat) (s : State) : Host.Outcome State Fault Refusal :=
  s.put32 m (decide (domain < 2 ^ 18)) A.RESET_CMD (domain + 2 ^ 20)

/-- RESET.CMD with OP MODULE_RESET (R440). -/
def execModuleReset (m : Master) (confirm domain : Nat) (s : State) : Host.Outcome State Fault Refusal :=
  s.put32 m (decide (confirm < 256) && decide (domain < 2 ^ 18)) A.RESET_CMD (domain + 2 * 2 ^ 20 + confirm * 2 ^ 24)

/-! ## Consort -/

/-- BEGIN of IMG_CMD (R451). -/
def execBeginImage (m : Master) (bank : Nat) (s : State) : Host.Outcome State Fault Refusal :=
  s.put32 m (decide (bank < 2)) (A.CONSORT_IMG_CMD 0) (1 + 16 * bank)

/-- END of IMG_CMD (R451). -/
def execEndImage (m : Master) (bank : Nat) (s : State) : Host.Outcome State Fault Refusal :=
  s.put32 m (decide (bank < 2)) (A.CONSORT_IMG_CMD 0) (2 + 16 * bank)

/-- ABORT of IMG_CMD (R451, R459). -/
def execAbortImage (m : Master) (bank : Nat) (s : State) : Host.Outcome State Fault Refusal :=
  s.put32 m (decide (bank < 2)) (A.CONSORT_IMG_CMD 0) (3 + 16 * bank)

/-- RESUME of IMG_CMD (R459). -/
def execResumeImage (m : Master) (bank : Nat) (s : State) : Host.Outcome State Fault Refusal :=
  s.put32 m (decide (bank < 2)) (A.CONSORT_IMG_CMD 0) (4 + 16 * bank)

/-- BOOT_BANK of IMG_CMD (R451). -/
def execBootBank (m : Master) (bank : Nat) (s : State) : Host.Outcome State Fault Refusal :=
  s.put32 m (decide (bank < 2)) (A.CONSORT_IMG_CMD 0) (5 + 16 * bank)

/-- ACTIVATE of ACT_CMD (R452). -/
def execActivateImage (m : Master) (p bank : Nat) (s : State) : Host.Outcome State Fault Refusal :=
  s.put32 m (decide (p < 8) && decide (bank < 2)) (A.CONSORT_ACT_CMD p) (1 + 16 * bank)

/-- CANCEL of ACT_CMD (R452). -/
def execCancelImage (m : Master) (p : Nat) (s : State) : Host.Outcome State Fault Refusal :=
  s.put32 m (decide (p < 8)) (A.CONSORT_ACT_CMD p) 2

/-- HEARTBEAT_WRITE (R458). -/
def execHeartbeatWrite (m : Master) (v : Word) (s : State) : Host.Outcome State Fault Refusal :=
  s.put32 m true (A.CONSORT_HEARTBEAT 0) v.toNat

/-- HEV_RD_WRITE (R460, R461). -/
def execHevRdWrite (m : Master) (v : Word) (s : State) : Host.Outcome State Fault Refusal :=
  s.put32 m true (A.CONSORT_HEV_RD 0) v.toNat

/-- BUDGET_WRITE (R468). -/
def execBudgetWrite (m : Master) (v : Word) (s : State) : Host.Outcome State Fault Refusal :=
  s.put32 m true A.POWER_BUDGET v.toNat

/-! ## Siding -/

/-- START of a siding lane's EYE_CMD (R491). -/
def execSidingEyeStart (m : Master) (n : Nat) (s : State) : Host.Outcome State Fault Refusal :=
  s.put32 m (decide (n < 8)) (A.SIDING_EYE_CMD n) 1

/-- ABORT of a siding lane's EYE_CMD (R491). -/
def execSidingEyeAbort (m : Master) (n : Nat) (s : State) : Host.Outcome State Fault Refusal :=
  s.put32 m (decide (n < 8)) (A.SIDING_EYE_CMD n) 2

/-- BEGIN of MAN_CMD (R496). -/
def execManBegin (m : Master) (s : State) : Host.Outcome State Fault Refusal := s.put32 m true A.SIDING_MAN_CMD 1

/-- END of MAN_CMD (R496). -/
def execManEnd (m : Master) (s : State) : Host.Outcome State Fault Refusal := s.put32 m true A.SIDING_MAN_CMD 2

/-- ABORT of MAN_CMD (R496). -/
def execManAbort (m : Master) (s : State) : Host.Outcome State Fault Refusal := s.put32 m true A.SIDING_MAN_CMD 3

/-- GO of ATTEST_CMD (R501). -/
def execGo (m : Master) (s : State) : Host.Outcome State Fault Refusal := s.put32 m true A.SIDING_ATTEST_CMD 1

end Sys2Proof.Machine
end

