-- ==== Sys2Proof/Machine/Dispatch.lean ====
section
/-! DEFINITION. One arm per command: the command's effect on everything but the queue. -/

namespace Sys2Proof.Machine

/-- What a command does. -/
def exec (i : Instr) (s : State) : Host.Outcome State Fault Refusal :=
  match i with
  | .registerWrite m addr width v => Sys2Proof.Machine.execRegisterWrite m addr width v s
  | .corePllLocked => Sys2Proof.Machine.execCorePllLocked s
  | .corePllStop => Sys2Proof.Machine.execCorePllStop s
  | .respTimeout m addr write applied v => Sys2Proof.Machine.execRespTimeout m addr write applied v s
  | .w1cWrite m addr v events => Sys2Proof.Machine.execW1cWrite m addr v events s
  | .sqcWrite m addr v => Sys2Proof.Machine.execSqcWrite m addr v s
  | .rwvWrite m addr v => Sys2Proof.Machine.execRwvWrite m addr v s
  | .rwvScrub => Sys2Proof.Machine.execRwvScrub s
  | .tableEntryLowerWrite m addr v => Sys2Proof.Machine.execTableEntryLowerWrite m addr v s
  | .tableEntryCommit m addr v => Sys2Proof.Machine.execTableEntryCommit m addr v s
  | .enableWrite m addr v => Sys2Proof.Machine.execEnableWrite m addr v s
  | .downTimeElapsed u => Sys2Proof.Machine.execDownTimeElapsed u s
  | .startupComplete u => Sys2Proof.Machine.execStartupComplete u s
  | .drainComplete u => Sys2Proof.Machine.execDrainComplete u s
  | .drainTimeout u => Sys2Proof.Machine.execDrainTimeout u s
  | .laneTrainStart l => Sys2Proof.Machine.execLaneTrainStart l s
  | .trainingFrameRx l marker ctrlSyms prbsSyms => Sys2Proof.Machine.execTrainingFrameRx l marker ctrlSyms prbsSyms s
  | .laneSignalDetect l => Sys2Proof.Machine.execLaneSignalDetect l s
  | .laneCdrLock l => Sys2Proof.Machine.execLaneCdrLock l s
  | .laneRxAdapted l snr => Sys2Proof.Machine.execLaneRxAdapted l snr s
  | .laneTxTuned l => Sys2Proof.Machine.execLaneTxTuned l s
  | .laneCwLock l => Sys2Proof.Machine.execLaneCwLock l s
  | .laneMarkerLock l logical check count skew => Sys2Proof.Machine.execLaneMarkerLock l logical check count skew s
  | .laneRun l => Sys2Proof.Machine.execLaneRun l s
  | .trainFail l => Sys2Proof.Machine.execTrainFail l s
  | .trainRestart l => Sys2Proof.Machine.execTrainRestart l s
  | .codewordRx l res unknown => Sys2Proof.Machine.execCodewordRx l res unknown s
  | .markerRx l logical check count ok0 ok1 => Sys2Proof.Machine.execMarkerRx l logical check count ok0 ok1 s
  | .fillerRx l => Sys2Proof.Machine.execFillerRx l s
  | .fillerTx p => Sys2Proof.Machine.execFillerTx p s
  | .markerTx p => Sys2Proof.Machine.execMarkerTx p s
  | .widthReq p mask ok0 ok1 => Sys2Proof.Machine.execWidthReq p mask ok0 ok1 s
  | .switch p mask units ok0 ok1 => Sys2Proof.Machine.execSwitch p mask units ok0 ok1 s
  | .laneReady p mask ok0 ok1 => Sys2Proof.Machine.execLaneReady p mask ok0 ok1 s
  | .coefReq l tap action ok0 ok1 => Sys2Proof.Machine.execCoefReq l tap action ok0 ok1 s
  | .coefAck l atLimit ok0 ok1 => Sys2Proof.Machine.execCoefAck l atLimit ok0 ok1 s
  | .goodbye p ok0 ok1 => Sys2Proof.Machine.execGoodbye p ok0 ok1 s
  | .adaptStep l tap action => Sys2Proof.Machine.execAdaptStep l tap action s
  | .adaptRevert l => Sys2Proof.Machine.execAdaptRevert l s
  | .eyeStart m l => Sys2Proof.Machine.execEyeStart m l s
  | .eyeAbort m l => Sys2Proof.Machine.execEyeAbort m l s
  | .eyePointDone l mismatches moved => Sys2Proof.Machine.execEyePointDone l mismatches moved s
  | .eyeHoldRelease l => Sys2Proof.Machine.execEyeHoldRelease l s
  | .layoutConflictClear p => Sys2Proof.Machine.execLayoutConflictClear p s
  | .linkUp p back => Sys2Proof.Machine.execLinkUp p back s
  | .laneFault l kind => Sys2Proof.Machine.execLaneFault l kind s
  | .laneWithdraw l => Sys2Proof.Machine.execLaneWithdraw l s
  | .linkDown p => Sys2Proof.Machine.execLinkDown p s
  | .packetHeaderRx p unit bad => Sys2Proof.Machine.execPacketHeaderRx p unit bad s
  | .packetRxComplete p payload bad => Sys2Proof.Machine.execPacketRxComplete p payload bad s
  | .linkUnitRx p unit bad => Sys2Proof.Machine.execLinkUnitRx p unit bad s
  | .linkUnitTx p => Sys2Proof.Machine.execLinkUnitTx p s
  | .packetTxStart p => Sys2Proof.Machine.execPacketTxStart p s
  | .packetReadOut o tc room => Sys2Proof.Machine.execPacketReadOut o tc room s
  | .limitWrite m p c v => Sys2Proof.Machine.execLimitWrite m p c v s
  | .limitRelease p c => Sys2Proof.Machine.execLimitRelease p c s
  | .limitPendingRaise p c => Sys2Proof.Machine.execLimitPendingRaise p c s
  | .multicastAdmit o offer => Sys2Proof.Machine.execMulticastAdmit o offer s
  | .mcBlocked o => Sys2Proof.Machine.execMcBlocked o s
  | .originatedSend o tc offer => Sys2Proof.Machine.execOriginatedSend o tc offer s
  | .stationTakeover o tc => Sys2Proof.Machine.execStationTakeover o tc s
  | .flushComplete p => Sys2Proof.Machine.execFlushComplete p s
  | .flushOverrun p => Sys2Proof.Machine.execFlushOverrun p s
  | .poolRequest k r n tag => Sys2Proof.Machine.execPoolRequest k r n tag s
  | .poolGrant k => Sys2Proof.Machine.execPoolGrant k s
  | .poolFree k e r => Sys2Proof.Machine.execPoolFree k e r s
  | .quotaWrite m k r v => Sys2Proof.Machine.execQuotaWrite m k r v s
  | .poolWalk k errs => Sys2Proof.Machine.execPoolWalk k errs s
  | .poolRelinkDone k sub => Sys2Proof.Machine.execPoolRelinkDone k sub s
  | .conservationAudit => Sys2Proof.Machine.execConservationAudit s
  | .pathRemoved p => Sys2Proof.Machine.execPathRemoved p s
  | .pathReturn p => Sys2Proof.Machine.execPathReturn p s
  | .bucketRefill => Sys2Proof.Machine.execBucketRefill s
  | .bucketEnable m p c v => Sys2Proof.Machine.execBucketEnable m p c v s
  | .timeSyncTx p => Sys2Proof.Machine.execTimeSyncTx p s
  | .timeSync => Sys2Proof.Machine.execTimeSync s
  | .timeReply => Sys2Proof.Machine.execTimeReply s
  | .timeExchangeMissed => Sys2Proof.Machine.execTimeExchangeMissed s
  | .timeParentLost => Sys2Proof.Machine.execTimeParentLost s
  | .ppsInEdge => Sys2Proof.Machine.execPpsInEdge s
  | .ppsMissing => Sys2Proof.Machine.execPpsMissing s
  | .ppsOutPulse => Sys2Proof.Machine.execPpsOutPulse s
  | .timeLatch m => Sys2Proof.Machine.execTimeLatch m s
  | .timeSet m => Sys2Proof.Machine.execTimeSet m s
  | .timeRestart m => Sys2Proof.Machine.execTimeRestart m s
  | .gateEnable m p => Sys2Proof.Machine.execGateEnable m p s
  | .swapAtWrite m p lo hi => Sys2Proof.Machine.execSwapAtWrite m p lo hi s
  | .gateSwap p => Sys2Proof.Machine.execGateSwap p s
  | .gateEntryAdvance p => Sys2Proof.Machine.execGateEntryAdvance p s
  | .planCommit m p v => Sys2Proof.Machine.execPlanCommit m p v s
  | .moduleNumWrite m v => Sys2Proof.Machine.execModuleNumWrite m v s
  | .helloTx p => Sys2Proof.Machine.execHelloTx p s
  | .hello => Sys2Proof.Machine.execHello s
  | .neighbourDead p => Sys2Proof.Machine.execNeighbourDead p s
  | .absentTimeout p => Sys2Proof.Machine.execAbsentTimeout p s
  | .ticket o => Sys2Proof.Machine.execTicket o s
  | .stationTicket o => Sys2Proof.Machine.execStationTicket o s
  | .entryActivate g => Sys2Proof.Machine.execEntryActivate g s
  | .chunkAdmit g step sub c => Sys2Proof.Machine.execChunkAdmit g step sub c s
  | .timetable o => Sys2Proof.Machine.execTimetable o s
  | .contribution o => Sys2Proof.Machine.execContribution o s
  | .platformRelease o => Sys2Proof.Machine.execPlatformRelease o s
  | .platformExpiry g step sub fam c => Sys2Proof.Machine.execPlatformExpiry g step sub fam c s
  | .contributionAdd L => Sys2Proof.Machine.execContributionAdd L s
  | .stagingScan g step sub c => Sys2Proof.Machine.execStagingScan g step sub c s
  | .chunkSendUp g step sub c => Sys2Proof.Machine.execChunkSendUp g step sub c s
  | .chunkRound g step sub c => Sys2Proof.Machine.execChunkRound g step sub c s
  | .updateApply g step sub c => Sys2Proof.Machine.execUpdateApply g step sub c s
  | .precondReady g step sub c => Sys2Proof.Machine.execPrecondReady g step sub c s
  | .resultEmit g step sub c poison => Sys2Proof.Machine.execResultEmit g step sub c poison s
  | .result o => Sys2Proof.Machine.execResult o s
  | .resultAck o => Sys2Proof.Machine.execResultAck o s
  | .resultReq o => Sys2Proof.Machine.execResultReq o s
  | .resultResendTimer g step sub c => Sys2Proof.Machine.execResultResendTimer g step sub c s
  | .done o => Sys2Proof.Machine.execDone o s
  | .abortUp o => Sys2Proof.Machine.execAbortUp o s
  | .resendReq o => Sys2Proof.Machine.execResendReq o s
  | .resendTimer g step sub fam => Sys2Proof.Machine.execResendTimer g step sub fam s
  | .chunkTimerExpiry g step sub fam => Sys2Proof.Machine.execChunkTimerExpiry g step sub fam s
  | .lineHang g => Sys2Proof.Machine.execLineHang g s
  | .endedMemoryExpiry g => Sys2Proof.Machine.execEndedMemoryExpiry g s
  | .withdraw o => Sys2Proof.Machine.execWithdraw o s
  | .storeScrub n p met => Sys2Proof.Machine.execStoreScrub n p met s
  | .sliverScrub n p flips moved => Sys2Proof.Machine.execSliverScrub n p flips moved s
  | .runSubmit m n p v => Sys2Proof.Machine.execRunSubmit m n p v s
  | .runStart n p => Sys2Proof.Machine.execRunStart n p s
  | .descriptorIssue n p run throttled => Sys2Proof.Machine.execDescriptorIssue n p run throttled s
  | .runComplete n p run => Sys2Proof.Machine.execRunComplete n p run s
  | .seqHang coach run => Sys2Proof.Machine.execSeqHang coach run s
  | .subst m n logical => Sys2Proof.Machine.execSubst m n logical s
  | .returnCoach m n logical phys => Sys2Proof.Machine.execReturnCoach m n logical phys s
  | .substRemap n => Sys2Proof.Machine.execSubstRemap n s
  | .returnRemap n => Sys2Proof.Machine.execReturnRemap n s
  | .substTimeout n => Sys2Proof.Machine.execSubstTimeout n s
  | .remapWrite m n l v => Sys2Proof.Machine.execRemapWrite m n l v s
  | .sectionClockGate n => Sys2Proof.Machine.execSectionClockGate n s
  | .sectionWake n => Sys2Proof.Machine.execSectionWake n s
  | .shardCommit tensor => Sys2Proof.Machine.execShardCommit tensor s
  | .refreshComplete tensor tile bank => Sys2Proof.Machine.execRefreshComplete tensor tile bank s
  | .localUpdate tensor => Sys2Proof.Machine.execLocalUpdate tensor s
  | .arenaGrant g => Sys2Proof.Machine.execArenaGrant g s
  | .token o => Sys2Proof.Machine.execToken o s
  | .tileCompute g step sub op k tile coach runs core => Sys2Proof.Machine.execTileCompute g step sub op k tile coach runs core s
  | .tokenCombine g step sub op member tok => Sys2Proof.Machine.execTokenCombine g step sub op member tok s
  | .returnAck o => Sys2Proof.Machine.execReturnAck o s
  | .returnResendTimer g step sub op => Sys2Proof.Machine.execReturnResendTimer g step sub op s
  | .stationChunkEnd g step sub op => Sys2Proof.Machine.execStationChunkEnd g step sub op s
  | .weightRebuild x => Sys2Proof.Machine.execWeightRebuild x s
  | .actExpired g step sub => Sys2Proof.Machine.execActExpired g step sub s
  | .read o => Sys2Proof.Machine.execRead o s
  | .write o => Sys2Proof.Machine.execWrite o s
  | .fetchAdd o => Sys2Proof.Machine.execFetchAdd o s
  | .cas o => Sys2Proof.Machine.execCas o s
  | .fence o => Sys2Proof.Machine.execFence o s
  | .fenceTimeout src tag => Sys2Proof.Machine.execFenceTimeout src tag s
  | .fenceEntryIdle src epoch => Sys2Proof.Machine.execFenceEntryIdle src epoch s
  | .stackWriteAck id => Sys2Proof.Machine.execStackWriteAck id s
  | .spaceLayoutWrite m space base size => Sys2Proof.Machine.execSpaceLayoutWrite m space base size s
  | .patrolScrub n g data check race => Sys2Proof.Machine.execPatrolScrub n g data check race s
  | .refresh n pc bank waits => Sys2Proof.Machine.execRefresh n pc bank waits s
  | .startRepair m n flips => Sys2Proof.Machine.execStartRepair m n flips s
  | .repairPprDone n left exhausted => Sys2Proof.Machine.execRepairPprDone n left exhausted s
  | .repairDone n => Sys2Proof.Machine.execRepairDone n s
  | .stackInitStep n k ok left => Sys2Proof.Machine.execStackInitStep n k ok left s
  | .faultEvent ext => Sys2Proof.Machine.execFaultEvent ext s
  | .collectorTake => Sys2Proof.Machine.execCollectorTake s
  | .ringRdWrite m v => Sys2Proof.Machine.execRingRdWrite m v s
  | .domainResetComplete d => Sys2Proof.Machine.execDomainResetComplete d s
  | .quietPeriodEnd d => Sys2Proof.Machine.execQuietPeriodEnd d s
  | .recoveryWindowClose d => Sys2Proof.Machine.execRecoveryWindowClose d s
  | .release m domain => Sys2Proof.Machine.execRelease m domain s
  | .deadlineMiss d => Sys2Proof.Machine.execDeadlineMiss d s
  | .procHang p => Sys2Proof.Machine.execProcHang p s
  | .kick m v => Sys2Proof.Machine.execKick m v s
  | .resetCmd m domain => Sys2Proof.Machine.execResetCmd m domain s
  | .moduleReset m confirm domain => Sys2Proof.Machine.execModuleReset m confirm domain s
  | .moduleResetStart modEnFalls resetNFalls contain command escalation => Sys2Proof.Machine.execModuleResetStart modEnFalls resetNFalls contain command escalation s
  | .bootStep inp => Sys2Proof.Machine.execBootStep inp s
  | .registerBusRelease => Sys2Proof.Machine.execRegisterBusRelease s
  | .moduleReady => Sys2Proof.Machine.execModuleReady s
  | .beginImage m bank => Sys2Proof.Machine.execBeginImage m bank s
  | .endImage m bank => Sys2Proof.Machine.execEndImage m bank s
  | .abortImage m bank => Sys2Proof.Machine.execAbortImage m bank s
  | .resumeImage m bank => Sys2Proof.Machine.execResumeImage m bank s
  | .bootBank m bank => Sys2Proof.Machine.execBootBank m bank s
  | .imageVerifyDone b => Sys2Proof.Machine.execImageVerifyDone b s
  | .activateImage m p bank => Sys2Proof.Machine.execActivateImage m p bank s
  | .cancelImage m p => Sys2Proof.Machine.execCancelImage m p s
  | .emergencyHoldoffEnd p => Sys2Proof.Machine.execEmergencyHoldoffEnd p s
  | .safePoint p ready => Sys2Proof.Machine.execSafePoint p ready s
  | .imageStart p => Sys2Proof.Machine.execImageStart p s
  | .probationEnd p => Sys2Proof.Machine.execProbationEnd p s
  | .startLimitExpiry p => Sys2Proof.Machine.execStartLimitExpiry p s
  | .heartbeatWrite m v => Sys2Proof.Machine.execHeartbeatWrite m v s
  | .hostAbsent => Sys2Proof.Machine.execHostAbsent s
  | .hevRdWrite m v => Sys2Proof.Machine.execHevRdWrite m v s
  | .hostEventPush p kind data => Sys2Proof.Machine.execHostEventPush p kind data s
  | .logEntryWrite p point level args => Sys2Proof.Machine.execLogEntryWrite p point level args s
  | .epochBoundary => Sys2Proof.Machine.execEpochBoundary s
  | .tokenRequest r demand => Sys2Proof.Machine.execTokenRequest r demand s
  | .budgetWrite m v => Sys2Proof.Machine.execBudgetWrite m v s
  | .emergencyOnset k => Sys2Proof.Machine.execEmergencyOnset k s
  | .emergencyClear k => Sys2Proof.Machine.execEmergencyClear k s
  | .trip oc => Sys2Proof.Machine.execTrip oc s
  | .sensorRead junction dies hbms coolant vin iin powerDev energyDev => Sys2Proof.Machine.execSensorRead junction dies hbms coolant vin iin powerDev energyDev s
  | .sidingLinkUp inp => Sys2Proof.Machine.execSidingLinkUp inp s
  | .sidingLinkDown reason lanes => Sys2Proof.Machine.execSidingLinkDown reason lanes s
  | .sidingSkipTx => Sys2Proof.Machine.execSidingSkipTx s
  | .ack seq nak rxFree => Sys2Proof.Machine.execAck seq nak rxFree s
  | .sidingAckTimer => Sys2Proof.Machine.execSidingAckTimer s
  | .regRd inp => Sys2Proof.Machine.execRegRd inp s
  | .regWr inp => Sys2Proof.Machine.execRegWr inp s
  | .flashWr frame flashErr => Sys2Proof.Machine.execFlashWr frame flashErr s
  | .badFrame frame => Sys2Proof.Machine.execBadFrame frame s
  | .notify => Sys2Proof.Machine.execNotify s
  | .sidingEyeStart m n => Sys2Proof.Machine.execSidingEyeStart m n s
  | .sidingEyeAbort m n => Sys2Proof.Machine.execSidingEyeAbort m n s
  | .sidingEyeDone n mismatches => Sys2Proof.Machine.execSidingEyeDone n mismatches s
  | .manBegin m => Sys2Proof.Machine.execManBegin m s
  | .manEnd m => Sys2Proof.Machine.execManEnd m s
  | .manAbort m => Sys2Proof.Machine.execManAbort m s
  | .go m => Sys2Proof.Machine.execGo m s
  | .reportDone => Sys2Proof.Machine.execReportDone s
  | .hotSwapOn => Sys2Proof.Machine.execHotSwapOn s
  | .hotSwapOff => Sys2Proof.Machine.execHotSwapOff s
  | .modEnRise => Sys2Proof.Machine.execModEnRise s
  | .modEnFall => Sys2Proof.Machine.execModEnFall s
  | .resetNFall => Sys2Proof.Machine.execResetNFall s
  | .resetNRise slot => Sys2Proof.Machine.execResetNRise slot s
  | .mainRailsGood slot => Sys2Proof.Machine.execMainRailsGood slot s
  | .telemetryRead read => Sys2Proof.Machine.execTelemetryRead read s
  | .srcCfgWrite m n v => Sys2Proof.Machine.execSrcCfgWrite m n v s
  | .manifestVerifyDone => Sys2Proof.Machine.execManifestVerifyDone s
  | .gateBaseReached p => Sys2Proof.Machine.execGateBaseReached p s
  | .sidingLaneRealign n seen errs => Sys2Proof.Machine.execSidingLaneRealign n seen errs s

end Sys2Proof.Machine
end

