-- ==== Sys2Proof/Machine/Idle.lean ====
section
/-! DEFINITION. One slow cycle of 10 ns: what happens at a tick whatever is commanded (log 2). -/

namespace Sys2Proof.Machine

/-- Sections of the module. -/
def sectionNos : List Nat := List.range 16

/-- One slow cycle (R43, R169, R202 to R207, R320, R463; TOP, SECTION and POWER counters; log 2). -/
def State.slowCycle (s : State) : State :=
  if !s.pow.hotSwap then s
  else
    let s00 := s.bucketRefill.collectCycle
    let s0 : State := { s00 with clk := s00.clk + 1 }
    let s1 := (if s0.pow.released then s0.bump A.TOP_UPTIME 1 else s0).timeCycle
    let s2 := s1.put F.SWITCH_ORDER_PTR_PTR ((s1.get F.SWITCH_ORDER_PTR_PTR + 21) % 289)
    let s3 := if s2.flag F.POWER_STATE_THROTTLE then s2.bump A.POWER_THROTTLE_CYCLES 1 else s2
    let s4 := if s3.pow.released then
        sectionNos.foldl (fun t n => if t.awake n then t.idleTick n else t.bump (A.SECTION_GATED_CYCLES n) 1) s3
      else s3
    let s5 := if s4.flag F.TOP_STATE_CORE_PLL_LOCK ∧ s4.pllHeld then s4.startTimer { kind := .pll, a := 0 } else s4
    (s5.grantRequests.endRealloc.sampleInput.comparators).runCycle.watchEntries.sidCycle.reacted.drivePins

end Sys2Proof.Machine
end

