-- ==== Sys2Proof/WellFormed.lean ====
section
/-! DEFINITION. Well-formed commands: those whose operands name units that the part has (R2 to R6, R24) and lie in the
ranges of the fields they stand for. It is written from the ranges of the spec alone; `exec` tests its operands itself. -/

namespace Sys2Proof

open Sys2Proof.Machine

/-- A lane of a populated lane die (R3, R4, R24). -/
def laneIn (asm : Assembly) (l : Nat) : Bool := decide (l < 1024) && decide (slotType asm (l / 128) ≠ 0)

/-- A machine of the part (R24, R38). -/
def machIn (asm : Assembly) : Mach → Bool
  | .port p => decide (p < 256)
  | .lane l => laneIn asm l
  | .die d => decide (slotType asm d ≠ 0)
  | .sect n => decide (n < 16)
  | .line g => decide (g < 4096)
  | .station n => decide (n < 16)
  | .window w => decide (w < 256)
  | .stack n => decide (n < stackCount asm)

/-- A pool: the cell pool 0, the staging-slab pool 1, or the slot pool of coach p of section n, 64 + 64 n + p (R173). -/
def poolIn (k : Nat) : Bool := decide (k < 2 ∨ 64 ≤ k ∧ k < 1088 ∧ (k - 64) % 64 < 33)

/-- A reset domain of the part (R412, R430). -/
def domIn (asm : Assembly) (d : Nat) : Bool :=
  match domKind d with
  | 0 => decide (domInst d = 0)
  | 1 => decide (domInst d < 16)
  | 2 => decide (domInst d < 1024 ∧ domInst d % 64 ≤ 32)
  | 3 => decide (domInst d < 16384 ∧ domInst d / 16 % 64 ≤ 32)
  | 4 => decide (domInst d < 4096)
  | 5 => decide (slotType asm (domInst d) ≠ 0)
  | 6 => decide (slotType asm (domInst d / 128) ≠ 0)
  | 7 => decide (domInst d < stackCount asm)
  | 8 => decide (domInst d < 8)
  | _ => false

/-- The operands of a command name units of a part of this assembly and lie in range. -/
def Instr.wellFormed (asm : Assembly) : Instr → Bool
  | .registerWrite _ _ _ _ => true
  | .corePllLocked => true
  | .corePllStop => true
  | .respTimeout _ _ _ _ _ => true
  | .w1cWrite _ _ _ _ => true
  | .sqcWrite _ _ _ => true
  | .rwvWrite _ _ _ => true
  | .rwvScrub => true
  | .tableEntryLowerWrite _ _ _ => true
  | .tableEntryCommit _ _ _ => true
  | .enableWrite _ _ _ => true
  | .downTimeElapsed u => decide (machIn asm u)
  | .startupComplete u => decide (machIn asm u)
  | .drainComplete u => decide (machIn asm u)
  | .drainTimeout u => decide (machIn asm u)
  | .laneTrainStart l => decide (laneIn asm l)
  | .trainingFrameRx l marker ctrlSyms prbsSyms => laneIn asm l && marker.length == 64 && ctrlSyms.length == 64 &&
      prbsSyms.length == 896 && (marker ++ ctrlSyms ++ prbsSyms).all fun v => decide (v < 4)
  | .laneSignalDetect l => decide (laneIn asm l)
  | .laneCdrLock l => decide (laneIn asm l)
  | .laneRxAdapted l _ => decide (laneIn asm l)
  | .laneTxTuned l => decide (laneIn asm l)
  | .laneCwLock l => decide (laneIn asm l)
  | .laneMarkerLock l logical _ _ _ => decide (laneIn asm l ∧ logical < 16)
  | .laneRun l => decide (laneIn asm l)
  | .trainFail l => decide (laneIn asm l)
  | .trainRestart l => decide (laneIn asm l)
  | .codewordRx l res _ => decide (laneIn asm l ∧ res.1.getD 0 ≤ 15)
  | .markerRx l _ _ _ _ _ => decide (laneIn asm l)
  | .fillerRx l => decide (laneIn asm l)
  | .fillerTx p => decide (p < 256)
  | .markerTx p => decide (p < 256)
  | .widthReq p mask _ _ => decide (p < 256 ∧ mask < 65536)
  | .switch p mask _ _ _ => decide (p < 256 ∧ mask < 65536)
  | .laneReady p mask _ _ => decide (p < 256 ∧ mask < 65536)
  | .coefReq l tap action _ _ => decide (laneIn asm l ∧ tap < 8 ∧ action < 4)
  | .coefAck l _ _ _ => decide (laneIn asm l)
  | .goodbye p _ _ => decide (p < 256)
  | .adaptStep l tap action => decide (laneIn asm l ∧ tap < 4 ∧ 1 ≤ action ∧ action < 3)
  | .adaptRevert l => decide (laneIn asm l)
  | .eyeStart _ l => decide (l < 1024)
  | .eyeAbort _ l => decide (l < 1024)
  | .eyePointDone l _ _ => decide (laneIn asm l)
  | .eyeHoldRelease l => decide (laneIn asm l)
  | .layoutConflictClear p => decide (p < 256)
  | .linkUp p back => decide (p < 256 ∧ back < 65536)
  | .laneFault l kind => decide (laneIn asm l ∧ kind < 4)
  | .laneWithdraw l => decide (laneIn asm l)
  | .linkDown p => decide (p < 256)
  | .packetHeaderRx p unit _ => decide (p < 256 ∧ unit.length = 64)
  | .packetRxComplete p _ _ => decide (p < 256)
  | .linkUnitRx p unit _ => decide (p < 256 ∧ unit.length = 64)
  | .linkUnitTx p => decide (p < 256)
  | .packetTxStart p => decide (p < 256)
  | .packetReadOut o tc _ => decide (o < 289 ∧ tc < 6)
  | .limitWrite _ p c _ => decide (p < 289 ∧ c < 6)
  | .limitRelease p c => decide (p < 289 ∧ c < 6)
  | .limitPendingRaise p c => decide (p < 289 ∧ c < 6)
  | .multicastAdmit o offer => decide (256 ≤ o ∧ o ≤ 288 ∧ offer.all (fun f => decide (o = 288 ∧ f.1.length = 64 ∧ 1 ≤ f.2.2.length ∧ f.2.2.length ≤ 1024)) = true)
  | .mcBlocked o => decide (256 ≤ o ∧ o ≤ 288)
  | .originatedSend o tc offer => decide (256 ≤ o ∧ o ≤ 288 ∧ tc < 6 ∧ offer.all (fun f => decide (o = 288 ∧ f.1.length = 64 ∧ f.2.2 < 256)) = true)
  | .stationTakeover o tc => decide (256 ≤ o ∧ o < 288 ∧ tc < 6)
  | .flushComplete p => decide (p < 289)
  | .flushOverrun p => decide (p < 289)
  | .poolRequest k r _ _ => decide (poolIn k ∧ k ≠ 0 ∧ r < 4)
  | .poolGrant k => decide (poolIn k)
  | .poolFree k _ _ => decide (poolIn k)
  | .quotaWrite _ k r _ => decide (poolIn k ∧ r < 4)
  | .poolWalk k _ => decide (poolIn k)
  | .poolRelinkDone k _ => decide (poolIn k)
  | .conservationAudit => true
  | .pathRemoved p => decide (p < 256)
  | .pathReturn p => decide (p < 256)
  | .bucketRefill => true
  | .bucketEnable _ p c _ => decide (p < 256 ∧ c < 6)
  | .timeSyncTx p => decide (p < 256)
  | .timeSync => true
  | .timeReply => true
  | .timeExchangeMissed => true
  | .timeParentLost => true
  | .ppsInEdge => true
  | .ppsMissing => true
  | .ppsOutPulse => true
  | .timeLatch _ => true
  | .timeSet _ => true
  | .timeRestart _ => true
  | .gateEnable _ p => decide (p < 256)
  | .swapAtWrite _ p _ _ => decide (p < 256)
  | .gateSwap p => decide (p < 256)
  | .gateEntryAdvance p => decide (p < 256)
  | .planCommit _ p _ => decide (p < 256)
  | .moduleNumWrite _ _ => true
  | .helloTx p => decide (p < 256)
  | .hello => true
  | .neighbourDead p => decide (p < 256)
  | .absentTimeout p => decide (p < 256)
  | .ticket o => decide (256 ≤ o ∧ o ≤ 288)
  | .stationTicket o => decide (256 ≤ o ∧ o ≤ 288)
  | .entryActivate g => decide (g < 4096)
  | .chunkAdmit g _ _ _ => decide (g < 4096)
  | .timetable o => decide (256 ≤ o ∧ o ≤ 288)
  | .contribution o => decide (256 ≤ o ∧ o ≤ 288)
  | .platformRelease o => decide (256 ≤ o ∧ o ≤ 288)
  | .platformExpiry g _ _ _ _ => decide (g < 4096)
  | .contributionAdd L => decide (L < 512)
  | .stagingScan g _ _ _ => decide (g < 4096)
  | .chunkSendUp g _ _ _ => decide (g < 4096)
  | .chunkRound g _ _ _ => decide (g < 4096)
  | .updateApply g _ _ _ => decide (g < 4096)
  | .precondReady g _ _ _ => decide (g < 4096)
  | .resultEmit g _ _ _ _ => decide (g < 4096)
  | .result o => decide (256 ≤ o ∧ o ≤ 288)
  | .resultAck o => decide (256 ≤ o ∧ o ≤ 288)
  | .resultReq o => decide (256 ≤ o.1 ∧ o.1 ≤ 288)
  | .resultResendTimer g _ _ _ => decide (g < 4096)
  | .done o => decide (256 ≤ o ∧ o ≤ 288)
  | .abortUp o => decide (256 ≤ o ∧ o ≤ 288)
  | .resendReq o => decide (256 ≤ o ∧ o ≤ 288)
  | .resendTimer g _ _ _ => decide (g < 4096)
  | .chunkTimerExpiry g _ _ _ => decide (g < 4096)
  | .lineHang g => decide (g < 4096)
  | .endedMemoryExpiry g => decide (g < 4096)
  | .withdraw o => decide (256 ≤ o ∧ o ≤ 288)
  | .storeScrub n p _ => decide (n < 16 ∧ p < 33)
  | .sliverScrub n p _ _ => decide (n < 16 ∧ p < 33)
  | .runSubmit _ n p _ => decide (n < 16 ∧ p < 33)
  | .runStart n p => decide (n < 16 ∧ p < 33)
  | .descriptorIssue n p _ _ => decide (n < 16 ∧ p < 33)
  | .runComplete n p _ => decide (n < 16 ∧ p < 33)
  | .seqHang coach _ => decide (coach.1 < 16 ∧ coach.2 < 33)
  | .subst _ n logical => decide (n < 16 ∧ logical < 32)
  | .returnCoach _ n logical phys => decide (n < 16 ∧ logical < 32 ∧ phys < 32)
  | .substRemap n => decide (n < 16)
  | .returnRemap n => decide (n < 16)
  | .substTimeout n => decide (n < 16)
  | .remapWrite _ n l _ => decide (n < 16 ∧ l < 32)
  | .sectionClockGate n => decide (n < 16)
  | .sectionWake n => decide (n < 16)
  | .shardCommit tensor => decide (tensor < 4096)
  | .refreshComplete tensor _ _ => decide (tensor < 4096)
  | .localUpdate tensor => decide (tensor < 4096)
  | .arenaGrant g => decide (g < 4096)
  | .token o => decide (256 ≤ o ∧ o ≤ 288)
  | .tileCompute g _ _ _ _ _ coach runs core => decide (g < 4096 ∧ coach < 32 ∧ 1 ≤ runs ∧ core ≤ 16)
  | .tokenCombine g _ _ _ _ _ => decide (g < 4096)
  | .returnAck o => decide (256 ≤ o ∧ o ≤ 288)
  | .returnResendTimer g _ _ _ => decide (g < 4096)
  | .stationChunkEnd g _ _ _ => decide (g < 4096)
  | .weightRebuild x => decide (x < 1024)
  | .actExpired g _ _ => decide (g < 4096)
  | .read o => decide (256 ≤ o ∧ o < 288)
  | .write o => decide (256 ≤ o ∧ o < 288)
  | .fetchAdd o => decide (256 ≤ o ∧ o < 288)
  | .cas o => decide (256 ≤ o ∧ o < 288)
  | .fence o => decide (256 ≤ o ∧ o < 288)
  | .fenceTimeout _ _ => true
  | .fenceEntryIdle _ _ => true
  | .stackWriteAck _ => true
  | .spaceLayoutWrite _ i _ _ => decide (i < 5)
  | .patrolScrub n g _ _ _ => decide (n < stackCount asm ∧ g < stackCount asm * 3221225472 ∧ bits (16 * g) 8 (match asm.m with | .m4 => 2 | .m8 => 3) = n)
  | .refresh n pc bank _ => decide (n < stackCount asm ∧ pc < 32 ∧ bank < 64)
  | .startRepair _ n _ => decide (n < 8)
  | .repairPprDone n _ _ => decide (n < stackCount asm)
  | .repairDone n => decide (n < stackCount asm)
  | .stackInitStep n k _ _ => decide (n < stackCount asm ∧ 1 ≤ k ∧ k ≤ 7)
  | .faultEvent _ => true
  | .collectorTake => true
  | .ringRdWrite _ _ => true
  | .domainResetComplete d => decide (domIn asm d)
  | .quietPeriodEnd d => decide (domIn asm d)
  | .recoveryWindowClose d => decide (domIn asm d)
  | .release _ domain => decide (domain < 2 ^ 18)
  | .deadlineMiss d => decide (domIn asm d)
  | .procHang p => decide (p < 8)
  | .kick _ _ => true
  | .resetCmd _ domain => decide (domain < 2 ^ 18)
  | .moduleReset _ confirm domain => decide (confirm < 256 ∧ domain < 2 ^ 18)
  | .moduleResetStart _ _ _ _ _ => true
  | .bootStep inp => decide (inp.2 < 64)
  | .registerBusRelease => true
  | .moduleReady => true
  | .beginImage _ bank => decide (bank < 2)
  | .endImage _ bank => decide (bank < 2)
  | .abortImage _ bank => decide (bank < 2)
  | .resumeImage _ bank => decide (bank < 2)
  | .bootBank _ bank => decide (bank < 2)
  | .imageVerifyDone b => decide (b < 2)
  | .activateImage _ p bank => decide (p < 8 ∧ bank < 2)
  | .cancelImage _ p => decide (p < 8)
  | .emergencyHoldoffEnd p => decide (p < 8)
  | .safePoint p _ => decide (p < 8)
  | .imageStart p => decide (p < 8)
  | .probationEnd p => decide (p < 8)
  | .startLimitExpiry p => decide (p < 8)
  | .heartbeatWrite _ _ => true
  | .hostAbsent => true
  | .hevRdWrite _ _ => true
  | .hostEventPush p kind data => decide (p < 8 ∧ kind < 65536 ∧ data.length ≤ 48)
  | .logEntryWrite p point level args => decide (p < 8 ∧ point < 1024 ∧ level ≤ 4 ∧ args.length ≤ 4)
  | .epochBoundary => true
  | .tokenRequest r _ => decide (r < 34)
  | .budgetWrite _ _ => true
  | .emergencyOnset k => decide (k < 3)
  | .emergencyClear k => decide (k < 3)
  | .trip _ => true
  | .sensorRead junction dies hbms _ _ _ powerDev energyDev =>
    decide (junction.length = 21 ∧ dies.length = 8 ∧ hbms.length = 8 ∧ powerDev ≤ 20 ∧ energyDev ≤ 20)
  | .sidingLinkUp inp => decide (inp.1 < 256 ∧ ∀ d ∈ inp.2, d.length = 8)
  | .sidingLinkDown reason lanes => decide (reason < 4 ∧ lanes < 256)
  | .sidingSkipTx => true
  | .ack seq _ rxFree => decide (seq < 4096 ∧ rxFree < 256)
  | .sidingAckTimer => true
  | .regRd _ => true
  | .regWr _ => true
  | .flashWr _ _ => true
  | .badFrame _ => true
  | .notify => true
  | .sidingEyeStart _ n => decide (n < 8)
  | .sidingEyeAbort _ n => decide (n < 8)
  | .sidingEyeDone n _ => decide (n < 8)
  | .manBegin _ => true
  | .manEnd _ => true
  | .manAbort _ => true
  | .go _ => true
  | .reportDone => true
  | .hotSwapOn => true
  | .hotSwapOff => true
  | .modEnRise => true
  | .modEnFall => true
  | .resetNFall => true
  | .resetNRise slot => decide (slot < 64)
  | .mainRailsGood slot => decide (slot < 64)
  | .telemetryRead q => decide (q.1 < 128 ∧ q.2.1 < if q.1 = 0x50 then 8192 else 256)
  | .srcCfgWrite _ n _ => decide (n < 512)
  | .manifestVerifyDone => true
  | .gateBaseReached p => decide (p < 256)
  | .sidingLaneRealign n seen _ => decide (n < 8 ∧ seen.2 < 256)

end Sys2Proof
end

