-- ==== Sys2Proof/Safety.lean ====
section
/-! DEFINITION. What statements are phrased in: the canonical form of the tables and memories, the agreement of the pins
with the state, the parts of a state, and frames (what a command leaves alone). -/

namespace Sys2Proof.Machine

/-- The stack memory stands in its canonical form: addresses strictly rising, no byte equal to 0, which an unlisted
address reads as (R378); the same of the stored syndromes (R379). -/
def Memory.wf (m : Memory) : Bool := Tab.canon (fun _ => 0) m.bytes && Tab.canon (fun _ => 0) m.synd

/-- The flash stands in its canonical form. -/
def Consort.flashWf (c : Consort) : Bool := Tab.canon (fun _ => 0) c.flash

/-- The sliver stores of a coach stand in their canonical form (R297). -/
def CoachHid.sliverWf (c : CoachHid) : Bool := Tab.canon (fun _ => 0) c.sliver && Tab.canon (fun _ => 0) c.synd

/-- The register file stands in its canonical form: no word listed that reads its reset value. -/
def State.regsWf (s : State) : Bool :=
  Tab.canon (resetWord s.asm) s.regs && Tab.canon (resetWord s.asm) s.rwv2 && Tab.canon (resetWord s.asm) s.rwv3

/-- The output pins stand at the levels that the state gives them (R207, R423, R511, R512). -/
def State.pinsAgree (s : State) : Prop :=
  (s.pins.faultN, s.pins.attnN, s.pins.ready) = s.pinLevels ∧
    s.pins.ppsOut = (s.pins.modEn && s.pins.resetN && s.time.ppsOut)

/-- Parts of a state beside its register words and output pins. -/
inductive Part where
  | pending | clk | asm | fru | staging | refused | timers | free | lanes | ports | sw | pools | time | coll | coaches | upd
  | stn | mem | flt | cons | pow | sid | inputs | out
  deriving DecidableEq, Repr

/-- A part is the same in two states. -/
def Part.same (s t : State) : Part → Prop
  | .pending => t.pending = s.pending
  | .clk => t.clk = s.clk
  | .asm => t.asm = s.asm
  | .fru => t.fru = s.fru
  | .staging => t.staging = s.staging
  | .refused => t.refused = s.refused
  | .timers => t.timers = s.timers
  | .free => t.free = s.free
  | .lanes => t.lanes = s.lanes
  | .ports => t.ports = s.ports
  | .sw => t.sw = s.sw
  | .pools => t.pools = s.pools
  | .time => t.time = s.time
  | .coll => t.coll = s.coll
  | .coaches => t.coaches = s.coaches
  | .upd => t.upd = s.upd
  | .stn => t.stn = s.stn
  | .mem => t.mem = s.mem
  | .flt => t.flt = s.flt
  | .cons => t.cons = s.cons
  | .pow => t.pow = s.pow
  | .sid => t.sid = s.sid
  | .inputs => t.pins.modEn = s.pins.modEn ∧ t.pins.resetN = s.pins.resetN ∧ t.pins.slotId = s.pins.slotId
  | .out => t.out = s.out

/-- Nothing changes from `s` to `t` but the parts listed, the register words that `w` holds of, and the output pins. -/
def Frame (s t : State) (parts : List Part) (w : Nat → Prop) : Prop :=
  (∀ p : Part, p ∉ parts → p.same s t) ∧ ∀ a, ¬ w a → t.rd a = s.rd a

/-- The words of a page's header that an event writes: CAUSE, CAUSE_SEQ and CAUSE_FIRST (R31). -/
def causeWords (pg a : Nat) : Prop := a = pg + 0x10 ∨ a = pg + 0x18 ∨ a = pg + 0x1C

/-- The two words of a 64-bit register. -/
def pairWords (r a : Nat) : Prop := a = r ∨ a = r + 4

/-- Bit `k` of the CAUSE of a block instance is 1. -/
def State.causeBit (s : State) (b : Blk) (i j k : Nat) : Bool := (s.rd (b.causePage i j + 0x10)).testBit k

/-- A write of `v` at `a` by a master passes every check of the register bus and reaches its register (R36, R42 to R48). -/
def State.grants (s : State) (m : Master) (a : Nat) (v : Word) : Bool :=
  s.pow.hotSwap && (match s.busCheck m a 32 v.toNat true with | .target _ => true | _ => false)

/-- Registers whose write does more than store their word, or stores under a condition. -/
def specialIds : List Nat :=
  [2, 5, Id.LANE_CFG, Id.PORT_LAYOUT, Id.PORT_DISC_CFG, Id.SWITCH_LIMIT, Id.POOL_QUOTA, Id.SHAPE_RATE, Id.SHAPE_OVH,
   Id.SHAPE_GATE_CTL, Id.TIME_CFG, Id.TOP_MODULE_NUM, Id.SECTION_REMAP, Id.FAULT_RING_RD, Id.FAULT_SRC_CFG,
   Id.SIDING_LANE_CTL, Id.CONSORT_HEARTBEAT, Id.CONSORT_HEV_RD,
   Id.POWER_BUDGET, Id.POWER_REC_CAP, Id.WINDOW_SPACE_BASE, Id.WINDOW_SPACE_SIZE, Id.STATION_ACT_BLOCKS,
   Id.STATION_ACT_PAGE, Id.COLL_LINE_CTL, Id.STATION_STN_CTL]

/-- A read-write word of a page outside the sections, whose write stores it and does nothing else (R36). -/
def Loc.plain (l : Loc) : Bool := l.reg.ty == .rw && !specialIds.contains l.reg.id && l.sectionNo.isNone

/-- Table entries whose commit does more than move the entry into its table. -/
def specialEntries : List Nat :=
  [Id.PORT_PLAN, Id.SHAPE_SWAP_AT, Id.STATION_EXPERT, Id.WINDOW_WIN, Id.COACH_RUN_SUBMIT]

/-- A word of the TOP page. -/
def topWords (a : Nat) : Prop := A.TOP ≤ a ∧ a < A.TOP + 0x1000

/-- The condition under which a machine that leaves DOWN enters STARTING and does not refuse (R107, R233, R306, R525). -/
def State.settingsHold (s : State) : Mach → Bool
  | .port p => s.layoutValid (s.layoutReg p)
  | .line g => (s.readLine g).valid
  | .sect n => s.remapValid n
  | _ => true

/-- The work that a draining machine holds has ended (R115, R118, R120, R266, R320, R376, R398). -/
def State.drainEnds (s : State) : Mach → Bool
  | .port p => (s.port p).tx.isNone
  | .lane l =>
    match s.lanePort l with
    | some (p, i) => !s.linkIsUp p || (!(s.txMask p).testBit i &&
        (match (s.lane l).lockLogical with | some g => !(s.rxMask p).testBit g | none => true))
    | none => true
  | .die d => (s.diePorts d).isEmpty
  | .sect n => (List.range 33).all fun p =>
      (s.coach (64 * n + p)).queues.isEmpty && (s.coach (64 * n + p)).running.isEmpty
  | .line g => (s.lineEntries g).isEmpty
  | .station n => s.stationEntries n == 0
  | .window w => !(s.mem.pendingAcks.any fun x => x.win == w) && !(s.mem.fenceWaits.any fun x => x.win == w)
  | .stack n => !s.flag (F.HBM_REPAIR_STATE_BUSY n)

/-- The state in which port `o` has been handed a packet to originate, and nothing else has happened since (R164). -/
def State.handed (u : State) (o : Nat) (k : Pkt) : State := (u.originate o k).drivePins

/-- Every allocated cell of the switch core and every packet in its buffer is charged to an account that exists (R159). -/
def State.accountsExist (s : State) : Bool :=
  ((s.pool 0).owner.all fun e => decide (e.2 / 8 < 289) && decide (e.2 % 8 < 6)) &&
    s.sw.pkts.all fun b => decide (b.acct < 289) && decide (b.tc < 6)

/-- The layout that a port has read, if any, names lanes of one die (R107). -/
def State.layoutOnDie (s : State) (p : Nat) : Bool :=
  match (s.port p).layout with
  | some y => decide (y.die < 8 ∧ y.first + y.width ≤ 128 ∧ 1 ≤ y.width ∧ y.width ≤ 16)
  | none => true

/-- A logical coach of the part, mapped to a physical coach of its section (R303). -/
def State.coachExists (s : State) (L : Nat) : Bool := decide (L < 512) && decide (s.physCoach L % 64 < 33)

/-- A chunk of a line has ended with a status and holds no result, slot, record cell or slab. -/
def State.chunkLost (t : State) (key : CKey) (status : Nat) : Prop :=
  ∃ c, t.chunk key = some c ∧ c.status = some status ∧ c.held = [] ∧ c.slotIds = [] ∧ c.recCells = 0 ∧ c.slabs = []

/-- No entry of the step counter is left, and the line remembers it as ended now (R247). -/
def State.entryGone (t : State) (e : Entry) : Prop :=
  (∀ x ∈ t.coll.entries, x.same e = false) ∧
    ∃ r ∈ t.coll.ended, r.line = e.line ∧ r.step = e.step ∧ r.sub = e.sub ∧ r.fam = e.fam ∧ r.at_ = t.clk

/-- A command completes, and the state it leaves has the property before the events that it raised have their reactions on
the same edge (R416). The reactions to the events of a state, and what they change, are stated by `Results`. -/
def Completes (c : Instr) (s : State) (P : State → Prop) : Prop :=
  ∃ t : State, exec c s = .next t.reacted.drivePins ∧ P t.drivePins

/-- The oldest event that is reported has its reaction, which leaves a state with the property; the events reported with it or
by its reaction have theirs after it, on the same edge (R416). -/
def Reacts (s : State) (P : State → Prop) : Prop :=
  ∃ u n, exec (.faultEvent none) s = .next (State.reactN n u).drivePins ∧ P u

/-- A command completes in a state with the property, the reactions to the events that it raised among what it did. -/
def Results (c : Instr) (s : State) (P : State → Prop) : Prop :=
  ∃ t, exec c s = .next t ∧ P t

end Sys2Proof.Machine
end

