-- ==== Sys2Proof/Certificates/Slice0/Obligations.lean ====
section
/-! DEFINITION. The statements for the provers. Each docstring says what its statement claims and the rules or sections of
spec/ that it formalises. -/

open Sys2Proof Sys2Proof.Machine

/-- For every command c and state s, a step of s with c at the front of its queue answers what exec answers for c on s
with the rest of the queue. First in, first out is the block's queue of the model. (00_scope.md) -/
def Obligations.StepRunsTheCommandInFront : Prop :=
  ∀ (c : Instr) (s : State) (l : List Instr), step { s with pending := c :: l } = exec c { s with pending := l }

/-- On an empty queue a step answers a next state in which, while the hot-swap controller is on, the slow clock has
advanced by one cycle; before the reactions to the events of that cycle (R416), the queue, the assembly, the FRU
EEPROM, the staging registers, the lanes behind their pages, the flash and the sampled pins are as before, TOP.UPTIME
counts one more cycle once the module reset has ended, and each of the eight siding lanes has sent its code words of
the cycle. With the controller off nothing changes. That idling is a slow cycle is the model's choice (log 2). (R43;
R169; R202; R463) -/
def Obligations.EmptyQueueRunsOneSlowCycle : Prop :=
  ∀ s : State, s.pending = [] → ∃ t, step s = .next t ∧ t.pending = [] ∧
    (s.pow.hotSwap = true → ∃ u : State, t = u.reacted.drivePins ∧ u.clk = s.clk + 1 ∧
      u.rd64 A.TOP_UPTIME = (if s.pow.released then (s.rd64 A.TOP_UPTIME + 1) % 2 ^ 64 else s.rd64 A.TOP_UPTIME) ∧
      (∃ w, u.out.getLast? = some (.siding w) ∧ w.length = 8) ∧ u.cons.flash = s.cons.flash ∧
      Frame s u [.clk, .timers, .time, .free, .ports, .sw, .pools, .coll, .coaches, .upd, .stn, .mem, .flt, .cons, .pow, .sid,
        .out] fun _ => True) ∧
    (s.pow.hotSwap = false → t = s)

/-- For every command and state, a command whose operands name units that the assembly has and lie in their ranges answers
a next state, and any other stops with the fault noSuchUnit; no command is refused. That a command naming a unit the
part does not have stops the model is the model's choice (log 1). (R2; R4; R6; R24; R25) -/
def Obligations.WellFormedCommandsCompleteAndOthersFault : Prop :=
  ∀ (c : Instr) (s : State),
    (c.wellFormed s.asm = true → ∃ t, exec c s = .next t) ∧
    (c.wellFormed s.asm = false → exec c s = .fault .noSuchUnit)

/-- If FAULT_N, ATTN_N, READY and TIME_PPS_OUT agree with the state before a step (the levels of R423, R511 and R512, all
released while MOD_EN or RESET_N is low), they agree with it after the step, whatever command runs and also when the
queue is empty. (R207; R423; R511; R512) -/
def Obligations.PinsAgreeAfterEveryStep : Prop :=
  ∀ s t : State, s.pinsAgree → step s = .next t → t.pinsAgree

/-- The state after reset has its pins at the levels that the state gives them. (R423; R512) -/
def Obligations.PinsAgreeAtReset : Prop :=
  State.reset.pinsAgree

/-- If the stack memory's bytes and syndromes and the flash stand in canonical form (addresses strictly rising, no entry
equal to what an unlisted address reads as), they stand so after every step, whatever command runs. Equal memories are
then equal lists. (R377; R379; 14_memory.md; R449) -/
def Obligations.MemoriesKeepTheirCanonicalForm : Prop :=
  ∀ s t : State, s.mem.wf = true → s.cons.flashWf = true → step s = .next t →
    t.mem.wf = true ∧ t.cons.flashWf = true

/-- The stack memory and the flash of the state after reset stand in canonical form; both list nothing (what unlisted
bytes read as is the model's choice, log 80). (14_memory.md; R449) -/
def Obligations.MemoriesAreCanonicalAtReset : Prop :=
  State.reset.mem.wf = true ∧ State.reset.cons.flashWf = true ∧ State.reset.mem.bytes = []

/-- Whatever command runs, and on an empty queue, the assembly (the A, L and M fields of the ordering code) and the FRU
EEPROM that holds the code are the same after the step as before it. That no command writes the EEPROM is the model's
choice (log 85). (R1; R514) -/
def Obligations.AssemblyNeverChanges : Prop :=
  ∀ s t : State, step s = .next t → t.asm = s.asm ∧ t.fru = s.fru

/-- A 32-bit write that passes the checks of the bus and reaches a read-write word whose write does nothing else stores
the writable bits of the value, keeps the other bits, counts the access in the TOP page, and changes no other word and
no other part of the state. A write to a read-only word without clearable bits changes nothing but the access counter.
(R29; R36) -/
def Obligations.PlainRegisterWritesStoreTheirWord : Prop :=
  ∀ (s : State) (m : Master) (addr : Nat) (v : Word) (loc : Loc), s.grants m addr v = true → locate addr = some loc →
    (loc.plain = true →
      Completes (.registerWrite m addr 32 v) s fun t =>
        t.rd addr = merged (s.storeMask loc) (s.rd addr) v.toNat ∧
        Frame s t [] (fun a => a = addr ∨ topWords a)) ∧
    (loc.reg.ty = .ro → loc.reg.id ≠ 4 → loc.reg.w1c.getD loc.w 0 = 0 → loc.sectionNo = none →
      Completes (.registerWrite m addr 32 v) s fun t => Frame s t [] topWords)

/-- With the register bus powered and, for the siding link, open: a write of another width, at an unaligned address,
beyond the register space or where the page map defines nothing counts BUS_ERR, sets DECODE_ERR, and is captured in
BUS_ERR_ADDR and BUS_ERR_KIND if nothing is captured yet (R23, R25, R47). A write to a page of an empty lane-die slot
or an absent stack that no protection region refuses is discarded without an error (R5, R25). An access that reached
its target and is not completed within the limit ends with kind TIMEOUT; a timed-out write of a plain word took effect
where the command says so (R45 leaves it open). Before release, a siding write elsewhere than the siding page changes
nothing (R488). (R5; R23; R25; R45; R47; R488) -/
def Obligations.BusErrorsAreRecorded : Prop :=
  ∀ (s : State) (m : Master) (addr : Nat) (v : Word), s.pow.hotSwap = true →
    (∀ width, (m = .siding → s.sidingServed addr v.toNat true = true) →
      (width ≠ 32 ∨ addr % 4 ≠ 0 ∨ 2 ^ 26 ≤ addr ∨ (locate addr = none ∧ s.absentAt addr = false)) →
      Completes (.registerWrite m addr width v) s fun t =>
        t.rd64 A.TOP_BUS_ERR = (s.rd64 A.TOP_BUS_ERR + 1) % 2 ^ 64 ∧ t.causeBit .TOP 0 0 K.TOP_DECODE_ERR = true ∧
        t.flag F.TOP_BUS_ERR_ADDR_VALID = true ∧
        (s.flag F.TOP_BUS_ERR_ADDR_VALID = false → t.get F.TOP_BUS_ERR_ADDR_ADDR = addr % 2 ^ 26 ∧
          t.get F.TOP_BUS_ERR_ADDR_MASTER = masterCode m ∧ t.flag F.TOP_BUS_ERR_ADDR_WRITE = true ∧
          t.get F.TOP_BUS_ERR_KIND_KIND = E_DECODE) ∧
        (s.flag F.TOP_BUS_ERR_ADDR_VALID = true → t.rd A.TOP_BUS_ERR_ADDR = s.rd A.TOP_BUS_ERR_ADDR ∧
          t.rd A.TOP_BUS_ERR_KIND = s.rd A.TOP_BUS_ERR_KIND) ∧
        Frame s t [.flt] topWords) ∧
    (addr % 4 = 0 → addr < 2 ^ 26 → (m = .siding → s.sidingServed addr v.toNat true = true) → s.absentAt addr = true →
      s.regionsGrant m addr true = true →
      Completes (.registerWrite m addr 32 v) s fun t =>
        Frame s t [] (pairWords (match m with | .consort => A.TOP_ACCESS_CONSORT | .siding => A.TOP_ACCESS_SIDING))) ∧
    (∀ write applied loc, s.busCheck m addr 32 v.toNat write = .target loc → loc.plain = true → loc.blk ≠ .TOP →
      Completes (.respTimeout m addr write applied v) s fun t =>
        t.rd64 A.TOP_BUS_ERR = (s.rd64 A.TOP_BUS_ERR + 1) % 2 ^ 64 ∧ t.causeBit .TOP 0 0 K.TOP_RESP_TIMEOUT = true ∧
        (s.flag F.TOP_BUS_ERR_ADDR_VALID = false → t.get F.TOP_BUS_ERR_KIND_KIND = E_TIMEOUT) ∧
        t.rd addr = (if write && applied then merged (s.storeMask loc) (s.rd addr) v.toNat else s.rd addr) ∧
        Frame s t [.flt] (fun a => a = addr ∨ topWords a)) ∧
    (m = .siding → s.sidingServed addr v.toNat true = false →
      Completes (.registerWrite m addr 32 v) s fun t => Frame s t [] fun _ => False)

/-- A write to a word with W1C bits outside CAUSE clears each such bit set in the value, except the bits that events set
on the same edge, and keeps the rest. A write to the CAUSE of a page outside the ports does the same to its defined
bits, and a CAUSE left 0 clears VALID of CAUSE_FIRST. A write to an SQC word outside the domain handling clears its
status when the SEQ written is the SEQ it holds, and otherwise counts SQC_STALE and leaves it. (R29; R30; R31; R32) -/
def Obligations.ClearingWritesKeepTheEventsOfTheirEdge : Prop :=
  ∀ (s : State) (m : Master) (addr : Nat) (v : Word) (loc : Loc), s.pow.hotSwap = true →
    s.busCheck m addr 32 v.toNat true = .target loc → loc.sectionNo = none →
    (∀ events : Word × Nat, loc.reg.ty = .ro → loc.reg.id ≠ 4 → loc.reg.w1c.getD loc.w 0 ≠ 0 →
      Completes (.w1cWrite m addr v events) s fun t =>
        t.rd addr = clr (s.rd addr) (v.toNat &&& loc.reg.w1c.getD loc.w 0) ||| (events.1.toNat &&& loc.reg.w1c.getD loc.w 0) ∧
        Frame s t [] (fun a => a = addr ∨ topWords a)) ∧
    (∀ events : Word × Nat, loc.reg.ty = .ro → loc.reg.id = 4 → loc.blk ≠ .PORT →
      Completes (.w1cWrite m addr v events) s fun t =>
        t.rd addr = clr (s.rd addr) (v.toNat &&& loc.blk.info.causeMask) ||| (events.1.toNat &&& loc.blk.info.causeMask) ∧
        (t.rd addr = 0 → (t.rd (addr + 12)).testBit 31 = false) ∧
        Frame s t [.flt] (fun a => a = addr ∨ a = addr + 8 ∨ a = addr + 12 ∨ topWords a)) ∧
    (loc.reg.ty = .sqc → s.locHandling loc = none →
      Completes (.sqcWrite m addr v) s fun t =>
        (bits v.toNat 16 16 = bits (s.rd addr) 16 16 → t.rd addr = bits (s.rd addr) 16 16 * 65536) ∧
        (bits v.toNat 16 16 ≠ bits (s.rd addr) 16 16 → t.rd addr = s.rd addr ∧
          t.rd64 A.TOP_SQC_STALE = (s.rd64 A.TOP_SQC_STALE + 1) % 2 ^ 64) ∧
        Frame s t [] (fun a => a = addr ∨ topWords a))

/-- A write to a lower word of a multi-word entry changes no table: it puts the word into the staging register that its
master has in the block. A write to the highest word stores, in one command, the staged lower words (or the entry's
current ones where none is staged for it) and the word written, each under its write mask, and empties the staging
register. The second clause is stated for entries whose commit does nothing else. (R37) -/
def Obligations.TableEntriesAreStagedAndCommittedWhole : Prop :=
  ∀ (s : State) (m : Master) (addr : Nat) (v : Word) (loc : Loc), s.pow.hotSwap = true →
    s.busCheck m addr 32 v.toNat true = .target loc → loc.sectionNo = none →
    ((loc.reg.ty = .ent ∨ loc.reg.ty = .woe) → loc.w + 1 < loc.reg.words →
      (∀ x, s.staged m loc = some x → loc.w < x.words.length) →
      Completes (.tableEntryLowerWrite m addr v) s fun t =>
        (∃ x, t.staged m loc = some x ∧ x.words.getD loc.w 0 = v) ∧
        (∀ n l, (n ≠ m ∨ l.blk ≠ loc.blk) → t.staged n l = s.staged n l) ∧
        Frame s t [.staging] topWords) ∧
    (loc.reg.ty = .ent → loc.w + 1 = loc.reg.words → specialEntries.contains loc.reg.id = false →
      (∀ x, s.staged m loc = some x → x.words.length = loc.w) →
      Completes (.tableEntryCommit m addr v) s fun t =>
        (∀ k, k < loc.reg.words → t.rd (loc.entry + 4 * k) =
          merged (loc.reg.wmask.getD k 0) (s.rd (loc.entry + 4 * k))
            (if k = loc.w then v else
              match s.staged m loc with | some x => x.words.getD k 0 | none => s.word (loc.entry + 4 * k)).toNat) ∧
        t.staged m loc = none ∧
        Frame s t [.staging] (fun a => (∃ k, k < loc.reg.words ∧ a = loc.entry + 4 * k) ∨ topWords a))

/-- A write that passes the bus to the cap of a section, of the switch core or of a stack, a word held in three copies,
stores the value's twelve bits in all three copies (R29), whatever the copies held; the tokens that the recipient
holds above its CAP or floor return to FREE (the model's choice, log 122). When a millisecond has passed since the
last scrub, every word held in three copies has equal copies afterwards and reads as the majority read before; a word
whose copies were equal is not counted. The scrub restarts its millisecond. (R29; R34; R35) -/
def Obligations.VotedWordsKeepEqualCopies : Prop :=
  ∀ s : State,
    (∀ m r (v : Word), (priorityRec r || sharedRec r) = true → s.grants m (A.POWER_REC_CAP r) v = true →
      Completes (.rwvWrite m (A.POWER_REC_CAP r) v) s fun t =>
        t.get (F.POWER_REC_CAP_CAP r) = v.toNat % 4096 ∧ t.copiesEqual (A.POWER_REC_CAP r) = true ∧
        t.tokens r = min (s.tokens r) (t.recCap r) ∧
        (s.tokens r + s.freeTokens < 4096 → t.tokens r + t.freeTokens = s.tokens r + s.freeTokens) ∧
        Frame s t [] (fun a => a = A.POWER_REC_CAP r ∨ a = A.POWER_REC_STATE r ∨ a = A.POWER_FREE ∨ topWords a)) ∧
    (s.elapsed { kind := .scrub, a := 16 } (ms 1) = true →
      Completes .rwvScrub s fun t =>
        (∀ a, isRwv a = true → t.copiesEqual a = true ∧ t.word a = s.word a) ∧
        t.timer { kind := .scrub, a := 16 } = some s.clk ∧
        ((∀ a, isRwv a = true → s.copiesEqual a = true) → Frame s t [.timers] fun _ => False))

/-- A write of the CTL word of a port that passes the bus stores ENABLE and lets go of a start-up refusal. A 0 written in
UP starts the drain with its time; in every other state, and for a 1, the machine stays where it is. (R38; R525) -/
def Obligations.EnablesRequestTheirMachines : Prop :=
  ∀ (s : State) (m : Master) (p : Nat) (v : Word), p < 256 → s.grants m (A.PORT p + 8) v = true →
    Completes (.enableWrite m (A.PORT p + 8) v) s fun t =>
      t.enabled (.port p) = v.getLsbD 0 ∧ (.port p) ∉ t.refused ∧ (∀ u, u ≠ .port p → (u ∈ t.refused ↔ u ∈ s.refused)) ∧
      (v.getLsbD 0 = false → s.mach (.port p) = UP →
        t.mach (.port p) = DRAINING ∧ t.timer (Mach.key (.port p) .drain) = some s.clk) ∧
      ((v.getLsbD 0 = true ∨ s.mach (.port p) ≠ UP) → t.mach (.port p) = s.mach (.port p)) ∧
      Frame s t [.refused, .timers] (fun a => a = A.PORT p + 8 ∨ a = A.PORT p + 12 ∨ topWords a)

/-- For every machine of the part: after 1 µs in DOWN with ENABLE 1, no refusal held and nothing that keeps it DOWN, it
enters STARTING when its settings hold; a port with a layout that breaks R107 sets LAYOUT_INVALID and is DOWN with the
refusal held (R108, R525). At the end of STARTING it enters UP if ENABLE is 1 and DRAINING otherwise; a port whose die
drains enters DRAINING too (R120). A machine that drains and holds no work enters DOWN. A drain beyond its block's
limit is reported once as a hang of the machine's domain (R41, R436); a window's drain has no such cause, and its
SOURCE is open (log 73). (R38; R39; R41; R108; R120; R436; R525) -/
def Obligations.MachinesStartDrainAndHang : Prop :=
  ∀ (s : State) (u : Mach), machIn s.asm u = true →
    (s.mach u = DOWN → s.enabled u = true → s.refused.contains u = false → s.elapsed (u.key .down) (us 1) = true →
      s.mayStart u = true →
      (s.settingsHold u = true → Completes (.downTimeElapsed u) s fun t => t.mach u = STARTING) ∧
      (∀ p, u = .port p → s.settingsHold u = false → Completes (.downTimeElapsed u) s fun t =>
        t.mach u = DOWN ∧ u ∈ t.refused ∧ t.causeBit .PORT p 0 K.PORT_LAYOUT_INVALID = true)) ∧
    (s.mach u = STARTING → s.started u = true →
      Completes (.startupComplete u) s fun t => t.mach u = if s.enabled u && !s.dieLeaves u then UP else DRAINING) ∧
    (s.mach u = DRAINING → s.drainEnds u = true → Completes (.drainComplete u) s fun t => t.mach u = DOWN) ∧
    (s.mach u = DRAINING → s.due (u.key .drain) (drainLimit u + 1) = true →
      Completes (.drainTimeout u) s fun t =>
        t.mach u = DRAINING ∧ t.timer (u.key .drain) = none ∧
        (∃ r, t.flt.reports = s.flt.reports ++ [r] ∧ r.hang = true ∧ r.domain = s.machDom u) ∧
        Frame s t [.timers, .flt, .free] (fun _ => True))

/-- With the main rails on, a core PLL that was started or that something holds completes its lock and CORE_PLL_LOCK reads
1. After 1 ms in which nothing holds it, CORE_PLL_LOCK reads 0 and no section is awake. Both leave every part of the
state but the timers alone. (R44; R474) -/
def Obligations.CorePllLocksAndStops : Prop :=
  ∀ s : State,
    (s.pow.mainRails = true → s.flag F.TOP_STATE_CORE_PLL_LOCK = false →
      (s.pllHeld = true ∨ (s.timer { kind := .pll, a := 0 }).isSome = true) →
      Completes .corePllLocked s fun t =>
        t.flag F.TOP_STATE_CORE_PLL_LOCK = true ∧ Frame s t [.timers] (· = A.TOP + 12)) ∧
    (s.flag F.TOP_STATE_CORE_PLL_LOCK = true → s.pllHeld = false → s.due { kind := .pll, a := 0 } (ms 1) = true →
      Completes .corePllStop s fun t =>
        t.flag F.TOP_STATE_CORE_PLL_LOCK = false ∧ t.get F.TOP_STATE_SECTION_AWAKE = 0 ∧
        Frame s t [.timers] (fun a => a = A.TOP + 12 ∨ ∃ n, n < 16 ∧ a = A.SECTION n + 12))

/-- For a lane of a populated die: signal detection in WAIT_SIGNAL enters CDR and starts the time of steps 3 to 8; clock
recovery lock enters RX_ADAPT; the end of adaptation stores the SNR, enters TX_TUNE and sends RX_READY from there on;
RX_READY of both ends leaves TX_TUNE with precoding on only where both asked for it; codeword lock enters MARKER_LOCK;
and the lane that runs within 64 ns of skew enters RUN and, from STARTING, goes UP if its ENABLE is 1 and no TEST
pattern is on, and DRAINING otherwise (R38), which withdraws it (R115). Each but the last leaves every other register
word and part of the state alone; the lane that runs and stays only has the RX_IN_PORT and TX_IN_PORT of its port's
lanes follow the masks. The clause is stated for a lane of one of the 256 ports. That the first codeword shows the
partner's switch is the model's reading (log 13). (R100; R101; R102; R38; R115) -/
def Obligations.LaneBringUpEventsMoveTheLaneOn : Prop :=
  ∀ (s : State) (l : Nat), laneIn s.asm l = true →
    (s.phase l = P_WAIT → Completes (.laneSignalDetect l) s fun t =>
      t.phase l = P_CDR ∧ t.timer { kind := .train, a := 1, b := l } = some s.clk ∧
        (∀ k, k ≠ { kind := .train, a := 1, b := l } → t.timer k = s.timer k) ∧
        Frame s t [.timers] (· = A.LANE l + 12)) ∧
    (s.phase l = P_CDR → Completes (.laneCdrLock l) s fun t =>
      t.phase l = P_ADAPT ∧ Frame s t [] (· = A.LANE l + 12)) ∧
    (∀ snr, s.phase l = P_ADAPT → Completes (.laneRxAdapted l snr) s fun t =>
      t.phase l = P_TUNE ∧ t.get (F.LANE_RX_QUALITY_SNR l) = snr % 65536 ∧ (t.lane l).rxReady = true ∧
        (∀ k, k ≠ l → t.lane k = s.lane k) ∧
        Frame s t [.lanes, .out, .free] (fun a => a = A.LANE l + 12 ∨ a = A.LANE_RX_QUALITY l)) ∧
    (s.phase l = P_TUNE → (s.lane l).rxReady = true → (s.lane l).partnerReady = true →
      Completes (.laneTxTuned l) s fun t =>
        t.phase l = P_PARTNER ∧
        t.flag (F.LANE_STATE_PRECODE_ON l) = ((s.lane l).partnerPrecode && s.flag (F.LANE_CFG_PRECODE_REQ l)) ∧
        Frame s t [] (· = A.LANE l + 12)) ∧
    (s.phase l = P_PARTNER ∨ s.phase l = P_CW → Completes (.laneCwLock l) s fun t =>
      t.phase l = P_MARKER ∧ Frame s t [] (· = A.LANE l + 12)) ∧
    (s.phase l = P_MARKER → (s.lane l).lockLogical ≠ none → (s.lane l).skew ≤ 64 →
      (∀ p i, s.lanePort l = some (p, i) → p < 256) →
      Completes (.laneRun l) s fun t =>
        t.phase l = P_RUN ∧ t.timer { kind := .train, a := 1, b := l } = none ∧
        t.mach (.lane l) = (if s.mach (.lane l) = STARTING ∨ s.mach (.lane l) = UP then
          (if s.enabled (.lane l) && !s.testOn l then UP else DRAINING) else s.mach (.lane l)) ∧
        (s.enabled (.lane l) = true → s.testOn l = false → Frame s t [.timers] (fun a => a = A.LANE l + 12 ∨
          ∃ p i m, s.lanePort l = some (p, i) ∧ m ∈ s.portLanes p ∧ a = A.LANE m + 12)) ∧
        Frame s t [.lanes, .ports, .timers, .flt, .out, .free] (fun _ => True))

/-- A lane in electrical idle that may train (R100) and is not in the 1 ms that follows TRAIN_FAIL enters WAIT_SIGNAL,
counts LANE_TRAINS, sends a training frame whose CRC holds (R99) and, unless its machine is FENCED, enters STARTING. A
lane that has spent TRAIN_LIMIT milliseconds in steps 3 to 8 sets TRAIN_FAIL, goes to electrical idle and starts the 1
ms of idle (R101). When that time is over, TRAIN_RESTART ends it, and the lane starts again at step 1 if it may train.
The stack memory, collectives, coaches, fault records, power, siding and consort state are untouched by the first and
the last. The clauses are stated for a lane of one of the 256 ports. (R99; R100; R101) -/
def Obligations.LaneTrainingStartsFailsAndRestarts : Prop :=
  ∀ (s : State) (l : Nat), laneIn s.asm l = true → (∀ p i, s.lanePort l = some (p, i) → p < 256) →
    (s.phase l = P_IDLE → s.mayTrain l = true → s.timer { kind := .trainIdle, a := l } = none →
      Completes (.laneTrainStart l) s fun t =>
        t.phase l = P_WAIT ∧ t.rd64 (A.LANE_TRAINS l) = (s.rd64 (A.LANE_TRAINS l) + 1) % 2 ^ 64 ∧
        (s.mach (.lane l) ≠ FENCED → t.mach (.lane l) = STARTING) ∧ (t.lane l).lockLogical = none ∧
        (∃ ctrl, t.out = s.out ++ [.train l ctrl (s.lane l).prbsAt] ∧ trainOk ctrl = true) ∧
        Frame s t [.lanes, .timers, .out] (fun _ => True)) ∧
    (P_CDR ≤ s.phase l → s.phase l ≤ P_MARKER →
      s.due { kind := .train, a := 1, b := l } (ms (s.get (F.LANE_CFG_TRAIN_LIMIT l))) = true →
      Completes (.trainFail l) s fun t =>
        t.phase l = P_IDLE ∧ t.causeBit .LANE (l / 128) (l % 128) K.LANE_TRAIN_FAIL = true ∧
        t.timer { kind := .trainIdle, a := l } = some s.clk ∧ (t.lane l).lockLogical = none ∧
        Frame s t [.lanes, .timers, .flt] (fun a => a = A.LANE l + 12 ∨ causeWords (A.LANE l) a)) ∧
    (s.due { kind := .trainIdle, a := l } (ms 1) = true →
      Completes (.trainRestart l) s fun t =>
        t.timer { kind := .trainIdle, a := l } = none ∧
        (s.phase l = P_IDLE → s.mayTrain l = true → t.phase l = P_WAIT) ∧
        Frame s t [.lanes, .timers, .out] (fun _ => True))

/-- In the phases WAIT_SIGNAL to TX_TUNE a training frame of the frame marker, the symbols of a control word whose CRC
holds, and PRBS13Q symbols, all as they stand or all inverted as the PRBS13Q tells, stores the partner's logical lane,
the polarity found, RX_READY (bit 17), PRECODE_REQ (bit 18) and the request (bits 16 to 8), and a request that differs
from the last one, asks for an action and names a tap toggles ACK; one that no frame marker precedes or whose CRC
fails changes nothing but the pins. In MARKER_LOCK the first two markers at the expected spacing lock the lane to
their logical lane, port check and count, the skew is stored, and a skew above 64 ns sets SKEW_LIMIT of the lane and
DESKEW_LIMIT of its port (R96, R110). (R96; R99; R110; R116) -/
def Obligations.TrainingFramesAndMarkerLockAreTaken : Prop :=
  ∀ (s : State) (l : Nat), laneIn s.asm l = true →
    (∀ ctrl inv prbs, ctrl < 2 ^ 128 → trainOk ctrl = true → P_WAIT ≤ s.phase l → s.phase l ≤ P_TUNE →
      prbs.length = 896 → (∀ v ∈ prbs, v < 4) → polarityOf prbs = inv →
      Completes (.trainingFrameRx l (if inv then inverted frameMarker else frameMarker)
        (if inv then inverted (ctrlSymbols ctrl) else ctrlSymbols ctrl) prbs) s fun t =>
        t.phase l = s.phase l ∧ t.get (F.LANE_STATE_LOGICAL l) = ctrl % 16 ∧
        t.flag (F.LANE_STATE_RX_INVERTED l) = inv ∧
        (t.lane l).partnerReady = ctrl.testBit 17 ∧ (t.lane l).partnerPrecode = ctrl.testBit 18 ∧
        (t.lane l).lastReq = bits ctrl 8 9 ∧
        (t.lane l).ackToggle =
          (if bits ctrl 8 9 ≠ (s.lane l).lastReq ∧ bits ctrl 11 2 ≠ 0 ∧ bits ctrl 8 3 ≠ 4 then !(s.lane l).ackToggle
            else (s.lane l).ackToggle) ∧
        Frame s t [.lanes, .out, .free] (fun a => a = A.LANE l + 12 ∨ a = A.LANE_TX_EQ l)) ∧
    (∀ marker ctrl prbs : List Nat, marker.length = 64 → ctrl.length = 64 → prbs.length = 896 →
      (∀ v ∈ marker ++ ctrl ++ prbs, v < 4) →
      (let right := fun x => if polarityOf prbs then inverted x else x
       right marker ≠ frameMarker ∨ trainOk (ofBits (pam4Bits (right ctrl))) = false) →
      Completes (.trainingFrameRx l marker ctrl prbs) s fun t => Frame s t [] fun _ => False) ∧
    (∀ logical check count skew p i, logical < 16 → s.phase l = P_MARKER → (s.lane l).lockLogical = none →
      s.lanePort l = some (p, i) → p < 256 →
      Completes (.laneMarkerLock l logical check count skew) s fun t =>
        t.phase l = P_MARKER ∧ (t.lane l).lockLogical = some logical ∧ (t.lane l).lockCheck = some check ∧
        (t.lane l).lastMarker = some count ∧ (t.lane l).skew = skew ∧
        (64 < skew → t.causeBit .LANE (l / 128) (l % 128) K.LANE_SKEW_LIMIT = true ∧
          t.causeBit .PORT p 0 K.PORT_DESKEW_LIMIT = true))

/-- On a lane from MARKER_LOCK on: a codeword of k corrected symbols counts CW_TOTAL and FEC_HIST[k] by 1, SYM_CORRECTED
by k, and CW_CORRECTED by 1 when k is not 0, with the unknown control blocks in it (R93); an uncorrectable codeword
counts CW_TOTAL and CW_UNCORRECTABLE by 1 and marks the units of its port's stream that lie in it as bad (R95; stated
for a lane of one of the 256 ports); a received FILLER counts FILLER_RX by 1 and changes nothing else; a marker that
agrees with the lock stores its count and changes nothing else. A codeword in WAIT_PARTNER shows the partner's switch:
the lane is in CW_LOCK (R100). A port sends one FILLER pair on each active lane and counts it in FILLER_TX, and, once
the time of 4,096 codewords has passed since the last, one MARKER pair with the port's count on every lane of its
layout that sends coded blocks; the count rises by 1 modulo 2^16. (R93; R95; R96; R97; R100; R113) -/
def Obligations.CodewordsFillersAndMarkersAreCounted : Prop :=
  ∀ (s : State),
    (∀ l k units unknown, laneIn s.asm l = true → P_MARKER ≤ s.phase l → k ≤ 15 →
      Completes (.codewordRx l (some k, units) unknown) s fun t =>
        t.rd64 (A.LANE_CW_TOTAL l) = (s.rd64 (A.LANE_CW_TOTAL l) + 1) % 2 ^ 64 ∧
        t.rd64 (A.LANE_FEC_HIST l k) = (s.rd64 (A.LANE_FEC_HIST l k) + 1) % 2 ^ 64 ∧
        t.rd64 (A.LANE_SYM_CORRECTED l) = (s.rd64 (A.LANE_SYM_CORRECTED l) + k) % 2 ^ 64 ∧
        t.rd64 (A.LANE_CW_CORRECTED l) =
          (s.rd64 (A.LANE_CW_CORRECTED l) + ((if k = 0 then 0 else 1) + unknown)) % 2 ^ 64 ∧
        t.rd64 (A.LANE_CW_UNCORRECTABLE l) = s.rd64 (A.LANE_CW_UNCORRECTABLE l) ∧
        Frame s t [.lanes] (fun a => pairWords (A.LANE_CW_TOTAL l) a ∨ pairWords (A.LANE_FEC_HIST l k) a ∨
          pairWords (A.LANE_SYM_CORRECTED l) a ∨ pairWords (A.LANE_CW_CORRECTED l) a)) ∧
    (∀ l res unknown, laneIn s.asm l = true → s.phase l = P_PARTNER → res.1.getD 0 ≤ 15 →
      Completes (.codewordRx l res unknown) s fun t => t.phase l = P_CW ∧ Frame s t [] (· = A.LANE l + 12)) ∧
    (∀ l units unknown, laneIn s.asm l = true → P_MARKER ≤ s.phase l → (∀ p i, s.lanePort l = some (p, i) → p < 256) →
      Completes (.codewordRx l (none, units) unknown) s fun t =>
        (∀ p i, s.lanePort l = some (p, i) →
          (t.port p).badUnits = (s.port p).badUnits ++ units.map ((s.port p).rxUnits + ·)) ∧
        t.rd64 (A.LANE_CW_TOTAL l) = (s.rd64 (A.LANE_CW_TOTAL l) + 1) % 2 ^ 64 ∧
        t.rd64 (A.LANE_CW_UNCORRECTABLE l) = (s.rd64 (A.LANE_CW_UNCORRECTABLE l) + 1) % 2 ^ 64) ∧
    (∀ l, laneIn s.asm l = true → P_MARKER ≤ s.phase l →
      Completes (.fillerRx l) s fun t =>
        t.rd64 (A.LANE_FILLER_RX l) = (s.rd64 (A.LANE_FILLER_RX l) + 1) % 2 ^ 64 ∧
        Frame s t [] (pairWords (A.LANE_FILLER_RX l))) ∧
    (∀ l logical check count ok0 ok1, laneIn s.asm l = true → P_MARKER ≤ s.phase l → (ok0 || ok1) = true →
      (s.lane l).lockLogical = some logical → (s.lane l).lockCheck = some check →
      Completes (.markerRx l logical check count ok0 ok1) s fun t =>
        t.lane l = { s.lane l with lastMarker := some count } ∧ (∀ k, k ≠ l → t.lane k = s.lane k) ∧
        Frame s t [.lanes] fun _ => False) ∧
    (∀ p, p < 256 → Completes (.fillerTx p) s fun t =>
      t.out = s.out ++ (s.activeTx p).map (fun l => .pair l 0x1E 0) ∧
        (∀ l ∈ s.activeTx p, t.rd64 (A.LANE_FILLER_TX l) = (s.rd64 (A.LANE_FILLER_TX l) + 1) % 2 ^ 64) ∧
        Frame s t [.out] (fun a => ∃ l ∈ s.activeTx p, pairWords (A.LANE_FILLER_TX l) a)) ∧
    (∀ p y, p < 256 → (s.port p).layout = some y → (∀ i, i < y.width → P_PARTNER ≤ s.phase (y.base + i)) →
      (s.timer { kind := .markerTx, a := p } = none ∨ s.due { kind := .markerTx, a := p } markerGap = true) →
      Completes (.markerTx p) s fun t =>
        t.out = s.out ++ (List.range y.width).map
          (fun i => .pair (y.base + i) 0x4B (s.markerContent p i (s.port p).txMarker)) ∧
        t.port p = { s.port p with txMarker := ((s.port p).txMarker + 1) % 65536 } ∧
        (∀ q, q ≠ p → t.port q = s.port q) ∧ t.timer { kind := .markerTx, a := p } = some s.clk ∧
        Frame s t [.ports, .timers, .out] fun _ => False)

/-- On a port whose LINK is up, a control pair one of whose blocks can be read acts once (R94). A WIDTH_REQ that takes
lanes away leaves the transmit mask with the lanes it names, by a SWITCH sent on all lanes active until then, which
names the next unit boundary, from which the port stripes over the new mask, and is counted in SWITCH_TX; the receive
mask stays, and the lanes it takes away need a new LANE_READY (R112, R116). That the boundary within a packet being
sent is open is the model's choice (log 14). A SWITCH counts SWITCH_RX and leaves the transmit mask; where the unit it
names is next or past, its mask less the lanes lost to a fault becomes the receive mask, else it waits for that unit
behind those that wait already, each for a unit still to come (R93, R112). LANE_READY adds to the transmit mask each
lane of the layout that it, or one before it, named and that sends coded blocks in a domain that serves and is not
withdrawn, and takes none away (R115, R116). A pair neither block of which can be read changes nothing. (R93; R94;
R112; R116) -/
def Obligations.WidthMessagesChangeTheMasks : Prop :=
  ∀ (s : State) (p : Nat), p < 256 →
    (∀ mask ok0 ok1, mask < 65536 → (ok0 || ok1) = true → s.linkIsUp p = true → s.txMask p &&& mask ≠ s.txMask p →
      Completes (.widthReq p mask ok0 ok1) s fun t =>
        t.txMask p = s.txMask p &&& mask ∧ t.rxMask p = s.rxMask p ∧
        t.rd64 (A.PORT_SWITCH_TX p) = (s.rd64 (A.PORT_SWITCH_TX p) + 1) % 2 ^ 64 ∧
        (∀ y i, (s.port p).layout = some y → i < y.width → mask.testBit i = false →
          (t.lane (y.base + i)).partnerLaneReady = false) ∧
        (∃ n, (s.port p).txUnits ≤ n ∧
          ((s.port p).tx = none → (∀ e ∈ (s.port p).txSwitches, e.1 ≤ (s.port p).txUnits) → n = (s.port p).txUnits) ∧
          t.port p = { s.port p with txSwitches := (s.port p).txSwitches ++ [(n, s.txMask p &&& mask)] } ∧
          t.out = s.out ++ (s.activeTx p).map (fun l => .pair l 0x33 ((s.txMask p &&& mask) + n % 65536 * 2 ^ 16))) ∧
        Frame s t [.lanes, .ports, .out, .flt, .free] (fun _ => True)) ∧
    (∀ mask units ok0 ok1, mask < 65536 → (ok0 || ok1) = true → s.linkIsUp p = true →
      (∀ e ∈ (s.port p).switches, (s.port p).rxUnits < e.1) →
      Completes (.switch p mask units ok0 ok1) s fun t =>
        let ahead := (units + 65536 - (s.port p).rxUnits % 65536) % 65536
        (ahead = 0 ∨ 32768 ≤ ahead → t.rxMask p = clr mask (s.port p).lost ∧
          t.port p = { s.port p with stripe := mask }) ∧
        (0 < ahead → ahead < 32768 → t.rxMask p = s.rxMask p ∧
          t.port p = { s.port p with switches := (s.port p).switches ++ [((s.port p).rxUnits + ahead, mask)] }) ∧
        t.txMask p = s.txMask p ∧
        t.rd64 (A.PORT_SWITCH_RX p) = (s.rd64 (A.PORT_SWITCH_RX p) + 1) % 2 ^ 64 ∧
        (∀ q, q ≠ p → t.port q = s.port q) ∧ Frame s t [.ports, .flt] (fun _ => True)) ∧
    (∀ mask ok0 ok1 y, mask < 65536 → (ok0 || ok1) = true → s.linkIsUp p = true → (s.port p).layout = some y →
      y.width ≤ 16 →
      Completes (.laneReady p mask ok0 ok1) s fun t =>
        (∀ i, (t.txMask p).testBit i = ((s.txMask p).testBit i ||
          (decide (i < y.width) && (mask.testBit i || (s.lane (y.base + i)).partnerLaneReady) &&
            decide (P_PARTNER ≤ s.phase (y.base + i)) && !s.fenced (dom 6 (y.base + i)) &&
            s.mach (.lane (y.base + i)) != DRAINING && s.enabled (.lane (y.base + i)) && !s.testOn (y.base + i)))) ∧
        t.rxMask p = s.rxMask p ∧ Frame s t [.lanes, .ports, .out, .flt, .free] (fun _ => True)) ∧
    (∀ mask units, mask < 65536 →
      (Completes (.widthReq p mask false false) s fun t => Frame s t [] fun _ => False) ∧
      (Completes (.switch p mask units false false) s fun t => Frame s t [] fun _ => False) ∧
      (Completes (.laneReady p mask false false) s fun t => Frame s t [] fun _ => False))

/-- A lane fault of a lane that its port receives on, with LINK up, sets its cause bit, takes the lane's logical number
out of the receive mask and counts it as lost until it is ready again (R114), sends WIDTH_REQ with the reduced mask on
every lane active until then, takes the transmit lane of that number and the lane's own out of the transmit mask by
SWITCH, and puts the lane into electrical idle (R112, R113). A fault of a lane that the port does not receive on takes
its own transmitter alone out of the transmit mask. A lane in RUN whose ENABLE is 0 or whose TEST is on leaves the
transmit mask by SWITCH, sends WIDTH_REQ without its logical number on the lanes then active, drains if it was UP, and
needs a new LANE_READY to join again; the receive mask is left for the partner to change (R115, R116). Neither changes
the stack memory, the collectives, the coaches, the pools or the network time. (R112; R113; R114; R115) -/
def Obligations.LaneFaultsAndWithdrawalsLeaveTheMasks : Prop :=
  ∀ (s : State) (l p i g : Nat), laneIn s.asm l = true → p < 256 → s.lanePort l = some (p, i) → i < 16 → g < 16 →
    (s.lane l).lockLogical = some g →
    (∀ kind, kind < 4 → P_MARKER ≤ s.phase l →
      (s.linkIsUp p = true → (s.rxMask p).testBit g = true → Completes (.laneFault l kind) s fun t =>
        t.causeBit .LANE (l / 128) (l % 128) kind = true ∧ t.phase l = P_IDLE ∧
        t.rxMask p = clr (s.rxMask p) (2 ^ g) ∧ t.txMask p = clr (s.txMask p) (2 ^ g ||| 2 ^ i) ∧
        (t.port p).lost = (s.port p).lost ||| 2 ^ g ∧ (t.port p).stripe = (s.port p).stripe ∧
        (∀ m ∈ s.activeTx p, .pair m 0x2D (linkMsg 0x01 (clr (s.rxMask p) (2 ^ g)) 0) ∈ t.out) ∧
        Frame s t [.lanes, .ports, .timers, .flt, .out, .free] (fun _ => True)) ∧
      (s.linkIsUp p = false ∨ (s.rxMask p).testBit g = false → Completes (.laneFault l kind) s fun t =>
        t.causeBit .LANE (l / 128) (l % 128) kind = true ∧ t.phase l = P_IDLE ∧
        t.rxMask p = s.rxMask p ∧ t.txMask p = clr (s.txMask p) (2 ^ i) ∧ (t.port p).lost = (s.port p).lost ∧
        Frame s t [.lanes, .ports, .timers, .flt, .out, .free] (fun _ => True))) ∧
    (s.phase l = P_RUN → (s.flag (F.LANE_CTL_ENABLE l) = false ∨ s.testOn l = true) →
      Completes (.laneWithdraw l) s fun t =>
        t.txMask p = clr (s.txMask p) (2 ^ i) ∧ t.rxMask p = s.rxMask p ∧
        (s.mach (.lane l) = UP → t.mach (.lane l) = DRAINING) ∧
        (∀ m ∈ t.activeTx p, .pair m 0x2D (linkMsg 0x01 (clr (s.rxMask p) (2 ^ g)) 0) ∈ t.out) ∧
        (t.lane l).partnerLaneReady = false ∧
        Frame s t [.lanes, .ports, .timers, .flt, .out, .free] (fun _ => True))

/-- When a port is ready (its lanes run in both directions, or after TRAIN_LIMIT at least MIN_WIDTH of them do), LINK
comes up: the receive mask holds the labels of the lanes that run, the transmit mask those the partner's receivers run
on, LINK is UP when both are whole and DEGRADED otherwise, and the credit totals restart from 0 (R111, R140). GOODBYE
on a port whose LINK is up, and a mask with fewer than MIN_WIDTH lanes, take LINK DOWN: both masks are 0, LINK_DOWN is
set and counted, and the neighbour record loses VALID (R117, R118, R219). The clauses are stated for a layout on one
of the eight dies, which is the only kind a port takes over (R107), and, for LINK going down, for a buffer whose
packets and cells are charged to accounts that exist. A port that waits with LAYOUT_CONFLICT goes on once every port
it waits for has been DOWN (R108). (R107; R108; R111; R117; R118; R219) -/
def Obligations.LinkGoesDownAndComesUp : Prop :=
  ∀ (s : State) (p : Nat) (y : LayoutCopy), p < 256 → (s.port p).layout = some y → y.die < 8 →
    y.first + y.width ≤ 128 → 1 ≤ y.width → y.width ≤ 16 →
    (∀ back, back < 65536 → s.linkReady p back = true →
      Completes (.linkUp p back) s fun t =>
        t.rxMask p = s.rxLabels p &&& s.fullMask p ∧ t.txMask p = back &&& s.fullMask p ∧
        t.get (F.PORT_STATE_LINK p) =
          (if s.rxLabels p &&& s.fullMask p = s.fullMask p ∧ back &&& s.fullMask p = s.fullMask p then LINK_UP
            else LINK_DEGRADED) ∧
        (∀ c, c < 6 → t.get (F.PORT_CR_RETURN_RX_TOTAL p c) = 0)) ∧
    (s.linkIsUp p = true → s.accountsExist = true →
      let falls := fun (t : State) =>
        t.rxMask p = 0 ∧ t.txMask p = 0 ∧ t.get (F.PORT_STATE_LINK p) = LINK_DOWN ∧
        t.causeBit .PORT p 0 K.PORT_LINK_DOWN = true ∧
        t.rd64 (A.PORT_LINK_DOWNS p) = (s.rd64 (A.PORT_LINK_DOWNS p) + 1) % 2 ^ 64 ∧
        t.flag (F.PORT_NB_NODE_VALID p) = false
      (s.masksHold p = false → Completes (.linkDown p) s falls) ∧
      (∀ ok0 ok1, (ok0 || ok1) = true → Completes (.goodbye p ok0 ok1) s falls)) ∧
    ((s.port p).conflict = true → s.mach (.port p) = STARTING → (s.port p).waits = [] →
      Completes (.layoutConflictClear p) s fun t =>
        t.port p = { s.port p with conflict := false } ∧ (∀ q, q ≠ p → t.port q = s.port q) ∧
        Frame s t [.ports] fun _ => False)

/-- A lane in RUN with ADAPT_EN 1, no step under watch, no held adaptation and 1 ms since its last request counts
ADAPT_STEPS, remembers the step and asks for it with COEF_REQ on all active lanes (R103). A received COEF_REQ for one
step of a tap changes that tap of TX_EQ by the step and no other bit, unless the tap is at its limit, and is answered
by COEF_ACK, which carries AT_LIMIT where it was (R103). COEF_ACK ends the request: at the limit nothing is judged,
otherwise the millisecond that judges the step starts. When the corrected symbols of that millisecond exceed twice
those before the step, the lane counts ADAPT_REVERTS, sets ADAPT_REVERT and asks for the opposite step, which is its
request of that millisecond; otherwise it forgets the step. That the step counts as made at its COEF_ACK is the
model's choice (log 117). (R103; R106) -/
def Obligations.CoefficientStepsAreAskedAppliedAndReversed : Prop :=
  ∀ (s : State) (l p i g : Nat), laneIn s.asm l = true → p < 256 → s.lanePort l = some (p, i) →
    (s.lane l).lockLogical = some g →
    (∀ tap action, tap < 4 → 1 ≤ action → action < 3 → s.phase l = P_RUN → s.flag (F.LANE_CTL_ADAPT_EN l) = true →
      s.watching l = false → s.adaptHeld l = false → s.elapsed { kind := .adaptStep, a := l } (ms 1) = true →
      Completes (.adaptStep l tap action) s fun t =>
        t.rd64 (A.LANE_ADAPT_STEPS l) = (s.rd64 (A.LANE_ADAPT_STEPS l) + 1) % 2 ^ 64 ∧
        (t.lane l).asked = some (tap, action) ∧ (t.lane l).watched = some (tap, action) ∧
        (t.lane l).symBefore = s.symsLastMs l ∧
        t.out = s.out ++ (s.activeTx p).map (fun m => .pair m 0x2D (linkMsg 0x03 (2 ^ g) (tap + action * 2 ^ 3))) ∧
        Frame s t [.lanes, .timers, .out] (pairWords (A.LANE_ADAPT_STEPS l))) ∧
    (∀ tap action ok0 ok1, tap < 4 → (action = 1 ∨ action = 2) → (ok0 || ok1) = true → P_MARKER ≤ s.phase l →
      Completes (.coefReq l tap action ok0 ok1) s fun t =>
        t.tap l tap = (if s.tapStuck l tap (action == 1) then s.tap l tap
          else (if action = 1 then s.tap l tap + 1 else s.tap l tap + 63) % 64) ∧
        (∀ j, j < 4 → j ≠ tap → t.tap l j = s.tap l j) ∧
        t.out = s.out ++ (s.activeTx p).map
          (fun m => .pair m 0x2D (linkMsg 0x04 (2 ^ i) (if s.tapStuck l tap (action == 1) then 1 else 0))) ∧
        Frame s t [.out] (· = A.LANE_TX_EQ l)) ∧
    (∀ atLimit ok0 ok1 step, (ok0 || ok1) = true → (s.lane l).asked = some step →
      Completes (.coefAck l atLimit ok0 ok1) s fun t =>
        (t.lane l).asked = none ∧ (atLimit = true → (t.lane l).watched = none) ∧
        (atLimit = false → (s.lane l).watched.isSome = true → t.timer { kind := .adaptWindow, a := l } = some s.clk) ∧
        Frame s t [.lanes, .timers] fun _ => False) ∧
    (∀ tap action t0, (s.lane l).watched = some (tap, action) → s.timer { kind := .adaptWindow, a := l } = some t0 →
      t0 + ms 1 ≤ s.clk → s.adaptHeld l = false →
      Completes (.adaptRevert l) s fun t =>
        t.timer { kind := .adaptWindow, a := l } = none ∧ (t.lane l).watched = none ∧
        (s.symsFrom l t0 ≤ 2 * (s.lane l).symBefore → t.lane l = { s.lane l with watched := none } ∧
          Frame s t [.lanes, .timers] fun _ => False) ∧
        (2 * (s.lane l).symBefore < s.symsFrom l t0 →
          t.rd64 (A.LANE_ADAPT_REVERTS l) = (s.rd64 (A.LANE_ADAPT_REVERTS l) + 1) % 2 ^ 64 ∧
          t.causeBit .LANE (l / 128) (l % 128) K.LANE_ADAPT_REVERT = true ∧
          (t.lane l).asked = some (tap, if action = 1 then 2 else 1) ∧
          t.timer { kind := .adaptStep, a := l } = some s.clk) ∧
        Frame s t [.lanes, .timers, .out, .flt]
          (fun a => pairWords (A.LANE_ADAPT_REVERTS l) a ∨ causeWords (A.LANE l) a))

/-- START on LANE.EYE_CMD with no point running sets BUSY, clears DONE, ADAPT_MOVED and ABORTED and takes the current
EYE_CTL; ABORT on a running point clears BUSY, sets ABORTED and leaves EYE_BITS, EYE_ERRS and POINT_SEQ (R105). The
end of a point of DWELL at most 12 adds 2^(20 + DWELL) to EYE_BITS and the mismatches to EYE_ERRS, increments
POINT_SEQ, sets DONE and clears BUSY, with ADAPT_MOVED telling whether the equaliser changed or a held adaptation was
released (R104 to R106). A hold of 10 ms is released (R106). The clauses about a write are stated for writes that pass
the checks of the register bus. (R104; R105; R106) -/
def Obligations.EyeScanPointsRunAndAreCounted : Prop :=
  ∀ (s : State) (l : Nat), laneIn s.asm l = true →
    (∀ m, s.grants m (A.LANE_EYE_CMD l) 1 = true → s.flag (F.LANE_EYE_STATUS_BUSY l) = false →
      Completes (.eyeStart m l) s fun t =>
        t.flag (F.LANE_EYE_STATUS_BUSY l) = true ∧ t.flag (F.LANE_EYE_STATUS_DONE l) = false ∧
        t.flag (F.LANE_EYE_STATUS_ABORTED l) = false ∧ t.flag (F.LANE_EYE_STATUS_ADAPT_MOVED l) = false ∧
        (t.lane l).eyeCtl = s.word (A.LANE_EYE_CTL l) ∧
        t.timer { kind := .eyeHold, a := l } = some s.clk ∧
        Frame s t [.lanes, .timers] (fun a => a = A.LANE_EYE_STATUS l ∨ A.TOP ≤ a ∧ a < A.TOP + 0x1000)) ∧
    (∀ m, s.grants m (A.LANE_EYE_CMD l) 2 = true → s.flag (F.LANE_EYE_STATUS_BUSY l) = true →
      Completes (.eyeAbort m l) s fun t =>
        t.flag (F.LANE_EYE_STATUS_BUSY l) = false ∧ t.flag (F.LANE_EYE_STATUS_ABORTED l) = true ∧
        t.rd64 (A.LANE_EYE_BITS l) = s.rd64 (A.LANE_EYE_BITS l) ∧
        t.rd64 (A.LANE_EYE_ERRS l) = s.rd64 (A.LANE_EYE_ERRS l) ∧
        t.get (F.LANE_EYE_STATUS_POINT_SEQ l) = s.get (F.LANE_EYE_STATUS_POINT_SEQ l) ∧
        Frame s t [.timers] (fun a => a = A.LANE_EYE_STATUS l ∨ A.TOP ≤ a ∧ a < A.TOP + 0x1000)) ∧
    (∀ mismatches moved, s.flag (F.LANE_EYE_STATUS_BUSY l) = true → bits (s.lane l).eyeCtl.toNat 20 4 ≤ 12 →
      Completes (.eyePointDone l mismatches moved) s fun t =>
        t.rd64 (A.LANE_EYE_BITS l) = (s.rd64 (A.LANE_EYE_BITS l) + 2 ^ (20 + bits (s.lane l).eyeCtl.toNat 20 4)) % 2 ^ 64 ∧
        t.rd64 (A.LANE_EYE_ERRS l) = (s.rd64 (A.LANE_EYE_ERRS l) + mismatches) % 2 ^ 64 ∧
        t.get (F.LANE_EYE_STATUS_POINT_SEQ l) = (s.get (F.LANE_EYE_STATUS_POINT_SEQ l) + 1) % 65536 ∧
        t.flag (F.LANE_EYE_STATUS_DONE l) = true ∧ t.flag (F.LANE_EYE_STATUS_BUSY l) = false ∧
        t.flag (F.LANE_EYE_STATUS_ADAPT_MOVED l) =
          (if bit (s.lane l).eyeCtl.toNat 24 then (s.lane l).eyeReleased else moved) ∧
        Frame s t [.timers] (fun a => a = A.LANE_EYE_STATUS l ∨ pairWords (A.LANE_EYE_BITS l) a ∨
          pairWords (A.LANE_EYE_ERRS l) a)) ∧
    (s.adaptHeld l = true → s.due { kind := .eyeHold, a := l } (ms 10) = true →
      Completes (.eyeHoldRelease l) s fun t =>
        t.lane l = { s.lane l with eyeReleased := true } ∧ (∀ k, k ≠ l → t.lane k = s.lane k) ∧
        Frame s t [.lanes] fun _ => False)

/-- On a port whose LINK is up and which is between packets, the unit is first counted, and the SWITCHes that waited for
it apply (R109, R112); a unit sent on a lost lane or in an uncorrectable codeword is bad (R95, R114). Then: a header
that passes every check adds its cost to RX_TOTAL, counts one unit, takes its cells from the pool, all of them unless
sub-lists in rebuild deliver fewer (R177), and charges them to its account, and stands in the buffer as the packet
being received (R137, R158, R159). A header of a class the port does not allow is charged, its cost returned on the
same edge, counted in DISC_POLICY with CLASS_REFUSED, and its payload let pass (R137, R146). One that cannot be read
as a header starts a hunt and is counted once in DISC_HDR; while the hunt lasts, such units change nothing (R146,
R147). One whose class or length is none is counted in DISC_FORMAT and starts a hunt. (R114; R137; R146; R147; R158;
R159; R177) -/
def Obligations.PacketHeadersAreChargedOrDiscarded : Prop :=
  ∀ (s : State) (p : Nat) (unit : List Byte) (bad : Bool), p < 256 → unit.length = 64 → s.unitBoundary p = true →
    let k : Pkt := { hdr := unit, payload := [] }
    let v := s.countUnits p 1
    let lost := bad || s.unitsLost p (s.port p).rxUnits 1
    let u := ((v.setPort p { v.port p with hunt := false }).rxCharge p k.tc k.cost).bump (A.PORT_UNITS_RX p) 1
    (unitParses k lost [1, 2] = true → headerSized k = true → k.ver = 1 → (k.dst = 0xFFFF → k.tc = 4) →
      u.classAllowed p k = true → (u.resolveIn k).1 ≠ .none →
      (k.dst = 0xFFFF ∨ (k.dst < 0x1000 ∧ k.dst = u.node) ∨ k.hops ≠ 0) →
      Completes (.packetHeaderRx p unit bad) s fun t =>
        (∃ b ∈ t.sw.pkts, (t.port p).rx = some b.id ∧ b.acct = p ∧ b.tc = k.tc ∧ b.pkt = k ∧ b.cost = k.cost ∧
          b.whole = false ∧
          let n := (b.hdrCells ++ b.payCells).length
          n ≤ k.cost ∧ n = ((u.resolveIn k).2.poolTake 0 k.cost (8 * p + k.tc)).1.length ∧
          t.held p k.tc = (v.held p k.tc + n) % 2 ^ 20 ∧
          t.rd (A.POOL_FREE 0) = v.rd (A.POOL_FREE 0) - n) ∧
        t.get (F.PORT_CR_RX_TOTAL_TOTAL p k.tc) = (v.get (F.PORT_CR_RX_TOTAL_TOTAL p k.tc) + k.cost) % 2 ^ 24 ∧
        t.rd64 (A.PORT_UNITS_RX p) = (v.rd64 (A.PORT_UNITS_RX p) + 1) % 2 ^ 64 ∧
        (t.port p).rxUnits = (s.port p).rxUnits + 1 ∧
        t.sw.queue = s.sw.queue) ∧
    (unitParses k lost [1, 2] = true → headerSized k = true → k.ver = 1 → (k.dst = 0xFFFF → k.tc = 4) →
      u.classAllowed p k = false →
      Completes (.packetHeaderRx p unit bad) s fun t =>
        t.causeBit .PORT p 0 K.PORT_CLASS_REFUSED = true ∧
        t.rd64 (A.PORT_DISC_POLICY p) = (v.rd64 (A.PORT_DISC_POLICY p) + 1) % 2 ^ 64 ∧
        t.get (F.PORT_CR_RX_TOTAL_TOTAL p k.tc) = (v.get (F.PORT_CR_RX_TOTAL_TOTAL p k.tc) + k.cost) % 2 ^ 24 ∧
        t.get (F.PORT_CR_RETURN_TOTAL_TOTAL p k.tc) = (v.get (F.PORT_CR_RETURN_TOTAL_TOTAL p k.tc) + k.cost) % 2 ^ 24 ∧
        (t.port p).rx = none ∧ (t.port p).rxSkip = (k.pay != 0) ∧
        Frame v t [.ports, .flt] (fun a => a = A.PORT_CR_RX_TOTAL p k.tc ∨ a = A.PORT_CR_RETURN_TOTAL p k.tc ∨
          pairWords (A.PORT_UNITS_RX p) a ∨ pairWords (A.PORT_DISC_POLICY p) a ∨ causeWords (A.PORT p) a)) ∧
    (unitParses k lost [3] = false → unitParses k lost [1, 2] = false → (s.port p).hunt = false →
      Completes (.packetHeaderRx p unit bad) s fun t =>
        t.rd64 (A.PORT_DISC_HDR p) = (v.rd64 (A.PORT_DISC_HDR p) + 1) % 2 ^ 64 ∧ (t.port p).hunt = true ∧
        Frame v t [.ports] (pairWords (A.PORT_DISC_HDR p))) ∧
    (unitParses k lost [3] = false → unitParses k lost [1, 2] = false → (s.port p).hunt = true →
      Completes (.packetHeaderRx p unit bad) s fun t => Frame v t [] fun _ => False) ∧
    (unitParses k lost [1, 2] = true → headerSized k = false →
      Completes (.packetHeaderRx p unit bad) s fun t =>
        t.rd64 (A.PORT_DISC_FORMAT p) = (v.rd64 (A.PORT_DISC_FORMAT p) + 1) % 2 ^ 64 ∧ (t.port p).hunt = true ∧
        Frame v t [.ports] (pairWords (A.PORT_DISC_FORMAT p)))

/-- The end of a packet discarded at its header counts its units and ends the skip. A packet one of whose payload units
lies in a bad block or codeword or was sent on a lost lane (R95, R114) counts DISC_FEC, leaves the buffer and its
queue, and returns its cost (R137, R145, R146). A whole packet with a good payload whose output, chosen at its header,
is still live is placed at the tail of that output and class, with HOPS_LEFT reduced by 1 where it is a fabric port,
and PKT_RX counts it (R124, R125, R145, R165). A link-local HELLO, TIME_SYNC or TIME_REPLY goes to the firmware port
(R128). The packets are stated to lie in accounts of this port, which is where reception puts them, and the cells of
the buffer in accounts that exist. (R114; R124; R125; R128; R137; R145; R146; R165) -/
def Obligations.WholePacketsAreQueuedOrDiscarded : Prop :=
  ∀ (s : State) (p : Nat) (payload : List Byte) (bad : Bool), p < 256 →
    ((s.port p).rxSkip = true →
      Completes (.packetRxComplete p payload bad) s fun t =>
        (t.port p).rxSkip = false ∧ (t.port p).rxUnits = (s.port p).rxUnits + (payload.length + 63) / 64 ∧
        t.rd64 (A.PORT_UNITS_RX p) = (s.rd64 (A.PORT_UNITS_RX p) + (payload.length + 63) / 64) % 2 ^ 64 ∧
        ((s.port p).switches = [] → Frame s t [.ports] (pairWords (A.PORT_UNITS_RX p)))) ∧
    (∀ b, (s.port p).rxSkip = false → (s.port p).rx = some b.id → s.bufPkt b.id = some b → b.acct = p → b.tc < 6 →
      payload.length = 256 * b.pkt.pay → s.accountsExist = true →
      let lost := bad || s.unitsLost p (s.port p).rxUnits (4 * b.pkt.pay)
      let v := ((s.setPort p { s.port p with rx := none }).bump (A.PORT_UNITS_RX p) (4 * b.pkt.pay)).countUnits p
        (4 * b.pkt.pay)
      (lost = true →
        Completes (.packetRxComplete p payload bad) s fun t =>
          t.rd64 (A.PORT_DISC_FEC p) = (s.rd64 (A.PORT_DISC_FEC p) + 1) % 2 ^ 64 ∧ (t.port p).rx = none ∧
          t.bufPkt b.id = none ∧ (∀ c ∈ t.sw.queue, c.pkt ≠ b.id) ∧
          t.get (F.PORT_CR_RETURN_TOTAL_TOTAL p b.tc) = (s.get (F.PORT_CR_RETURN_TOTAL_TOTAL p b.tc) + b.cost) % 2 ^ 24) ∧
      (lost = false → (b.pkt.pay = 0 ∨ crc32 payload = b.pkt.payCrc) → ∀ o, b.chosen = some o →
        v.outLive o b.pkt.tc = true →
        Completes (.packetRxComplete p payload bad) s fun t =>
          t.sw.queue = s.sw.queue ++ [{ id := s.sw.nextId, pkt := b.id, out := o, tc := b.pkt.tc, dst := b.pkt.dst
                                        sending := false }] ∧
          (∃ x ∈ t.sw.pkts, x.id = b.id ∧ x.whole = true ∧
            x.pkt = (if o < 256 then ({ b.pkt with payload := payload } : Pkt).hop else { b.pkt with payload := payload })) ∧
          (t.port p).rx = none ∧
          t.rd64 (A.PORT_PKT_RX p) = (v.rd64 (A.PORT_PKT_RX p) + 1) % 2 ^ 64 ∧
          t.rd64 (A.PORT_UNITS_RX p) = (s.rd64 (A.PORT_UNITS_RX p) + 4 * b.pkt.pay) % 2 ^ 64 ∧
          Frame v t [.sw] (fun a => pairWords (A.PORT_PKT_RX p) a ∨ pairWords A.SWITCH_UNITS_WRITTEN a)) ∧
      (lost = false → b.pkt.pay = 0 → b.pkt.dst = 0xFFFF → b.chosen = none ∨ b.chosen = some 288 →
        (b.pkt.op = 0x0001 ∨ b.pkt.op = 0x0101 ∨ b.pkt.op = 0x0102) →
        Completes (.packetRxComplete p payload bad) s fun t =>
          t.sw.queue = s.sw.queue ++ [{ id := s.sw.nextId, pkt := b.id, out := 288, tc := b.pkt.tc, dst := b.pkt.dst
                                        sending := false }] ∧
          t.rd64 (A.PORT_PKT_RX p) = (s.rd64 (A.PORT_PKT_RX p) + 1) % 2 ^ 64))

/-- A unit received is counted first (R109). A LINK unit whose DEBIT totals lie at most 65,535 ahead of RX_TOTAL in every
class sets RX_TOTAL to them, takes the partner's RETURN totals and grants, and lets the port send (R136, R142). One
that lies further ahead in a class sets CREDIT_PROTOCOL and takes LINK down (R143). A LINK unit that is due is sent
between packets with the current totals and grants, and restarts their count and gap (R138, R139). An output that may
send takes the head of the class its scheduler chooses, marks it as being sent and adds its cost to DEBIT_TOTAL (R136,
R192). The end of a packet at a fabric port puts it out, its units on the lanes of the transmit mask in turn (R109),
counts it, and takes its copy from the queue (R168). The packet that an internal output serves next, of those that
have no consumer command of their own, is put out and leaves where its consumer has room, and one of TC4 that finds no
room is discarded (R131, R192). Clauses whose packet returns cells are stated for cells charged to accounts that
exist, and the one that takes LINK down for a layout on one of the eight dies. (R109; R131; R136; R138; R139; R142;
R143; R168; R192) -/
def Obligations.CreditsAndPacketsAreSent : Prop :=
  ∀ (s : State) (p : Nat), p < 256 →
    (∀ unit bad, unit.length = 64 → s.unitBoundary p = true →
      let k : Pkt := { hdr := unit, payload := [] }
      let v := s.countUnits p 1
      unitParses k (bad || s.unitsLost p (s.port p).rxUnits 1) [3] = true →
      ((∀ c, c < 6 → (k.num (8 + 8 * c) 3 + 2 ^ 24 - v.get (F.PORT_CR_RX_TOTAL_TOTAL p c)) % 2 ^ 24 ≤ 65535) →
        Completes (.linkUnitRx p unit bad) s fun t =>
          (∀ c, c < 6 → t.get (F.PORT_CR_RX_TOTAL_TOTAL p c) = k.num (8 + 8 * c) 3 ∧
            t.get (F.PORT_CR_RETURN_RX_TOTAL p c) = k.num (11 + 8 * c) 3 ∧
            t.get (F.PORT_CR_TX_GRANT_GRANT p c) = k.num (14 + 8 * c) 2) ∧
          (t.port p).linkHeard = true ∧ t.get (F.PORT_STATE_LINK p) = v.get (F.PORT_STATE_LINK p)) ∧
      ((∃ c, c < 6 ∧ 65535 < (k.num (8 + 8 * c) 3 + 2 ^ 24 - v.get (F.PORT_CR_RX_TOTAL_TOTAL p c)) % 2 ^ 24) →
        s.layoutOnDie p = true → s.accountsExist = true →
        Completes (.linkUnitRx p unit bad) s fun t =>
          t.causeBit .PORT p 0 K.PORT_CREDIT_PROTOCOL = true ∧ t.get (F.PORT_STATE_LINK p) = LINK_DOWN)) ∧
    (s.transmits p = true → (s.port p).tx = none → s.linkDue p = true →
      Completes (.linkUnitTx p) s fun t =>
        t.out = s.out ++ [.link p (linkUnit (s.linkTotals p)) ((s.unitLanes p (s.port p).txUnits 1).headD 0)] ∧ (t.port p).linkSent = s.linkTotals p ∧
        (t.port p).unitsSince = 0 ∧ (t.port p).txUnits = (s.port p).txUnits + 1 ∧ t.timer { kind := .linkTx, a := p } = some s.clk ∧
        (∀ c, c < 6 → t.get (F.PORT_CR_RX_GRANT_GRANT p c) = s.eff p c) ∧
        Frame s t [.ports, .timers, .out] (fun a => ∃ c, c < 6 ∧ a = A.PORT_CR_RX_GRANT p c)) ∧
    (∀ c y k, s.transmits p = true → (s.port p).linkHeard = true → s.mach (.port p) = UP → (s.port p).tx = none →
      ((s.noteNofit p).schedule p).1 = some c → ((s.noteNofit p).schedule p).2.head p c = some y →
      ((s.noteNofit p).schedule p).2.copyPkt y = some k →
      Completes (.packetTxStart p) s fun t =>
        (t.port p).tx = some y.id ∧ (∀ x ∈ t.sw.queue, x.id = y.id → x.sending = true) ∧
        t.get (F.PORT_CR_DEBIT_TOTAL_TOTAL p c) = (s.get (F.PORT_CR_DEBIT_TOTAL_TOTAL p c) + k.cost) % 2 ^ 24 ∧
        Frame s t [.ports, .sw, .flt] (fun a => a = A.PORT_CR_DEBIT_TOTAL p c ∨ causeWords (A.SHAPE p) a)) ∧
    (∀ c k, (s.port p).tx = some c.id → s.sw.queue.find? (fun x => x.id = c.id) = some c → s.copyPkt c = some k →
      s.accountsExist = true → ∀ tc room, tc < 6 →
      Completes (.packetReadOut p tc room) s fun t =>
        t.out = s.out ++ [.packet p k (s.unitLanes p (s.port p).txUnits k.units)] ∧ (t.port p).tx = none ∧ t.sw.queue = s.sw.queue.filter (fun x => x.id ≠ c.id) ∧
        (t.port p).txUnits = (s.port p).txUnits + k.units ∧
        t.rd64 (A.PORT_PKT_TX p) = (s.rd64 (A.PORT_PKT_TX p) + 1) % 2 ^ 64) ∧
    (∀ o tc room c k, 256 ≤ o → o < 289 → tc < 6 → s.headFor o (readable o room) = some (c, k) → k.tc = tc →
      Completes (.packetReadOut o tc room) s fun t =>
        t.out = s.out ++ (if tc = 4 ∧ room = false then [] else [.packet o k []]) ∧
        t.sw.queue = s.sw.queue.filter (fun x => x.id ≠ c.id))

/-- A write of a higher LIMIT raises EFF as far as UNCOMMITTED allows, and sets PENDING and LIMIT_PENDING where that is
less than the limit (R161). A lower one sets EFF at once; at a fabric port whose LINK is not DOWN the old limit stays
committed until its release (R162). The release ends it once HELD fits and 200 µs have passed since the grant was
sent, or LINK is DOWN, and COMMIT is then the larger of EFF and HELD (R160, R162). A pending account whose lower-
numbered accounts wait for nothing rises as far as UNCOMMITTED allows (R161). COMMITTED follows COMMIT of the account,
and no other account changes. (R160; R161; R162) -/
def Obligations.LimitsMoveAccountsWithinTheCells : Prop :=
  ∀ (s : State) (p c : Nat), p < 289 → c < 6 →
    (∀ m (v : Word), s.grants m (A.SWITCH_LIMIT p c) v = true →
      (s.eff p c < v.toNat % 65536 →
        Completes (.limitWrite m p c v) s fun t =>
          let e := max (min (v.toNat % 65536) (s.commit p c + s.get F.SWITCH_UNCOMMITTED_CELLS)) (s.eff p c)
          t.get (F.SWITCH_LIMIT_LIMIT p c) = v.toNat % 65536 ∧ t.eff p c = e ∧
          t.flag (F.SWITCH_EFF_PENDING p c) = decide (e < v.toNat % 65536) ∧
          (e < v.toNat % 65536 → t.causeBit .SWITCH 0 0 K.SWITCH_LIMIT_PENDING = true) ∧
          t.get F.SWITCH_COMMITTED_CELLS =
            (s.get F.SWITCH_COMMITTED_CELLS + t.commit p c - s.commit p c) % 2 ^ 20 ∧
          Frame s t [.flt] (fun a => a = A.SWITCH_LIMIT p c ∨ a = A.SWITCH_EFF p c ∨ a = A.SWITCH_COMMITTED ∨
            a = A.SWITCH_UNCOMMITTED ∨ causeWords A.SWITCH a ∨ topWords a)) ∧
      (v.toNat % 65536 < s.eff p c →
        Completes (.limitWrite m p c v) s fun t =>
          t.get (F.SWITCH_LIMIT_LIMIT p c) = v.toNat % 65536 ∧ t.eff p c = v.toNat % 65536 ∧
          t.flag (F.SWITCH_EFF_PENDING p c) = false ∧
          (p < 256 → s.linkIsDown p = false → t.oldLimit p c = max (s.eff p c) (s.oldLimit p c) ∧
            t.flag (F.SWITCH_EFF_RELEASING p c) = true) ∧
          ((256 ≤ p ∨ s.linkIsDown p = true) → t.sw = s.sw) ∧
          Frame s t [.sw, .timers] (fun a => a = A.SWITCH_LIMIT p c ∨ a = A.SWITCH_EFF p c ∨ a = A.SWITCH_COMMITTED ∨
            a = A.SWITCH_UNCOMMITTED ∨ topWords a))) ∧
    ((∃ e ∈ s.sw.releasing, e.1 = p ∧ e.2.1 = c) →
      (s.linkIsDown p = true ∨ (s.held p c ≤ s.eff p c ∧ s.due { kind := .release, a := p, b := c } (us 200) = true)) →
      Completes (.limitRelease p c) s fun t =>
        t.oldLimit p c = 0 ∧ t.flag (F.SWITCH_EFF_RELEASING p c) = false ∧ t.eff p c = s.eff p c ∧
        t.commit p c = max (s.eff p c) (s.held p c) ∧
        Frame s t [.sw, .timers] (fun a => a = A.SWITCH_EFF p c ∨ a = A.SWITCH_COMMITTED ∨ a = A.SWITCH_UNCOMMITTED)) ∧
    (s.flag (F.SWITCH_EFF_PENDING p c) = true →
      (∀ q d, d < 6 → 8 * q + d < 8 * p + c → s.flag (F.SWITCH_EFF_PENDING q d) = false) →
      Completes (.limitPendingRaise p c) s fun t =>
        t.eff p c = max (min (s.get (F.SWITCH_LIMIT_LIMIT p c)) (s.commit p c + s.get F.SWITCH_UNCOMMITTED_CELLS)) (s.eff p c) ∧
        t.flag (F.SWITCH_EFF_PENDING p c) = decide (t.eff p c < s.get (F.SWITCH_LIMIT_LIMIT p c)) ∧
        Frame s t [] (fun a => a = A.SWITCH_EFF p c ∨ a = A.SWITCH_COMMITTED ∨ a = A.SWITCH_UNCOMMITTED))

/-- A packet that a processor hands to the firmware port is placed at the output its destination resolves to when its
account has room and no unicast of its class waits, charged to that account, and waits otherwise (R164, R165, R174);
it leaves with HOPS_LEFT 16 (R125), and one to 0xFFFF on the link that the processor names (R126). The first that
waits in an account counts QUOTA_WAITS (R174). Of the packets that wait at a port and whose cells can be granted, the
one whose turn it is (R193) leaves its wait: a unicast is placed, and a multicast is admitted all or none: every copy
with an output is queued there under its own destination, the others are counted as pruned (R166, R167). A multicast
larger than its account's grant sets MC_BLOCKED after 10 µs (R167). A contribution that its chunk is not ready for is
taken over by its station port and parked: where that account has room, the charge moves to it and the copy leaves the
queue (R164, R171, R277, R278). Numbers of waiting packets are stated to be below the next one. (R125; R126; R164;
R165; R166; R167; R171; R174; R193; R277; R278) -/
def Obligations.InternalPortsOriginateWithinTheirAccounts : Prop :=
  ∀ s : State,
    (∀ hdr payload link tc, hdr.length = 64 → tc < 6 → link < 256 →
      let k := ({ hdr := hdr, payload := payload } : Pkt).launch
      (∀ out, k.tc < 6 → s.fits 288 k.tc k.cost = true → (∀ w ∈ s.sw.waiting, ¬ (w.port = 288 ∧ w.pkt.tc = k.tc ∧ w.dsts = [])) →
        (k.dst ≠ 0xFFFF ∧ (s.resolve k k.dst).1 = .out out) ∨ (k.dst = 0xFFFF ∧ out = link ∧ s.portLive link 4 = true) →
        Completes (.originatedSend 288 tc (some (hdr, payload, link))) s fun t =>
          t.sw.queue = s.sw.queue ++ [{ id := s.sw.nextId + 1, pkt := s.sw.nextId, out := out, tc := k.tc, dst := k.dst
                                        sending := false }] ∧
          (∃ b ∈ t.sw.pkts, b.id = s.sw.nextId ∧ b.acct = 288 ∧ b.pkt = k ∧ b.whole = true ∧
            t.held 288 k.tc = (s.held 288 k.tc + (b.hdrCells ++ b.payCells).length) % 2 ^ 20) ∧ t.sw.waiting = s.sw.waiting) ∧
      (s.fits 288 k.tc k.cost = false ∨ (∃ w ∈ s.sw.waiting, w.port = 288 ∧ w.pkt.tc = k.tc ∧ w.dsts = []) →
        (∀ w ∈ s.sw.waiting, w.id < s.sw.nextId) →
        Completes (.originatedSend 288 tc (some (hdr, payload, link))) s fun t =>
          (∃ w, t.sw.waiting = s.sw.waiting ++ [w] ∧ w.port = 288 ∧ w.pkt = k ∧ w.dsts = [] ∧
            w.link = (if k.dst = 0xFFFF then some link else none)) ∧
          t.rd64 A.POOL_QUOTA_WAITS = (s.rd64 A.POOL_QUOTA_WAITS +
            (if s.sw.waiting.any fun w => w.port = 288 && w.pkt.tc = k.tc && w.dsts.isEmpty then 0 else 1)) % 2 ^ 64 ∧
          t.sw.queue = s.sw.queue ∧ Frame s t [.sw] (pairWords A.POOL_QUOTA_WAITS))) ∧
    (∀ o tc w u out, 256 ≤ o → o < 289 → tc < 6 →
      s.uplinkTurn o = (some w, u) → w.dsts = [] → w.link = none → w.pkt.tc = tc →
      ((u.delWaiting w.id).resolve w.pkt w.pkt.dst).1 = .out out →
      Completes (.originatedSend o tc none) s fun t =>
        t.sw.waiting.map (fun x => (x.id, x.port, x.pkt)) =
          (s.sw.waiting.filter (fun x => x.id ≠ w.id)).map (fun x => (x.id, x.port, x.pkt)) ∧
        (∃ q, t.sw.queue = s.sw.queue ++ [q] ∧ q.out = out ∧ q.tc = w.pkt.tc ∧ q.dst = w.pkt.dst ∧ q.sending = false)) ∧
    (∀ hdr payload dsts, hdr.length = 64 → 1 ≤ dsts.length → dsts.length ≤ 1024 →
      Completes (.multicastAdmit 288 (some (hdr, payload, dsts))) s fun t =>
        (∃ w, t.sw.waiting = s.sw.waiting ++ [w] ∧ w.port = 288 ∧ w.pkt = ({ hdr := hdr, payload := payload } : Pkt).launch ∧
          w.dsts = dsts ∧ t.timer { kind := .multicast, a := w.id } = some s.clk) ∧
        Frame s t [.sw, .timers] fun _ => False) ∧
    (∀ o w u, 256 ≤ o → o < 289 →
      s.uplinkTurn o = (some w, u) → w.dsts ≠ [] → w.held = none →
      w.port = o → w.pkt.tc < 6 →
      u.fits o w.pkt.tc ((State.resolveCopies w.pkt w.dsts u).1.length + w.pkt.pay) = true →
      (State.resolveCopies w.pkt w.dsts u).1 ≠ [] →
      Completes (.multicastAdmit o none) s fun t =>
        let n := (State.resolveCopies w.pkt w.dsts u).1.length
        t.sw.waiting = s.sw.waiting.filter (fun x => x.id ≠ w.id) ∧
        t.sw.queue.map (fun q => (q.dst, q.out)) =
          s.sw.queue.map (fun q => (q.dst, q.out)) ++ (State.resolveCopies w.pkt w.dsts u).1 ∧
        t.rd64 A.SWITCH_MC_PACKETS = (s.rd64 A.SWITCH_MC_PACKETS + 1) % 2 ^ 64 ∧
        t.rd64 A.SWITCH_MC_COPIES = (s.rd64 A.SWITCH_MC_COPIES + n) % 2 ^ 64 ∧
        t.rd64 A.SWITCH_MC_PRUNED = (s.rd64 A.SWITCH_MC_PRUNED + (w.dsts.length - n)) % 2 ^ 64) ∧
    (∀ o w, 256 ≤ o → o < 289 → w ∈ s.sw.waiting → w.port = o → w.dsts ≠ [] → w.blocked = false →
      s.due { kind := .multicast, a := w.id } (us 10) = true →
      s.eff o w.pkt.tc < (State.resolveCopies w.pkt w.dsts s).1.length + w.pkt.pay →
      Completes (.mcBlocked o) s fun t =>
        t.causeBit .SWITCH 0 0 K.SWITCH_MC_BLOCKED = true ∧ (∃ x ∈ t.sw.waiting, x.port = o ∧ x.blocked = true) ∧
        t.sw.queue = s.sw.queue ∧ Frame s t [.sw, .flt] (causeWords A.SWITCH)) ∧
    (∀ o tc c k b, 256 ≤ o → o < 288 → tc < 6 → s.headFor o s.parks = some (c, k) → k.tc = tc → s.bufPkt c.pkt = some b →
      k.op = 0x1003 → s.judgeData k = .park → s.parkedCells o k.tc + k.cost ≤ s.eff o k.tc / 2 →
      s.fits o k.tc k.cost = true →
      Completes (.stationTakeover o tc) s fun t =>
        t.sw.queue = s.sw.queue.filter (fun x => x.id ≠ c.id) ∧
        (∃ x, t.coll.parked = s.coll.parked ++ [x] ∧ x.buf = c.pkt ∧ x.pkt = k ∧ x.port = o ∧ x.key = k.chunkKey) ∧
        (∃ x ∈ t.sw.pkts, x.id = c.pkt ∧ x.acct = o ∧ x.taken = true))

/-- A flush leaves no copy queued for its port. Where no packet of the port is being sent at another output, which a flush
lets end (R170), it ends: no packet is charged to the port, and with no other flush waiting the count of running
flushes falls by 1, and LINK leaves DOWN for TRAINING where it was DOWN with a lane in training (R170, R172). The last
two are stated for a buffer whose packets and cells lie in accounts that exist. A flush that has run for 12 µs sets
FLUSH_OVERRUN and reports a hang of the lane die's or section's domain (R170, R436). (R170; R172; R436) -/
def Obligations.FlushesEmptyTheirPort : Prop :=
  ∀ (s : State) (p : Nat), p < 289 → (s.port p).flushing = true →
    (Completes (.flushComplete p) s fun t => ∀ c ∈ t.sw.queue, c.out ≠ p) ∧
    ((∀ c ∈ s.sw.queue, ∀ b ∈ s.sw.pkts, c.pkt = b.id → b.acct = p → c.sending = true → c.out = p) →
      (∀ e ∈ s.ports, e.2.flushWait = false) →
      Completes (.flushComplete p) s fun t =>
        (t.port p).flushing = false ∧ (∀ b ∈ t.sw.pkts, b.acct ≠ p) ∧
        (∀ q, q ≠ p → t.port q = s.port q) ∧
        (s.accountsExist = true →
          t.get F.SWITCH_FLUSHING_COUNT = s.get F.SWITCH_FLUSHING_COUNT - 1 ∧
          (p < 256 → s.get (F.PORT_STATE_LINK p) = LINK_DOWN → (∃ l ∈ s.portLanes p, s.phase l ≠ P_IDLE) →
            t.get (F.PORT_STATE_LINK p) = LINK_TRAINING))) ∧
    (s.due { kind := .flush, a := p } (us 12) = true →
      Completes (.flushOverrun p) s fun t =>
        t.causeBit .SWITCH 0 0 K.SWITCH_FLUSH_OVERRUN = true ∧
        (∃ r, t.flt.reports = s.flt.reports ++ [r] ∧ r.hang = true ∧
          r.domain = (if p < 256 then s.evDomain .PORT p 0 else dom 1 ((p - 256) / 2))) ∧
        Frame s t [.flt] (causeWords A.SWITCH))

/-- For every pool with requester kinds: a request that fits FREE, less the entries of sub-lists in rebuild, and the
requester's quota is granted at once where, in a slot pool, its turn has come among those that fit; FREE falls and
ALLOCATED and USED rise by the entries delivered; another waits and counts QUOTA_WAITS (R174, R177). Of the waiting
requests that fit, the staging-slab pool grants that of the first requester from its rotating pointer, and a slot pool
the one whose turn it is (R169, R174, R193). A cell that returns leaves its account on the same edge (R159). Freeing
an allocated entry raises FREE and lowers ALLOCATED by 1; freeing one that is not allocated changes neither, sets
POOL_DOUBLE_FREE and is counted (R175). A quota write stores it and sets QUOTA_OVERCOMMIT when the quotas exceed SIZE
(R176). The walker moves one place on, or ends its pass, and starts the rebuild of each sub-list in which it finds an
allocated entry or one whose link has become uncorrectable; the end of a rebuild threads the sub-list from the state
bits alone (R177). Once per millisecond the audit counts itself and each identity that fails, and a failure sets
CONSERVATION (R178). (R159; R169; R174; R175; R176; R177; R178; R193) -/
def Obligations.PoolsGrantFreeAndHeal : Prop :=
  ∀ s : State,
    (∀ e r ow, e < s.rd (A.POOL_SIZE 0) → Tab.find (s.pool 0).owner e = some ow → ow / 8 < 289 → ow % 8 < 6 →
      Completes (.poolFree 0 e r) s fun t =>
        Tab.find (t.pool 0).owner e = none ∧ t.rd (A.POOL_FREE 0) = (s.rd (A.POOL_FREE 0) + 1) % 2 ^ 32 ∧
        t.held (ow / 8) (ow % 8) = s.held (ow / 8) (ow % 8) - 1) ∧
    ∀ k : Nat, poolOk k = true → k ≠ 0 →
    (∀ r n tag, r < 4 → s.poolFits k n r = true →
      (k = 1 ∨ ((s.slotTurn k [⟨(⟨r, n, tag⟩ : PoolReq).child, 1, n⟩]).1 = some (⟨r, n, tag⟩ : PoolReq).child ∧
        ∀ x ∈ (s.pool k).waits, x.child ≠ (⟨r, n, tag⟩ : PoolReq).child)) →
      Completes (.poolRequest k r n tag) s fun t =>
        ∃ l, l.length ≤ n ∧ (t.pool k).grants = (s.pool k).grants ++ [(tag, l)] ∧
        t.rd (A.POOL_FREE k) = s.rd (A.POOL_FREE k) - l.length ∧
        t.rd (A.POOL_ALLOCATED k) = (s.rd (A.POOL_ALLOCATED k) + l.length) % 2 ^ 32 ∧
        t.rd (A.POOL_USED k r) = (s.rd (A.POOL_USED k r) + l.length) % 2 ^ 32 ∧ t.sw = { s.sw with arbs := t.sw.arbs } ∧
        Frame s t [.pools, .free, .flt, .sw] (fun a => a = A.POOL_FREE k ∨ a = A.POOL_ALLOCATED k ∨ a = A.POOL_USED k r ∨
          causeWords A.POOL a ∨ pairWords A.POOL_RELINKS a)) ∧
    (∀ r n tag, r < 4 → (s.poolFits k n r = false ∨
        (k ≠ 1 ∧ ((s.slotTurn k [⟨(⟨r, n, tag⟩ : PoolReq).child, 1, n⟩]).1 ≠ some (⟨r, n, tag⟩ : PoolReq).child ∨
          ∃ x ∈ (s.pool k).waits, x.child = (⟨r, n, tag⟩ : PoolReq).child))) →
      Completes (.poolRequest k r n tag) s fun t =>
        (t.pool k).waits = (s.pool k).waits ++ [⟨r, n, tag⟩] ∧
        t.rd64 A.POOL_QUOTA_WAITS = (s.rd64 A.POOL_QUOTA_WAITS + 1) % 2 ^ 64 ∧
        Frame s t [.pools] (pairWords A.POOL_QUOTA_WAITS)) ∧
    (∀ w, (k = 1 ∧ s.nextRequest k = some w) ∨
        (k ≠ 1 ∧ ∃ child, (s.slotTurn k []).1 = some child ∧
          (s.pool k).waits.find? (fun x => x.child = child && s.poolFits k x.n x.req) = some w) → w.req < 4 →
      Completes (.poolGrant k) s fun t =>
        ∃ l, l.length ≤ w.n ∧ (t.pool k).grants = (s.pool k).grants ++ [(w.tag, l)] ∧
        (t.pool k).waits = (s.pool k).waits.filter (fun x => x ≠ w) ∧
        t.rd (A.POOL_FREE k) = s.rd (A.POOL_FREE k) - l.length) ∧
    (∀ e r ow, e < s.rd (A.POOL_SIZE k) → Tab.find (s.pool k).owner e = some ow → ow < 4 →
      Completes (.poolFree k e r) s fun t =>
        Tab.find (t.pool k).owner e = none ∧ t.rd (A.POOL_FREE k) = (s.rd (A.POOL_FREE k) + 1) % 2 ^ 32 ∧
        t.rd (A.POOL_ALLOCATED k) = s.rd (A.POOL_ALLOCATED k) - 1 ∧
        Frame s t [.pools] (fun a => a = A.POOL_FREE k ∨ a = A.POOL_ALLOCATED k ∨ a = A.POOL_USED k ow)) ∧
    (∀ e r, e < s.rd (A.POOL_SIZE k) → Tab.find (s.pool k).owner e = none →
      Completes (.poolFree k e r) s fun t =>
        t.causeBit .POOL 0 0 K.POOL_POOL_DOUBLE_FREE = true ∧
        t.rd64 A.POOL_DOUBLE_FREES = (s.rd64 A.POOL_DOUBLE_FREES + 1) % 2 ^ 64 ∧
        Frame s t [.flt] (fun a => causeWords A.POOL a ∨ pairWords A.POOL_DOUBLE_FREES a ∨ a = A.POOL_DF_POOL ∨
          a = A.POOL_DF_ENTRY ∨ a = A.POOL_DF_REQ)) ∧
    (∀ m r (v : Word), r < 4 → s.grants m (A.POOL_QUOTA k r) v = true →
      Completes (.quotaWrite m k r v) s fun t =>
        t.get (F.POOL_QUOTA_ENTRIES k r) = v.toNat % 2 ^ 20 ∧
        (t.rd (A.POOL_SIZE k) < ((List.range 4).map fun j => t.rd (A.POOL_QUOTA k j)).sum →
          t.causeBit .POOL 0 0 K.POOL_QUOTA_OVERCOMMIT = true) ∧
        Frame s t [.flt] (fun a => a = A.POOL_QUOTA k r ∨ causeWords A.POOL a ∨ topWords a)) ∧
    (∀ errs, Completes (.poolWalk k errs) s fun t =>
      let len := fun i => ((s.pool k).sub i).len (s.rd (A.POOL_SIZE k)) (s.rd (A.POOL_SUB k)) i
      (∀ i e, i < s.rd (A.POOL_SUB k) →
        ((s.pool k).sub i).nth (s.rd (A.POOL_SIZE k)) (s.rd (A.POOL_SUB k)) i ((s.pool k).walkPlace i) = some e →
        ((Tab.find (s.pool k).owner e).isSome = true ∨ e ∈ (s.pool k).badLinks ∨ e ∈ errs) →
        ((t.pool k).sub i).relinking = true) ∧
      (∀ e ∈ errs, Tab.find (s.pool k).owner e = none → e ∈ (t.pool k).badLinks) ∧
      ((∀ i, i < s.rd (A.POOL_SUB k) → len i ≤ (s.pool k).walkPlace i + 1) → (t.pool k).walkAt = 0 ∧
        t.rd64 A.POOL_WALKS = (s.rd64 A.POOL_WALKS + 1) % 2 ^ 64) ∧
      ((∃ i, i < s.rd (A.POOL_SUB k) ∧ (s.pool k).walkPlace i + 1 < len i) → (t.pool k).walkAt = (s.pool k).walkAt + 1) ∧
      Frame s t [.pools, .flt] (fun a => causeWords A.POOL a ∨ pairWords A.POOL_WALKS a ∨ pairWords A.POOL_RELINKS a)) ∧
    (∀ i, ((s.pool k).sub i).relinking = true →
      Completes (.poolRelinkDone k i) s fun t =>
        (t.pool k).sub i = { front := rebuilt (s.pool k) (s.rd (A.POOL_SUB k)) i, fresh := ((s.pool k).sub i).fresh } ∧
        (∀ e ∈ (t.pool k).badLinks, e % s.rd (A.POOL_SUB k) ≠ i) ∧
        (∀ j, j ≠ i → (t.pool k).sub j = (s.pool k).sub j) ∧ Frame s t [.pools] fun _ => False) ∧
    (s.elapsed { kind := .audit, a := 0 } (ms 1) = true → s.pow.mainRails = true → s.sid.released = true →
      s.fstate (dom 0 0) ≠ 3 →
      Completes .conservationAudit s fun t =>
        t.rd64 A.SWITCH_AUDITS = (s.rd64 A.SWITCH_AUDITS + 1) % 2 ^ 64 ∧
        t.rd64 A.SWITCH_AUDIT_FAILS =
          (s.rd64 A.SWITCH_AUDIT_FAILS + (s.identities.filter fun i => i.left ≠ i.right).length) % 2 ^ 64 ∧
        ((∃ i ∈ s.identities, i.left ≠ i.right) → t.causeBit .SWITCH 0 0 K.SWITCH_CONSERVATION = true) ∧
        t.timer { kind := .audit, a := 0 } = some s.clk ∧
        Frame s t [.timers, .flt] (fun a => A.SWITCH ≤ a ∧ a < A.SWITCH + 0x1000))

/-- A port that stops being live counts PATH_REMOVALS and sets PATH_REMOVED; one that is live again counts PATH_RETURNS
(R189, R190). The refill of a slow cycle adds RATE to the level of every enabled bucket of a port, up to 800 × BURST,
and to no other (R198, R200); a second refill in the same slow cycle adds nothing. It counts BUCKET_HOLDS for each
held class, and takes the OVH of the registers over (R200). EN going from 0 to 1 starts the level at 800 × BURST, and
a write with EN already 1 leaves the level (R200). A port's buckets are served from the first write that sets EN or
writes OVH on, before which no bucket of it acts and its OVH is 0. (R189; R190; R198; R200) -/
def Obligations.PathsAndBucketsFollowTheirRules : Prop :=
  ∀ s : State,
    (∀ p, p < 256 → (s.port p).live = true → s.portLive p 0 = false →
      Completes (.pathRemoved p) s fun t =>
        t.port p = { s.port p with live := false } ∧ (∀ q, q ≠ p → t.port q = s.port q) ∧
        t.rd64 A.ROUTE_PATH_REMOVALS = (s.rd64 A.ROUTE_PATH_REMOVALS + 1) % 2 ^ 64 ∧
        t.causeBit .ROUTE 0 0 K.ROUTE_PATH_REMOVED = true ∧
        Frame s t [.ports, .flt] (fun a => pairWords A.ROUTE_PATH_REMOVALS a ∨ causeWords A.ROUTE a)) ∧
    (∀ p, p < 256 → (s.port p).live = false → s.portLive p 0 = true →
      Completes (.pathReturn p) s fun t =>
        t.port p = { s.port p with live := true } ∧
        t.rd64 A.ROUTE_PATH_RETURNS = (s.rd64 A.ROUTE_PATH_RETURNS + 1) % 2 ^ 64 ∧
        Frame s t [.ports] (pairWords A.ROUTE_PATH_RETURNS)) ∧
    (s.sw.refillAt = some s.clk → Completes .bucketRefill s fun t => Frame s t [] fun _ => False) ∧
    (s.sw.refillAt ≠ some s.clk → Completes .bucketRefill s fun t =>
      (∀ p c, p < 256 → c < 6 → (s.port p).shaped = true → s.bucketOn p c = true →
        t.bucketLevel p c = min (s.bucketLevel p c + s.get (F.SHAPE_RATE_RATE p c)) (s.bucketCap p c)) ∧
      (∀ p c, p < 256 → c < 6 → ((s.port p).shaped = false ∨ s.bucketOn p c = false) →
        t.bucketLevel p c = s.bucketLevel p c) ∧
      (∀ p c, p < 256 → c < 6 → t.bucketOvh p c = (if (s.port p).shaped then s.ovhNow p c else s.bucketOvh p c)) ∧
      (∀ p c, p < 256 → c < 6 → t.rd64 (A.SHAPE_BUCKET_HOLDS p c) =
        (s.rd64 (A.SHAPE_BUCKET_HOLDS p c) + if (s.port p).shaped && s.bucketHolds p c then 1 else 0) % 2 ^ 64) ∧
      t.sw = { s.sw with refillAt := some s.clk } ∧
      Frame s t [.ports, .sw] (fun a => ∃ p c, p < 256 ∧ c < 6 ∧ pairWords (A.SHAPE_BUCKET_HOLDS p c) a)) ∧
    (∀ m p c (v : Word), p < 256 → c < 6 →
      s.grants m (A.SHAPE_RATE p c) (BitVec.ofNat 32 (setBits v.toNat 31 1 1)) = true →
      Completes (.bucketEnable m p c v) s fun t =>
        t.bucketOn p c = true ∧ t.get (F.SHAPE_RATE_RATE p c) = v.toNat % 2 ^ 22 ∧
        t.bucketLevel p c = (if s.bucketOn p c then s.bucketLevel p c else s.bucketCap p c) ∧
        (s.bucketOn p c = false → (t.port p).shaped = true) ∧
        (∀ d, d < 6 → d ≠ c → t.bucketLevel p d = s.bucketLevel p d) ∧
        Frame s t [.ports, .timers] (fun a => a = A.SHAPE_RATE p c ∨ topWords a))

/-- A due TIME_SYNC of an enabled port raises its SEQ, counts SYNC_TX, restarts its interval and is handed to the port
(R203). A TIME_SYNC at the firmware port leaves it and is answered on its port with t2 (R203). A TIME_REPLY whose SEQ,
delay and interval hold, from the parent port, stores OFFSET and DELAY, ends the exchange and steps NOW by the offset,
with TIME_STEP and STEPS, when it exceeds STEP_LIMIT (R204); one that answers nothing, or another SEQ, counts
REPLY_RX, and EXCH_BAD at the parent, and adds nothing to the exchanges in a row (R204, R205). An exchange of the
parent not answered in its interval is missed, and the fourth in a row takes the servo to HOLDOVER (R205). With the
parent's LINK down, the unit follows BACKUP_PORT once if that is enabled, and otherwise holds over (R205). (R203;
R204; R205) -/
def Obligations.TimeExchangesSteerTheClock : Prop :=
  ∀ s : State,
    (∀ p, p < 256 → s.syncOn p = true → s.flushBusy p = false →
      s.elapsed { kind := .sync, a := p } (us s.syncUs) = true →
      let k := mkPkt false 4 false 0x0101 0xFFFF s.node 0 0 0 (mkBody 30 [(0, 2, (s.port p).syncSeq + 1)]) []
      Completes (.timeSyncTx p) s fun t =>
        (t.port p).syncSeq = ((s.port p).syncSeq + 1) % 65536 ∧ t.timer { kind := .sync, a := p } = some s.clk ∧
        t.rd64 A.TIME_SYNC_TX = (s.rd64 A.TIME_SYNC_TX + 1) % 2 ^ 64 ∧
        ((∃ b ∈ t.sw.pkts, b.pkt = k ∧ b.acct = 288) ∨ ∃ w ∈ t.sw.waiting, w.pkt = k ∧ w.link = some p)) ∧
    (∀ c k b, s.headFor 288 (fun x => x.op == 0x0101) = some (c, k) → s.bufPkt c.pkt = some b → b.acct < 256 → b.tc < 6 →
      s.linkIsUp b.acct = true → s.flushBusy b.acct = false → s.accountsExist = true →
      let r := mkPkt false 4 false 0x0102 0xFFFF s.node 0 0 0
        (toBytes 2 (k.num 32 2) ++ stamp (b.arrived.1 * 2 ^ 32 + b.arrived.2) ++ toBytes 16 0) []
      Completes .timeSync s fun t =>
        (∃ l, t.sw.queue = s.sw.queue.filter (fun x => x.id ≠ c.id) ++ l) ∧
        ((∃ x ∈ t.sw.pkts, x.pkt = r ∧ x.acct = 288) ∨ ∃ w ∈ t.sw.waiting, w.pkt = r ∧ w.link = some b.acct)) ∧
    (∀ c k b, s.headFor 288 (fun x => x.op == 0x0102) = some (c, k) → s.bufPkt c.pkt = some b → b.acct = s.timeParent →
      b.tc < 6 → s.flag F.TIME_CFG_PARENT_EN = true → s.flag F.TIME_CFG_GM = false → s.accountsExist = true →
      ((s.port b.acct).syncT1 = none ∨ k.num 32 2 ≠ (s.port b.acct).syncSeq →
        Completes .timeReply s fun t =>
          t.rd64 A.TIME_REPLY_RX = (s.rd64 A.TIME_REPLY_RX + 1) % 2 ^ 64 ∧
          t.rd64 A.TIME_EXCH_BAD = (s.rd64 A.TIME_EXCH_BAD + 1) % 2 ^ 64 ∧ t.time = s.time ∧
          (t.port b.acct).syncT1 = (s.port b.acct).syncT1 ∧ t.servo = s.servo) ∧
      (∀ t1, (s.port b.acct).syncT1 = some t1 → k.num 32 2 = (s.port b.acct).syncSeq →
        s.due { kind := .sync, a := b.acct } (us s.syncUs) = false →
        let t4 : Int := ((b.arrived.1 * 2 ^ 32 + b.arrived.2 : Nat) : Int)
        let a1 : Int := ((t1.1 * 2 ^ 32 + t1.2 : Nat) : Int)
        let delay := (t4 - a1 - (((k.stampAt 46 : Nat) : Int) - (k.stampAt 34 : Nat))) / 2
        let off := ((((k.stampAt 34 : Nat) : Int) - a1) - (t4 - (k.stampAt 46 : Nat))) / 2 -
          signed (s.rd (A.TIME_ASYM b.acct)) 32 * 2 ^ 32
        delay ≤ 20000 * 2 ^ 32 →
        Completes .timeReply s fun t =>
          t.rd A.TIME_OFFSET = unsigned (off / 2 ^ 32) 32 ∧ t.rd A.TIME_DELAY = unsigned (delay / 2 ^ 32) 32 ∧
          (t.port b.acct).syncT1 = none ∧
          ((s.get F.TIME_STEP_LIMIT_NS : Int) * 2 ^ 32 < (off.natAbs : Int) →
            (t.now : Int) = ((s.now : Int) + off) % 2 ^ 96 ∧ t.causeBit .TIME 0 0 K.TIME_TIME_STEP = true ∧
            t.rd64 A.TIME_STEPS = (s.rd64 A.TIME_STEPS + 1) % 2 ^ 64))) ∧
    (s.flag F.TIME_CFG_PARENT_EN = true → s.flag F.TIME_CFG_GM = false → (s.port s.timeParent).syncT1.isSome = true →
      s.due { kind := .sync, a := s.timeParent } (us s.syncUs) = true →
      Completes .timeExchangeMissed s fun t =>
        (t.port s.timeParent).syncT1 = none ∧
        (3 ≤ s.time.bad → s.servo = SERVO_LOCKED → t.servo = SERVO_HOLDOVER ∧
          t.causeBit .TIME 0 0 K.TIME_HOLDOVER = true ∧ t.causeBit .TIME 0 0 K.TIME_LOCK_LOST = true) ∧
        (s.time.bad < 3 → t.time.bad = s.time.bad + 1 ∧ t.time.good = 0 ∧ t.servo = s.servo)) ∧
    (s.flag F.TIME_CFG_PARENT_EN = true → s.flag F.TIME_CFG_GM = false → s.linkIsUp s.timeParent = false →
      Completes .timeParentLost s fun t =>
        (s.flag F.TIME_CFG_BACKUP_EN = true → s.flag F.TIME_STATE_ON_BACKUP = false →
          t.flag F.TIME_STATE_ON_BACKUP = true ∧ t.servo = SERVO_ACQUIRE) ∧
        ((s.flag F.TIME_CFG_BACKUP_EN = false ∨ s.flag F.TIME_STATE_ON_BACKUP = true) → t.servo = SERVO_HOLDOVER) ∧
        Frame s t [.time, .flt] (fun a => a = A.TIME + 12 ∨ causeWords A.TIME a))

/-- LATCH copies NOW into LATCH_NS and LATCH_FRAC (R202). SET loads NOW from SET_NS with fraction 0 (R206), and the
position of every gate list in force is taken anew from NOW (R209). RESTART clears ON_BACKUP and puts the servo in GM
when GM is 1 and in ACQUIRE otherwise (R205). A rising TIME_PPS_IN edge captures NOW's nanoseconds and restarts the
watch; where the module is no grandmaster with PPS_IN_EN it does nothing else, and where it is, an offset of the
captured second above STEP_LIMIT steps NOW (R206). With PPS_IN_EN, 1.1 s without an edge set PPS_MISSING once (R206).
At a second of NOW with PPS_OUT_EN, TIME_PPS_OUT is driven low (R207). (R202; R205; R206; R207) -/
def Obligations.TimeCommandsAndPulsesActOnNow : Prop :=
  ∀ s : State,
    (∀ m, s.grants m A.TIME_CMD 1 = true →
      Completes (.timeLatch m) s fun t =>
        t.rd64 A.TIME_LATCH_NS = s.time.ns % 2 ^ 64 ∧ t.rd A.TIME_LATCH_FRAC = s.time.frac % 2 ^ 32 ∧ t.time = s.time ∧
        Frame s t [] (fun a => pairWords A.TIME_LATCH_NS a ∨ a = A.TIME_LATCH_FRAC ∨ topWords a)) ∧
    (∀ m, s.grants m A.TIME_CMD 2 = true →
      Completes (.timeSet m) s fun t =>
        t.time.ns = s.rd64 A.TIME_SET_NS ∧ t.time.frac = 0 ∧
        (∀ p, p < 256 → s.flag (F.SHAPE_GATE_CTL_GATE_EN p) = true → (s.port p).gating = true →
          (t.port p).gateRunning = t.gateActive p ∧
          (t.gateActive p = true → (t.port p).gateCycle = t.gateCycleNo p ∧
            t.get (F.SHAPE_GATE_POS_ENTRY p) = (gateFind (t.gateList p (t.gateBank p)) 0 (t.gateOffset p)).1)) ∧
        Frame s t [.time, .ports] (fun a => topWords a ∨ ∃ p, p < 256 ∧ a = A.SHAPE_GATE_POS p)) ∧
    (∀ m, s.grants m A.TIME_CMD 4 = true →
      Completes (.timeRestart m) s fun t =>
        t.flag F.TIME_STATE_ON_BACKUP = false ∧
        t.servo = (if s.flag F.TIME_CFG_GM then SERVO_GM else SERVO_ACQUIRE) ∧ t.now = s.now ∧
        Frame s t [.time, .flt] (fun a => a = A.TIME + 12 ∨ causeWords A.TIME a ∨ topWords a)) ∧
    (Completes .ppsInEdge s fun t =>
      t.rd64 A.TIME_PPS_CAP = s.time.ns % 2 ^ 64 ∧ t.timer { kind := .ppsIn, a := 0 } = some s.clk ∧
      ((s.flag F.TIME_CFG_GM = false ∨ s.flag F.TIME_CFG_PPS_IN_EN = false) →
        Frame s t [.timers] (pairWords A.TIME_PPS_CAP)) ∧
      (s.flag F.TIME_CFG_GM = true → s.flag F.TIME_CFG_PPS_IN_EN = true →
        let sec : Int := 1000000000 * 2 ^ 32
        let e := ((s.time.ns * 2 ^ 32 : Nat) - signed (s.rd A.TIME_PPS_DELAY) 32 * 2 ^ 32) % sec
        let off := if 2 * e ≤ sec then -e else sec - e
        (s.get F.TIME_STEP_LIMIT_NS : Int) * 2 ^ 32 < (off.natAbs : Int) →
          (t.now : Int) = ((s.now : Int) + off) % 2 ^ 96 ∧ t.causeBit .TIME 0 0 K.TIME_TIME_STEP = true)) ∧
    (s.flag F.TIME_CFG_PPS_IN_EN = true → s.due { kind := .ppsIn, a := 0 } (ms 1100) = true →
      Completes .ppsMissing s fun t =>
        t.causeBit .TIME 0 0 K.TIME_PPS_MISSING = true ∧ t.timer { kind := .ppsIn, a := 0 } = none ∧
        Frame s t [.timers, .flt] (causeWords A.TIME)) ∧
    (s.flag F.TIME_CFG_PPS_OUT_EN = true → s.time.ns % 1000000000 ≤ 10 →
      Completes .ppsOutPulse s fun t =>
        t.time = { s.time with ppsOut := true } ∧ t.pins.ppsOut = (s.pins.modEn && s.pins.resetN) ∧
        Frame s t [.time] fun _ => False)

/-- GATE_EN written 1 takes the active bank when it keeps R210, and otherwise sets GATE_INVALID with every class open
(R210); gating in force on a good bank goes on. A write of both words of SWAP_AT stores them whole and sets
SWAP_PENDING from NOW on (R211, R37). Once NOW has reached GATE_BASE the list comes into force at NOW's place in the
cycle, and later the entry in force is the one in which NOW falls, with completed cycles counted, and in GUARD_HOLDS
where a head fits in no window (R209, R213). At or after the first cycle start not before SWAP_AT and its request, the
other bank becomes active from entry 0 with that start as its base; a bank that breaks R210 sets GATE_INVALID, and the
running one stays (R211; that the request then ends is the model's choice, log 26). (R37; R209; R210; R211; R213) -/
def Obligations.GatesCycleAndSwap : Prop :=
  ∀ (s : State) (p : Nat), p < 256 →
    (∀ m, s.grants m (A.SHAPE_GATE_CTL p) 1 = true →
      Completes (.gateEnable m p) s fun t =>
        t.flag (F.SHAPE_GATE_CTL_GATE_EN p) = true ∧ (t.port p).gating = s.gateBankOk p (s.gateBank p) ∧
        (t.port p).gateRunning = ((s.port p).gating && s.gateBankOk p (s.gateBank p) && (s.port p).gateRunning) ∧
        (s.gateBankOk p (s.gateBank p) = false → t.causeBit .SHAPE p 0 K.SHAPE_GATE_INVALID = true) ∧
        Frame s t [.ports, .flt] (fun a => a = A.SHAPE_GATE_CTL p ∨ causeWords (A.SHAPE p) a ∨ topWords a)) ∧
    (∀ m lo hi, s.grants m (A.SHAPE_SWAP_AT p) (BitVec.ofNat 32 lo) = true →
      s.grants m (A.SHAPE_SWAP_AT p + 4) (BitVec.ofNat 32 hi) = true →
      (∀ x ∈ s.staging, x.entry = A.SHAPE_SWAP_AT p → x.words.length = 1) →
      Completes (.swapAtWrite m p lo hi) s fun t =>
        t.get (F.SHAPE_SWAP_AT_AT p) = lo % 2 ^ 32 + 2 ^ 32 * (hi % 2 ^ 32) ∧
        t.flag (F.SHAPE_GATE_CTL_SWAP_PENDING p) = true ∧
        t.swapFrom p = max (lo % 2 ^ 32 + 2 ^ 32 * (hi % 2 ^ 32)) s.time.ns ∧
        Frame s t [.staging, .ports] (fun a => pairWords (A.SHAPE_SWAP_AT p) a ∨ a = A.SHAPE_GATE_CTL p ∨ topWords a)) ∧
    (s.gateActive p = true → (s.port p).gateRunning = false →
      Completes (.gateBaseReached p) s fun t =>
        (t.port p).gateRunning = true ∧ (t.port p).gateCycle = s.gateCycleNo p ∧
        t.get (F.SHAPE_GATE_POS_ENTRY p) = (gateFind (s.gateList p (s.gateBank p)) 0 (s.gateOffset p)).1 ∧
        t.rd64 (A.SHAPE_GATE_CYCLES p) = (s.rd64 (A.SHAPE_GATE_CYCLES p) + s.gateCycleNo p) % 2 ^ 64 ∧
        t.gateBank p = s.gateBank p) ∧
    (s.gateActive p = true → (s.port p).gateRunning = true →
      Completes (.gateEntryAdvance p) s fun t =>
        (t.port p).gateCycle = s.gateCycleNo p ∧
        t.get (F.SHAPE_GATE_POS_ENTRY p) = (gateFind (s.gateList p (s.gateBank p)) 0 (s.gateOffset p)).1 ∧
        t.rd64 (A.SHAPE_GATE_CYCLES p) =
          (s.rd64 (A.SHAPE_GATE_CYCLES p) + (s.gateCycleNo p - (s.port p).gateCycle)) % 2 ^ 64 ∧
        t.rd64 (A.SHAPE_GUARD_HOLDS p) = (s.rd64 (A.SHAPE_GUARD_HOLDS p) +
          if (List.range 6).any (s.gateNofit p) then s.gateCycleNo p - (s.port p).gateCycle else 0) % 2 ^ 64 ∧
        Frame s t [.ports, .flt] (fun a => a = A.SHAPE_GATE_POS p ∨ pairWords (A.SHAPE_GATE_CYCLES p) a ∨
          pairWords (A.SHAPE_GUARD_HOLDS p) a ∨ causeWords (A.SHAPE p) a)) ∧
    (s.flag (F.SHAPE_GATE_CTL_SWAP_PENDING p) = true → s.gateActive p = true →
      let cyc := gateCycleNs (s.gateList p (s.gateBank p))
      let base := s.get (F.SHAPE_GATE_BASE_BASE p)
      let start := base + ((s.swapFrom p - base + cyc - 1) / cyc) * cyc
      start ≤ s.time.ns →
      Completes (.gateSwap p) s fun t =>
        t.flag (F.SHAPE_GATE_CTL_SWAP_PENDING p) = false ∧
        (s.gateBankOk p (1 - s.gateBank p) = true → t.gateBank p = 1 - s.gateBank p ∧
          t.get (F.SHAPE_GATE_POS_ENTRY p) = 0 ∧ t.get (F.SHAPE_GATE_BASE_BASE p) = start % 2 ^ 64 ∧
          (t.port p).gateRunning = true ∧ (t.port p).gateCycle = 0 ∧
          t.rd64 (A.SHAPE_GATE_CYCLES p) =
            (s.rd64 (A.SHAPE_GATE_CYCLES p) + ((start - base) / cyc - (s.port p).gateCycle)) % 2 ^ 64) ∧
        (s.gateBankOk p (1 - s.gateBank p) = false → t.gateBank p = s.gateBank p ∧
          t.causeBit .SHAPE p 0 K.SHAPE_GATE_INVALID = true))

/-- A committed plan entry, a good HELLO, the silence of a neighbour and the end of the wait for one each leave TOPO and
TOPO_REASON of their port as R221 gives them (R215, R219, R221); a change of the module number does so for every port
whose LINK is up or whose neighbour record is valid, and those that are up send a HELLO (R217). A HELLO copies NODE,
KIND, PORT, TAG, the expected node and port, and SEQ into the neighbour record and sets VALID (R219). DEAD_COUNT ×
HELLO_US without one clears VALID. A port planned EXPECT that heard nobody for ABSENT_MS is ABSENT. Every HELLO_US a
port that is up sends a HELLO, whose SEQ rises by 1 (R217, R218). (R215; R217; R218; R219; R221) -/
def Obligations.DiscoveryKeepsThePlanAndTheNeighbour : Prop :=
  ∀ s : State,
    (∀ m p (v : Word), p < 256 → s.grants m (A.PORT_PLAN p + 12) v = true →
      Completes (.planCommit m p v) s fun t =>
        t.get (F.PORT_PLAN_CTL_MODE p) = v.toNat % 4 ∧ t.get (F.PORT_STATE_TOPO p) = (t.topo p).1 ∧
        t.get (F.PORT_TOPO_REASON_REASON p) = (t.topo p).2 ∧
        (s.linkIsUp p = true → t.timer { kind := .hello, a := p } = some s.clk) ∧
        (∀ x ∈ t.staging, ¬ (x.master = m ∧ x.block = .PORT))) ∧
    (∀ m (v : Word), s.grants m A.TOP_MODULE_NUM v = true →
      Completes (.moduleNumWrite m v) s fun t =>
        t.get F.TOP_MODULE_NUM_NUMBER = v.toNat % 4096 ∧ t.flag F.TOP_MODULE_NUM_VALID = v.toNat.testBit 31 ∧
        (∀ p, p < 256 → s.linkIsUp p = true → t.timer { kind := .hello, a := p } = some s.clk) ∧
        (∀ p, p < 256 → (s.linkIsUp p = true ∨ s.flag (F.PORT_NB_NODE_VALID p) = true) →
          t.get (F.PORT_STATE_TOPO p) = (t.topo p).1)) ∧
    (∀ p, p < 256 → s.linkIsUp p = true → s.flushBusy p = false →
      s.elapsed { kind := .hello, a := p } (us (s.helloUs p)) = true →
      Completes (.helloTx p) s fun t =>
        (t.port p).helloSeq = ((s.port p).helloSeq + 1) % 65536 ∧ t.timer { kind := .hello, a := p } = some s.clk ∧
        ((∃ b ∈ t.sw.pkts, b.pkt = s.helloPkt p ∧ b.acct = 288) ∨
          ∃ w ∈ t.sw.waiting, w.pkt = s.helloPkt p ∧ w.link = some p)) ∧
    (∀ c k b, s.headFor 288 (fun x => x.op == 0x0001) = some (c, k) → s.bufPkt c.pkt = some b → b.acct < 256 → b.tc < 6 →
      s.accountsExist = true →
      Completes .hello s fun t =>
        t.get (F.PORT_NB_NODE_NODE b.acct) = k.num 32 2 ∧ t.get (F.PORT_NB_NODE_KIND b.acct) = bits (k.byte 36) 0 2 ∧
        t.get (F.PORT_NB_PORT_PORT b.acct) = k.num 34 2 ∧ t.rd (A.PORT_NB_TAG b.acct) = k.num 40 4 ∧
        t.rd (A.PORT_NB_EXPECT b.acct) = k.num 44 4 ∧ t.get (F.PORT_NB_SEQ_SEQ b.acct) = k.num 38 2 ∧
        t.flag (F.PORT_NB_NODE_VALID b.acct) = true ∧ (t.port b.acct).heard = true ∧
        t.timer { kind := .dead, a := b.acct } = some s.clk ∧ t.get (F.PORT_STATE_TOPO b.acct) = (t.topo b.acct).1) ∧
    (∀ p, p < 256 → s.flag (F.PORT_NB_NODE_VALID p) = true →
      s.due { kind := .dead, a := p } (us (s.deadCount p * s.helloUs p)) = true →
      Completes (.neighbourDead p) s fun t =>
        t.flag (F.PORT_NB_NODE_VALID p) = false ∧ t.get (F.PORT_STATE_TOPO p) = (t.topo p).1) ∧
    (∀ p, p < 256 → s.get (F.PORT_PLAN_CTL_MODE p) = MODE_EXPECT → s.mach (.port p) ≠ DOWN →
      s.flag (F.PORT_NB_NODE_VALID p) = false →
      s.due { kind := .absent, a := p } (ms (s.get (F.PORT_DISC_CFG_ABSENT_MS p))) = true →
      Completes (.absentTimeout p) s fun t =>
        t.get (F.PORT_STATE_TOPO p) = 4 ∧ t.get (F.PORT_TOPO_REASON_REASON p) = (if s.linkIsUp p then 2 else 1) ∧
        (s.get (F.PORT_STATE_TOPO p) ≠ 4 → t.causeBit .PORT p 0 K.PORT_TOPO_CHANGE = true ∧
          t.rd64 (A.PORT_TOPO_CHANGES p) = (s.rd64 (A.PORT_TOPO_CHANGES p) + 1) % 2 ^ 64))

/-- A ticket or station ticket at the head of its port leaves it. One that passes the tests opens an entry of its step
counter in GATHERING with that source's ticket alone (R242, R243, R355); the last one, with no hash that differs,
takes an entry of a ROOT to MATCHED with the next order number (R244 to R247). One that is refused changes no entry
and sets TICKET_REFUSED; a duplicate changes no entry. The line's first MATCHED collective becomes ACTIVE now when the
line is UP and fewer than two entries are ACTIVE (R247); this is stated where no chunk has its parent's DONE or a
status yet; those of its chunks that take nothing from below stand in UP from then on (R529), and no other chunk
changes. A chunk with an ACTIVE entry whose slots, record cells and slabs can be granted, and whose line's turn it is
at the pool (R193), gets them together; otherwise its request waits and is counted once (R174, R270). (R174; R193;
R242; R243; R244; R245; R246; R247; R270; R355; R529) -/
def Obligations.TicketsFormEntriesThatBecomeActive : Prop :=
  ∀ s : State,
    let taken := fun (cmd : Instr) (c : Copy) (k : Pkt) (fam hash : Nat) (formed : LineCopy → Nat → Bool) =>
      let u := s.consume c k
      let y := s.line k.group
      (∀ j, u.judgeTicket k fam formed = .join j → s.entry k.group k.step k.sub fam = none → (∃ i ∈ y.sources, i ≠ j) →
        Completes cmd s fun t =>
          (∃ e, t.coll.entries = s.coll.entries ++ [e] ∧ e.line = k.group ∧ e.step = k.step ∧ e.sub = k.sub ∧ e.fam = fam ∧
            e.state = .gathering ∧ e.since = s.clk ∧
            e.tix.map (fun x => (x.src, x.tag, x.hash)) = [(j, k.tag, hash)]) ∧
          t.sw.queue = s.sw.queue.filter (fun x => x.id ≠ c.id)) ∧
      (∀ j e, u.judgeTicket k fam formed = .join j → s.entry k.group k.step k.sub fam = some e → y.isRoot = true →
        (∀ i ∈ y.sources, i = j ∨ (e.ticket i).isSome = true) →
        (∀ x : Tix, x.src = j → x.hash = hash → x.below = (k.isLine && bit (k.byte 39) 1) →
          ({ e with tix := e.tix ++ [x] } : Entry).mismatches y = []) →
        Completes cmd s fun t =>
          (∃ x, t.entry k.group k.step k.sub fam = some x ∧ x.state = .matched ∧ x.order = s.coll.nextOrder ∧
            x.mismatch = []) ∧ t.coll.nextOrder = s.coll.nextOrder + 1) ∧
      (∀ code, u.judgeTicket k fam formed = .refuse code →
        Completes cmd s fun t => t.coll = s.coll ∧ t.causeBit .COLL k.group 0 K.COLL_TICKET_REFUSED = true) ∧
      (u.judgeTicket k fam formed = .dup →
        Completes cmd s fun t => t.coll = s.coll ∧ t.sw.queue = s.sw.queue.filter (fun x => x.id ≠ c.id))
    (∀ o c k, 256 ≤ o → o ≤ 288 → s.headOp o 0x1001 = some (c, k) → (s.bufPkt c.pkt).isSome = true →
      taken (.ticket o) c k 0 (k.num 58 4) fun y _ => ticketFormed y k) ∧
    (∀ o c k, 256 ≤ o → o ≤ 288 → s.headOp o 0x2001 = some (c, k) → (s.bufPkt c.pkt).isSome = true →
      taken (.stationTicket o) c k (k.byte 36 % 16) (k.num 46 4) fun y j =>
        stationTicketFormed y j (if s.flag (F.STATION_STATION_LINE_VALID k.group) then
          some (s.get (F.STATION_STATION_LINE_NEXP k.group)) else none) k) ∧
    (∀ g e, g < 4096 → s.mach (.line g) = UP → s.activeCount g < 2 → s.nextMatched g = some e → e.fam = 0 →
      ((s.line g).isRoot = false ∨ e.op (s.line g) ≠ 8 ∧ e.op (s.line g) ≠ 6) → e.owned (s.line g) ≠ 0 →
      (∀ c ∈ s.coll.chunks, c.parentDone = none ∧ c.status = none) →
      Completes (.entryActivate g) s fun t =>
        (∃ x ∈ t.coll.entries, x.same e = true ∧ x.state = .active ∧ x.activeAt = s.clk) ∧
        t.coll.entries.length = s.coll.entries.length ∧
        let above := fun i => e.cursor ≤ i ∧ i < e.owned (s.line g) ∧ e.op (s.line g) ≠ 6 ∧
          e.fromAbove (s.line g) ((s.line g).ownChunk i) = true
        (∀ i, above i → ∃ x, t.chunk (e.key ((s.line g).ownChunk i)) = some x ∧ x.stage = .up) ∧
        (∀ q, (∀ i, above i → q ≠ e.key ((s.line g).ownChunk i)) → t.chunk q = s.chunk q)) ∧
    (∀ g step sub c e, g < 4096 → s.entry g step sub 0 = some e → e.state = .active → s.mach (.line g) = UP →
      let y := s.line g
      let ch := s.chunkOr (e.key c)
      let n := e.len y c
      e.op y ≠ 6 → e.owns y c = true → e.ended y c = false → e.fromAbove y c = false → ch.admitted = false →
      ch.status = none → ch.stage = .opening → s.coachOpen ch.coach = true → s.chunkHere e y ch.key = true →
      n ≤ s.rd (A.POOL_QUOTA (s.slotPool ch.coach) 0) → recordCells y n ≤ 65536 →
      let fits := s.chunkFits ch.coach n (recordCells y n) (e.slabCount y)
      let turn := (s.chunkTurn ch (s.slotPool ch.coach) n).isSome
      (fits = true → turn = true → Completes (.chunkAdmit g step sub c) s fun t =>
        ∃ x, t.chunk (e.key c) = some x ∧ x.admitted = true ∧ x.recCells = recordCells y n ∧ x.slotIds.length ≤ n ∧
          x.slabs.length ≤ e.slabCount y ∧ x.slots = List.replicate n {} ∧
          x.stage = (if e.usesTt y then .anchor else .combine)) ∧
      (fits = false ∨ turn = false → ch.waited = false → Completes (.chunkAdmit g step sub c) s fun t =>
        (∃ x, t.chunk (e.key c) = some x ∧ x.waited = true ∧ x.admitted = false ∧ x.asks = n) ∧
          t.rd64 A.POOL_QUOTA_WAITS = (s.rd64 A.POOL_QUOTA_WAITS + 1) % 2 ^ 64))

/-- A timetable that passes its tests leaves its port and is held with its entries; where it is the last awaited, the
chunk's anchors are the largest entry of each block and it enters COMBINE (R79, R275, R276). A contribution that
passes them is taken over for addition with its blocks marked, or is written into the chunk's staging slabs at a
staging line (R252, R276, R278). A parked contribution whose condition has cleared leaves its platform and is taken
(R279). Packets parked for a collective with no entry are discarded once CHUNK_TIMER has passed since one was parked
(R279). The end of the contribution whose turn it is at a reduction unit adds its blocks to the chunk's slots (R80,
R193, R280, R281). A staging chunk whose contributions have all landed is read back from its slabs, scanned and
combined in one (R84, R252). (R79; R80; R84; R193; R252; R275; R276; R278; R279; R280; R281) -/
def Obligations.ContributionsReachTheirChunk : Prop :=
  ∀ s : State,
    (∀ o c k j e ch, 256 ≤ o → o ≤ 288 → s.headOp o 0x1002 = some (c, k) → (s.bufPkt c.pkt).isSome = true →
      s.judgeTt k = .take j → s.entryOf k.chunkKey = some e → s.chunk k.chunkKey = some ch →
      Completes (.timetable o) s fun t =>
        let es := (List.range k.nblk).map fun b => numAt k.payload (2 * b) 2
        t.sw.queue = s.sw.queue.filter (fun x => x.id ≠ c.id) ∧
        ∃ x, t.chunk k.chunkKey = some x ∧ x.tt = ch.tt ++ [(j, es)] ∧
          (ch.stage = .anchor → (∀ i ∈ e.suppliers (s.line k.group) k.chunk, i = j ∨ ch.awaitsTt e (s.line k.group) i = false) →
            x.stage = .combine ∧
              x.anchors = some (anchorsOf (e.len (s.line k.group) k.chunk / 32) (x.tt.map (·.2))))) ∧
    (∀ o c k j ch, 256 ≤ o → o ≤ 288 → s.headOp o 0x1003 = some (c, k) → (s.bufPkt c.pkt).isSome = true →
      s.judgeData k = .take j → s.chunk k.chunkKey = some ch →
      ((s.line k.group).staging = false → s.fits c.out k.tc k.cost = true →
        Completes (.contribution o) s fun t =>
          t.sw.queue = s.sw.queue.filter (fun x => x.id ≠ c.id) ∧
          (∃ p, t.coll.adding = s.coll.adding ++ [p] ∧ p.buf = c.pkt ∧ p.pkt = k ∧ p.key = k.chunkKey) ∧
          ∃ x, t.chunk k.chunkKey = some x ∧ x.arrived = ch.arrived ++ (List.range k.nblk).map fun b => (j, k.blk + b)) ∧
      ((s.line k.group).staging = true →
        Completes (.contribution o) s fun t =>
          t.sw.queue = s.sw.queue.filter (fun x => x.id ≠ c.id) ∧ t.coll.adding = s.coll.adding ∧
          ∃ x, t.chunk k.chunkKey = some x ∧ x.landed = ch.landed ++ [(j, k.blk, k.nblk)] ∧
            x.arrived = ch.arrived ++ (List.range k.nblk).map fun b => (j, k.blk + b)) ∧
      (∀ e, (s.line k.group).staging = true → s.entryOf k.chunkKey = some e →
        let u := (((s.noteFirst k.chunkKey).consume c k).dropBeyond k j).markArrived k j
        let y := s.line k.group
        Completes (.contribution o) s fun t =>
          t.mem = (u.writeSlabs ch.slabs (e.slabPlace y j k.blk)
            (slice k.payload 0 (vecBytes (e.contribFmt y j) (32 * k.nblk)))).mem)) ∧
    (∀ o p j, 256 ≤ o → o ≤ 288 → s.coll.parked.find? (fun x => x.port = o && s.releasable x) = some p → p.pkt.op = 0x1003 →
      s.judgeData p.pkt = .take j → (s.line p.pkt.group).staging = false →
      Completes (.platformRelease o) s fun t =>
        t.coll.parked = s.coll.parked.filter (fun x => x.buf ≠ p.buf) ∧ t.coll.adding = s.coll.adding ++ [p]) ∧
    (∀ g step sub fam c p, g < 4096 → p ∈ s.coll.parked → p.key = ⟨g, step, sub, fam, c⟩ → s.entryOf p.key = none →
      p.at_ + s.chunkTime g ≤ s.clk →
      Completes (.platformExpiry g step sub fam c) s fun t =>
        t.coll.parked = s.coll.parked.filter (fun x => x.key ≠ p.key) ∧
        t.coll.adding = s.coll.adding.filter (fun x => x.key ≠ p.key) ∧ t.sw.waiting = s.sw.waiting ∧
        (∀ b ∈ t.sw.pkts, b.id ≠ p.buf)) ∧
    (∀ L p u ch e j, L < 512 → s.unitTurn L = some (p, u) →
      s.coachServes (s.physCoach L) = true → s.chunk p.key = some ch → s.entryOf p.key = some e →
      (s.line e.line).findSource p.pkt.src p.pkt.member p.pkt.isLine = some j →
      (e.usesTt (s.line e.line) && ch.entryBroken e (s.line e.line) j p.pkt.blk p.pkt.nblk p.pkt.payload) = false →
      Completes (.contributionAdd L) s fun t =>
        t.chunk p.key =
          some { ch.addBlocks e (s.line e.line) j p.pkt.blk p.pkt.nblk p.pkt.payload with lastAt := s.clk } ∧
        t.coll.adding = s.coll.adding.filter (fun x => x.buf ≠ p.buf) ∧
        (∀ q, q ≠ p.key → t.chunk q = s.chunk q)) ∧
    (∀ g step sub c e y ch v u l, g < 4096 → s.openChunk g step sub c = some (e, y, ch) → y.staging = true →
      s.sumReady ch e y = true → ch.landed ≠ [] → s.coachServes (s.physCoach ch.coach) = true → s.stacksServe = true →
      s.unitServes ch.coach ⟨g, 1, ((ch.landed.map fun x => 32 * x.2.2).sum + 15) / 16⟩ = some v →
      v.readLanded e y ch = (some l, u) →
      Completes (.stagingScan g step sub c) s fun t =>
        t.chunk ⟨g, step, sub, 0, c⟩ = some { ch.combineLanded e y l with landed := [], lastAt := s.clk } ∧
        (∀ q, q ≠ ⟨g, step, sub, 0, c⟩ → t.chunk q = s.chunk q))

/-- A complete sum leaves COMBINE when it is its turn at its coach's reduction unit (R193). A child line whose chunk is
complete keeps the timetable and contribution packets it sends up, gives back its record cells and stands in UP (R250,
R275). At the ROOT the chunk is rounded and its result held for emission (R249, R284, R285); under an UPDATE of a
tensor that is not frozen it enters APPLY (R341). In APPLY, a chunk whose tile waits for its refresh is marked as
waiting, counted in PRECOND_WAITS, and proceeds once the refresh has ended (R340); the run of a BLOCK_PRECOND chunk's
products enters the update engine queue of its coach (R308, R321), and the chunk is applied after it has ended;
applying it reads and writes slots as its rule says and holds the published weights (R334); stated for records that
can be read. A line's next held packet goes as one multicast to the chunk's recipients, and the chunk enters HOLD with
the last (R285), which ends at once at the ROOT where every recipient has acknowledged already (R290); where its write
meets an uncorrectable granule, it leaves poisoned, STORE_UE and RESULT_POISONED are set, and the chunk ends (R291).
(R193; R249; R250; R275; R284; R285; R290; R291; R321; R334; R340; R341) -/
def Obligations.SumsGoUpOrBecomeResults : Prop :=
  ∀ (s : State) (g step sub c : Nat) (e : Entry) (y : LineCopy) (ch : Chunk), g < 4096 →
    s.openChunk g step sub c = some (e, y, ch) →
    let key : CKey := ⟨g, step, sub, 0, c⟩
    (y.isRoot = false → (s.sumDone ch e y).isSome = true →
      Completes (.chunkSendUp g step sub c) s fun t =>
        ∃ x, t.chunk key = some x ∧ x.stage = .up ∧ x.sent = (s.upPkts e y ch).1 ∧ x.flags = (s.upPkts e y ch).2 ∧
          x.recCells = 0) ∧
    (y.isRoot = true → (s.sumDone ch e y).isSome = true → e.op y ≠ 8 →
      Completes (.chunkRound g step sub c) s fun t =>
        ∃ x, t.chunk key = some x ∧ x.stage = .emit ∧ x.held = (s.rootResult e y ch).1 ∧
          x.flags = (s.rootResult e y ch).2 ∧ x.recCells = 0) ∧
    (∀ h, y.isRoot = true → (s.sumDone ch e y).isSome = true → e.op y = 8 → s.shardOf e.line e.step e.sub = some h →
      frozen h.tw = false →
      Completes (.chunkRound g step sub c) s fun t =>
        ∃ x, t.chunk key = some x ∧ x.stage = .apply ∧ x.slots = ch.slots ∧ x.recCells = 0) ∧
    (∀ h, s.shardOf g step sub = some h → ch.stage = .apply → s.pipeServes ch h = true →
      let wait := s.refreshWait h (c / max 1 y.shardCount)
      let P := s.physCoach ch.coach
      let queued := fun (t : State) =>
        (∃ x, t.chunk key = some x ∧ x.stage = .apply ∧ x.products = 1 ∧ x.applyWait = false) ∧
        ∃ r, (t.coach P).queues = (s.coach P).queues ++ [r] ∧ r.queue = 1 ∧ r.home = ch.coach ∧ r.job = .products g step sub c
      (ch.applyWait = false → ch.products = 0 → wait = true →
        Completes (.updateApply g step sub c) s fun t =>
          t.chunk key = some { ch with applyWait := true, lastAt := s.clk } ∧
          t.rd64 A.UPDATE_PRECOND_WAITS = (s.rd64 A.UPDATE_PRECOND_WAITS + 1) % 2 ^ 64) ∧
      (ruleKind h.rw = 3 → wait = false → ch.products = 0 → ch.applyWait = false →
        Completes (.updateApply g step sub c) s queued) ∧
      (ruleKind h.rw = 3 → wait = false → ch.applyWait = true → Completes (.precondReady g step sub c) s queued) ∧
      (ch.applyWait = false → (ruleKind h.rw = 3 ∧ ch.products = 2) ∨ (ruleKind h.rw ≠ 3 ∧ wait = false) →
        let gs := ch.grads.map (·.1)
        let pl := shardPlace y e c
        let a := if ruleKind h.rw = 3 then s.applyTile h pl.1 pl.2 gs else s.applyPlain h pl.1 pl.2 gs
        a.lost = none →
        Completes (.updateApply g step sub c) s fun t =>
          t.mem = a.st.mem ∧ t.upd = a.st.upd ∧ ∃ x, t.chunk key = some x ∧ x.stage = .emit)) ∧
    (∀ h, ch.nextEmit = some h → s.coachServes (s.physCoach ch.coach) = true → (∃ j ∈ e.recipients y c, j ∉ ch.acked) →
      let held := ch.held.map fun x => if x = h then { x with emitted := true } else x
      Completes (.resultEmit g step sub c false) s fun t =>
        (∃ w, t.sw.waiting = s.sw.waiting ++ [w] ∧ w.pkt = h.pkt ∧ w.port = coachPort ch.coach ∧ w.chunk = some key ∧
          w.dsts = (e.recipients y c).map fun j => (y.source j).node) ∧
        ∃ x, t.chunk key = some x ∧ x.held = held ∧
          x.stage = (if ({ ch with held := held } : Chunk).heldWhole e y && held.all (·.emitted) then .hold else .emit)) ∧
    (∀ h, ch.nextEmit = some h → s.coachServes (s.physCoach ch.coach) = true → y.isRoot = true → e.ended y c = false →
      (∀ j ∈ e.recipients y c, j ∈ ch.acked) →
      let c1 : Chunk := { ch with held := ch.held.map fun x => if x = h then { x with emitted := true } else x }
      c1.heldWhole e y = true → c1.held.all (·.emitted) = true →
      Completes (.resultEmit g step sub c false) s fun t => t.openChunk g step sub c = none) ∧
    (∀ h, ch.nextEmit = some h → s.coachServes (s.physCoach ch.coach) = true → s.coachExists ch.coach = true →
      e.ended y c = false →
      Completes (.resultEmit g step sub c true) s fun t =>
        t.causeBit .COACH (s.coachOf ch.coach).1 (s.coachOf ch.coach).2 K.COACH_STORE_UE = true ∧
        t.causeBit .COACH (s.coachOf ch.coach).1 (s.coachOf ch.coach).2 K.COACH_RESULT_POISONED = true ∧
        t.openChunk g step sub c = none)

/-- A result packet from the parent of a chunk that the child line owns, of blocks not held yet and within the port's
account, is taken over and held, and the chunk stands in EMIT (R286). An acknowledgement marks its recipient; with
others still owing, that is all (R287). A request for blocks that are not held is answered with ERROR NOT_HELD; one
held packet that names them is sent again to the asker alone, and its resends to that asker are counted for ATTEMPT
(R148, R289). Recipients that have not acknowledged RESEND_US after the last copy get every held packet again, each
counted in RESULT_RESENDS, and the time restarts (R288). A packet of an answer whose write meets an uncorrectable
granule leaves poisoned after those before it, and the chunk ends (R291). A DONE from the parent with a chunk status
is kept with the chunk where its result is still to be held (R290); one with a collective status ends the entry, and
MAP_STEP takes its STEP while no map holds a capture (R256, R528). (R148; R256; R286; R287; R288; R289; R290; R291;
R528) -/
def Obligations.ResultsAreHeldAndAcknowledged : Prop :=
  ∀ (s : State) (o : Nat) (c : Copy) (k : Pkt), 256 ≤ o → o ≤ 288 → (s.bufPkt c.pkt).isSome = true →
    (∀ e, s.headFor o (fun x => x.op == 0x1004 || x.op == 0x3001) = some (c, k) → k.src ≠ s.node →
      s.entryOf k.chunkKey = some e →
      let y := s.line k.group
      let ch := s.chunkOr k.chunkKey
      y.isRoot = false → e.state ≠ .gathering → e.owns y k.chunk = true → e.ended y k.chunk = false →
      k.src = y.parentOf k.chunk → ch.status = none → ch.ackedUp = false → (∀ h ∈ ch.held, h.pkt.blk ≠ k.blk) →
      s.fits c.out k.tc k.cost = true → ch.key = k.chunkKey → s.coachRefuses k = false →
      Completes (.result o) s fun t =>
        t.sw.queue = s.sw.queue.filter (fun x => x.id ≠ c.id) ∧
        t.chunk k.chunkKey = some { ch with stage := .emit
                                            held := ch.held ++ [{ pkt := k.anew s.node, buf := some c.pkt, emitted := false }]
                                            lastAt := s.clk }) ∧
    (∀ e y ch j, s.headOp o 0x1007 = some (c, k) → s.openChunk k.group k.step k.sub k.chunk = some (e, y, ch) →
      (e.recipients y k.chunk).find? (fun i => (y.source i).node = k.src ∧ (y.source i).member = k.member) = some j →
      j ∉ ch.acked → (∃ i ∈ e.recipients y k.chunk, i ≠ j ∧ i ∉ ch.acked) →
      Completes (.resultAck o) s fun t =>
        t.sw.queue = s.sw.queue.filter (fun x => x.id ≠ c.id) ∧
        t.chunk ch.key = some { ch with acked := ch.acked ++ [j], lastAt := s.clk } ∧ t.coll.entries = s.coll.entries) ∧
    (s.headOp o 0x1008 = some (c, k) →
      let u := s.consume c k
      (∀ bad, s.openChunk k.group k.step k.sub k.chunk = none →
        Completes (.resultReq (o, bad)) s fun t => t = u.handed o (u.errorPkt k 0x14)) ∧
      (∀ e y ch h, s.openChunk k.group k.step k.sub k.chunk = some (e, y, ch) →
        ch.held.filter (fun x => decide (x.pkt.blk < k.blk + k.nblk ∧ k.blk < x.pkt.blk + x.pkt.nblk)) = [h] →
        Completes (.resultReq (o, none)) s fun t =>
          t = (u.resendResults ch [(k.src, h)] none).drivePins ∧
          ∃ x, t.chunk ch.key = some x ∧
            x.held = ch.held.map (fun z => if z.pkt.blk = h.pkt.blk then z.tried k.src else z)) ∧
      (∀ e y ch n, s.openChunk k.group k.step k.sub k.chunk = some (e, y, ch) → e.ended y k.chunk = false →
        u.coachExists ch.coach = true →
        n < (ch.held.filter fun x => decide (x.pkt.blk < k.blk + k.nblk ∧ k.blk < x.pkt.blk + x.pkt.nblk)).length →
        Completes (.resultReq (o, some n)) s fun t =>
          t.causeBit .COACH (u.coachOf ch.coach).1 (u.coachOf ch.coach).2 K.COACH_RESULT_POISONED = true ∧
          t.openChunk k.group k.step k.sub k.chunk = none)) ∧
    (∀ g step sub i e y ch, g < 4096 → s.openChunk g step sub i = some (e, y, ch) → ch.held ≠ [] →
      ch.heldWhole e y = true → ch.held.all (·.emitted) = true → (∀ w ∈ s.sw.waiting, w.chunk ≠ some ch.key) →
      ch.emitAt + s.resendTime ≤ s.clk → s.coachExists ch.coach = true →
      let owed := (e.recipients y i).filter fun j => !ch.acked.contains j
      let a := A.COACH_RESULT_RESENDS (s.coachOf ch.coach).1 (s.coachOf ch.coach).2
      Completes (.resultResendTimer g step sub (i, none)) s fun t =>
        (∃ x, t.chunk ch.key = some x ∧ x.emitAt = s.clk ∧ x.held.map (·.pkt) = ch.held.map (·.pkt)) ∧
        t.rd64 a = (s.rd64 a + owed.length * ch.held.length) % 2 ^ 64 ∧ t.coll.entries = s.coll.entries) ∧
    (∀ e, s.headOp o 0x1005 = some (c, k) → k.src ≠ (s.consume c k).node → s.childEntry k.group k.src k.tag = some e →
      (0x10 ≤ k.num 36 1 → k.num 36 1 < 0x20 → Completes (.done o) s fun t =>
        t.entryGone e ∧
        (0x12 ≤ k.num 36 1 → (s.consume c k).flag (F.COLL_LINE_INFO_MISMATCH_VALID k.group) = false →
          (s.consume c k).flag (F.COLL_LINE_INFO_MISSING_VALID k.group) = false → k.group < 4096 →
          t.rd64 (A.COLL_MAP_STEP k.group) = e.step % 2 ^ 64)) ∧
      (k.num 36 1 < 0x10 → e.owns (s.line k.group) (k.num 38 2) = true → e.ended (s.line k.group) (k.num 38 2) = false →
        let ch := s.chunkOr (e.key (k.num 38 2))
        ch.parentDone = none → ch.status = none → ch.endsWith e (s.line k.group) (k.num 36 1) = false →
        Completes (.done o) s fun t =>
          t.chunk (e.key (k.num 38 2)) = some { ch with parentDone := some k, lastAt := s.clk } ∧
          t.coll.entries = s.coll.entries))

/-- An ABORT_UP from a child and the expiry of a ticket-phase or chunk timer end their collective: no entry of its step
counter is left and the line remembers it (R247, R256, R259 to R261). A RESEND_REQ for its ticket raises ATTEMPT of
the ticket to that parent alone (R148, R262). RESEND_US after the last one, a gathering entry asks every source whose
ticket is missing, and an OPEN chunk every source whose data are, each counted in RESEND_REQS (R262). A line UP with
ready work and no progress on it for WATCHDOG_US sets LINE_HANG and is reported as hung (R267, R436). One duplicate
window after its entry left, a step counter is forgotten (R247). A WITHDRAW from the parent, and an uncorrectable
error that the scrub meets in a chunk's cells, end the chunk of a child line with RESULT_LOST and give back what it
holds; its DONE waits for the parent's (R283, R291, R292). A scrub reports each error it corrects (R283); one that
meets nothing changes nothing but its timer, and an uncorrectable error met after the line's hold has ended changes no
collective (R293). (R148; R247; R259; R260; R261; R262; R267; R283; R291; R292; R293; R436) -/
def Obligations.CollectivesTimeOutResendAndEnd : Prop :=
  ∀ s : State,
    (∀ o c k j e, 256 ≤ o → o ≤ 288 → s.headOp o 0x1009 = some (c, k) → (s.bufPkt c.pkt).isSome = true →
      (s.line k.group).sources.find? (fun i => ((s.line k.group).source i).node = k.src && ((s.line k.group).source i).isLine) =
        some j →
      ((s.lineEntries k.group).filter fun x => x.step = k.step && x.sub = k.sub).find? (fun x => x.tagOf j = k.tag) = some e →
      Completes (.abortUp o) s fun t => t.entryGone e) ∧
    (∀ g step sub fam e, g < 4096 → s.entry g step sub fam = some e →
      ((e.state = .gathering ∧ e.since + s.chunkTime g ≤ s.clk) ∨
        s.expiredChunks e (s.line g) ≠ []) →
      Completes (.chunkTimerExpiry g step sub fam) s fun t => t.entryGone e) ∧
    (∀ o c k e, 256 ≤ o → o ≤ 288 → s.headOp o 0x1006 = some (c, k) → (s.bufPkt c.pkt).isSome = true →
      k.src ≠ (s.consume c k).node → k.byte 36 = 1 →
      ((s.lineEntries k.group).filter fun x => x.step = k.step && x.sub = k.byte 40 && x.upTag ≠ 0 &&
        (k.tag = 0 || x.upTag = k.tag) && (s.line k.group).parentNodes.contains k.src) = [e] →
      Completes (.resendReq o) s fun t =>
        (∃ x ∈ t.coll.entries, x.same e = true ∧ x.attemptTo k.src = e.attemptTo k.src + 1 ∧
          ∀ d, d ≠ k.src → x.attemptTo d = e.attemptTo d) ∧
        t.coll.entries.length = s.coll.entries.length) ∧
    (∀ g step sub fam e, g < 4096 → s.entry g step sub fam = some e → e.state = .gathering →
      e.resendAt + s.resendTime ≤ s.clk → (fam ≠ 0 ∨ e.ticket (s.line g).refSrc = none) →
      Completes (.resendTimer g step sub fam) s fun t =>
        t.entry g step sub fam = some { e with resendAt := s.clk } ∧
        t.rd64 A.COLL_RESEND_REQS =
          (s.rd64 A.COLL_RESEND_REQS + ((s.line g).sources.filter fun j => (e.ticket j).isNone).length) % 2 ^ 64) ∧
    (∀ g step sub e, g < 4096 → s.entry g step sub 0 = some e → e.state ≠ .gathering →
      (e.ticket (s.line g).refSrc).isSome = true →
      let l := (s.chunksLeft e (s.line g)).filter s.askDue
      Completes (.resendTimer g step sub 0) s fun t =>
        (∀ ch ∈ l, s.awaited ch e (s.line g) ≠ [] → ∃ x, t.chunk ch.key = some x ∧ x.resendAt = some s.clk) ∧
        t.rd64 A.COLL_RESEND_REQS =
          (s.rd64 A.COLL_RESEND_REQS + (l.map fun ch => (s.awaited ch e (s.line g)).length).sum) % 2 ^ 64) ∧
    (∀ g, g < 4096 → s.mach (.line g) = UP → s.lineStuck g (us (max 1 (s.get F.COLL_WATCHDOG_WATCHDOG_US))) = true →
      Completes (.lineHang g) s fun t =>
        t.causeBit .COLL g 0 K.COLL_LINE_HANG = true ∧
        (∃ r, t.flt.reports = s.flt.reports ++ [r] ∧ r.hang = true ∧ r.domain = dom 4 g) ∧ t.coll = s.coll) ∧
    (∀ g, g < 4096 → Completes (.endedMemoryExpiry g) s fun t =>
      (∀ r, r ∈ t.coll.ended ↔ r ∈ s.coll.ended ∧ ¬ (r.line = g ∧ r.at_ + s.replyTime ≤ s.clk)) ∧
      t.coll.entries = s.coll.entries ∧ Frame s t [.coll] fun _ => False) ∧
    (∀ o c k e, 256 ≤ o → o ≤ 288 → s.headOp o 0x100A = some (c, k) → (s.bufPkt c.pkt).isSome = true →
      k.src ≠ (s.consume c k).node → s.entryOf k.chunkKey = some e →
      let y := s.line k.group
      y.isRoot = false → 1 ≤ y.shardCount → k.src = y.parentOf k.chunk → e.ended y k.chunk = false →
      (if (e.ticket y.refSrc).isSome then e.owns y k.chunk else k.chunk % max 1 y.shardCount == y.shardIndex) = true →
      (s.chunkOr k.chunkKey).status ≠ some 0x21 → (s.chunkOr k.chunkKey).parentDone = none →
      Completes (.withdraw o) s fun t => t.chunkLost k.chunkKey 0x21) ∧
    (∀ n p, n < 16 → p < 33 → s.elapsed { kind := .scrub, a := n, b := p } (ms 1) = true →
      (Completes (.storeScrub n p (0, [])) s fun t =>
        t.timer { kind := .scrub, a := n, b := p } = some s.clk ∧ Frame s t [.timers] fun _ => False) ∧
      (∀ m, s.severity 352 ≠ 0 → Completes (.storeScrub n p (m, [])) s fun t =>
        t.flt.reports = s.flt.reports ++ List.replicate m (s.mkReport 352 (dom 2 (64 * n + p)) []) ∧
        Frame s t [.timers, .flt] fun _ => False) ∧
      (∀ g step sub c e y ch, s.openChunk g step sub c = some (e, y, ch) → ch.ackedUp = true →
        Completes (.storeScrub n p (0, [(g, step, sub, c)])) s fun t => t.coll = s.coll) ∧
      (∀ g step sub c e y ch, s.openChunk g step sub c = some (e, y, ch) → s.physCoach ch.coach = 64 * n + p →
        e.ended y c = false → ch.ackedUp = false → (ch.admitted = true ∨ ch.held ≠ []) → y.isRoot = false →
        1 ≤ y.shardCount → e.owns y c = true → ch.parentDone = none →
        Completes (.storeScrub n p (0, [(g, step, sub, c)])) s fun t =>
          t.chunkLost ch.key 0x21 ∧ t.timer { kind := .scrub, a := n, b := p } = some s.clk))

/-- Word 11 with START appends the run that the twelve words name to queue 2 of a serving coach; with 16 waiting it sets
RUNQ_FULL and queues nothing (R308). While a head run's cores are free, the head run that the coach arbiter grants
starts (R193, R309). A running run's next descriptor, read from its list, writes its outputs into the sliver stores,
is noted in the run and counted; a copy moves its bytes between stack memory and the stores; one that is refused or
unreadable decides the run's end with the descriptor's index (R310 to R314). A run after its last descriptor ends OK,
and one whose end was decided ends so: it leaves, its requester is signalled, RUNS counts and its 32-byte record is
written (R314); a run of the update engine's products lets its chunk be applied, or go in again where it ended early
(R321, R340). The ends are stated where no other ending waits for its requester. A run with a descriptor left that has
issued nothing for WATCHDOG_US, waits for tokens, the throttle and the stacks left out, sets SEQ_HANG and is reported
once as hung (R317, R436). A sliver scrub reads every granule: it corrects those that can be, poisons those that are
uncorrectable with MEM_ERROR set, changes no byte that a reader sees, and restarts its time (R297). (R193; R297; R300;
R308; R309; R310; R312; R313; R314; R317; R321; R436) -/
def Obligations.RunsAreQueuedStartedIssuedAndRecorded : Prop :=
  ∀ (s : State) (n p : Nat), n < 16 → p < 33 →
    let c := 64 * n + p
    (∀ m (v : Word) loc, s.pow.hotSwap = true → s.busCheck m (A.COACH_RUN_SUBMIT n p + 44) 32 v.toNat true = .target loc →
      (∀ x, s.staged m loc = some x → x.words.length = 11) → v.getLsbD 0 = true → s.mach (.sect n) = UP →
      s.fstate (dom 2 c) = 0 →
      let low := match s.staged m loc with | some x => x.words | none => List.replicate 11 0
      ((s.coach c).queued 2 < 16 → Completes (.runSubmit m n p v) s fun t =>
        (t.coach c).queues = (s.coach c).queues ++ [runOfWords (low ++ [v])] ∧ (t.coach c).running = (s.coach c).running ∧
        (∀ d, d ≠ c → t.coach d = s.coach d)) ∧
      (16 ≤ (s.coach c).queued 2 → Completes (.runSubmit m n p v) s fun t =>
        (∀ d, t.coach d = s.coach d) ∧ t.causeBit .COACH n p K.COACH_RUNQ_FULL = true)) ∧
    (∀ q r, q < 3 → s.awake n = true → s.coachServes c = true → (∀ l, s.substPending n l = false) →
      (s.coach c).headRun q = some r → (s.coach c).coresFree r = true →
      Completes (.runStart n p) s fun t =>
        ∃ x, (s.coach c).headRun x.queue = some x ∧ (s.coach c).coresFree x = true ∧ (∃ b, s.nextRun c = some (x, b)) ∧
          (t.coach c).running = (s.coach c).running ++ [x.start] ∧ (t.coach c).queues = (s.coach c).queues.erase x ∧
          t.timer (x.watch c) = some s.clk ∧ t.sw = { s.sw with arbs := t.sw.arbs } ∧
          Frame s t [.coaches, .timers, .sw] fun _ => False) ∧
    (∀ i k x, (s.coach c).running[i]? = some x → s.awake n = true → s.stacksServe = true → s.fenced (dom 2 c) = false →
      x.ending = none → x.pc < x.run.count → x.run.job = .list →
      let a := (x.run.list + 64 * x.pc) % 2 ^ 44
      ((s.readFabric a 64).1 = none → Completes (.descriptorIssue n p i k) s fun t =>
        (t.coach c).running = (s.coach c).running.map fun y => if y = x then { x with ending := some (3, x.pc) } else y) ∧
      (∀ l, (s.readFabric a 64).1 = some l →
        ((readDesc l).refused = true → Completes (.descriptorIssue n p i k) s fun t =>
          (t.coach c).running = (s.coach c).running.map fun y => if y = x then { x with ending := some (2, x.pc) } else y) ∧
        (∀ o, (readDesc l).refused = false → (readDesc l).opc ≠ 0x18 → (readDesc l).opc ≠ 0x19 →
          (s.coach c).execute (readDesc l) x.run.seed x.run.step (fun j => Config.free (s.free + j)) = some o →
          Completes (.descriptorIssue n p i k) s fun t =>
            (t.coach c).sliver = (o.writes.foldl (fun h w => h.write w.1 w.2) (s.coach c)).sliver ∧
            (t.coach c).running = ((s.coach c).running.map fun y => if y = x then x.note (readDesc l) o else y) ∧
            t.rd64 (A.COACH_DESCRIPTORS n p) = (s.rd64 (A.COACH_DESCRIPTORS n p) + 1) % 2 ^ 64) ∧
        (let u := (s.readFabric a 64).2.slivCorrected c (readDesc l).readGrans
         ∀ place, (readDesc l).refused = false → sliverPlace (readDesc l).a = some place →
          (∀ b, (readDesc l).opc = 0x18 → (u.readFabric (readDesc l).stack (readDesc l).k).1 = some b →
            Completes (.descriptorIssue n p i k) s fun t =>
              (t.coach c).sliver = ((s.coach c).write place b).sliver) ∧
          (∀ b, (readDesc l).opc = 0x19 → (s.coach c).read place (readDesc l).k = some b →
            Completes (.descriptorIssue n p i k) s fun t => t.mem = (u.writeFabric (readDesc l).stack b).mem)))) ∧
    (∀ i x st err, (s.coach c).running[i]? = some x → s.awake n = true → s.stacksServe = true → s.stn.endings = [] →
      (x.ending = some (st, err) ∨ x.ending = none ∧ x.run.count ≤ x.pc ∧ st = 0 ∧ err = 0xFFFFFFFF) →
      (∀ line step sub idx ch, x.run.job = .products line step sub idx → s.chunk ⟨line, step, sub, 0, idx⟩ = some ch →
        Completes (.runComplete n p i) s fun t =>
          (t.coach c).running = (s.coach c).running.filter (fun y => y ≠ x) ∧
          t.chunk ⟨line, step, sub, 0, idx⟩ =
            some { ch with products := if endedEarly st then 0 else 2, lastAt := s.clk }) ∧
      (x.run.job = .list → Completes (.runComplete n p i) s fun t =>
        t.mem = (s.writeFabric x.run.record
          (runRecord x.run st x.flags x.done x.firstDesc x.firstElem x.invalids err)).mem ∧
        (t.coach c).running = (s.coach c).running.filter (fun y => y ≠ x) ∧
        (t.coach c).signals = (s.coach c).signals ++ [(x.run.queue, x.run.tag, st)] ∧
        t.rd64 (A.COACH_RUNS n p) = (s.rd64 (A.COACH_RUNS n p) + 1) % 2 ^ 64)) ∧
    (∀ i x waited, (s.coach c).running[i]? = some x → x.ending = none → x.pc < x.run.count → s.awake n = true →
      s.stacksServe = true → s.fenced (dom 2 c) = false →
      s.due (x.run.watch c) (us (max 1 (s.get (F.COACH_SEQ_CFG_WATCHDOG_US n p))) + waited) = true →
      Completes (.seqHang (n, p) (i, waited)) s fun t =>
        t.causeBit .COACH n p K.COACH_SEQ_HANG = true ∧ t.timer (x.run.watch c) = none ∧
        (∃ r, t.flt.reports = s.flt.reports ++ [r] ∧ r.hang = true ∧ r.domain = dom 2 c) ∧
        Frame s t [.timers, .flt] (causeWords (A.COACH n p))) ∧
    (∀ flips moved, s.awake n = true → s.elapsed { kind := .sliverScrub, a := c } (ms 10) = true →
      (∀ f ∈ flips, f.1 < 49152) → (∀ f ∈ moved, f.1 < 49152) →
      let h := moved.foldl (fun h f => h.upset f.1 0 0 f.2) (flips.foldl (fun h f => h.upset f.1 f.2.1 f.2.2 0) (s.coach c))
      Completes (.sliverScrub n p flips moved) s fun t =>
        (∀ g, (h.gran g).ce = true → (t.coach c).gran g = .good) ∧
        (∀ g, h.gran g = .good ∨ h.gran g = .poisoned → (t.coach c).gran g = h.gran g) ∧
        (∀ g, h.gran g = .addr ∨ h.gran g = .ue → (t.coach c).gran g = .poisoned ∧
          t.causeBit .COACH n p K.COACH_MEM_ERROR = true) ∧
        (∀ a, (t.coach c).byte a = h.byte a) ∧
        t.timer { kind := .sliverScrub, a := c } = some s.clk ∧
        Frame s t [.coaches, .timers, .flt] (causeWords (A.COACH n p)))

/-- SUBST in UP, with none pending and the spare free, and RETURN of a logical coach on the spare to a coach that is DOWN,
unfenced and not in the table, become pending with their time (R305, R307); a RETURN that breaks a condition sets
REMAP_REFUSED and changes nothing pending. Once the logical coach holds no slot and no run, a substitution maps the
spare in, moves the queued runs and resets the old coach, and a return maps the coach back (R305, R307). At the limit
a substitution is completed as for a failed coach and a return abandoned, with SUBST_TIMEOUT. A remap write is taken
in DOWN alone, else it sets REMAP_REFUSED (R306). An awake section that nothing has accessed for 1 µs and that is
DOWN, or UP, idle for its time and holding no work, loses its clock (R318); one with work wakes, takes its awake floor
from FREE and counts WAKES (R319), and its scrubs go on from where they stood (R297). (R297; R303; R305; R306; R307;
R318; R319; R465; R467) -/
def Obligations.SectionsSubstituteReturnAndSleep : Prop :=
  ∀ (s : State) (n : Nat), n < 16 →
    let ph := fun (t : State) l => t.get (F.SECTION_REMAP_PHYS n l)
    (∀ m l, l < 32 → s.grants m (A.SECTION_CMD n) (BitVec.ofNat 32 (l + 2 ^ 8)) = true → s.mach (.sect n) = UP →
      s.flag (F.SECTION_SUBST_STATE_PENDING n) = false → s.spareInUse n = false →
      Completes (.subst m n l) s fun t =>
        t.flag (F.SECTION_SUBST_STATE_PENDING n) = true ∧ t.get (F.SECTION_SUBST_STATE_LOGICAL n) = l ∧
        t.flag (F.SECTION_SUBST_STATE_RETURNING n) = false ∧ t.timer { kind := .substLimit, a := n } = some s.clk ∧
        (∀ j, j < 32 → ph t j = ph s j)) ∧
    (∀ m l p, l < 32 → p < 32 → s.grants m (A.SECTION_CMD n) (BitVec.ofNat 32 (l + 2 ^ 9 + p * 2 ^ 16)) = true →
      (s.mach (.sect n) = UP → s.flag (F.SECTION_SUBST_STATE_PENDING n) = false → ph s l = 32 →
        (∀ j, j < 32 → ph s j ≠ p) → s.get (F.COACH_STATE_MACHINE n p) = DOWN → s.fstate (dom 2 (64 * n + p)) = 0 →
        Completes (.returnCoach m n l p) s fun t =>
          t.flag (F.SECTION_SUBST_STATE_PENDING n) = true ∧ t.get (F.SECTION_SUBST_STATE_LOGICAL n) = l ∧
          t.flag (F.SECTION_SUBST_STATE_RETURNING n) = true ∧ t.get (F.SECTION_SUBST_STATE_PHYS n) = p ∧
          t.timer { kind := .substLimit, a := n } = some s.clk ∧ (∀ j, j < 32 → ph t j = ph s j)) ∧
      (ph s l ≠ 32 ∨ s.mach (.sect n) ≠ UP → Completes (.returnCoach m n l p) s fun t =>
        t.causeBit .SECTION n 0 K.SECTION_REMAP_REFUSED = true ∧ t.rd (A.SECTION_SUBST_STATE n) = s.rd (A.SECTION_SUBST_STATE n))) ∧
    (∀ l, l = s.get (F.SECTION_SUBST_STATE_LOGICAL n) → s.flag (F.SECTION_SUBST_STATE_PENDING n) = true →
      (s.flag (F.SECTION_SUBST_STATE_RETURNING n) = false → s.logicalFree n l = true → ph s l < 32 →
        Completes (.substRemap n) s fun t =>
          ph t l = 32 ∧ t.flag (F.SECTION_SUBST_STATE_PENDING n) = false ∧ t.fstate (dom 2 (64 * n + ph s l)) = 1 ∧
          (t.coach (64 * n + 32)).queues = (s.coach (64 * n + ph s l)).queues) ∧
      (∀ p, p = s.get (F.SECTION_SUBST_STATE_PHYS n) → s.flag (F.SECTION_SUBST_STATE_RETURNING n) = true →
        s.logicalFree n l = true →
        Completes (.returnRemap n) s fun t =>
          ph t l = p ∧ t.flag (F.SECTION_SUBST_STATE_PENDING n) = false ∧
          (t.coach (64 * n + p)).queues = (s.coach (64 * n + 32)).queues ∧ (t.coach (64 * n + 32)).queues = []) ∧
      (s.due { kind := .substLimit, a := n } (s.substTime n) = true →
        Completes (.substTimeout n) s fun t =>
          t.causeBit .SECTION n 0 K.SECTION_SUBST_TIMEOUT = true ∧ t.flag (F.SECTION_SUBST_STATE_PENDING n) = false ∧
          t.timer { kind := .substLimit, a := n } = none ∧
          (s.flag (F.SECTION_SUBST_STATE_RETURNING n) = true → ∀ j, j < 32 → ph t j = ph s j) ∧
          (s.flag (F.SECTION_SUBST_STATE_RETURNING n) = false → ph t l = 32))) ∧
    (∀ m l (v : Word), l < 32 → s.grants m (A.SECTION_REMAP n l) v = true →
      (s.mach (.sect n) = DOWN → Completes (.remapWrite m n l v) s fun t =>
        ph t l = v.toNat % 64 ∧ ∀ j, j < 32 → j ≠ l → ph t j = ph s j) ∧
      (s.mach (.sect n) ≠ DOWN → Completes (.remapWrite m n l v) s fun t =>
        t.causeBit .SECTION n 0 K.SECTION_REMAP_REFUSED = true ∧ ∀ j, j < 32 → ph t j = ph s j)) ∧
    (s.awake n = true → s.elapsed { kind := .sectionAccess, a := n } (us 1) = true →
      (s.mach (.sect n) = DOWN ∨ s.mach (.sect n) = UP ∧
        s.due { kind := .idle, a := n } (us (max 1 (s.get (F.SECTION_CFG_IDLE_US n)))) = true ∧ s.sectionBusy n = false) →
      Completes (.sectionClockGate n) s fun t =>
        t.awake n = false ∧ t.get (F.SECTION_STATE_AWAKE n) = 0 ∧ (∀ k, k < 16 → k ≠ n → t.awake k = s.awake k) ∧
        t.timer { kind := .wake, a := n } = some s.clk ∧
        Frame s t [.timers] (fun a => a = A.TOP + 12 ∨ a = A.SECTION n + 12)) ∧
    (s.flag F.TOP_STATE_CORE_PLL_LOCK = true → s.sectionBusy n = true → s.fenced (dom 1 n) = false → s.awake n = false →
      Completes (.sectionWake n) s fun t =>
        t.awake n = true ∧ t.get (F.SECTION_STATE_AWAKE n) = 1 ∧ (∀ k, k < 16 → k ≠ n → t.awake k = s.awake k) ∧
        t.rd64 (A.SECTION_WAKES n) = (s.rd64 (A.SECTION_WAKES n) + 1) % 2 ^ 64 ∧
        (∀ p, p < 33 → t.timer (scrubKey n p) =
          some (min s.clk ((s.timer (scrubKey n p)).getD 0 + (s.clk - (s.timer { kind := .wake, a := n }).getD 0)))) ∧
        (s.tokens n ≤ 28 → 28 - s.tokens n ≤ s.freeTokens →
          t.tokens n = 28 ∧ t.freeTokens + 28 = s.freeTokens + s.tokens n))

/-- When a tensor's step is closed, its completion record is written; the commit word with STEP, the slot turned and
COMMITS + 1 is written only if every chunk ended OK or OK_FROZEN, else STEPS_UNCOMMITTED counts (R12, R328, R336). A
commit at a refresh point starts the refresh of every tile, or leaves its bank without preconditioners where the
statistics cannot be read, and each refresh whose coach serves has its run in the update engine queue (R308, R339).
That run, at its coach, writes PL and PR of its bank from the copied statistics; stated where they can be read.
REFRESH_COMPLETE ends a refresh whose run has ended OK, counted in REFRESHES, and no other (R339, R340). A local
step's commit counts LOCAL_UPDATES and one without marks the expert STALE (R371). A local request of a free tensor
whose blocks and commit word name its step opens the step; one whose descriptor is not VALID, or names a reserved
WEIGHT_FMT (the model's choice, log 42), ends at once, STALE, with TENSOR_INVALID, and one whose block is unreadable
is a step that closes with no chunk OK (R326, R328, R332, R345). Its next chunk applies the rule to the gradient
buffer and writes the weights (R345); frozen, it is skipped and counted, and one that its section refuses is passed
over without an OK (R321). (R12; R308; R321; R326; R328; R332; R336; R339; R340; R345; R371) -/
def Obligations.StepsCommitRefreshAndUpdateLocally : Prop :=
  ∀ (s : State) (tensor : Nat), tensor < 4096 → s.stacksServe = true →
    let tw := s.tensorWords tensor
    let rw := s.ruleWords (wordField tw 6 0 6)
    (∀ h, s.upd.shards.find? (fun x => x.tensor = tensor && x.closed) = some h →
      (h.local_ = true → h.line < 1024) →
      let pre := match s.upd.refreshFlags.find? fun x => x.1 = tensor with | some x => x.2 | none => 0
      let s1 := s.writeSpace SP_STATE (recordPage h.tw + 0x40)
        (({ h with flags := h.flags ||| pre } : Shard).record (decide (h.chunksOk = h.chunks)))
      let core := fun (l : List Refresh) => l.map fun x => { x with placed := false }
      (h.chunksOk ≠ h.chunks → Completes (.shardCommit tensor) s fun t =>
        t.mem = s1.mem ∧ t.upd.shards = s.upd.shards.filter (fun x => x ≠ h) ∧
        core t.upd.refreshes = core s.upd.refreshes ∧ t.rd64 A.UPDATE_STEPS_UNCOMMITTED = (s.rd64 A.UPDATE_STEPS_UNCOMMITTED + 1) % 2 ^ 64 ∧
        t.rd64 A.UPDATE_COMMITS = s.rd64 A.UPDATE_COMMITS ∧
        (h.local_ = true → t.flag (F.STATION_EXPERT_STALE h.line) = true)) ∧
      (h.chunksOk = h.chunks →
        (ruleKind h.rw ≠ 3 → Completes (.shardCommit tensor) s fun t =>
          t.mem = (s1.writeSpace SP_STATE (recordPage h.tw) (toBytes 8 h.step ++
            toBytes 1 (if frozen h.tw then h.live else 1 - h.live) ++ toBytes 3 0 ++ toBytes 4 (h.commits + 1))).mem ∧
          t.upd.shards = s.upd.shards.filter (fun x => x ≠ h) ∧
          t.rd64 A.UPDATE_COMMITS = (s.rd64 A.UPDATE_COMMITS + 1) % 2 ^ 64 ∧
          t.rd64 A.UPDATE_STEPS_UNCOMMITTED = s.rd64 A.UPDATE_STEPS_UNCOMMITTED ∧
          (h.local_ = true → t.rd64 A.STATION_LOCAL_UPDATES = (s.rd64 A.STATION_LOCAL_UPDATES + 1) % 2 ^ 64 ∧
            t.flag (F.STATION_EXPERT_STALE h.line) = s.flag (F.STATION_EXPERT_STALE h.line))) ∧
        (ruleKind h.rw = 3 → h.local_ = false → ruleRefresh h.rw ≠ 0 → tensorT0 h.tw ≤ h.step →
          (h.step + 1 - tensorT0 h.tw) % ruleRefresh h.rw = 0 → Completes (.shardCommit tensor) s fun t =>
          let bank := ((h.step + 1 - tensorT0 h.tw) / ruleRefresh h.rw - 1) % 2
          t.rd64 A.UPDATE_COMMITS = (s.rd64 A.UPDATE_COMMITS + 1) % 2 ^ 64 ∧
          (∃ l, core t.upd.refreshes = core s.upd.refreshes ++ l) ∧
          ∀ k, k < h.chunks → (h.tensor, k, bank) ∈ t.upd.badBanks ∨
            ∃ x ∈ t.upd.refreshes, x.tensor = h.tensor ∧ x.tile = k ∧ x.bank = bank ∧ x.tw = h.tw ∧ x.rw = h.rw ∧
              x.step = h.step ∧ x.done = false ∧ x.coach = logicalCoach h.line (k * h.count + h.index) h.step h.sub ∧
              (s.coachServes (s.physCoach x.coach) = true → x.placed = true ∧
                ∃ q ∈ (t.coach (s.physCoach x.coach)).queues, q.queue = 1 ∧ q.job = .refresh h.tensor k bank)))) ∧
    (∀ tile bank r, s.upd.refreshes.find? (fun x => x.tensor = tensor && x.tile = tile && x.bank = bank) = some r →
      (r.done = true → Completes (.refreshComplete tensor tile bank) s fun t =>
        t.mem = s.mem ∧ t.upd.refreshes = s.upd.refreshes.filter (fun x => x ≠ r) ∧ t.upd.shards = s.upd.shards ∧
        t.rd64 A.UPDATE_REFRESHES = (s.rd64 A.UPDATE_REFRESHES + 1) % 2 ^ 64) ∧
      (r.done = false → Completes (.refreshComplete tensor tile bank) s fun t => Frame s t [] fun _ => False) ∧
      (∀ n c i z x y, n < 16 → c < 33 → (s.coach (64 * n + c)).running[i]? = some z → s.awake n = true →
        s.fenced (dom 2 (64 * n + c)) = false → z.ending = none → z.pc < z.run.count → z.run.job = .refresh tensor tile bank →
        (s.readMat r.tw r.tile (6 + 4 * r.bank)).1 = some x → (s.readMat r.tw r.tile (7 + 4 * r.bank)).1 = some y →
        let root := fun (m : Mat) => (invRoot4 m (r.rw.getD 3 0).toNat (ruleIter r.rw)).mat
        Completes (.descriptorIssue n c i 0) s fun t =>
          t.mem = ((s.writeMat r.tw r.tile (4 + 4 * r.bank) (root x)).writeMat r.tw r.tile (5 + 4 * r.bank) (root y)).mem ∧
          t.upd.refreshes = s.upd.refreshes ∧ ∃ v ∈ (t.coach (64 * n + c)).running, v.run = z.run ∧ v.pc = z.pc + 1)) ∧
    (∀ x step seed, s.tensorBusy tensor = false →
      s.upd.requests.find? (fun r => r.2.1 = tensor) = some (x, tensor, step, seed) → x < 1024 →
      (entryValid tw = false ∨ 9 < wordField tw 6 10 4 → Completes (.localUpdate tensor) s fun t =>
        t.upd.requests = s.upd.requests.erase (x, tensor, step, seed) ∧ t.upd.shards = s.upd.shards ∧
        t.flag (F.STATION_EXPERT_STALE x) = true ∧ t.causeBit .UPDATE 0 0 K.UPDATE_TENSOR_INVALID = true) ∧
      (∀ b c, entryValid tw = true → isLocal tw = true → entryValid rw = true → ruleKind rw ≤ 2 →
        (layoutB tw && ruleAms rw) = false → wordField tw 6 10 4 ≤ 9 →
        (s.readSpace SP_STATE (s.hpAddr (wordField tw 6 0 6) step) 64).1 = some b → numAt b 16 8 = step →
        (s.readSpace SP_STATE (recordPage tw) 16).1 = some c → step = numAt c 0 8 + 1 →
        Completes (.localUpdate tensor) s fun t =>
          t.upd.requests = s.upd.requests.erase (x, tensor, step, seed) ∧ t.mem = s.mem ∧
          ∃ h, t.upd.shards = s.upd.shards ++ [h] ∧ h.local_ = true ∧ h.line = x ∧ h.tensor = tensor ∧ h.step = step ∧
            h.live = numAt c 8 1 % 2 ∧ h.commits = numAt c 12 4 ∧ h.next = 0 ∧ h.closed = false) ∧
      (entryValid tw = true → isLocal tw = true → entryValid rw = true → ruleKind rw ≤ 2 →
        (layoutB tw && ruleAms rw) = false → wordField tw 6 10 4 ≤ 9 →
        (s.readSpace SP_STATE (s.hpAddr (wordField tw 6 0 6) step) 64).1 = none →
        Completes (.localUpdate tensor) s fun t =>
          t.mem = s.mem ∧ t.causeBit .UPDATE 0 0 K.UPDATE_RECORD_UE = true ∧
          ∃ h ∈ t.upd.shards, h.local_ = true ∧ h.tensor = tensor ∧ h.step = step ∧ h.closed = true ∧ h.chunksOk = 0)) ∧
    (∀ h, s.upd.shards.find? (fun x => x.tensor = tensor && x.local_ && !x.closed) = some h →
      (s.localRefused h = true → Completes (.localUpdate tensor) s fun t =>
        t.upd = (s.setShard { h with next := h.next + 1, closed := decide (h.chunks ≤ h.next + 1) }).upd ∧
        Frame s t [.upd] fun _ => False) ∧
      (s.localRefused h = false → s.mach (.sect (logicalCoach tensor h.next h.step 0 / 32)) = UP →
      let e0 := h.next * LOCAL_CHUNK
      let n := min LOCAL_CHUNK (tensorElems h.tw - e0)
      let h0 := { h with next := h.next + 1, closed := decide (h.chunks ≤ h.next + 1) }
      (frozen h.tw = true → Completes (.localUpdate tensor) s fun t =>
        t.upd = (s.setShard { h0 with chunksOk := h.chunksOk + 1 }).upd ∧ t.mem = s.mem ∧
        t.rd64 A.UPDATE_LOCAL_CHUNKS = (s.rd64 A.UPDATE_LOCAL_CHUNKS + 1) % 2 ^ 64 ∧
        t.rd64 A.UPDATE_FROZEN_SKIPPED = (s.rd64 A.UPDATE_FROZEN_SKIPPED + 1) % 2 ^ 64) ∧
      (∀ b, frozen h.tw = false → (s.readSpace SP_EXPERT (extPage h.tw + 4 * e0) (4 * n)).1 = some b →
        let a := s.applyPlain h0 e0 e0 ((List.range n).map fun i => numAt b (4 * i) 4)
        a.lost = none → Completes (.localUpdate tensor) s fun t =>
          t.mem = (a.st.writeWeights h.tw h.seed h.step e0 a.weights).mem ∧
          t.rd64 A.UPDATE_LOCAL_CHUNKS = (s.rd64 A.UPDATE_LOCAL_CHUNKS + 1) % 2 ^ 64 ∧
          ∃ z ∈ t.upd.shards, z.tensor = tensor ∧ z.local_ = true ∧ z.next = h.next + 1 ∧ z.chunksOk = h.chunksOk + 1)))

/-- The waiting station entry of a line that passes the checks of R356 and R357 anew and whose blocks are free, with none
ahead of it, takes them lowest first, becomes ACTIVE and counts; one that does not fit waits on (R360, R372). A TOKEN
that passes its tests leaves its port and lands in its row, whose parts then hold it, the bytes written where the row
lies; one refused changes no work, with TOKEN_REFUSED where the table gives it, one beyond the admitted count sets
TOKENS_DROPPED, and a duplicate changes no work (R362). Stated for cells charged to accounts that exist. A tile whose
admitted rows have landed has its runs put into the station queue of a serving coach of its expert (R308, R350). With
the issue of the last of them a DISPATCH's rows are computed and no memory is written (R363), and a COMBINE's are
computed unless an operand is unreadable, which decides the run's end (R369); with the OK end of the last the tile is
noted, and runs and rows count (R350). The ends are stated where no other ending waits. A run that ends ABORTED or
FENCED is submitted again and counts RUN_RESUBMITS; one that had written gradients ends chunk 0 with GRAD_LOST (R376).
(R308; R350; R356; R357; R360; R361; R362; R363; R369; R370; R372; R376) -/
def Obligations.StationsTakeBlocksTokensAndTiles : Prop :=
  ∀ s : State,
    (∀ g e u, g < 4096 → s.nextMatched g = some e → (s.work e.line e.step e.sub e.fam).isSome = true →
      s.mach (.line g) = UP → s.activeCount g < 2 → e.op (s.line g) = e.fam →
      s.stationCheck e (s.line g) = (.go, u) → s.stacksServe = true →
      let w := u.newWork e (s.line g)
      let need := (List.range w.experts.length).map w.need
      (need.sum ≤ s.freeArena.length → s.arenaQueue e.order = false → Completes (.arenaGrant g) s fun t =>
        (∃ x ∈ t.coll.entries, x.same e = true ∧ x.state = .active ∧ x.activeAt = s.clk) ∧
        (t.work e.line e.step e.sub e.fam).map (fun v => (v.granted, v.blocks)) = some (true, cutList need s.freeArena) ∧
        t.stn.arena = s.stn.arena ++ s.freeArena.take need.sum ∧
        t.get F.STATION_ACT_FREE_BLOCKS = s.get F.STATION_ACT_FREE_BLOCKS - need.sum ∧
        (w.op = 9 → t.rd64 A.STATION_DISPATCHES = (s.rd64 A.STATION_DISPATCHES + 1) % 2 ^ 64) ∧
        (w.op ≠ 9 → t.rd64 A.STATION_COMBINES = (s.rd64 A.STATION_COMBINES + 1) % 2 ^ 64)) ∧
      (s.freeArena.length < need.sum → Completes (.arenaGrant g) s fun t =>
        t.coll = s.coll ∧ t.stn.arena = s.stn.arena ∧
        (t.work e.line e.step e.sub e.fam).map (fun v => (v.granted, v.experts)) = some (false, w.experts))) ∧
    (∀ o c k, 256 ≤ o → o ≤ 288 → s.headOp o 0x2002 = some (c, k) → (s.bufPkt c.pkt).isSome = true →
      s.accountsExist = true →
      let left := fun (t : State) => t.sw.queue = s.sw.queue.filter (fun x => x.id ≠ c.id)
      (∀ w, s.judgeToken k = .land → s.tokenWork k = some w → Completes (.token o) s fun t =>
        left t ∧ t.mem = (s.landToken k).mem ∧
        ∃ v, t.work k.group k.step k.sub k.tokOp = some v ∧ v.tiles = w.tiles ∧
          ∃ q ∈ v.rows, q.k = k.tokK ∧ q.row = (w.admitted k.member k.tokK).1 + k.tokJ ∧ k.tokPart ∈ q.parts) ∧
      (∀ n cause, s.judgeToken k = .refuse n cause → Completes (.token o) s fun t =>
        t.stn = s.stn ∧ t.mem = s.mem ∧ (cause = true → t.causeBit .STATION 0 0 K.STATION_TOKEN_REFUSED = true)) ∧
      (s.judgeToken k = .dropped → Completes (.token o) s fun t =>
        left t ∧ t.stn = s.stn ∧ t.mem = s.mem ∧ t.causeBit .STATION 0 0 K.STATION_TOKENS_DROPPED = true) ∧
      (s.judgeToken k = .dup → Completes (.token o) s fun t => left t ∧ t.stn = s.stn ∧ t.mem = s.mem)) ∧
    (∀ g step sub op k tile coach runs core w, g < 4096 → coach < 32 → 1 ≤ runs → core ≤ 16 → s.work g step sub op = some w →
      s.tileReady w k tile = true → w.expertField k 0 16 5 ≤ coach →
      coach < w.expertField k 0 16 5 + w.expertField k 0 21 6 →
      let L := 32 * w.sectionOf k + coach
      s.coachServes (s.physCoach L) = true →
      Completes (.tileCompute g step sub op k tile coach runs core) s fun t =>
        t.mem = s.mem ∧
        (∃ v, t.work g step sub op = some v ∧ v.tiles = w.tiles ∧ v.rows = w.rows ∧ v.z = w.z ∧
          v.runsOf k tile = some { k := k, tile := tile, total := runs, issued := [], ended := [] }) ∧
        (t.coach (s.physCoach L)).queues = (s.coach (s.physCoach L)).queues ++ (List.range runs).map fun i =>
          ownRun 0 L (core % 16) (decide (16 ≤ core)) (s.line g).seed step (.tile g step sub op k tile i)) ∧
    (∀ n c i z g step sub op k tile pass w p, n < 16 → c < 33 → (s.coach (64 * n + c)).running[i]? = some z →
      s.awake n = true → s.stacksServe = true → z.run.job = .tile g step sub op k tile pass →
      s.work g step sub op = some w → w.runsOf k tile = some p →
      let wf := wordField (s.tensorWords (w.tensor k)) 6 10 4
      let more := decide ((p.issued.erase pass ++ [pass]).length < p.total)
      let row := fun j => 512 * tile + j
      (s.fenced (dom 2 (64 * n + c)) = false → z.ending = none → z.pc < z.run.count →
        ((s.readWeights w k).1 = none → Completes (.descriptorIssue n c i 0) s fun t =>
          t.mem = s.mem ∧ t.stn = s.stn ∧ ∃ y ∈ (t.coach (64 * n + c)).running, y.run = z.run ∧ y.ending = some (3, z.pc)) ∧
        ((s.readWeights w k).1.isSome = true → more = true → Completes (.descriptorIssue n c i 0) s fun t =>
          t.mem = s.mem ∧ ∃ v, t.work g step sub op = some v ∧ v.z = w.z ∧ v.tiles = w.tiles ∧
            v.runsOf k tile = some { p with issued := p.issued.erase pass ++ [pass] }) ∧
        (∀ m xs, op = 9 → more = false → (s.readWeights w k).1 = some m → (s.readRows w k (w.tileRows k tile)).1 = some xs →
          Completes (.descriptorIssue n c i 0) s fun t =>
            t.mem = s.mem ∧ ∃ v, t.work g step sub op = some v ∧ v.tiles = w.tiles ∧ v.rows = w.rows ∧
              ∀ j, row j ∈ w.tileRows k tile → row j < w.filled.getD k 0 → v.zRow k (row j) =
                some ((forwardRow (w.act k) (w.expertField k 3 0 4) w.inFmt wf m (xs.getD j [])).y.map fun x =>
                  (fp32.mul RNE (codeOf x) (w.gate k (row j))).1)) ∧
        (∀ d, op = 10 → more = false → s.savedWork g step sub = some d → (s.readWeights w k).1.isSome = true →
          Completes (.descriptorIssue n c i 0) s fun t =>
            (∃ v, t.work g step sub op = some v ∧ v.tiles = w.tiles ∧
              ∀ x ∈ w.tileRows k tile, x < w.filled.getD k 0 → (v.zRow k x).isSome = true) ∨
            ∃ y ∈ (t.coach (64 * n + c)).running, y.run = z.run ∧ y.ending = some (3, z.pc))) ∧
      (s.stn.endings = [] → z.ending = none → z.run.count ≤ z.pc → (p.ended.erase pass ++ [pass]).length = p.total →
        Completes (.runComplete n c i) s fun t =>
          t.mem = s.mem ∧ (∃ v, t.work g step sub op = some v ∧ v.tiles = w.tiles ++ [(k, tile)] ∧ v.rows = w.rows ∧ v.z = w.z) ∧
          t.rd64 (A.STATION_STN_RUNS (w.sectionOf k)) = (s.rd64 (A.STATION_STN_RUNS (w.sectionOf k)) + 1) % 2 ^ 64 ∧
          t.rd64 (A.STATION_STN_ROWS (w.sectionOf k)) =
            (s.rd64 (A.STATION_STN_ROWS (w.sectionOf k)) + (w.tileRows k tile).length) % 2 ^ 64) ∧
      (∀ st err, s.stn.endings = [] → z.ending = some (st, err) → endedEarly st = true → z.run.queue = 0 →
        s.coachServes (s.physCoach z.run.home) = true →
        (op = 9 ∨ z.done = 0 ∨ p.issued.length < p.total → Completes (.runComplete n c i) s fun t =>
          t.mem = s.mem ∧ z.run ∈ (t.coach (s.physCoach z.run.home)).queues ∧
          t.rd64 A.STATION_RUN_RESUBMITS = (s.rd64 A.STATION_RUN_RESUBMITS + 1) % 2 ^ 64) ∧
        (op = 10 → z.done ≠ 0 → p.total ≤ p.issued.length → Completes (.runComplete n c i) s fun t =>
          t.causeBit .STATION 0 0 K.STATION_GRAD_LOST = true ∧ t.rd64 A.STATION_RUN_RESUBMITS = s.rd64 A.STATION_RUN_RESUBMITS)))

/-- A token of a granted entry whose rows are all computed and can hold no more, with D slots granted and the reduction
unit's turn at its serving coach (R14, R193), is combined and its RETURN packets are kept, in order (R365, R366);
without the slots its request waits and counts once (R174). A RETURN_ACK drops the returns of its member and token
range that were emitted (R367). A return not acknowledged RESEND_US after its emission is emitted again with ATTEMPT
raised and RETURN_RESENDS counted (R367). An entry whose rows are computed and tokens returned and acknowledged ends
OK: no entry of its step counter is left (R368), and a COMBINE's work is gone (R373). The weights of a STALE expert
for which a MATCHED entry waits are rewritten from slot LIVE, STALE clears and WEIGHT_REBUILDS counts (R371); stated
where they can be read. A saved DISPATCH past ACT_HOLD_MS with no COMBINE ACTIVE returns its blocks, with ACT_EXPIRED
(R373). (R14; R174; R193; R365; R366; R367; R368; R371; R373) -/
def Obligations.TokensAreCombinedReturnedAndEnded : Prop :=
  ∀ (s : State) (g step sub op : Nat), g < 4096 →
    let key := fun (r : Ret) => (r.member, r.tok, r.pkt)
    (∀ w m tok q l r, s.work g step sub op = some w → w.granted = true → w.saved = false →
      heldRows (s.tokenRows w) w.experts.length m tok = q :: l → w.rec_ m = some r → (m, tok) ∉ w.combined →
      (∀ x ∈ q :: l, (x.k, x.row / 512) ∈ w.tiles ∧ (w.zRow x.k x.row).isSome = true) → (op = 9 → mayHold w (s.tokenRows w) m tok = false) →
      let L := tokenCombineCoach g m tok step sub
      s.coachServes (s.physCoach L) = true →
      (s.combineSlots w m tok L (w.dim q.k) = none → (w.asked.any fun a => a.1 = m && a.2.1 = tok) = false →
        Completes (.tokenCombine g step sub op m tok) s fun t =>
          t.rd64 A.POOL_QUOTA_WAITS = (s.rd64 A.POOL_QUOTA_WAITS + 1) % 2 ^ 64 ∧
          ∃ v, t.work g step sub op = some v ∧ v.asked = w.asked ++ [(m, tok, L, w.dim q.k)] ∧ v.combined = w.combined) ∧
      (∀ u, s.combineSlots w m tok L (w.dim q.k) = some u →
      (u.unitServes L ⟨stationChild (w.sectionOf q.k), 1, combineCost (l.length + 1) (w.dim q.k)⟩).isSome = true →
      let c := combineToken w (s.line g) (w.dim q.k) m tok ((q :: l).map fun x => (w.zRow x.k x.row).getD [])
      let ggs := if op = 9 then [] else (q :: l).map fun h =>
        match w.gg.find? (fun z => z.1 = h.k ∧ z.2.1 = h.row) with | some z => z.2.2 | none => 0
      Completes (.tokenCombine g step sub op m tok) s fun t =>
        ∃ v, t.work g step sub op = some v ∧ v.combined = w.combined ++ [(m, tok)] ∧
          v.flags = joinFlags w.flags m tok c.2 ∧
          v.rets.map key = w.rets.map key ++ (s.returnPkts w m r.1 r.2.1 tok ggs c.1).map fun p => (m, tok, p))) ∧
    (∀ o c k w, 256 ≤ o → o ≤ 288 → s.headOp o 0x2005 = some (c, k) → (s.bufPkt c.pkt).isSome = true →
      s.work k.group k.step k.sub (k.byte 36 % 16) = some w →
      Completes (.returnAck o) s fun t =>
        (∀ x ∈ t.sw.queue, x.id < s.sw.nextId → x ∈ s.sw.queue ∧ x.id ≠ c.id) ∧
        ∃ v, t.work k.group k.step k.sub (k.byte 36 % 16) = some v ∧
          v.rets.map key = (w.rets.filter fun x => !(x.member = k.member &&
            decide (k.num 40 2 ≤ x.tok ∧ x.tok < k.num 40 2 + k.num 42 2) && x.blk.isSome)).map key) ∧
    (∀ w, s.work g step sub op = some w → w.saved = false →
      let late := fun (r : Ret) => r.blk.isSome && decide (r.at_ + s.resendTime ≤ s.clk)
      Completes (.returnResendTimer g step sub op) s fun t =>
        (∃ v : Work, t.work g step sub op = some v ∧ v.rows = w.rows ∧ v.tiles = w.tiles ∧
          v.rets.map key = w.rets.map (fun r => if late r then (r.member, r.tok, r.pkt.again) else key r) ∧
          ∀ (i : Nat) r, w.rets[i]? = some r → late r = true → ∃ z : Ret, v.rets[i]? = some z ∧ z.at_ = s.clk) ∧
        t.rd64 A.STATION_RETURN_RESENDS = (s.rd64 A.STATION_RETURN_RESENDS + (w.rets.filter late).length) % 2 ^ 64) ∧
    (∀ w e, s.work g step sub op = some w → w.saved = false → s.workDone w = true → s.entry g step sub op = some e →
      (op = 9 ∨ op = 10) → (s.line g).isRoot = true → (s.line g).shardCount = 1 → (s.line g).shardIndex = 0 → e.cursor = 0 →
      (∀ x ∈ s.sw.waiting, x.chunk ≠ some ⟨g, step, sub, op, 0⟩) →
      Completes (.stationChunkEnd g step sub op) s fun t => t.entryGone e ∧ (op = 10 → t.work g step sub op = none)) ∧
    (∀ x e b, x < 1024 → s.stacksServe = true →
      s.coll.entries.find? (fun f => f.fam ≠ 0 && f.state = .matched && (s.line f.line).isRoot &&
        (s.lineExperts f.line).contains x) = some e →
      s.flag (F.STATION_EXPERT_STALE x) = true → x ∉ s.stn.updating →
      let tw := s.tensorWords (s.get (F.STATION_EXPERT_TENSOR x))
      (s.readSpace SP_STATE (recordPage tw) 16).1 = some b →
      let r := s.rebuildFrom tw (numAt b 8 1 % 2) (s.line e.line).seed (numAt b 0 8) (tensorElems tw / 16384 + 1) 0
      r.1 = true → wordField tw 6 10 4 ≤ 9 →
      Completes (.weightRebuild x) s fun t =>
        t.mem = r.2.mem ∧ t.flag (F.STATION_EXPERT_STALE x) = false ∧
        t.rd64 A.STATION_WEIGHT_REBUILDS = (s.rd64 A.STATION_WEIGHT_REBUILDS + 1) % 2 ^ 64 ∧
        t.causeBit .STATION 0 0 K.STATION_WEIGHT_REBUILD = true) ∧
    (let old := (s.stn.work.filter fun d =>
        d.of g step sub 9 && d.saved && decide (d.lastAt + ms (max 1 (s.get F.STATION_CFG_ACT_HOLD_MS)) ≤ s.clk));
      old ≠ [] → (∀ w, s.work g step sub 10 = some w → w.granted = false) →
      Completes (.actExpired g step sub) s fun t =>
        (∀ d ∈ old, d ∉ t.stn.work ∧ ∀ b ∈ d.blocks.flatMap id, b ∉ t.stn.arena) ∧
        (∀ d ∈ s.stn.work, d ∉ old → d ∈ t.stn.work) ∧
        t.causeBit .STATION 0 0 K.STATION_ACT_EXPIRED = true ∧
        t.rd64 A.STATION_ACT_EXPIRED = (s.rd64 A.STATION_ACT_EXPIRED + old.length) % 2 ^ 64 ∧ t.coll = s.coll)

/-- A READ that passes its tests returns the bytes as corrected, counted in READS (R389). A WRITE, FETCH_ADD or CAS that
passes them takes a fence counter (R393), is entered as pending, writes its bytes and waits for its stack's
acknowledgement; an atomic's reply holds the old value, and a CAS that does not match writes nothing (R150, R389,
R391). A duplicate in the reply cache gets the cached reply, or is absorbed while pending, and counts DUP_REPLAYED
(R150, R397). A request that fails a test gets that test's ERROR and counter (R343, R394, R397). The acknowledgement
caches and sends the reply and counts it in its epoch, which answers a FENCE whose count it reaches (R393). A FENCE
whose count is reached is answered complete and frees its counter; another waits, and is answered incomplete after
FENCE_US, with the count kept (R393). A counter idle for FENCE_IDLE_MS is dropped. Stated after the request has left
its queue, for writes that cover no commit word. (R150; R343; R389; R391; R393; R394; R397) -/
def Obligations.FabricMemoryRequestsAreTestedExecutedAndAnswered : Prop :=
  ∀ (s : State) (o : Nat) (c : Copy) (k : Pkt), 256 ≤ o → o < 288 →
    let u := s.consume c k
    let a := u.memAddr k
    let acked := fun (t : State) (src tag : Nat) (r : Pkt) =>
      (∃ x ∈ t.mem.cache, x.src = src ∧ x.tag = tag) ∧ ∀ x ∈ t.mem.cache, x.src = src → x.tag = tag → x.reply = some r
    let ack := fun (q : Pkt) (node n st : Nat) =>
      mkPkt false 2 false 0x4014 q.src node q.flow q.addr q.tag (mkBody 30 [(0, 4, n), (4, 1, st)]) []
    (∀ w l, s.headOp o 0x4001 = some (c, k) → u.memJudge k = .ok w → u.stacksOf a k.memLen = true →
      (u.readMem a k.memLen).1 = some l →
      let v := (u.readMem a k.memLen).2.bump A.WINDOW_READS 1
      Completes (.read o) s fun t => l = (List.range k.memLen).map (fun i => u.seenByte (a + i)) ∧ v.mem = s.mem ∧
        t = v.handed o (mkPkt true 3 true 0x4011 k.src u.node k.flow k.addr k.tag (mkBody 26 [(0, 2, k.memLen)]) l)) ∧
    (∀ w, u.cached k.src k.tag = none → u.memJudge k = .ok w → u.stacksOf a k.memLen = true →
      let uf := u.fenceRequest k.src k.epoch
      let v := fun (m : State) (r : Nat) (l : List Byte) => ((m.bump r 1).cachePend k.src k.tag).storeMem a l
      let waits := fun (t m : State) (r : Nat) (l : List Byte) (reply : Pkt) =>
        (∃ id, t.mem = { (v m r l).mem with
          pendingAcks := s.mem.pendingAcks ++ [⟨id, o, k.src, k.tag, k.epoch, reply, w⟩] }) ∧
        t.rd64 r = (u.rd64 r + 1) % 2 ^ 64 ∧ t.sw.queue = u.sw.queue
      let data := k.payload.take k.memLen
      (s.headOp o 0x4002 = some (c, k) → (v uf A.WINDOW_WRITES data).commitsIn k = [] →
        Completes (.write o) s fun t => waits t uf A.WINDOW_WRITES data
          (mkPkt false 2 false 0x4012 k.src u.node k.flow k.addr k.tag [] [])) ∧
      (∀ old, (uf.readMem a 8).1 = some old →
        let m := (uf.readMem a 8).2
        let reply := fun (hit : Bool) => mkPkt false 2 false 0x4013 k.src u.node k.flow k.addr k.tag
          (mkBody 30 [(0, 8, ofBytes old), (8, 1, b2n hit)]) []
        let sum := toBytes 8 (ofBytes old + k.num 32 8)
        (s.headOp o 0x4003 = some (c, k) → (v m A.WINDOW_ATOMICS sum).commitsIn k = [] →
          Completes (.fetchAdd o) s fun t => waits t m A.WINDOW_ATOMICS sum (reply false)) ∧
        (s.headOp o 0x4004 = some (c, k) →
          let hit := ofBytes old == k.num 32 8
          let new := if hit then toBytes 8 (k.num 40 8) else []
          (hit = true → (v m A.WINDOW_ATOMICS new).commitsIn k = []) →
          Completes (.cas o) s fun t => waits t m A.WINDOW_ATOMICS new (reply hit)))) ∧
    (∀ e ∈ [(0x4002, Instr.write o), (0x4003, Instr.fetchAdd o), (0x4004, Instr.cas o), (0x4005, Instr.fence o)],
      s.headOp o e.1 = some (c, k) →
      (∀ d r, u.cached k.src k.tag = some d → d.reply = some r →
        Completes e.2 s fun t => t = (u.bump A.WINDOW_DUP_REPLAYED 1).handed o r) ∧
      (∀ d, u.cached k.src k.tag = some d → d.reply = none →
        Completes e.2 s fun t => t = (u.bump A.WINDOW_DUP_REPLAYED 1).drivePins)) ∧
    (∀ e ∈ [(0x4001, Instr.read o), (0x4002, Instr.write o), (0x4003, Instr.fetchAdd o), (0x4004, Instr.cas o),
        (0x4005, Instr.fence o)],
      s.headOp o e.1 = some (c, k) → (e.1 = 0x4001 ∨ u.cached k.src k.tag = none) →
      let fails := fun (m : State) (code : Nat) => Completes e.2 s fun t => t = (m.memError o k code).drivePins
      (u.memJudge k = .malformed → fails (u.bump A.WINDOW_REFUSED 1) 0x05) ∧
      (u.memJudge k = .range → fails (u.bump A.WINDOW_REFUSED 1) 0x15) ∧
      (u.memJudge k = .access → fails (u.accessRefused k) 0x01) ∧
      (u.memJudge k = .draining → fails (u.bump A.WINDOW_REFUSED 1) 0x03) ∧
      (u.memJudge k = .busy → fails (u.busyRefused k) 0x18 ∧ (u.busyRefused k).causeBit .UPDATE 0 0 K.UPDATE_WRITE_REFUSED = true ∧
        (u.busyRefused k).rd64 A.UPDATE_WRITES_REFUSED = (u.rd64 A.UPDATE_WRITES_REFUSED + 1) % 2 ^ 64) ∧
      (u.memJudge k = .retry → fails ((u.bump A.WINDOW_RETRIES 1).raise .WINDOW 0 0 K.WINDOW_RETRY) 0x02)) ∧
    (∀ w, s.headOp o 0x4005 = some (c, k) → u.cached k.src k.tag = none → u.memJudge k = .ok w →
      let n := (u.fenceCtr k.src k.epoch).getD 0
      (k.num 32 4 ≤ n → Completes (.fence o) s fun t =>
        t.fenceCtr k.src k.epoch = none ∧ t.mem.fenceWaits = s.mem.fenceWaits ∧ acked t k.src k.tag (ack k u.node n 0)) ∧
      (n < k.num 32 4 → Completes (.fence o) s fun t =>
        t.mem.fences = s.mem.fences ∧
        t.mem.fenceWaits = s.mem.fenceWaits ++ [⟨k.src, k.tag, k.epoch, k.num 32 4, o, k, w⟩] ∧
        t.mem.cache = u.cacheLive ++ [⟨k.src, k.tag, none⟩] ∧ t.sw = u.sw ∧
        t.rd64 A.WINDOW_FENCES = (u.rd64 A.WINDOW_FENCES + 1) % 2 ^ 64)) ∧
    (∀ src tag w, s.mem.fenceWaits.find? (fun x => x.src = src && x.tag = tag) = some w →
      s.due (fenceKey src tag) (us (max 1 (s.get F.WINDOW_FENCE_CFG_FENCE_US))) = true →
      (∃ x ∈ s.mem.cache, x.src = w.req.src ∧ x.tag = w.req.tag) →
      Completes (.fenceTimeout src tag) s fun t =>
        t.mem.fenceWaits = s.mem.fenceWaits.filter (fun x => x ≠ w) ∧ t.mem.fences = s.mem.fences ∧
        acked t w.req.src w.req.tag (ack w.req s.node ((s.fenceCtr w.src w.epoch).getD 0) 1)) ∧
    (∀ src epoch, (s.fenceCtr src epoch).isSome = true →
      s.due (fenceIdleKey src epoch) (ms (max 1 (s.get F.WINDOW_FENCE_CFG_FENCE_IDLE_MS))) = true →
      Completes (.fenceEntryIdle src epoch) s fun t =>
        t.mem = { s.mem with fences := s.mem.fences.filter fun f => ¬ (f.src = src ∧ f.epoch = epoch) } ∧
        Frame s t [.mem, .timers] fun _ => False) ∧
    (∀ id m, s.mem.pendingAcks.find? (fun x => x.id = id) = some m →
      (∃ x ∈ s.mem.cache, x.src = m.src ∧ x.tag = m.tag) →
      (s.fenceCtr m.src m.epoch).isSome = true →
      let n := (s.fenceCtr m.src m.epoch).getD 0 + 1
      ((s.mem.fenceWaits.filter fun w => w.src = m.src && w.epoch = m.epoch && decide (w.n ≤ n)) = [] →
        Completes (.stackWriteAck id) s fun t =>
          t.mem.pendingAcks = s.mem.pendingAcks.filter (fun x => x ≠ m) ∧ t.mem.bytes = s.mem.bytes ∧
          t.mem.fenceWaits = s.mem.fenceWaits ∧ t.fenceCtr m.src m.epoch = some n ∧ acked t m.src m.tag m.reply) ∧
      (∀ w, (s.mem.fenceWaits.filter fun w => w.src = m.src && w.epoch = m.epoch && decide (w.n ≤ n)) = [w] →
        w.req.src = m.src → w.req.tag ≠ m.tag → (∃ x ∈ s.mem.cache, x.src = m.src ∧ x.tag = w.req.tag) →
        Completes (.stackWriteAck id) s fun t =>
          t.mem.fenceWaits = s.mem.fenceWaits.filter (fun x => x ≠ w) ∧ t.fenceCtr m.src m.epoch = none ∧
          acked t m.src m.tag m.reply ∧ ∃ node, acked t m.src w.req.tag (ack w.req node n 0)))

/-- Two writes of a space's base and size that each leave a layout that fits store both; where neither fits, the layout is
unchanged and LAYOUT_INVALID is set (R36, R387). The patrol scrub reads a granule once in SCRUB_H hours: a good one
stays, a single error is corrected in place, an uncorrectable one is poisoned, and one written meanwhile stays as it
is (R380 to R382). A refresh that is due changes a counter and restarts its time; one that is not changes nothing
(R383; its pace is the model's choice, log 130). START repairs the row named while the stack is UP, no repair runs and
an entry is free: BUSY, a shelter entry, and the row of that pseudo-channel, bank and row copied as the scrub reads
it, single errors corrected and uncorrectable granules poisoned, and no other granule touched; otherwise
REPAIR_REFUSED (R384, R385). The repair's third step goes on to its fourth, or leaves the row in its entry as retired
with REPAIR_EXHAUSTED (R386); the fifth frees the entry, lists the repair and sets REPAIR_DONE (R384). With the core
PLL locked (R474), the steps of an initialisation follow in order: step 5 may fail with TRAIN_FAIL, step 6 trains,
step 7 fills the stack with zeros (R378). (R36; R377; R378; R380; R381; R382; R383; R384; R385; R386; R387; R474) -/
def Obligations.StacksAreLaidOutScrubbedRepairedAndInitialised : Prop :=
  ∀ s : State,
    (∀ m i base size, i < 5 → base < 2 ^ 17 → size < 2 ^ 17 →
      s.grants m (A.WINDOW_SPACE_BASE i) (BitVec.ofNat 32 base) = true →
      s.grants m (A.WINDOW_SPACE_SIZE i) (BitVec.ofNat 32 size) = true →
      (s.rd (A.WINDOW_SPACE_BASE i) < 2 ^ 17 ∧ s.rd (A.WINDOW_SPACE_SIZE i) < 2 ^ 17) →
      let b := s.put (F.WINDOW_SPACE_BASE_BASE i) base
      (b.layoutFits = true → (b.put (F.WINDOW_SPACE_SIZE_SIZE i) size).layoutFits = true →
        Completes (.spaceLayoutWrite m i base size) s fun t =>
          t.rd (A.WINDOW_SPACE_BASE i) = base ∧ t.rd (A.WINDOW_SPACE_SIZE i) = size ∧
          (i ≠ 2 → Frame s t [] fun a => a = A.WINDOW_SPACE_BASE i ∨ a = A.WINDOW_SPACE_SIZE i ∨ topWords a)) ∧
      (b.layoutFits = false → (s.put (F.WINDOW_SPACE_SIZE_SIZE i) size).layoutFits = false →
        Completes (.spaceLayoutWrite m i base size) s fun t =>
          t.causeBit .WINDOW 0 0 K.WINDOW_LAYOUT_INVALID = true ∧
          Frame s t [.flt] fun a => causeWords A.WINDOW a ∨ topWords a)) ∧
    (∀ n g data check, n < stackCount s.asm → s.stackOf (16 * g) = n → g < stackCount s.asm * 3221225472 →
      s.stackServes n = true →
      ((s.timer (patrolKey g)).isNone = true ∨
        s.due (patrolKey g) (ms (3600000 * max 1 (s.get (F.HBM_CFG_SCRUB_H n)))) = true) →
      let u := s.upset g data check
      Completes (.patrolScrub n g data check true) s (fun t => t.mem = u.mem) ∧
      (synd (u.granSynd g) = .good → Completes (.patrolScrub n g data check false) s fun t =>
        t.mem = u.mem ∧ t.timer (patrolKey g) = some s.clk ∧ Frame s t [.mem, .timers] (pairWords (A.HBM_BYTES_READ n)) ∧
        t.rd64 (A.HBM_BYTES_READ n) = (s.rd64 (A.HBM_BYTES_READ n) + 16) % 2 ^ 64) ∧
      (synd (u.granSynd g) = .check → Completes (.patrolScrub n g data check false) s fun t =>
        t.mem.bytes = u.mem.bytes ∧ t.granSynd g = 0 ∧ t.rd64 (A.HBM_CE n) = (s.rd64 (A.HBM_CE n) + 1) % 2 ^ 64) ∧
      (∀ i, synd (u.granSynd g) = .bit i → Completes (.patrolScrub n g data check false) s fun t =>
        t.byteAt (16 * g + i / 8) = u.byteAt (16 * g + i / 8) ^^^ BitVec.ofNat 8 (2 ^ (i % 8)) ∧
        (∀ a, a ≠ 16 * g + i / 8 → t.byteAt a = u.byteAt a) ∧ t.granSynd g = 0 ∧
        t.rd64 (A.HBM_CE n) = (s.rd64 (A.HBM_CE n) + 1) % 2 ^ 64) ∧
      (synd (u.granSynd g) = .ue → Completes (.patrolScrub n g data check false) s fun t =>
        t.mem.bytes = u.mem.bytes ∧ t.granSynd g = 0xFFFF ∧ t.causeBit .HBM n 0 K.HBM_UE = true ∧
        t.flag (F.HBM_UE_ADDR_VALID n) = true ∧ t.rd64 (A.HBM_UE n) = (s.rd64 (A.HBM_UE n) + 1) % 2 ^ 64) ∧
      (synd (u.granSynd g) = .addr → Completes (.patrolScrub n g data check false) s fun t =>
        t.mem.bytes = u.mem.bytes ∧ t.granSynd g = 0xFFFF ∧ t.causeBit .HBM n 0 K.HBM_ADDR_ERR = true)) ∧
    (∀ n pc bank waits, n < stackCount s.asm → pc < 32 → bank < 64 →
      let key : TKey := { kind := .bankRefresh, a := n, b := pc, c := bank }
      (s.stackServes n = true → ((s.timer key).isNone = true ∨ s.due key (s.refreshPace n) = true) →
        Completes (.refresh n pc bank waits) s fun t =>
          t.rd64 (A.HBM_REFRESH_WAITS n) = (s.rd64 (A.HBM_REFRESH_WAITS n) + waits) % 2 ^ 64 ∧ t.timer key = some s.clk ∧
          Frame s t [.timers] (pairWords (A.HBM_REFRESH_WAITS n))) ∧
      (s.stackServes n = false ∨ (s.timer key).isNone = false ∧ s.due key (s.refreshPace n) = false →
        Completes (.refresh n pc bank waits) s fun t => Frame s t [] fun _ => False)) ∧
    (∀ m n flips, n < 8 → s.grants m (A.HBM_REPAIR_CMD n) 1 = true →
      let row := s.inRow n (s.get (F.HBM_REPAIR_ADDR_PC n)) (s.get (F.HBM_REPAIR_ADDR_BANK n)) (s.get (F.HBM_REPAIR_ADDR_ROW n))
      let u := (flips.filter fun (f : Nat × Nat × Nat) => row f.1).foldl (fun t f => t.upset f.1 f.2.1 f.2.2) s
      (s.mach (.stack n) = UP → s.flag (F.HBM_REPAIR_STATE_BUSY n) = false → (s.shelters n).length < 8 →
        Completes (.startRepair m n flips) s fun t =>
          t.flag (F.HBM_REPAIR_STATE_BUSY n) = true ∧
          t.mem.shelter = s.mem.shelter ++ [⟨n, s.get (F.HBM_REPAIR_ADDR_PC n), s.get (F.HBM_REPAIR_ADDR_BANK n),
            s.get (F.HBM_REPAIR_ADDR_ROW n), 2⟩] ∧
          (∀ g, row g = true → (synd (u.granSynd g) = .addr ∨ synd (u.granSynd g) = .ue) → t.granSynd g = 0xFFFF) ∧
          (∀ g, row g = true → (synd (u.granSynd g) = .check ∨ ∃ i, synd (u.granSynd g) = .bit i) → t.granSynd g = 0) ∧
          (∀ g, row g = false → t.granSynd g = s.granSynd g ∧
            ∀ a, a / 16 = g → t.byteAt a = s.byteAt a)) ∧
      ((s.mach (.stack n) ≠ UP ∨ s.flag (F.HBM_REPAIR_STATE_BUSY n) = true ∨ 8 ≤ (s.shelters n).length) →
        Completes (.startRepair m n flips) s fun t =>
          t.causeBit .HBM n 0 K.HBM_REPAIR_REFUSED = true ∧
          Frame s t [.flt] fun a => causeWords (A.HBM n) a ∨ topWords a)) ∧
    (∀ n left e, n < stackCount s.asm → (s.shelters n).find? (fun x => x.step = 2) = some e →
      Completes (.repairPprDone n left false) s (fun t =>
        t.get (F.HBM_REPAIR_STATE_LEFT n) = min 255 left ∧ t.mem.bytes = s.mem.bytes ∧
        t.mem.shelter = s.mem.shelter.map (fun x => if x = e then { x with step := 4 } else x)) ∧
      Completes (.repairPprDone n left true) s (fun t =>
        t.flag (F.HBM_REPAIR_STATE_BUSY n) = false ∧ t.causeBit .HBM n 0 K.HBM_REPAIR_EXHAUSTED = true ∧
        t.mem.shelter = s.mem.shelter.map (fun x => if x = e then { x with step := 0 } else x))) ∧
    (∀ n e, n < stackCount s.asm → (s.shelters n).find? (fun x => x.step = 4) = some e →
      Completes (.repairDone n) s fun t =>
        t.mem.shelter = s.mem.shelter.filter (fun x => x ≠ e) ∧ t.mem.bytes = s.mem.bytes ∧
        t.mem.repairs = s.mem.repairs ++ [(n, e.pc, e.bank, e.row)] ∧ t.flag (F.HBM_REPAIR_STATE_BUSY n) = false ∧
        t.causeBit .HBM n 0 K.HBM_REPAIR_DONE = true ∧
        t.rd64 (A.HBM_REPAIRS n) = (s.rd64 (A.HBM_REPAIRS n) + 1) % 2 ^ 64) ∧
    (∀ n left, n < stackCount s.asm → s.mach (.stack n) = STARTING → s.mem.initStep.length = 8 →
      s.flag F.TOP_STATE_CORE_PLL_LOCK = true →
      (s.initAt n = 4 → Completes (.stackInitStep n 5 false left) s fun t =>
        t.mach (.stack n) = DOWN ∧ .stack n ∈ t.refused ∧ t.initAt n = 0 ∧
        t.causeBit .HBM n 0 K.HBM_TRAIN_FAIL = true ∧ t.mem.bytes = s.mem.bytes) ∧
      (∀ k, 1 ≤ k → k ≤ 5 → s.initAt n + 1 = k → Completes (.stackInitStep n k true left) s fun t =>
        t.initAt n = k ∧ t.mem.bytes = s.mem.bytes ∧ t.mem.synd = s.mem.synd ∧ t.mach (.stack n) = STARTING ∧
        (k = 2 → t.get (F.HBM_REPAIR_STATE_LEFT n) = min 255 left)) ∧
      (s.initAt n = 5 → Completes (.stackInitStep n 6 true left) s fun t =>
        t.initAt n = 6 ∧ t.flag (F.HBM_STATE_TRAINED n) = true ∧ t.mem.bytes = s.mem.bytes ∧
        (t.mem.repairs.filter fun e => e.1 = n) = (s.mem.repairs.filter fun e => e.1 = n).drop 8) ∧
      (s.initAt n = 6 → s.flag (F.HBM_STATE_FILLED n) = false → Completes (.stackInitStep n 7 true left) s fun t =>
        t.flag (F.HBM_STATE_FILLED n) = true ∧
        (∀ a, s.stackOf a = n → t.byteAt a = 0 ∧ (a % 16 = 0 → t.granSynd (a / 16) = 0)) ∧
        (s.mem.wf = true → ∀ a, s.stackOf a ≠ n → t.byteAt a = s.byteAt a)))

/-- A reported event has its reaction as its command ends (R416): the oldest counts in SRC_COUNT (R415). One lost counts
EVENTS and LOST and sets STATUS.LOST, without record or reaction (R424). One of severity NOTE and above fills its
source's empty slot, or is merged into a full one, and restarts the quiet period of its domain and those above (R419,
R425). A CONTAIN event or a hang, whatever its severity, resets a domain that serves or is quiet, and the module with
its cause and source, where no parent is in CONTAIN (R415, R425, R436, R438, R442); a STOP event stops the domain, and
the module idle (R415, R418, R426). Events of a stopped domain react no more (R426). Once in a slow cycle the
collector takes the slot next from its pointer; its record is written at RING_WR where the ring takes it, else
RING_DROPS counts (R419, R420, R423). RING_RD is stored where it leaves at most 4,096 records; SRC_CFG keeps its floor
and ignores code 7 (R415, R417, R420). Sources and domains are stated to exist. (R415; R416; R417; R418; R419; R420;
R423; R424; R425; R426; R436; R442) -/
def Obligations.FaultEventsReactAndAreRecorded : Prop :=
  ∀ s : State,
    (s.flt.reports = [] → Completes (.faultEvent none) s fun t => Frame s t [] fun _ => False) ∧
    (∀ n i j detail, ∃ t, exec (.faultEvent (some (n, i, j, detail))) s = .next t ∧
      exec (.faultEvent none) (s.outsideEvent n i j detail) = .next t) ∧
    (∀ r l, s.flt.reports = r :: l → r.source < 358 → s.domOk r.domain = true →
      let n := r.source
      let d := r.domain
      let counts := fun (t : State) => t.rd (A.FAULT_SRC_COUNT n) = (s.rd (A.FAULT_SRC_COUNT n) + 1) % 2 ^ 32
      let events := fun (t : State) => t.rd64 A.FAULT_EVENTS = (s.rd64 A.FAULT_EVENTS + 1) % 2 ^ 64
      let quick : Bool := match Tab.find s.flt.lastRec n with
        | some at_ => decide (r.time < at_ + s.get (F.FAULT_SRC_CFG_GAP n) * 100000)
        | none => false
      (r.severity = 1 → r.lost = false → r.hang = false → Reacts s fun t =>
        counts t ∧ t.flt = { s.flt with reports := l } ∧ Frame s t [.flt] fun a => a = A.FAULT_SRC_COUNT n) ∧
      (r.severity ≠ 0 → r.lost = true → Reacts s fun t =>
        counts t ∧ events t ∧ t.rd64 A.FAULT_LOST = (s.rd64 A.FAULT_LOST + 1) % 2 ^ 64 ∧
        (t.rd A.FAULT_STATUS).testBit 4 = true ∧ t.flt.pend = s.flt.pend ∧ t.fstate d = s.fstate d ∧
        Frame s t [.flt] fun a => a = A.FAULT_SRC_COUNT n ∨ pairWords A.FAULT_EVENTS a ∨ pairWords A.FAULT_LOST a ∨
          a = A.FAULT_STATUS) ∧
      (2 ≤ r.severity → r.severity ≤ 6 → r.lost = false →
        (r.inert = true ∨ (r.severity ≤ 4 ∧ r.hang = false)) →
        Reacts s fun t =>
          counts t ∧ events t ∧ t.flt.reports = l ∧
          (s.flt.pend.find? (fun p => p.source = n) = none → quick = false →
            t.flt.pend = s.flt.pend ++ [⟨n, r.severity, 1, d, r.time, r.detail, Tab.get 0 s.flt.carried n⟩]) ∧
          (s.flt.pend.find? (fun p => p.source = n) = none → quick = true → t.flt.pend = s.flt.pend ∧
            Tab.get 0 t.flt.carried n = min 0xFFFF (Tab.get 0 s.flt.carried n + 1)) ∧
          (∀ p, s.flt.pend.find? (fun p => p.source = n) = some p →
            t.flt.pend = s.flt.pend.map fun q => if q.source = n then { p with merged := min 0xFFFF (p.merged + 1) } else q) ∧
          (s.flt.pend.find? (fun p => p.source = n) ≠ none ∨ quick = true →
            t.rd64 A.FAULT_SUPPRESSED = (s.rd64 A.FAULT_SUPPRESSED + 1) % 2 ^ 64) ∧
          (r.inert = false → (∀ x ∈ domAbove d 4, s.fstate x ≠ 1) → ∀ x ∈ d :: domAbove d 4, s.fstate x = 2 → t.timer { kind := .quiet, a := x } = some s.clk) ∧
          Frame s t (if r.inert then [.flt] else [.flt, .timers]) fun a =>
            a = A.FAULT_SRC_COUNT n ∨ pairWords A.FAULT_EVENTS a ∨ pairWords A.FAULT_SUPPRESSED a) ∧
      (r.lost = false → r.inert = false → (∀ x ∈ domAbove d 4, s.fstate x ≠ 1) → (r.severity = 5 ∨ r.hang = true) →
        (d ≠ dom 0 0 → (s.fstate d = 0 ∨ s.fstate d = 2) → (domKind d = 8 → s.astate (domInst d) = AS_IDLE) →
          Reacts s fun t =>
            t.fstate d = 1 ∧ t.timer { kind := .deadline, a := d } = some s.clk ∧
            t.timer { kind := .quiet, a := d } = none) ∧
        (d = dom 0 0 → Reacts s fun t =>
          t.get F.RESET_LAST_MODULE_RESET_CAUSE = MR_CONTAIN ∧ t.get F.RESET_LAST_MODULE_RESET_SOURCE = n ∧
          t.pow.released = false ∧ t.lanes = State.reset.lanes)) ∧
      (r.lost = false → r.inert = false → (∀ x ∈ domAbove d 4, s.fstate x ≠ 1) → r.severity = 6 → r.hang = false →
        s.fstate d ≠ 3 →
        (d ≠ dom 0 0 → Reacts s fun t =>
          t.fstate d = 3 ∧ t.timer { kind := .deadline, a := d } = none) ∧
        (d = dom 0 0 → Reacts s fun t =>
          t.fstate d = 3 ∧ t.get F.TOP_STATE_MODULE = 2 ∧
          (∀ l, l < 1024 → t.phase l = P_IDLE) ∧ t.pow.released = s.pow.released))) ∧
    (s.flt.takeAt = some s.clk → Completes .collectorTake s fun t => Frame s t [] fun _ => False) ∧
    (s.flt.takeAt ≠ some s.clk → s.flt.pend = [] → Completes .collectorTake s fun t =>
      t.flt = { s.flt with ptr := (s.flt.ptr + 1) % 512, takeAt := some s.clk } ∧ Frame s t [.flt] fun _ => False) ∧
    (∀ p ∈ s.flt.pend, s.flt.takeAt ≠ some s.clk → (∀ q ∈ s.flt.pend, q ≠ p → (p.source + 512 - s.flt.ptr) % 512 < (q.source + 512 - s.flt.ptr) % 512) →
      Completes .collectorTake s fun t =>
        t.flt.ptr = (s.flt.ptr + 1) % 512 ∧ t.flt.pend = s.flt.pend.filter (fun q => q.source ≠ p.source) ∧
        t.flt.offered = s.flt.offered + 1 ∧
        (ringTakes s.unconsumed p.severity p.kind = true →
          t.rd A.FAULT_RING_WR = (s.rd A.FAULT_RING_WR + 1) % 2 ^ 32 ∧ (t.rd A.FAULT_STATUS).testBit 0 = true ∧
          (s.rd A.FAULT_RING_WR % 4096, (⟨p.time, p.source, p.severity, p.kind, p.merged, p.domain,
            s.flt.offered % 2 ^ 32, p.detail⟩ : FRec)) ∈ t.flt.ring ∧
          t.rd64 A.FAULT_RING_DROPS = s.rd64 A.FAULT_RING_DROPS) ∧
        (ringTakes s.unconsumed p.severity p.kind = false →
          t.rd A.FAULT_RING_WR = s.rd A.FAULT_RING_WR ∧ t.flt.ring = s.flt.ring ∧
          (t.rd A.FAULT_STATUS).testBit 5 = true ∧
          t.rd64 A.FAULT_RING_DROPS = (s.rd64 A.FAULT_RING_DROPS + 1) % 2 ^ 64)) ∧
    (∀ m (v : Word), s.grants m A.FAULT_RING_RD v = true → Completes (.ringRdWrite m v) s fun t =>
      t.rd A.FAULT_RING_RD = (if (s.rd A.FAULT_RING_WR + 2 ^ 32 - v.toNat) % 2 ^ 32 ≤ 4096 then v.toNat
        else s.rd A.FAULT_RING_RD) ∧
      Frame s t [] fun a => a = A.FAULT_RING_RD ∨ topWords a) ∧
    (∀ m n (v : Word), n < 512 → s.grants m (A.FAULT_SRC_CFG n) v = true → Completes (.srcCfgWrite m n v) s fun t =>
      (n < 358 → v.toNat % 8 ≠ 7 → t.severity n = max (v.toNat % 8) (srcDefault n).2 ∧
        t.get (F.FAULT_SRC_CFG_GAP n) = v.toNat / 256 % 256) ∧
      ((358 ≤ n ∨ v.toNat % 8 = 7) → t.rd (A.FAULT_SRC_CFG n) = s.rd (A.FAULT_SRC_CFG n)) ∧
      Frame s t [] fun a => a = A.FAULT_SRC_CFG n ∨ topWords a)

/-- RESET with a domain that serves fences and resets it; any other is refused with CMD_REFUSED (R439). RELEASE of a
domain in STOP resets it, any other is ignored (R427). A completed reset enters QUIET after an event; SERVING with
SOFT_RESET after a command; SERVING with window count 0 and a RELEASED record after a release (R425, R427, R439). A
quiet period that ends within the threshold returns to SERVING, counts RECOVERY_COUNT, the window count and
RECOVERIES, and opens the window; beyond it the domain stops with a STOPPED record (R425, R426). A window that closes
clears the count (R426). A reset past its deadline stops the domain, sets DEADLINE_MISS and ESCALATED and acts on the
parent: a section, line, die, stack or processor resets the module with its cause, and the module itself, while boot
runs, has no parent (R430, R437, R442). A processor with no KICK in time is reported as hung; KICK restarts the watch
and takes STARTING to PROBATION (R436, R455). Stated for processors with no activation in progress. (R425; R426; R427;
R430; R436; R437; R439; R442; R455) -/
def Obligations.DomainsResetRecoverAndEscalate : Prop :=
  ∀ (s : State) (d : Nat), s.domOk d = true → d ≠ dom 0 0 →
    let idle := domKind d = 8 → s.astate (domInst d) = AS_IDLE
    (∀ m, d < 2 ^ 18 → s.grants m A.RESET_CMD (BitVec.ofNat 32 (d + 2 ^ 20)) = true →
      (s.fstate d = 0 → idle → Completes (.resetCmd m d) s fun t =>
        t.fstate d = 1 ∧ t.timer { kind := .deadline, a := d } = some s.clk ∧
        t.rd64 A.RESET_CMD_RESETS = (s.rd64 A.RESET_CMD_RESETS + 1) % 2 ^ 64) ∧
      (s.fstate d ≠ 0 → Completes (.resetCmd m d) s fun t =>
        t.causeBit .RESET 0 0 K.RESET_CMD_REFUSED = true ∧
        Frame s t [.flt] fun a => causeWords A.RESET a ∨ topWords a)) ∧
    (∀ m x, x < 2 ^ 18 → s.domOk x = false → s.grants m A.RESET_CMD (BitVec.ofNat 32 (x + 2 ^ 20)) = true →
      Completes (.resetCmd m x) s fun t => t.causeBit .RESET 0 0 K.RESET_CMD_REFUSED = true ∧
        Frame s t [.flt] fun a => causeWords A.RESET a ∨ topWords a) ∧
    (∀ m, d < 2 ^ 18 → s.grants m A.FAULT_CMD (BitVec.ofNat 32 (d + 2 ^ 31)) = true →
      (s.fstate d = 3 → idle → Completes (.release m d) s fun t =>
        t.fstate d = 1 ∧ t.timer { kind := .deadline, a := d } = some s.clk) ∧
      (s.fstate d ≠ 3 → Completes (.release m d) s fun t => Frame s t [] topWords)) ∧
    (∀ h, s.handlingOf d = some h → s.fstate d = 1 → s.resetDone d = true →
      (h.how = .event → Completes (.domainResetComplete d) s fun t =>
        t.fstate d = 2 ∧ t.timer { kind := .quiet, a := d } = some s.clk ∧
        t.timer { kind := .deadline, a := d } = none ∧ t.handlingOf d = some h) ∧
      (h.how = .command → Completes (.domainResetComplete d) s fun t =>
        t.fstate d = 0 ∧ t.handlingOf d = none ∧ t.causeBit .RESET 0 0 K.RESET_SOFT_RESET = true ∧
        t.timer { kind := .deadline, a := d } = none ∧ t.recovery d = s.recovery d) ∧
      (h.how = .release → Completes (.domainResetComplete d) s fun t =>
        t.fstate d = 0 ∧ t.handlingOf d = none ∧ t.windowCount d = 0 ∧ t.timer { kind := .window, a := d } = none ∧
        t.flt.offered = s.flt.offered + 1)) ∧
    (s.fstate d = 2 → s.due { kind := .quiet, a := d } (s.quietTime d) = true →
      let shut := s.timer { kind := .window, a := d } = none
      ∀ n, ((shut ∧ n = 1) ∨ (¬ shut ∧ n = s.windowCount d + 1)) →
      (n ≤ s.get (F.FAULT_POLICY_A_THRESHOLD (domKind d)) → n < 256 → Completes (.quietPeriodEnd d) s fun t =>
        t.fstate d = 0 ∧ t.windowCount d = n ∧ t.recovery d % 65536 = min 0xFFFF (s.recovery d % 65536 + 1) ∧
        (shut → t.timer { kind := .window, a := d } = some s.clk) ∧ t.handlingOf d = none ∧
        t.rd64 A.FAULT_RECOVERIES = (s.rd64 A.FAULT_RECOVERIES + 1) % 2 ^ 64) ∧
      (s.get (F.FAULT_POLICY_A_THRESHOLD (domKind d)) < n → Completes (.quietPeriodEnd d) s fun t =>
        t.fstate d = 3 ∧ t.recovery d = s.recovery d ∧ t.flt.offered = s.flt.offered + 1 ∧
        t.rd64 A.FAULT_STOPS = (s.rd64 A.FAULT_STOPS + 1) % 2 ^ 64)) ∧
    (s.due { kind := .window, a := d } (s.windowTime d) = true → Completes (.recoveryWindowClose d) s fun t =>
      t.windowCount d = 0 ∧ t.fstate d = s.fstate d ∧ t.recovery d = s.recovery d ∧
      t.timer { kind := .window, a := d } = none ∧ Frame s t [.flt, .timers] fun a => a = dfaultAddr d) ∧
    (s.fstate d = 1 → (∀ h, s.handlingOf d = some h → h.how ≠ .parent) →
      s.due { kind := .deadline, a := d } (deadlineOf d) = true →
      (domKind d ∈ [2, 3, 6] → Completes (.deadlineMiss d) s fun t =>
        t.fstate d = 3 ∧ t.causeBit .RESET 0 0 K.RESET_DEADLINE_MISS = true ∧
        t.causeBit .RESET 0 0 K.RESET_ESCALATED = true ∧ t.flag F.RESET_CAPTURE_VALID = true ∧ d ∈ t.flt.gated ∧
        (domKind d = 3 → (s.fstate (dom 2 (domInst d / 16))) % 2 = 0 → t.fstate (dom 2 (domInst d / 16)) = 1) ∧
        (domKind d = 6 → (s.fstate (dom 5 (domInst d / 128))) % 2 = 0 → t.fstate (dom 5 (domInst d / 128)) = 1)) ∧
      (domKind d ∈ [1, 4, 5, 7, 8] → Completes (.deadlineMiss d) s fun t =>
        t.get F.RESET_LAST_MODULE_RESET_CAUSE = MR_ESCALATION ∧ t.get F.RESET_LAST_MODULE_RESET_DOMAIN = d ∧
        t.pow.released = false)) ∧
    (s.pow.released = true → s.get F.TOP_STATE_MODULE = 0 → s.fstate (dom 0 0) ≠ 3 →
      (∀ h, s.handlingOf (dom 0 0) = some h → h.how ≠ .parent) →
      s.due { kind := .deadline, a := dom 0 0 } (deadlineOf (dom 0 0)) = true → Completes (.deadlineMiss (dom 0 0)) s fun t =>
        t.fstate (dom 0 0) = 3 ∧ t.causeBit .RESET 0 0 K.RESET_DEADLINE_MISS = true ∧
        t.causeBit .RESET 0 0 K.RESET_ESCALATED = true ∧
        t.rd64 A.RESET_ESCALATIONS = (s.rd64 A.RESET_ESCALATIONS + 1) % 2 ^ 64) ∧
    (∀ p, p < 8 → p ∈ s.cons.running → s.fenced (dom 8 p) = false →
      (s.due { kind := .procWatch, a := p } (ms (max 1 (s.get F.RESET_CFG_PROC_WD_MS))) = true →
        Completes (.procHang p) s fun t =>
          t.causeBit .RESET 0 0 K.RESET_PROC_HANG = true ∧ t.timer { kind := .procWatch, a := p } = none ∧
          (∃ r, t.flt.reports = s.flt.reports ++ [r] ∧ r.domain = dom 8 p ∧ r.hang = true) ∧
          Frame s t [.flt, .timers] (causeWords A.RESET)) ∧
      (∀ m (v : Word), v.toNat = 2 ^ p → s.grants m A.RESET_KICK v = true → Completes (.kick m v) s fun t =>
        t.timer { kind := .procWatch, a := p } = some s.clk ∧
        (s.astate p ≠ AS_STARTING → Frame s t [.timers] topWords) ∧
        (s.astate p = AS_STARTING → t.astate p = AS_PROBATION ∧
          t.timer { kind := .probation, a := p } = some s.clk ∧ t.timer { kind := .startLimit, a := p } = none)))

/-- Where the write of RESET.CMD reaches its register: MODULE_RESET with DOMAIN 0 and CONFIRM 0xA5 starts a module reset,
recorded with cause COMMAND, and the register bus is no longer released. MODULE_RESET with any other CONFIRM or
DOMAIN, and RESET with a domain of the module's KIND, sets CMD_REFUSED and changes nothing else but the access
counters and the report of the cause. (R440) -/
def Obligations.ModuleResetByCommandNeedsItsConfirmation : Prop :=
  ∀ (s : State) (m : Master) (confirm domain : Nat), confirm < 256 → domain < 2 ^ 18 →
    let refused := fun (t : State) => t.causeBit .RESET 0 0 K.RESET_CMD_REFUSED = true ∧
      Frame s t [.flt] fun a => causeWords A.RESET a ∨ topWords a
    (s.grants m A.RESET_CMD (BitVec.ofNat 32 (domain + 2 * 2 ^ 20 + confirm * 2 ^ 24)) = true →
      (domain = 0 ∧ confirm = 0xA5 → Completes (.moduleReset m confirm domain) s fun t =>
        t.get F.RESET_LAST_MODULE_RESET_CAUSE = MR_COMMAND ∧ t.pow.released = false) ∧
      (¬ (domain = 0 ∧ confirm = 0xA5) → Completes (.moduleReset m confirm domain) s refused)) ∧
    (s.grants m A.RESET_CMD (BitVec.ofNat 32 (domain + 2 ^ 20)) = true → domKind domain = 0 →
      Completes (.resetCmd m domain) s refused)

/-- A module reset whose causes fall on one edge records in LAST_MODULE_RESET MOD_EN if MOD_EN falls; otherwise RESET_N if
that falls; otherwise CONTAIN with its source, if a source of the module domain fires at that severity and its event
is neither lost nor of a stopped module; otherwise COMMAND; otherwise ESCALATION with the domain. A power-up records
0. (R518) -/
def Obligations.OneCauseOfAModuleResetIsRecorded : Prop :=
  ∀ (s : State) (modEn resetN command : Bool) (contain escalation : Option Nat),
    let contains := fun (n : Nat) => n < 358 ∧ s.severity n = 5 ∧ srcKind n = 0
    let c := Instr.moduleResetStart modEn resetN contain command escalation
    let records := fun (cause : Nat) (t : State) =>
      t.get F.RESET_LAST_MODULE_RESET_CAUSE = cause ∧ t.pow.released = false ∧
      t.mem.bytes = (if cause = 2 then [] else s.mem.bytes)
    (modEn = true → Completes c s (records 2)) ∧
    (modEn = false → resetN = true → Completes c s (records 1)) ∧
    (modEn = false → resetN = false →
      (∀ n, contain = some n → contains n → s.fstate (dom 0 0) = 0 ∨ s.fstate (dom 0 0) = 2 → Completes c s fun t =>
        records 5 t ∧ t.get F.RESET_LAST_MODULE_RESET_SOURCE = n) ∧
      ((∀ n, contain = some n → ¬ (s.severity n = 5 ∧ srcKind n = 0) ∨ s.fstate (dom 0 0) = 1 ∨ s.fstate (dom 0 0) = 3) →
        (command = true → Completes c s (records 3)) ∧
        (∀ d, command = false → escalation = some d → s.domOk d = true → d ≠ dom 0 0 → Completes c s fun t =>
          records 4 t ∧ t.get F.RESET_LAST_MODULE_RESET_DOMAIN = d))) ∧
    (s.pow.hotSwap = false → Completes .hotSwapOn s fun t =>
      t.rd A.RESET_LAST_MODULE_RESET = 0 ∧ t.pow.released = false)

/-- With nothing holding the reset, the first step ends it: the straps are sampled and step 1 starts; the deadline runs
anew where a level or a power-up held the reset, else on from the fence (R430, R492, R513, R517). Each step moves on
to the next: 1 loads the ROM version; 2 the identity key, DEVICE_TAG and ID_STATUS, with ID_FAIL where no key is
derived (R497); 3 the valid manifest slot of the higher MSEQ, or recovery with RESULT 2 (R493, R495); 4 the bank that
boots, for every processor, or recovery with RESULT 3 (R495); 5 the grade words and trims of the manifest, where a
section with two failed coaches ends RESULT 4 and cannot start (R55, R494; how a mismatch shows is the model's choice,
log 69); 6 the certificate's length, with ID_FAIL where it names another key (R498). From step 7 the register bus is
released, with the protection table locked (R488, R499). With the bus released, the stacks trained and filled and no
error, the module is READY and serves, every processor that is not fenced runs, and the READY pin follows (R495,
R512). While a reset holds or boot is over, a boot step changes nothing. (R55; R430; R488; R492; R493; R495; R497;
R498; R499; R512; R513; R517) -/
def Obligations.BootStepsRunReleaseTheBusAndReachReady : Prop :=
  ∀ (s : State) (keyOk : Bool) (slot : Nat), slot < 64 →
    (s.bootStep = 0 → s.mayRelease = true → Completes (.bootStep (keyOk, slot)) s fun t =>
      t.pow.released = true ∧ t.get F.TOP_SLOT_ID_SLOT = slot ∧ t.bootStep = 1 ∧
      t.timer { kind := .deadline, a := dom 0 0 } =
        (if s.get F.RESET_LAST_MODULE_RESET_CAUSE ≤ 2 then some s.clk else s.timer { kind := .deadline, a := dom 0 0 })) ∧
    ((s.bootStep = 0 ∧ s.mayRelease = false) ∨ (s.bootStep ≠ 0 ∧ s.booting = false) →
      Completes (.bootStep (keyOk, slot)) s fun t => t.pow = s.pow ∧ Frame s t [.inputs] fun _ => False) ∧
    (s.booting = true →
      (s.bootStep = 1 → Completes (.bootStep (keyOk, slot)) s fun t =>
        t.bootStep = 2 ∧ t.get F.SIDING_BOOT_STATUS_ROM_VERSION = Config.romVersion % 2 ^ 16) ∧
      (s.bootStep = 2 → Completes (.bootStep (keyOk, slot)) s fun t =>
        t.bootStep = 3 ∧ t.sid.keyOk = keyOk ∧
        (keyOk = true → t.get F.SIDING_ID_INFO_ID_STATUS = 0 ∧
          t.rd A.SIDING_DEVICE_TAG = numAt (sha512 (slice Config.idPub 0 133)) 0 4) ∧
        (keyOk = false → t.get F.SIDING_ID_INFO_ID_STATUS = 1 ∧ t.rd A.SIDING_DEVICE_TAG = 0 ∧
          t.causeBit .SIDING 0 0 K.SIDING_ID_FAIL = true)) ∧
      (s.bootStep = 3 →
        let ok := fun i => s.slotReason (2 + i) s.sid.keyOk = 0
        let uses := fun (i : Nat) => Completes (.bootStep (keyOk, slot)) s fun t =>
          t.bootStep = 4 ∧ t.sid.manifestOk = true ∧ t.get F.SIDING_BOOT_STATUS_MAN_SLOT = i
        (ok 0 → ok 1 → s.flashNum 2 8 4 < s.flashNum 3 8 4 → uses 1) ∧
        (ok 0 → ok 1 → s.flashNum 3 8 4 < s.flashNum 2 8 4 → uses 0) ∧
        (ok 0 → ¬ ok 1 → uses 0) ∧ (¬ ok 0 → ok 1 → uses 1) ∧
        (¬ ok 0 → ¬ ok 1 → Completes (.bootStep (keyOk, slot)) s fun t =>
          t.sid.recovery = true ∧ t.get F.SIDING_BOOT_STATUS_RESULT = 2 ∧ t.bootStep = 3)) ∧
      (s.bootStep = 4 →
        let b := s.get (F.CONSORT_BANK_STATE_BOOT_BANK 0)
        let loads := fun (c : Nat) (t : State) => t.bootStep = 5 ∧ ∀ p, p < 8 →
          t.get (F.CONSORT_RUN_INFO_RUN_BANK p) = c ∧ t.get (F.CONSORT_RUN_INFO_RESTART_KIND p) = RS_BOOT
        (s.bankBoots b = true → Completes (.bootStep (keyOk, slot)) s (loads b)) ∧
        (s.bankBoots b = false → s.bank (1 - b) = BK_VERIFIED → s.bankBoots (1 - b) = true →
          Completes (.bootStep (keyOk, slot)) s fun t => loads (1 - b) t ∧
            t.get (F.CONSORT_BANK_STATE_BOOT_BANK 0) = 1 - b ∧ t.flag F.SIDING_BOOT_STATUS_FALLBACK = true ∧
            t.causeBit .SIDING 0 0 K.SIDING_BOOT_FALLBACK = true) ∧
        (s.bankBoots b = false → (s.bank (1 - b) ≠ BK_VERIFIED ∨ s.bankBoots (1 - b) = false) →
          Completes (.bootStep (keyOk, slot)) s fun t =>
            t.sid.recovery = true ∧ t.get F.SIDING_BOOT_STATUS_RESULT = 3 ∧ t.bootStep = 4)) ∧
      (s.bootStep = 5 → Completes (.bootStep (keyOk, slot)) s fun t =>
        t.bootStep = 6 ∧ t.rd A.TOP_LANE_SLOTS = s.flashNum s.manRegion 0x44 4 ∧
        t.rd A.TOP_STACKS = s.flashNum s.manRegion 0x48 4 ∧ t.sid.trims = s.manTrims ∧
        (∀ n, n < 16 → 2 ≤ ((bitList (s.flashNum s.manRegion (0x800 + 8 * n) 8) 33)).length →
          n ∈ t.sid.lame ∧ t.get F.SIDING_BOOT_STATUS_RESULT = 4 ∧ t.remapValid n = false)) ∧
      (s.bootStep = 6 →
        let n := derLength (s.flashBytes 4 0 4)
        Completes (.bootStep (keyOk, slot)) s fun t =>
          t.bootStep = 7 ∧ t.get F.SIDING_ID_INFO_CERT_LEN = n % 2 ^ 13 ∧
          (s.sid.keyOk = true → Config.certKey (s.flashBytes 4 0 n) ≠ Config.idPub →
            t.get F.SIDING_ID_INFO_ID_STATUS = 2 ∧ t.causeBit .SIDING 0 0 K.SIDING_ID_FAIL = true)) ∧
      (s.bootStep = 7 → Completes .registerBusRelease s fun t =>
        t.sid.released = true ∧ t.bootStep = 8 ∧ t.flag F.PROT_LOCK_LOCKED = true ∧
        ∀ i, i < 32 → t.rd (A.PROT_REGION_RIGHTS i) = s.flashNum s.manRegion (0x6500 + 12 * i + 8) 4 % 32)) ∧
    (s.sid.released = true → s.pow.released = true → s.sid.recovery = false →
      s.get F.SIDING_BOOT_STATUS_RESULT = 0 → s.get F.TOP_STATE_MODULE = 0 → s.stacksTrained = true →
      s.fstate (dom 0 0) ≠ 3 → Completes .moduleReady s fun t =>
        t.get F.TOP_STATE_MODULE = 1 ∧ t.fstate (dom 0 0) = 0 ∧ (∀ p, p < 8 → s.fenced (dom 8 p) = false → p ∈ t.cons.running) ∧
        t.pins.ready = (s.pow.hotSwap && s.pins.modEn && s.pins.resetN) ∧ t.timer { kind := .deadline, a := dom 0 0 } = none ∧ t.timer { kind := .heartbeat, a := 0 } = some s.clk)

/-- A power-up and a power loss leave stacks and fault ring empty and keep flash (R420, R516, R520). MOD_EN rising ends a
latched trip; falling, it turns the main rails off and starts a module reset with cause MOD_EN, clearing TRIP_LOG
where the rails were on (R472, R517). RESET_N falling starts a module reset with cause RESET_N that keeps the stacks'
contents (R378, R517). RESET_N rising, or the main rails becoming good, samples SLOT_ID and starts boot where nothing
else holds the reset (R513, R517). Where no rail or pin allows it, nothing is released. At SMBus address 0x58 command
codes 1 to 6 answer VIN, IIN, PIN, TEMP_MAX, COOLANT and the status bits; other codes, and a module without power, do
not acknowledge; at 0x50 the FRU EEPROM answers while P3V3_AUX is present (R514, R515; its content is open, log 85).
That flash with the bank states and repaired rows survives a power loss beside the EEPROM is the model's choice (log
52). (R378; R420; R472; R513; R514; R515; R516; R517; R520) -/
def Obligations.PowerAndResetPinsResetAndReleaseTheModule : Prop :=
  ∀ s : State,
    (s.pow.hotSwap = false → Completes .hotSwapOn s fun t =>
      t.pow.hotSwap = true ∧ t.pow.mainRails = false ∧ t.pow.released = false ∧ t.cons.flash = s.cons.flash ∧
      t.mem.bytes = [] ∧ t.flt.ring = [] ∧ t.pins.ready = false ∧ t.fru = s.fru ∧
      t.get (F.CONSORT_BANK_STATE_BOOT_BANK 0) = s.get (F.CONSORT_BANK_STATE_BOOT_BANK 0)) ∧
    (s.pow.hotSwap = true → Completes .hotSwapOn s (fun t => Frame s t [] fun _ => False) ∧
      Completes .hotSwapOff s fun t =>
        t.pow.hotSwap = false ∧ t.pow.mainRails = false ∧ t.pow.released = false ∧ t.cons.flash = s.cons.flash ∧
        t.mem.bytes = [] ∧ t.flt.ring = [] ∧ t.pending = s.pending) ∧
    (s.pins.modEn = false → Completes .modEnRise s fun t =>
      t.pins.modEn = true ∧ t.pow = { s.pow with tripped := false } ∧ Frame s t [.inputs, .pow] fun _ => False) ∧
    (s.pins.modEn = true → s.pow.hotSwap = true → Completes .modEnFall s fun t =>
      t.pins.modEn = false ∧ t.pow.mainRails = false ∧ t.pow.released = false ∧
      t.get F.RESET_LAST_MODULE_RESET_CAUSE = 2 ∧ t.flt.ring = s.flt.ring ∧
      t.rd A.POWER_TRIP_LOG = (if s.pow.mainRails then 0 else s.rd A.POWER_TRIP_LOG) ∧
      (∀ n, n < 8 → t.flag (F.HBM_STATE_FILLED n) = false) ∧ t.pins.ready = false ∧ t.pins.attnN = false) ∧
    (s.pins.resetN = true → s.pow.hotSwap = true → Completes .resetNFall s fun t =>
      t.pins.resetN = false ∧ t.pow.mainRails = s.pow.mainRails ∧ t.pow.released = false ∧
      t.get F.RESET_LAST_MODULE_RESET_CAUSE = 1 ∧ t.flt.ring = s.flt.ring ∧ t.mem.bytes = s.mem.bytes ∧
      (∀ n, n < 8 → t.flag (F.HBM_STATE_FILLED n) = s.flag (F.HBM_STATE_FILLED n)) ∧ t.pins.ready = false) ∧
    (∀ slot, slot < 64 →
      let begins := fun (t : State) => t.pow.released = true ∧ t.get F.TOP_SLOT_ID_SLOT = slot ∧ t.bootStep = 1
      (s.pins.resetN = false →
        (s.pow.hotSwap = true → s.pow.mainRails = true → s.pins.modEn = true → s.pow.released = false →
          Completes (.resetNRise slot) s fun t => t.pins.resetN = true ∧ begins t) ∧
        ((s.pow.hotSwap = false ∨ s.pow.mainRails = false ∨ s.pins.modEn = false) →
          Completes (.resetNRise slot) s fun t => t.pins.resetN = true ∧ Frame s t [.inputs] fun _ => False)) ∧
      (s.pow.mainRails = false → s.pow.hotSwap = true → s.pins.modEn = true → s.pow.tripped = false →
        s.pow.released = false →
        (s.pins.resetN = true → Completes (.mainRailsGood slot) s fun t => t.pow.mainRails = true ∧ begins t) ∧
        (s.pins.resetN = false → Completes (.mainRailsGood slot) s fun t =>
          t.pow = { s.pow with mainRails := true } ∧ Frame s t [.inputs, .pow] fun _ => False)) ∧
      (s.pow.tripped = true → Completes (.mainRailsGood slot) s fun t => Frame s t [] fun _ => False)) ∧
    (∀ addr code aux, addr < 128 → code < (if addr = 0x50 then 8192 else 256) →
      let reads := fun (v : Option Nat) => Completes (.telemetryRead (addr, code, aux)) s fun t =>
        t.out = s.out ++ [.smb v] ∧ Frame s t [.out] fun _ => False
      ((addr ≠ 0x50 ∧ addr ≠ 0x58) ∨ (addr = 0x50 ∧ aux = false) ∨
        (addr = 0x58 ∧ (s.pow.hotSwap = false ∨ code = 0 ∨ 6 < code)) → reads none) ∧
      (addr = 0x50 → aux = true → reads (some ((s.fruAt code).toNat + 256 * (s.fruAt (code + 1)).toNat))) ∧
      (addr = 0x58 → s.pow.hotSwap = true →
        (code = 1 → reads (some (s.get F.POWER_VIN_V))) ∧ (code = 2 → reads (some (s.get F.POWER_IIN_I))) ∧
        (code = 3 → reads (some (s.get F.POWER_PIN_P))) ∧ (code = 4 → reads (some (s.get F.POWER_TEMP_MAX_TEMP))) ∧
        (code = 5 → reads (some (s.get F.POWER_COOLANT_TEMP))) ∧
        (code = 6 → reads (some (b2n s.pins.modEn + 2 * b2n s.pow.mainRails + 4 * b2n s.pins.ready +
          8 * b2n s.pow.tripped)))))

/-- IMG_CMD moves a bank: BEGIN empties it for staging, or is refused with ACT_REFUSED; END starts verification; ABORT
empties it; RESUME ends a pause, and PAUSED of a bank that stages follows HOST_ABSENT; BOOT_BANK selects a verified
bank with all eight sections (R451, R459). A verification ends VERIFIED, or INVALID with its reason (R450, R451).
ACTIVATE waits for the emergency hold-off or is refused with its result; CANCEL returns a waiting one to IDLE (R452,
R454). The lowest waiting processor loads once the hold-off has passed and none loads (R453, R457); at its safe point
the old image stops, or the wait starts again (R453). A section that is good starts (R455); one that is not, and one
that kicks too late, is reverted to the running bank, and a revert that fails stops the processor (R456). A probation
that passes ends IDLE and is counted; that of a revert is not (R455, R456). A command the bank's state does not take
is ignored: the model's choice (log 62). (R450; R451; R452; R453; R454; R455; R456; R457; R459) -/
def Obligations.ImagesAreStagedVerifiedAndActivated : Prop :=
  ∀ s : State,
    (∀ m b, b < 2 →
      let cmd := A.CONSORT_IMG_CMD 0
      let st := s.bank b
      let ignored := fun (c : Instr) => Completes c s fun t => Frame s t [] topWords
      (s.grants m cmd (BitVec.ofNat 32 (1 + 16 * b)) = true →
        (s.beginRefused b = true → Completes (.beginImage m b) s fun t =>
          t.causeBit .CONSORT 0 0 K.CONSORT_ACT_REFUSED = true ∧
          Frame s t [.flt] fun a => causeWords (A.CONSORT 0) a ∨ topWords a) ∧
        (s.beginRefused b = false → st ≠ BK_STAGING → st ≠ BK_VERIFYING → Completes (.beginImage m b) s fun t =>
          t.bank b = BK_STAGING ∧ t.bank (1 - b) = s.bank (1 - b) ∧ t.rd (A.CONSORT_STAGED_BYTES 0) = 0 ∧
          t.flag (F.CONSORT_BANK_STATE_PAUSED 0) = s.flag F.TOP_STATE_HOST_ABSENT ∧ t.cons.flash = s.cons.flash)) ∧
      (s.grants m cmd (BitVec.ofNat 32 (2 + 16 * b)) = true →
        (st = BK_STAGING → Completes (.endImage m b) s fun t =>
          t.bank b = BK_VERIFYING ∧ t.bank (1 - b) = s.bank (1 - b)) ∧
        (st ≠ BK_STAGING → ignored (.endImage m b))) ∧
      (s.grants m cmd (BitVec.ofNat 32 (3 + 16 * b)) = true →
        (st = BK_STAGING → Completes (.abortImage m b) s fun t =>
          t.bank b = BK_EMPTY ∧ t.bank (1 - b) = s.bank (1 - b)) ∧
        (st ≠ BK_STAGING → ignored (.abortImage m b))) ∧
      (s.grants m cmd (BitVec.ofNat 32 (4 + 16 * b)) = true →
        (st = BK_STAGING → Completes (.resumeImage m b) s fun t =>
          t.flag (F.CONSORT_BANK_STATE_PAUSED 0) = s.flag F.TOP_STATE_HOST_ABSENT ∧ t.bank b = st ∧
          Frame s t [] fun a => a = A.CONSORT_BANK_STATE 0 ∨ topWords a) ∧
        (st ≠ BK_STAGING → ignored (.resumeImage m b))) ∧
      (s.grants m cmd (BitVec.ofNat 32 (5 + 16 * b)) = true →
        (st = BK_VERIFIED → s.allEight b = true → Completes (.bootBank m b) s fun t =>
          t.get (F.CONSORT_BANK_STATE_BOOT_BANK 0) = b ∧ t.bank b = st ∧
          Frame s t [] fun a => a = A.CONSORT_BANK_STATE 0 ∨ topWords a) ∧
        ((st ≠ BK_VERIFIED ∨ s.allEight b = false) → ignored (.bootBank m b))) ∧
      (st = BK_VERIFYING →
        (s.bankReason b = 0 → Completes (.imageVerifyDone b) s fun t =>
          t.bank b = BK_VERIFIED ∧ t.bank (1 - b) = s.bank (1 - b)) ∧
        (s.bankReason b ≠ 0 → Completes (.imageVerifyDone b) s fun t =>
          t.bank b = BK_INVALID ∧ t.get (F.CONSORT_BANK_STATE_INVALID_REASON 0) = s.bankReason b ∧
          t.causeBit .CONSORT 0 0 K.CONSORT_STAGE_INVALID = true))) ∧
    (∀ p, p < 8 →
      let run := s.get (F.CONSORT_RUN_INFO_RUN_BANK p)
      let result := fun (t : State) => t.get (F.CONSORT_ACT_STATE_LAST_RESULT p)
      let reverts := fun (old : Nat) (t : State) => t.astate p = AS_STARTING ∧ p ∈ t.cons.reverting ∧ result t = 3 ∧
        t.get (F.CONSORT_RUN_INFO_RUN_BANK p) = old ∧ t.causeBit .CONSORT p 0 K.CONSORT_ACT_REVERTED = true ∧
        t.rd64 (A.CONSORT_REVERTS p) = (s.rd64 (A.CONSORT_REVERTS p) + 1) % 2 ^ 64
      let stops := fun (t : State) => t.fstate (dom 8 p) = 3 ∧ result t = 4 ∧ p ∉ t.cons.running ∧
        t.causeBit .CONSORT p 0 K.CONSORT_REVERT_FAILED = true
      (∀ m b, b < 2 → s.grants m (A.CONSORT_ACT_CMD p) (BitVec.ofNat 32 (1 + 16 * b)) = true →
        (s.actRefusal p b = 0 → Completes (.activateImage m p b) s fun t =>
          t.astate p = AS_PENDING ∧ t.get (F.CONSORT_ACT_STATE_TARGET_BANK p) = b) ∧
        (s.actRefusal p b ≠ 0 → Completes (.activateImage m p b) s fun t =>
          result t = s.actRefusal p b ∧ t.causeBit .CONSORT p 0 K.CONSORT_ACT_REFUSED = true ∧
          Frame s t [.flt] fun a => causeWords (A.CONSORT p) a ∨ a = A.CONSORT_ACT_STATE p ∨ topWords a)) ∧
      (∀ m, s.grants m (A.CONSORT_ACT_CMD p) 2 = true →
        (s.astate p = AS_PENDING → Completes (.cancelImage m p) s fun t => t.astate p = AS_IDLE ∧ result t = 2) ∧
        (s.astate p ≠ AS_PENDING → Completes (.cancelImage m p) s fun t => Frame s t [] topWords)) ∧
      (s.mayLoad p = true → (∀ q, q < p → s.mayLoad q = false) → (∀ q, q < 8 → s.astate q ≠ AS_LOADING) →
        Completes (.emergencyHoldoffEnd p) s fun t =>
          t.astate p = AS_LOADING ∧ t.timer { kind := .safePoint, a := p } = some s.clk) ∧
      (∀ ready, s.astate p = AS_LOADING → p ∈ s.cons.running →
        (ready = true ∨ s.due { kind := .safePoint, a := p } (ms 2) = true) →
        (s.holdoffOver p = true → Completes (.safePoint p ready) s fun t =>
          p ∉ t.cons.running ∧ t.astate p = AS_LOADING ∧ Frame s t [.cons, .timers] fun _ => False) ∧
        (s.holdoffOver p = false → Completes (.safePoint p ready) s fun t =>
          t.astate p = AS_PENDING ∧ t.cons.running = s.cons.running)) ∧
      (s.astate p = AS_LOADING → p ∉ s.cons.running → s.fenced (dom 8 p) = false →
        let b := s.get (F.CONSORT_ACT_STATE_TARGET_BANK p)
        (∀ e, s.secOf b p = some e → s.digestOk b e = true → Completes (.imageStart p) s fun t =>
          t.astate p = AS_STARTING ∧ p ∈ t.cons.running ∧ t.timer { kind := .startLimit, a := p } = some s.clk ∧
          t.get (F.CONSORT_RUN_INFO_RESTART_KIND p) = RS_ACTIVATION) ∧
        (∀ e f, s.secOf b p = some e → s.digestOk b e = false → p ∉ s.cons.reverting → s.secOf run p = some f →
          s.digestOk run f = true → Completes (.imageStart p) s (reverts run))) ∧
      (s.astate p = AS_PROBATION →
        s.due { kind := .probation, a := p } (ms (1000 * max 1 (s.get (F.CONSORT_START_CFG_PROBATION_S p)))) = true →
        (p ∉ s.cons.reverting → Completes (.probationEnd p) s fun t =>
          t.astate p = AS_IDLE ∧ result t = 1 ∧
          t.rd64 (A.CONSORT_ACTIVATIONS p) = (s.rd64 (A.CONSORT_ACTIVATIONS p) + 1) % 2 ^ 64) ∧
        (p ∈ s.cons.reverting → Completes (.probationEnd p) s fun t =>
          t.astate p = AS_IDLE ∧ p ∉ t.cons.reverting ∧ result t = result s ∧
          t.rd64 (A.CONSORT_ACTIVATIONS p) = s.rd64 (A.CONSORT_ACTIVATIONS p))) ∧
      (s.astate p = AS_STARTING → p ∈ s.cons.running →
        s.due { kind := .startLimit, a := p } (ms (max 1 (s.get (F.CONSORT_START_CFG_START_LIMIT_MS p)))) = true →
        (∀ f, p ∉ s.cons.reverting → s.secOf run p = some f → s.digestOk run f = true →
          Completes (.startLimitExpiry p) s (reverts run)) ∧
        (p ∈ s.cons.reverting → Completes (.startLimitExpiry p) s stops)))

/-- A write that changes HEARTBEAT restarts its watch, once the module has been READY since its reset, in STOP as well,
and ends an absence with a HOST_BACK entry; one that does not change it does nothing (R458, R460). HB_TIMEOUT_MS
without one sets HOST_ABSENT, counts it and pauses a staging bank (R458, R459). An entry pushed by a running processor
is written at HEV_WR while the ring has room, and otherwise is counted as lost (R460, R461). A write of HEV_RD that
leaves at most 4,096 entries is stored, and the first one after a loss makes room for the OVERFLOW entry; another
write is ignored (R460, R461; log 54). A trace point that is enabled at its level writes the next entry of the
processor's log ring; another writes none (R447, R448). A processor that does not run writes nothing. (R447; R448;
R458; R459; R460; R461) -/
def Obligations.HostPresenceAndRingsAreKept : Prop :=
  ∀ s : State,
    let hevNext := fun (t : State) => t.rd (A.CONSORT_HEV_WR 0) = (s.rd (A.CONSORT_HEV_WR 0) + 1) % 2 ^ 32
    let slot := s.rd (A.CONSORT_HEV_WR 0) % 4096
    (∀ m (v : Word), s.grants m (A.CONSORT_HEARTBEAT 0) v = true →
      (s.rd (A.CONSORT_HEARTBEAT 0) = v.toNat → Completes (.heartbeatWrite m v) s fun t => Frame s t [] topWords) ∧
      (s.rd (A.CONSORT_HEARTBEAT 0) ≠ v.toNat →
        (s.flag F.TOP_STATE_HOST_ABSENT = false → Completes (.heartbeatWrite m v) s fun t =>
          t.rd (A.CONSORT_HEARTBEAT 0) = v.toNat ∧
          t.timer { kind := .heartbeat, a := 0 } =
            (if s.get F.TOP_STATE_MODULE ≠ 0 then some s.clk else s.timer { kind := .heartbeat, a := 0 }) ∧
          Frame s t [.timers] fun a => a = A.CONSORT_HEARTBEAT 0 ∨ topWords a) ∧
        (s.flag F.TOP_STATE_HOST_ABSENT = true → s.hevUnread < 4096 → Completes (.heartbeatWrite m v) s fun t =>
          t.flag F.TOP_STATE_HOST_ABSENT = false ∧ hevNext t ∧
          (∃ e ∈ t.cons.hev, e.1 = slot ∧ numAt e.2 8 2 = 0x0006 ∧
            numAt e.2 16 8 = 10 * (s.clk - s.cons.absentAt) % 2 ^ 64)))) ∧
    (s.due { kind := .heartbeat, a := 0 } (ms (max 1000 (min 60000 (s.get (F.CONSORT_HB_CFG_HB_TIMEOUT_MS 0))))) = true →
      Completes .hostAbsent s fun t =>
        t.flag F.TOP_STATE_HOST_ABSENT = true ∧ t.timer { kind := .heartbeat, a := 0 } = none ∧
        t.causeBit .CONSORT 0 0 K.CONSORT_HOST_ABSENT = true ∧ t.cons.absentAt = s.clk ∧
        t.rd64 (A.CONSORT_HOST_ABSENCES 0) = (s.rd64 (A.CONSORT_HOST_ABSENCES 0) + 1) % 2 ^ 64 ∧
        ((s.bank 0 = BK_STAGING ∨ s.bank 1 = BK_STAGING) → t.flag (F.CONSORT_BANK_STATE_PAUSED 0) = true)) ∧
    (∀ m (v : Word), s.grants m (A.CONSORT_HEV_RD 0) v = true →
      let left := (s.rd (A.CONSORT_HEV_WR 0) + 2 ^ 32 - v.toNat) % 2 ^ 32
      (4096 < left → Completes (.hevRdWrite m v) s fun t => Frame s t [] topWords) ∧
      (left ≤ 4096 → (s.cons.hevLost = 0 ∨ left = 4096) → Completes (.hevRdWrite m v) s fun t =>
        t.rd (A.CONSORT_HEV_RD 0) = v.toNat ∧ Frame s t [] fun a => a = A.CONSORT_HEV_RD 0 ∨ topWords a) ∧
      (left < 4096 → 0 < s.cons.hevLost → Completes (.hevRdWrite m v) s fun t =>
        t.rd (A.CONSORT_HEV_RD 0) = v.toNat ∧ hevNext t ∧ t.cons.hevLost = 0 ∧
        ∃ e ∈ t.cons.hev, e.1 = slot ∧ numAt e.2 8 2 = 0x0007 ∧ numAt e.2 16 8 = s.cons.hevLost % 2 ^ 64)) ∧
    (∀ p kind data, p < 8 → kind < 65536 → data.length ≤ 48 →
      (s.procRuns p = false → Completes (.hostEventPush p kind data) s fun t => Frame s t [] fun _ => False) ∧
      (s.procRuns p = true → s.hevUnread < 4096 → Completes (.hostEventPush p kind data) s fun t =>
        hevNext t ∧ t.cons.hevSeq = s.cons.hevSeq + 1 ∧
        (∃ e ∈ t.cons.hev, e.1 = slot ∧ e.2 = toBytes 8 s.time.ns ++ toBytes 2 kind ++ toBytes 1 p ++ [0] ++
          toBytes 4 s.cons.hevSeq ++ slice data 0 48) ∧
        Frame s t [.cons] fun a => a = A.CONSORT_HEV_WR 0) ∧
      (s.procRuns p = true → 4096 ≤ s.hevUnread → Completes (.hostEventPush p kind data) s fun t =>
        t.cons.hev = s.cons.hev ∧ t.cons.hevSeq = s.cons.hevSeq + 1 ∧ t.cons.hevLost = s.cons.hevLost + 1 ∧
        t.causeBit .CONSORT 0 0 K.CONSORT_HEV_OVERFLOW = true ∧
        t.rd64 (A.CONSORT_HEV_OVERFLOW 0) = (s.rd64 (A.CONSORT_HEV_OVERFLOW 0) + 1) % 2 ^ 64)) ∧
    (∀ p point level (args : List Word), p < 8 → point < 1024 → level ≤ 4 → args.length ≤ 4 →
      let on := (s.get (F.CONSORT_TRACE_EN_EN p (point / 32))).testBit (point % 32) &&
        decide (level ≤ s.get (F.CONSORT_TRACE_CFG_LEVEL p))
      ((s.procRuns p = false ∨ on = false) → Completes (.logEntryWrite p point level args) s fun t =>
        Frame s t [] fun _ => False) ∧
      (s.procRuns p = true → on = true → Completes (.logEntryWrite p point level args) s fun t =>
        let n := s.rd (A.CONSORT_LOG_WR p)
        t.rd (A.CONSORT_LOG_WR p) = (n + 1) % 2 ^ 32 ∧
        t.rd64 (A.CONSORT_LOG_ENTRIES p) = (s.rd64 (A.CONSORT_LOG_ENTRIES p) + 1) % 2 ^ 64 ∧
        (∃ e ∈ t.cons.logs, e.1 = p ∧ e.2.1 = n % 2048 ∧
          e.2.2.getD 2 0 = BitVec.ofNat 32 (point + 65536 * level + 2 ^ 24 * args.length) ∧
          ∀ i, i < 4 → e.2.2.getD (4 + i) 0 = args.getD i 0) ∧
        Frame s t [.cons] fun a => a = A.CONSORT_LOG_WR p ∨ pairWords (A.CONSORT_LOG_ENTRIES p) a))

/-- At an epoch boundary, once per boundary, TOTAL is BUDGET, FREE and the holdings make up TOTAL, a reallocation is left
only where priority recipients took what sections held, fixed and sleeping recipients hold their floors and priority
recipients between theirs and their CAP (R463, R464, R467 to R469). A request stores its demand, and the next slow
cycle takes from FREE what it lacks or what is left, no token made or lost; a priority recipient left short sets
BUDGET_SHORT (R466, R467); a fixed one requests nothing (R465). A write that changes the acting BUDGET starts a
reallocation (R468). A reading of the input starts or ends the comparators' times; the next slow cycle samples VIN,
IIN and PIN's 1 ms mean and counts ENERGY_MJ (R462, R470). An emergency whose level has lasted sets its bit, THROTTLE
and EMERGENCY, and counts; the last to end clears them and starts the hold-off (R470, R471). A trip whose condition
has lasted turns the rails off, is logged and keeps the cause of the last module reset (R472). Every 10 µs sensor
readings are stored, and a die, stack or coolant that passes its limit sets its cause (R475); firing on passing is the
model's choice (log 63). (R462; R463; R464; R465; R466; R467; R468; R469; R470; R471; R472; R475) -/
def Obligations.PowerTokensAreConservedAndEmergenciesActed : Prop :=
  ∀ s : State,
    let held := fun (t : State) => ((List.range 34).map t.tokens).sum
    (s.rd64 A.TOP_UPTIME % 1000 = 0 → s.pow.epochAt ≠ some (s.rd64 A.TOP_UPTIME) → s.get F.POWER_TOTAL_TOKENS ≠ 0 →
      Completes .epochBoundary s fun t =>
        held t + t.freeTokens = t.get F.POWER_TOTAL_TOKENS ∧ t.get F.POWER_TOTAL_TOKENS = s.budget ∧
        (let back := (((List.range 34).filter fun r => priorityRec r || sharedRec r).foldl State.returnSurplus s).moveTotal
         let prio := fun (x : State) => (((List.range 34).filter priorityRec).map x.tokens).sum
         t.flag F.POWER_STATE_REALLOC = decide (prio back + back.freeTokens < prio t)) ∧ t.pow.epochAt = some (s.rd64 A.TOP_UPTIME) ∧
        (∀ r, r < 34 → priorityRec r = true → s.recFloor r ≤ t.tokens r ∧ t.tokens r ≤ s.recCap r) ∧
        (∀ r, r < 34 → (priorityRec r || sharedRec r) = false → t.tokens r = s.recFloor r) ∧
        (∀ r, sharedRec r = true → s.awake r = false → t.tokens r = s.recFloor r)) ∧
    ((s.rd64 A.TOP_UPTIME % 1000 ≠ 0 ∨ s.pow.epochAt = some (s.rd64 A.TOP_UPTIME)) →
      Completes .epochBoundary s fun t => Frame s t [] fun _ => False) ∧
    (∀ r demand, r < 34 → s.get F.POWER_TOTAL_TOKENS ≠ 0 →
      ((priorityRec r || sharedRec r) = false → Completes (.tokenRequest r demand) s fun t => Frame s t [] fun _ => False) ∧
      ((priorityRec r || sharedRec r) = true → Completes (.tokenRequest r demand) s fun t =>
        t.get (F.POWER_REC_STATE_DEMAND r) = min demand 4095 ∧
        t.pow = { s.pow with requests := s.pow.requests.filter (fun x => x ≠ r) ++ [r] } ∧
        Frame s t [.pow] fun a => a = A.POWER_REC_STATE r)) ∧
    (∀ r, s.pending = [] → s.pow.hotSwap = true → s.pow.requests = [r] → r < 34 →
      (priorityRec r = true ∨ (sharedRec r = true ∧ s.awake r = true)) → s.tokens r + s.freeTokens < 4096 →
      let give := min (s.recWant r - s.tokens r) s.freeTokens
      ∃ u : State, step s = .next u.reacted.drivePins ∧ u.pow.requests = [] ∧
        u.tokens r = s.tokens r + give ∧ u.freeTokens = s.freeTokens - give ∧
        (∀ q, q < 34 → q ≠ r → u.tokens q = s.tokens q) ∧
        u.rd64 A.POWER_GRANTS = (s.rd64 A.POWER_GRANTS + give) % 2 ^ 64 ∧
        (priorityRec r = true → u.flag (F.POWER_REC_STATE_SHORT r) = decide (give < s.recWant r - s.tokens r)) ∧
        (priorityRec r = true → give < s.recWant r - s.tokens r → u.causeBit .POWER 0 0 K.POWER_BUDGET_SHORT = true)) ∧
    (∀ p, s.pending = [] → s.pow.hotSwap = true → s.pow.input = some p →
      ∃ u : State, step s = .next u.reacted.drivePins ∧ u.get F.POWER_VIN_V = p.vin % 65536 ∧
        u.get F.POWER_IIN_I = p.iin % 65536 ∧ u.get F.POWER_PIN_P = ({ s with clk := s.clk + 1 } : State).pinMean % 65536 ∧
        u.pow.energy = (s.pow.energy + p.drawn) % 10 ^ 12 ∧
        u.rd64 A.POWER_ENERGY_MJ = (s.rd64 A.POWER_ENERGY_MJ + (s.pow.energy + p.drawn) / 10 ^ 12) % 2 ^ 64) ∧
    (∀ m (v : Word), s.grants m A.POWER_BUDGET v = true → Completes (.budgetWrite m v) s fun t =>
      t.get F.POWER_BUDGET_WATTS = v.toNat % 4096 ∧ t.budget = max 600 (min 2600 (v.toNat % 4096)) ∧
      t.get F.POWER_TOTAL_TOKENS = s.get F.POWER_TOTAL_TOKENS ∧
      (t.budget ≠ s.budget → t.flag F.POWER_STATE_REALLOC = decide (s.get F.POWER_TOTAL_TOKENS ≠ t.budget) ∧
        t.rd64 A.POWER_REALLOCATIONS = (s.rd64 A.POWER_REALLOCATIONS + 1) % 2 ^ 64) ∧
      (t.budget = s.budget → Frame s t [] fun a => a = A.POWER_BUDGET ∨ topWords a)) ∧
    (∀ k, k < 3 → s.pow.hotSwap = true →
      (s.flag (emergFld k) = false → s.onsetDue k = true → Completes (.emergencyOnset k) s fun t =>
        t.flag (emergFld k) = true ∧ t.flag F.POWER_STATE_EMERGENCY = true ∧ t.flag F.POWER_STATE_THROTTLE = true ∧
        t.flag F.TOP_STATE_EMERGENCY = true ∧ t.causeBit .POWER 0 0 k = true ∧
        t.rd64 A.POWER_EMERGENCIES = (s.rd64 A.POWER_EMERGENCIES + 1) % 2 ^ 64 ∧
        t.timer { kind := .emergClear, a := 0 } = none ∧
        (k = 1 → t.timer { kind := .ocLasting, a := 0 } = some s.clk)) ∧
      (s.flag (emergFld k) = true ∨ s.onsetDue k = false →
        Completes (.emergencyOnset k) s fun t => Frame s t [] fun _ => False) ∧
      (s.flag (emergFld k) = false ∨ s.clearDue k = false →
        Completes (.emergencyClear k) s fun t => Frame s t [] fun _ => False) ∧
      (s.flag (emergFld k) = true → s.clearDue k = true →
        ((∀ j, j < 3 → j ≠ k → s.flag (emergFld j) = false) → Completes (.emergencyClear k) s fun t =>
          t.flag (emergFld k) = false ∧ t.flag F.POWER_STATE_EMERGENCY = false ∧ t.flag F.POWER_STATE_THROTTLE = false ∧
          t.flag F.TOP_STATE_EMERGENCY = false ∧ t.timer { kind := .emergClear, a := 0 } = some s.clk) ∧
        (∀ j, j < 3 → j ≠ k → s.flag (emergFld j) = true → Completes (.emergencyClear k) s fun t =>
          t.flag (emergFld k) = false ∧ t.flag (emergFld j) = true ∧
          t.flag F.POWER_STATE_THROTTLE = s.flag F.POWER_STATE_THROTTLE))) ∧
    (∀ oc, s.pow.mainRails = true →
      (s.tripDue oc = false → Completes (.trip oc) s fun t => Frame s t [] fun _ => False) ∧
      (s.tripDue oc = true → Completes (.trip oc) s fun t =>
        t.pow.tripped = true ∧ t.pow.mainRails = false ∧ t.pow.hotSwap = s.pow.hotSwap ∧ t.pow.released = false ∧
        t.rd A.POWER_TRIP_LOG = (if oc then 2 else 1) ∧
        t.rd A.RESET_LAST_MODULE_RESET = s.rd A.RESET_LAST_MODULE_RESET ∧ t.flt.ring = s.flt.ring)) ∧
    (∀ junction dies hbms coolant vin iin dp de, junction.length = 21 → dies.length = 8 → hbms.length = 8 → dp ≤ 20 → de ≤ 20 →
      s.pow.hotSwap = true →
      let c := Instr.sensorRead junction dies hbms coolant vin iin dp de
      let runs := fun (t : State) (k : TKind) (holds : Bool) => t.timer { kind := k, a := 0 } =
        if holds then some ((s.timer { kind := k, a := 0 }).getD s.clk) else none
      (Completes c s fun t =>
        t.pow.input = some ⟨vin, iin, inputPower vin iin dp, inputPower vin iin de⟩ ∧
        t.pow.drawn = (s.clk, inputPower vin iin dp) :: s.pow.drawn ∧
        runs t .uvLow (decide (vin < 3800)) ∧ runs t .uvOk (decide (3850 ≤ vin)) ∧
        runs t .ocHigh (decide (100 * s.ocAmps < iin)) ∧ runs t .ocOk (decide (iin ≤ 90 * s.ocAmps))) ∧
      ((s.timer { kind := .sensor, a := 0 }).isNone = false → s.due { kind := .sensor, a := 0 } (us 10) = false →
        Completes c s fun t => t.pow.temps = s.pow.temps ∧ Frame s t [.pow, .timers] fun _ => False) ∧
      ((s.timer { kind := .sensor, a := 0 }).isNone = true ∨ s.due { kind := .sensor, a := 0 } (us 10) = true →
        Completes c s fun t =>
        t.timer { kind := .sensor, a := 0 } = some s.clk ∧
        (∀ i, i < 21 → (i, junction.getD i 0) ∈ t.pow.temps) ∧
        (∃ i, i < 21 ∧ t.get F.POWER_TEMP_MAX_SENSOR = i ∧ t.get F.POWER_TEMP_MAX_TEMP = junction.getD i 0 % 4096 ∧
          ∀ j, j < 21 → signed (junction.getD j 0 % 4096) 12 ≤ signed (junction.getD i 0 % 4096) 12) ∧
        (∀ d, d < 8 → slotType s.asm d ≠ 0 → t.get (F.DIE_DIE_TEMP_TEMP d) = dies.getD d 0 % 4096 ∧
          (hotter (dies.getD d 0) 105 = true → hotter (s.get (F.DIE_DIE_TEMP_TEMP d)) 105 = false →
            t.causeBit .DIE d 0 K.DIE_OVERTEMP = true)) ∧
        (∀ n, n < stackCount s.asm → t.get (F.HBM_INFO_TEMP n) = hbms.getD n 0 % 4096 ∧
          (hotter (hbms.getD n 0) 95 = true → hotter (s.get (F.HBM_INFO_TEMP n)) 95 = false →
            t.causeBit .POWER 0 0 K.POWER_STACK_HOT = true)) ∧
        t.get F.POWER_COOLANT_TEMP = coolant % 4096 ∧
        (hotter coolant 40 = true → hotter (s.get F.POWER_COOLANT_TEMP) 40 = false →
          t.causeBit .POWER 0 0 K.POWER_COOLANT_WARM = true)))

/-- The receiver shows RX_ALIGNED of the partner's TS; with every lane aligned it deskews, SKEW_ERR for a lane beyond the
limit, and sets ALL_ALIGNED; with eight consecutive TS with ALL_ALIGNED on every lane after that the link comes UP,
numbering from 0 (R481). Leaving UP drops its frames, counts LINK_DOWNS and sets LINK_DOWN, with ELASTIC_ERR for the
buffer (R482, R483, R486); more than 16 code errors of a lane in 1 µs end UP (R482). A lane then keeps ALIGNED only if
its held SLIP still shows commas and no code error (R480, R482). SKIP is sent in its time, within a frame too but in
no ordered set (R483). An idle transmitter sends PAD in UP and TS otherwise (R478, R479). An ACK releases the frames
up to its SEQ; a NAK has the rest sent again, counted in REPLAYS (R485). A frame received is acknowledged within its
time (R485). NOTIFY is made up as it can leave, when what it carries has changed, even back again, or the link has
come up, no sooner than NOTIFY_US (R490). A frame is striped over the lanes with SFD, EFD and PAD (R478). An eye point
starts unless one runs, ends with its mismatches counted, or is aborted (R491). Symbol times are rounded to slow
cycles and code errors counted as of the cycle that reports them, the model's choices (logs 2, 132). (R478; R479;
R480; R481; R482; R483; R485; R486; R490; R491) -/
def Obligations.SidingLinkComesUpAcknowledgesAndNotifies : Prop :=
  ∀ s : State,
    let nothing := fun (c : Instr) => Completes c s fun t => Frame s t [] fun _ => False
    (∀ skewed l, skewed < 256 → (∀ d ∈ l, d.length = 8) →
      (s.pow.hotSwap = false ∨ s.sidUp = true → nothing (.sidingLinkUp (skewed, l))) ∧
      (s.pow.hotSwap = true → s.sidUp = false → Completes (.sidingLinkUp (skewed, l)) s fun t =>
        let all := s.flag F.SIDING_STATE_ALL_ALIGNED
        let got := if all then countTs s.sid.partnerTs l else s.sid.partnerTs
        (∀ n d, n < 8 → s.laneAligned n = true → l.getLast? = some d →
          t.flag (F.SIDING_LANE_STATE_PARTNER_ALIGNED n) = bit (d.getD n 0) 0) ∧
        (s.lanesAligned = false → t.sidUp = false ∧ t.sid = { s.sid with partnerTs := got }) ∧
        (s.lanesAligned = true → all = false →
          (∀ n, n < 8 → t.flag (F.SIDING_LANE_STATE_SKEW_ERR n) = bit skewed n ∧
            t.flag (F.SIDING_LANE_STATE_DESKEWED n) = !bit skewed n) ∧
          t.sidUp = false ∧ t.flag F.SIDING_STATE_ALL_ALIGNED = decide (skewed = 0)) ∧
        (s.lanesAligned = true → all = true → t.sidUp = decide (8 ≤ got) ∧
          (8 ≤ got → t.sid.txSeq = 0 ∧ t.sid.rxSeq = 0 ∧ t.sid.unacked = [] ∧ t.sid.rxFree = 32 ∧
            t.sid.notifyDue = true)))) ∧
    (∀ k l, k ≤ 8 → (∀ d ∈ l, ∀ n, n < 8 → bit (d.getD n 0) 1 = true) → countTs k l = min 8 (k + l.length)) ∧
    (∀ k l d n, countTs k l < 8 → n < 8 → bit (d.getD n 0) 1 = false → countTs k (l ++ [d]) = 0) ∧
    (∀ reason lanes, reason < 4 → lanes < 256 →
      (s.sidUp = false ∨ (reason < 2 ∧ lanes = 0) → nothing (.sidingLinkDown reason lanes)) ∧
      (s.sidUp = true → (lanes ≠ 0 ∨ 2 ≤ reason) → Completes (.sidingLinkDown reason lanes) s fun t =>
        t.sidUp = false ∧ t.flag F.SIDING_STATE_ALL_ALIGNED = false ∧ t.sid.unacked = [] ∧ t.sid.backlog = [] ∧
        t.sid.tx = [] ∧ t.causeBit .SIDING 0 0 K.SIDING_LINK_DOWN = true ∧ t.out = s.out ∧
        (reason = 3 → t.causeBit .SIDING 0 0 K.SIDING_ELASTIC_ERR = true) ∧
        t.rd64 A.SIDING_LINK_DOWNS = (s.rd64 A.SIDING_LINK_DOWNS + 1) % 2 ^ 64 ∧
        (∀ n, n < 8 → t.timer (realignKey n) = some s.clk ∧
          (reason = 0 → bit lanes n = true → t.flag (F.SIDING_LANE_STATE_SIGNAL n) = false) ∧
          (reason = 1 → bit lanes n = true → t.rd (A.SIDING_CODE_ERRS n) =
            (s.rd (A.SIDING_CODE_ERRS n) + (17 - s.lateErrs n)) % 2 ^ 32)))) ∧
    (∀ n hits skewed errs, n < 8 → skewed < 256 →
      (s.pow.hotSwap = false → nothing (.sidingLaneRealign n (hits, skewed) errs)) ∧
      (s.pow.hotSwap = true → Completes (.sidingLaneRealign n (hits, skewed) errs) s fun t =>
        t.rd (A.SIDING_COMMA_HITS n) = (s.rd (A.SIDING_COMMA_HITS n) + hits) % 2 ^ 32 ∧
        t.rd (A.SIDING_CODE_ERRS n) = (s.rd (A.SIDING_CODE_ERRS n) + errs) % 2 ^ 32 ∧
        (s.sidUp = true → s.lateErrs n + errs ≤ 16 → t.lateErrs n = s.lateErrs n + errs ∧
          Frame s t [.sid] fun a => a = A.SIDING_COMMA_HITS n ∨ a = A.SIDING_CODE_ERRS n) ∧
        (s.sidUp = true → 16 < s.lateErrs n + errs → t.sidUp = false ∧ t.sid.unacked = [] ∧
          t.causeBit .SIDING 0 0 K.SIDING_LINK_DOWN = true ∧ t.timer (realignKey n) = some s.clk) ∧
        (s.sidUp = false → s.due (realignKey n) (us 2) = false →
          Frame s t [] fun a => a = A.SIDING_COMMA_HITS n ∨ a = A.SIDING_CODE_ERRS n) ∧
        (s.sidUp = false → s.due (realignKey n) (us 2) = true → t.timer (realignKey n) = none ∧
          (0 < hits → errs = 0 → t.flag (F.SIDING_LANE_CTL_ALIGNED n) = s.flag (F.SIDING_LANE_CTL_ALIGNED n) ∧
            t.flag (F.SIDING_LANE_STATE_SIGNAL n) = true ∧
            (s.flag (F.SIDING_LANE_CTL_ALIGNED n) = true → (∀ m, m < 8 → m ≠ n → s.laneAligned m = true) →
              (∀ m, m < 8 → t.flag (F.SIDING_LANE_STATE_SKEW_ERR m) = bit skewed m) ∧
              (skewed = 0 → t.flag F.SIDING_STATE_ALL_ALIGNED = true))) ∧
          ((hits = 0 ∨ errs ≠ 0) → t.flag (F.SIDING_LANE_CTL_ALIGNED n) = false)))) ∧
    (s.pow.hotSwap = true → s.elapsed { kind := .sidingSkip, a := 0 } 82 = true → Completes .sidingSkipTx s fun t =>
      t.out = s.out ++ [.skip] ∧ t.timer { kind := .sidingSkip, a := 0 } = some s.clk ∧
      (let skip := orderedSet [.com, .skp, .skp, .skp]
       (s.sid.tx = [] → t.sid = { s.sid with tx := [skip] }) ∧
       (∀ x l, s.sid.tx = x :: l →
         t.sid = { s.sid with tx := if x.ordered then x :: skip :: l else skip :: x :: l })) ∧
      Frame s t [.out, .timers, .sid] fun _ => False) ∧
    (s.pow.hotSwap = false ∨ s.elapsed { kind := .sidingSkip, a := 0 } 82 = false → nothing .sidingSkipTx) ∧
    (let n := if s.sid.longCycle then 13 else 12
     (∀ fill q, (sendTimes fill n q).1.length = n) ∧
     (s.sid.tx = [] → s.sidUp = true → s.sidCycle.out = s.out ++
       [.siding ((List.range 8).map fun m => (codeLane (s.sid.disparity.getD m false) (List.replicate n .pad)).1)]) ∧
     (s.sid.tx = [] → s.sidUp = false → s.sidCycle.out = s.out ++
       [.siding ((List.range 8).map fun m =>
         (codeLane (s.sid.disparity.getD m false) ((tsSyms (s.tsD1 m) m).take n)).1)])) ∧
    (∀ seq nak rxFree, seq < 4096 → rxFree < 256 →
      (s.sidUp = false → nothing (.ack seq nak rxFree)) ∧
      (∀ k, s.sidUp = true → s.sid.backlog = [] →
        k = (seq + 4097 - (match s.sid.unacked with | (q, _) :: _ => q | [] => s.sid.txSeq)) % 4096 →
        let rest := if k ≤ s.sid.unacked.length then s.sid.unacked.drop k else s.sid.unacked
        Completes (.ack seq nak rxFree) s fun t =>
          t.sid.unacked = rest ∧ t.sid.rxFree = rxFree ∧ t.sid.txSeq = s.sid.txSeq ∧
          (nak = false → t.out = s.out ∧ t.sid.sentSince = 0 ∧ Frame s t [.sid] fun _ => False) ∧
          (nak = true → t.out = s.out ++ rest.map (fun f => .frame f.2) ∧
            t.sid.tx = s.sid.tx ++ rest.map (fun f => frameTx f.2) ∧
            t.causeBit .SIDING 0 0 K.SIDING_NAK_RX = true ∧
            t.rd64 A.SIDING_REPLAYS = (s.rd64 A.SIDING_REPLAYS + rest.length) % 2 ^ 64))) ∧
    (s.sidUp = true → s.sid.ackDue = true → s.elapsed { kind := .sidingAck, a := 0 } 20 = true →
      Completes .sidingAckTimer s fun t =>
        t.out = s.out ++ [.ack ((s.sid.rxSeq + 4095) % 4096) false 32] ∧ 
        t.sid = { s.sid with ackDue := false,
                             tx := s.sid.tx ++ [orderedSet (ackSyms ((s.sid.rxSeq + 4095) % 4096) false 32)] } ∧
        Frame s t [.out, .sid, .timers] fun _ => False) ∧
    ((s.sidUp = false ∨ s.sid.ackDue = false) → nothing .sidingAckTimer) ∧
    (∀ w, w = s.notifyWords s.pins →
      (s.sidUp = true → s.flag F.SIDING_CFG_NOTIFY_EN = true → (s.sid.notifyDue = true ∨ s.pins.moved = true ∨ w ≠ s.sid.notified) →
        s.elapsed { kind := .notify, a := 0 } (us (max 1 (s.get F.SIDING_CFG_NOTIFY_US))) = true →
        s.sid.backlog = [] → s.sid.unacked.length < 64 → s.sid.sentSince < s.sid.rxFree →
        Completes .notify s fun t =>
          (let g := sealFrame s.sid.txSeq (frameOf 0x20 0 16 0 0 (w.flatMap (toBytes 4)))
           t.out = s.out ++ [.frame g] ∧ t.sid.tx = s.sid.tx ++ [frameTx g]) ∧
          t.sid.notified = w ∧ t.sid.notifyDue = false ∧ t.sid.txSeq = (s.sid.txSeq + 1) % 4096 ∧
          t.timer { kind := .notify, a := 0 } = some s.clk ∧
          t.rd64 A.SIDING_NOTIFIES = (s.rd64 A.SIDING_NOTIFIES + 1) % 2 ^ 64) ∧
      (s.maySend = false → nothing .notify) ∧
      (s.sid.notifyDue = false → s.pins.moved = false → w = s.sid.notified → nothing .notify)) ∧
    (∀ f : List Byte, (frameTx f).rows =
        ((List.range ((f.length + 9) / 8)).map fun i => (List.range 8).map (frameSyms f i)) ∧ frameSyms f 0 0 = .sfd ∧
      (∀ k b, f[k]? = some b → frameSyms f ((k + 1) / 8) ((k + 1) % 8) = .data b) ∧
      frameSyms f ((f.length + 1) / 8) ((f.length + 1) % 8) = .efd ∧
      ∀ k, f.length + 1 < k → frameSyms f (k / 8) (k % 8) = .pad) ∧
    (∀ n, n < 8 → s.sid.eyeCtl.length = 8 →
      (∀ m, s.grants m (A.SIDING_EYE_CMD n) 1 = true →
        (s.flag (F.SIDING_EYE_STATUS_BUSY n) = false → Completes (.sidingEyeStart m n) s fun t =>
          t.flag (F.SIDING_EYE_STATUS_BUSY n) = true ∧ t.flag (F.SIDING_EYE_STATUS_DONE n) = false ∧
          t.flag (F.SIDING_EYE_STATUS_ABORTED n) = false ∧ t.timer (sidEyeKey n) = some s.clk ∧
          t.sid.eyeCtl.getD n 0 = s.word (A.SIDING_EYE_CTL n)) ∧
        (s.flag (F.SIDING_EYE_STATUS_BUSY n) = true → Completes (.sidingEyeStart m n) s fun t => Frame s t [] topWords)) ∧
      (∀ m, s.grants m (A.SIDING_EYE_CMD n) 2 = true →
        (s.flag (F.SIDING_EYE_STATUS_BUSY n) = true → Completes (.sidingEyeAbort m n) s fun t =>
          t.flag (F.SIDING_EYE_STATUS_BUSY n) = false ∧ t.flag (F.SIDING_EYE_STATUS_ABORTED n) = true ∧
          t.timer (sidEyeKey n) = none ∧ t.rd (A.SIDING_EYE_ERRS n) = s.rd (A.SIDING_EYE_ERRS n)) ∧
        (s.flag (F.SIDING_EYE_STATUS_BUSY n) = false → Completes (.sidingEyeAbort m n) s fun t => Frame s t [] topWords)) ∧
      (∀ mism, s.flag (F.SIDING_EYE_STATUS_BUSY n) = true →
        s.due (sidEyeKey n) (sidEyeTime (bits (s.sid.eyeCtl.getD n 0).toNat 16 4)) = true →
        Completes (.sidingEyeDone n mism) s fun t =>
          t.rd (A.SIDING_EYE_ERRS n) = (s.rd (A.SIDING_EYE_ERRS n) + mism) % 2 ^ 32 ∧
          t.flag (F.SIDING_EYE_STATUS_BUSY n) = false ∧ t.flag (F.SIDING_EYE_STATUS_DONE n) = true ∧
          t.get (F.SIDING_EYE_STATUS_POINT_SEQ n) = (s.get (F.SIDING_EYE_STATUS_POINT_SEQ n) + 1) % 65536))

/-- An accepted REG_RD answers REG_CPL with the words read in order and the code of the first that failed; a page of an
empty slot reads 0 (R5, R485, R487). A REG_WR performs its writes and answers WR_CPL where asked (R487). A FLASH_WR
that is refused, or whose flash write fails, leaves flash as it was; another stages its bytes at its offset, in the
manifest slot not in use for region 2, and FLASH_CPL tells what is staged (R459, R489, R495). A frame not accepted
counts BAD_FRAMES; one ahead of its turn or with a bad CRC is answered NAK (R485); one received before is acknowledged
again (R485, DEDUCED, log 71). A word whose target is late reads as all ones with KIND 1 (R45). MAN_CMD stages the
slot not in use, starts its verification or gives it up; the verification ends VERIFIED or INVALID with the reason
found at END, which waits for the boot's choice of a slot (R496; DEDUCED, log 64). GO latches the report once while
none is being made, and fails without an identity key; the finished report is shown and counted (R501, R502).
Malformed frames of the right order are the model's choice (log 71). (R5; R45; R459; R485; R487; R489; R495; R496;
R501; R502) -/
def Obligations.SidingFramesReachRegistersAndFlash : Prop :=
  ∀ (s : State) (f : List Byte),
    let a := frameAddr f
    let u := s.acceptFrame
    let room := s.sid.backlog = [] ∧ s.sid.unacked.length < 64 ∧ s.sid.sentSince < s.sid.rxFree
    let sent := fun (t : State) (type code count addr : Nat) (l : List Byte) =>
      t.out = s.out ++ [.frame (sealFrame s.sid.txSeq (frameOf type code count (frameTag f) addr l))] ∧
      t.sid.rxSeq = (s.sid.rxSeq + 1) % 4096 ∧ t.sid.ackDue = true
    (s.frameGood f = true → room →
      (frameType f = 0x01 →
        (∀ late r e, r = u.regReads late (frameCount f) 0 a → e = r.2.1.getD (0, a) →
          Completes (.regRd (f, late)) s fun t => sent t 0x03 e.1 (frameCount f) e.2 (r.1.flatMap (toBytes 4))) ∧
        (frameCount f = 1 → s.absentAt a = true → a % 4 = 0 → a < 2 ^ 26 → s.sidingServed a 0 false = true →
          s.regionsGrant .siding a false = true →
          Completes (.regRd (f, [])) s fun t => sent t 0x03 0 1 a [0, 0, 0, 0]) ∧
        (∀ l, frameCount f = 1 → u.busCheck .siding a 32 0 false = .target l →
          Completes (.regRd (f, [0])) s fun t => sent t 0x03 E_TIMEOUT 1 a [0xFF, 0xFF, 0xFF, 0xFF] ∧
            t.rd64 A.TOP_BUS_ERR = (s.rd64 A.TOP_BUS_ERR + 1) % 2 ^ 64)) ∧
      (frameType f = 0x02 →
        ∀ late, let r := u.regWrites late ((List.range (frameCount f)).map fun i => numAt (framePayload f) (4 * i) 4) 0 a
        let e := r.1.getD (0, a)
        (frameAckReq f = false → Completes (.regWr (f, late)) s fun t => t = r.2.drivePins) ∧
        (frameAckReq f = true → Completes (.regWr (f, late)) s fun t =>
          t = (r.2.sendFrame (frameOf 0x04 e.1 0 (frameTag f) e.2 [])).drivePins)) ∧
      (∀ flashErr, frameType f = 0x10 →
        let region := bits a 28 4
        let off := bits a 0 28
        let code := u.flashRefusal region off (frameCount f)
        (code ≠ 0 → Completes (.flashWr f flashErr) s fun t =>
          t.cons.flash = s.cons.flash ∧ sent t 0x11 code 0 (s.stagedBytes region) []) ∧
        (code = 0 → flashErr = true → Completes (.flashWr f flashErr) s fun t =>
          t.cons.flash = s.cons.flash ∧ sent t 0x11 0x24 0 (s.stagedBytes region) []) ∧
        (code = 0 → flashErr = false → Completes (.flashWr f flashErr) s fun t =>
          t.cons.flash = (s.flashWrite (if region = 2 then s.manOther else region) off (framePayload f)).cons.flash ∧
          sent t 0x11 0 0 (t.stagedBytes region) []))) ∧
    (s.sidUp = true → s.frameGood f = false →
      Completes (.badFrame f) s fun t =>
        t.rd64 A.SIDING_BAD_FRAMES = (s.rd64 A.SIDING_BAD_FRAMES + 1) % 2 ^ 64 ∧
        let ahead := (numAt f 2 2 + 4096 - s.sid.rxSeq) % 4096 < 2048
        ((frameCrcOk f = false ∨ s.frameNext f = false ∧ ahead) →
          t.out = s.out ++ [.ack ((s.sid.rxSeq + 4095) % 4096) true 32] ∧
          t.sid = { s.sid with ackDue := false,
                               tx := s.sid.tx ++ [orderedSet (ackSyms ((s.sid.rxSeq + 4095) % 4096) true 32)] }) ∧
        (frameCrcOk f = true → s.frameNext f = false → ¬ ahead →
          t.out = s.out ∧ t.sid.rxSeq = s.sid.rxSeq ∧ t.sid.ackDue = true) ∧
        (frameCrcOk f = true → s.frameNext f = true →
          t.out = s.out ∧ t.sid.rxSeq = (s.sid.rxSeq + 1) % 4096 ∧ t.sid.ackDue = true) ∧
        Frame s t [.sid, .out] (pairWords A.SIDING_BAD_FRAMES)) ∧
    ((s.sidUp = false ∨ s.frameGood f = true) → Completes (.badFrame f) s fun t => Frame s t [] fun _ => False) ∧
    (∀ m,
      (s.grants m A.SIDING_MAN_CMD 1 = true →
        (s.manState ≠ MS_STAGING → s.manState ≠ MS_VERIFYING → Completes (.manBegin m) s fun t =>
          t.manState = MS_STAGING ∧ t.stagedBytes 2 = 0 ∧
          (let slot := 3 - s.get F.SIDING_BOOT_STATUS_MAN_SLOT
           t.sid = { s.sid with manStage := if s.manChosen then some slot else none, manReason := none }) ∧
          Frame s t [.sid] fun a => a = A.SIDING_MAN_STATE ∨ topWords a) ∧
        ((s.manState = MS_STAGING ∨ s.manState = MS_VERIFYING) → Completes (.manBegin m) s fun t => Frame s t [] topWords)) ∧
      (s.grants m A.SIDING_MAN_CMD 2 = true →
        (s.manState = MS_STAGING → Completes (.manEnd m) s fun t => t.manState = MS_VERIFYING ∧
          t.sid = { s.sid with manReason := if s.manChosen then some s.stagedReason else none } ∧
          Frame s t [.sid] fun a => a = A.SIDING_MAN_STATE ∨ topWords a) ∧
        (s.manState ≠ MS_STAGING → Completes (.manEnd m) s fun t => Frame s t [] topWords)) ∧
      (s.grants m A.SIDING_MAN_CMD 3 = true → Completes (.manAbort m) s fun t =>
        t.manState = (if s.manState = MS_STAGING then MS_EMPTY else s.manState) ∧
        Frame s t [] fun a => a = A.SIDING_MAN_STATE ∨ topWords a) ∧
      (s.grants m A.SIDING_ATTEST_CMD 1 = true → s.flag F.SIDING_ATTEST_STATUS_BUSY = false →
        (s.get F.SIDING_ID_INFO_ID_STATUS = 1 → Completes (.go m) s fun t =>
          t.flag F.SIDING_ATTEST_STATUS_DONE = true ∧ t.get F.SIDING_ATTEST_STATUS_RESULT = 1 ∧
          t.flag F.SIDING_ATTEST_STATUS_BUSY = false ∧ t.sid = s.sid) ∧
        (s.get F.SIDING_ID_INFO_ID_STATUS ≠ 1 → Completes (.go m) s fun t =>
          t.flag F.SIDING_ATTEST_STATUS_BUSY = true ∧ t.sid.reports = s.sid.reports + 1 ∧
          t.sid.latched = State.reportImage { s with sid := { s.sid with reports := s.sid.reports + 1 } })) ∧
      (s.grants m A.SIDING_ATTEST_CMD 1 = true → s.flag F.SIDING_ATTEST_STATUS_BUSY = true →
        Completes (.go m) s fun t => Frame s t [] topWords)) ∧
    (s.manState = MS_VERIFYING → (s.sid.manReason ≠ none ∨ s.manChosen = true) →
      let found := match s.sid.manReason with | some r => r | none => s.stagedReason
      (found = 0 → Completes .manifestVerifyDone s fun t => t.manState = MS_VERIFIED ∧
        Frame s t [] fun a => a = A.SIDING_MAN_STATE) ∧
      (found ≠ 0 → found < 8 → Completes .manifestVerifyDone s fun t => t.manState = MS_INVALID ∧
        t.get F.SIDING_MAN_STATE_REASON = found ∧ t.causeBit .SIDING 0 0 K.SIDING_MAN_INVALID = true)) ∧
    (s.manState ≠ MS_VERIFYING ∨ (s.sid.manReason = none ∧ s.manChosen = false) →
      Completes .manifestVerifyDone s fun t => Frame s t [] fun _ => False) ∧
    (s.flag F.SIDING_ATTEST_STATUS_BUSY = true → Completes .reportDone s fun t =>
      let l := slice (s.sid.latched ++ slice (Config.sign s.sid.latched) 0 132) 0 1024
      t.flag F.SIDING_ATTEST_STATUS_BUSY = false ∧ t.flag F.SIDING_ATTEST_STATUS_DONE = true ∧
      t.get F.SIDING_ATTEST_STATUS_RESULT = 0 ∧
      (∀ i, i < 256 → t.rd (A.SIDING_REPORT i) = numAt l (4 * i) 4) ∧
      t.get F.SIDING_ATTEST_STATUS_REPORT_SEQ = (s.get F.SIDING_ATTEST_STATUS_REPORT_SEQ + 1) % 65536 ∧
      t.rd64 A.SIDING_REPORTS = (s.rd64 A.SIDING_REPORTS + 1) % 2 ^ 64)
end

