-- ==== Sys2Proof/Laws/State.lean ====
section
/-! SUPPORT. What each named update of State leaves alone, one lemma per field. -/

namespace Sys2Proof.Machine.State

/-! ### setLane -/

@[simp] theorem setLane_pending (s : State) (l : Nat) (v : LaneHid) : (s.setLane l v).pending = s.pending := rfl
@[simp] theorem setLane_clk (s : State) (l : Nat) (v : LaneHid) : (s.setLane l v).clk = s.clk := rfl
@[simp] theorem setLane_asm (s : State) (l : Nat) (v : LaneHid) : (s.setLane l v).asm = s.asm := rfl
@[simp] theorem setLane_regs (s : State) (l : Nat) (v : LaneHid) : (s.setLane l v).regs = s.regs := rfl
@[simp] theorem setLane_rwv2 (s : State) (l : Nat) (v : LaneHid) : (s.setLane l v).rwv2 = s.rwv2 := rfl
@[simp] theorem setLane_rwv3 (s : State) (l : Nat) (v : LaneHid) : (s.setLane l v).rwv3 = s.rwv3 := rfl
@[simp] theorem setLane_staging (s : State) (l : Nat) (v : LaneHid) : (s.setLane l v).staging = s.staging := rfl
@[simp] theorem setLane_refused (s : State) (l : Nat) (v : LaneHid) : (s.setLane l v).refused = s.refused := rfl
@[simp] theorem setLane_timers (s : State) (l : Nat) (v : LaneHid) : (s.setLane l v).timers = s.timers := rfl
@[simp] theorem setLane_free (s : State) (l : Nat) (v : LaneHid) : (s.setLane l v).free = s.free := rfl
@[simp] theorem setLane_ports (s : State) (l : Nat) (v : LaneHid) : (s.setLane l v).ports = s.ports := rfl
@[simp] theorem setLane_sw (s : State) (l : Nat) (v : LaneHid) : (s.setLane l v).sw = s.sw := rfl
@[simp] theorem setLane_pools (s : State) (l : Nat) (v : LaneHid) : (s.setLane l v).pools = s.pools := rfl
@[simp] theorem setLane_time (s : State) (l : Nat) (v : LaneHid) : (s.setLane l v).time = s.time := rfl
@[simp] theorem setLane_coll (s : State) (l : Nat) (v : LaneHid) : (s.setLane l v).coll = s.coll := rfl
@[simp] theorem setLane_coaches (s : State) (l : Nat) (v : LaneHid) : (s.setLane l v).coaches = s.coaches := rfl
@[simp] theorem setLane_upd (s : State) (l : Nat) (v : LaneHid) : (s.setLane l v).upd = s.upd := rfl
@[simp] theorem setLane_stn (s : State) (l : Nat) (v : LaneHid) : (s.setLane l v).stn = s.stn := rfl
@[simp] theorem setLane_mem (s : State) (l : Nat) (v : LaneHid) : (s.setLane l v).mem = s.mem := rfl
@[simp] theorem setLane_flt (s : State) (l : Nat) (v : LaneHid) : (s.setLane l v).flt = s.flt := rfl
@[simp] theorem setLane_cons (s : State) (l : Nat) (v : LaneHid) : (s.setLane l v).cons = s.cons := rfl
@[simp] theorem setLane_pow (s : State) (l : Nat) (v : LaneHid) : (s.setLane l v).pow = s.pow := rfl
@[simp] theorem setLane_sid (s : State) (l : Nat) (v : LaneHid) : (s.setLane l v).sid = s.sid := rfl
@[simp] theorem setLane_pins (s : State) (l : Nat) (v : LaneHid) : (s.setLane l v).pins = s.pins := rfl
@[simp] theorem setLane_out (s : State) (l : Nat) (v : LaneHid) : (s.setLane l v).out = s.out := rfl

/-! ### setPort -/

@[simp] theorem setPort_pending (s : State) (p : Nat) (v : PortHid) : (s.setPort p v).pending = s.pending := rfl
@[simp] theorem setPort_clk (s : State) (p : Nat) (v : PortHid) : (s.setPort p v).clk = s.clk := rfl
@[simp] theorem setPort_asm (s : State) (p : Nat) (v : PortHid) : (s.setPort p v).asm = s.asm := rfl
@[simp] theorem setPort_regs (s : State) (p : Nat) (v : PortHid) : (s.setPort p v).regs = s.regs := rfl
@[simp] theorem setPort_rwv2 (s : State) (p : Nat) (v : PortHid) : (s.setPort p v).rwv2 = s.rwv2 := rfl
@[simp] theorem setPort_rwv3 (s : State) (p : Nat) (v : PortHid) : (s.setPort p v).rwv3 = s.rwv3 := rfl
@[simp] theorem setPort_staging (s : State) (p : Nat) (v : PortHid) : (s.setPort p v).staging = s.staging := rfl
@[simp] theorem setPort_refused (s : State) (p : Nat) (v : PortHid) : (s.setPort p v).refused = s.refused := rfl
@[simp] theorem setPort_timers (s : State) (p : Nat) (v : PortHid) : (s.setPort p v).timers = s.timers := rfl
@[simp] theorem setPort_free (s : State) (p : Nat) (v : PortHid) : (s.setPort p v).free = s.free := rfl
@[simp] theorem setPort_lanes (s : State) (p : Nat) (v : PortHid) : (s.setPort p v).lanes = s.lanes := rfl
@[simp] theorem setPort_sw (s : State) (p : Nat) (v : PortHid) : (s.setPort p v).sw = s.sw := rfl
@[simp] theorem setPort_pools (s : State) (p : Nat) (v : PortHid) : (s.setPort p v).pools = s.pools := rfl
@[simp] theorem setPort_time (s : State) (p : Nat) (v : PortHid) : (s.setPort p v).time = s.time := rfl
@[simp] theorem setPort_coll (s : State) (p : Nat) (v : PortHid) : (s.setPort p v).coll = s.coll := rfl
@[simp] theorem setPort_coaches (s : State) (p : Nat) (v : PortHid) : (s.setPort p v).coaches = s.coaches := rfl
@[simp] theorem setPort_upd (s : State) (p : Nat) (v : PortHid) : (s.setPort p v).upd = s.upd := rfl
@[simp] theorem setPort_stn (s : State) (p : Nat) (v : PortHid) : (s.setPort p v).stn = s.stn := rfl
@[simp] theorem setPort_mem (s : State) (p : Nat) (v : PortHid) : (s.setPort p v).mem = s.mem := rfl
@[simp] theorem setPort_flt (s : State) (p : Nat) (v : PortHid) : (s.setPort p v).flt = s.flt := rfl
@[simp] theorem setPort_cons (s : State) (p : Nat) (v : PortHid) : (s.setPort p v).cons = s.cons := rfl
@[simp] theorem setPort_pow (s : State) (p : Nat) (v : PortHid) : (s.setPort p v).pow = s.pow := rfl
@[simp] theorem setPort_sid (s : State) (p : Nat) (v : PortHid) : (s.setPort p v).sid = s.sid := rfl
@[simp] theorem setPort_pins (s : State) (p : Nat) (v : PortHid) : (s.setPort p v).pins = s.pins := rfl
@[simp] theorem setPort_out (s : State) (p : Nat) (v : PortHid) : (s.setPort p v).out = s.out := rfl

/-! ### setPool -/

@[simp] theorem setPool_pending (s : State) (k : Nat) (v : PoolHid) : (s.setPool k v).pending = s.pending := rfl
@[simp] theorem setPool_clk (s : State) (k : Nat) (v : PoolHid) : (s.setPool k v).clk = s.clk := rfl
@[simp] theorem setPool_asm (s : State) (k : Nat) (v : PoolHid) : (s.setPool k v).asm = s.asm := rfl
@[simp] theorem setPool_regs (s : State) (k : Nat) (v : PoolHid) : (s.setPool k v).regs = s.regs := rfl
@[simp] theorem setPool_rwv2 (s : State) (k : Nat) (v : PoolHid) : (s.setPool k v).rwv2 = s.rwv2 := rfl
@[simp] theorem setPool_rwv3 (s : State) (k : Nat) (v : PoolHid) : (s.setPool k v).rwv3 = s.rwv3 := rfl
@[simp] theorem setPool_staging (s : State) (k : Nat) (v : PoolHid) : (s.setPool k v).staging = s.staging := rfl
@[simp] theorem setPool_refused (s : State) (k : Nat) (v : PoolHid) : (s.setPool k v).refused = s.refused := rfl
@[simp] theorem setPool_timers (s : State) (k : Nat) (v : PoolHid) : (s.setPool k v).timers = s.timers := rfl
@[simp] theorem setPool_free (s : State) (k : Nat) (v : PoolHid) : (s.setPool k v).free = s.free := rfl
@[simp] theorem setPool_lanes (s : State) (k : Nat) (v : PoolHid) : (s.setPool k v).lanes = s.lanes := rfl
@[simp] theorem setPool_ports (s : State) (k : Nat) (v : PoolHid) : (s.setPool k v).ports = s.ports := rfl
@[simp] theorem setPool_sw (s : State) (k : Nat) (v : PoolHid) : (s.setPool k v).sw = s.sw := rfl
@[simp] theorem setPool_time (s : State) (k : Nat) (v : PoolHid) : (s.setPool k v).time = s.time := rfl
@[simp] theorem setPool_coll (s : State) (k : Nat) (v : PoolHid) : (s.setPool k v).coll = s.coll := rfl
@[simp] theorem setPool_coaches (s : State) (k : Nat) (v : PoolHid) : (s.setPool k v).coaches = s.coaches := rfl
@[simp] theorem setPool_upd (s : State) (k : Nat) (v : PoolHid) : (s.setPool k v).upd = s.upd := rfl
@[simp] theorem setPool_stn (s : State) (k : Nat) (v : PoolHid) : (s.setPool k v).stn = s.stn := rfl
@[simp] theorem setPool_mem (s : State) (k : Nat) (v : PoolHid) : (s.setPool k v).mem = s.mem := rfl
@[simp] theorem setPool_flt (s : State) (k : Nat) (v : PoolHid) : (s.setPool k v).flt = s.flt := rfl
@[simp] theorem setPool_cons (s : State) (k : Nat) (v : PoolHid) : (s.setPool k v).cons = s.cons := rfl
@[simp] theorem setPool_pow (s : State) (k : Nat) (v : PoolHid) : (s.setPool k v).pow = s.pow := rfl
@[simp] theorem setPool_sid (s : State) (k : Nat) (v : PoolHid) : (s.setPool k v).sid = s.sid := rfl
@[simp] theorem setPool_pins (s : State) (k : Nat) (v : PoolHid) : (s.setPool k v).pins = s.pins := rfl
@[simp] theorem setPool_out (s : State) (k : Nat) (v : PoolHid) : (s.setPool k v).out = s.out := rfl

/-! ### setCoach -/

@[simp] theorem setCoach_pending (s : State) (c : Nat) (v : CoachHid) : (s.setCoach c v).pending = s.pending := rfl
@[simp] theorem setCoach_clk (s : State) (c : Nat) (v : CoachHid) : (s.setCoach c v).clk = s.clk := rfl
@[simp] theorem setCoach_asm (s : State) (c : Nat) (v : CoachHid) : (s.setCoach c v).asm = s.asm := rfl
@[simp] theorem setCoach_regs (s : State) (c : Nat) (v : CoachHid) : (s.setCoach c v).regs = s.regs := rfl
@[simp] theorem setCoach_rwv2 (s : State) (c : Nat) (v : CoachHid) : (s.setCoach c v).rwv2 = s.rwv2 := rfl
@[simp] theorem setCoach_rwv3 (s : State) (c : Nat) (v : CoachHid) : (s.setCoach c v).rwv3 = s.rwv3 := rfl
@[simp] theorem setCoach_staging (s : State) (c : Nat) (v : CoachHid) : (s.setCoach c v).staging = s.staging := rfl
@[simp] theorem setCoach_refused (s : State) (c : Nat) (v : CoachHid) : (s.setCoach c v).refused = s.refused := rfl
@[simp] theorem setCoach_timers (s : State) (c : Nat) (v : CoachHid) : (s.setCoach c v).timers = s.timers := rfl
@[simp] theorem setCoach_free (s : State) (c : Nat) (v : CoachHid) : (s.setCoach c v).free = s.free := rfl
@[simp] theorem setCoach_lanes (s : State) (c : Nat) (v : CoachHid) : (s.setCoach c v).lanes = s.lanes := rfl
@[simp] theorem setCoach_ports (s : State) (c : Nat) (v : CoachHid) : (s.setCoach c v).ports = s.ports := rfl
@[simp] theorem setCoach_sw (s : State) (c : Nat) (v : CoachHid) : (s.setCoach c v).sw = s.sw := rfl
@[simp] theorem setCoach_pools (s : State) (c : Nat) (v : CoachHid) : (s.setCoach c v).pools = s.pools := rfl
@[simp] theorem setCoach_time (s : State) (c : Nat) (v : CoachHid) : (s.setCoach c v).time = s.time := rfl
@[simp] theorem setCoach_coll (s : State) (c : Nat) (v : CoachHid) : (s.setCoach c v).coll = s.coll := rfl
@[simp] theorem setCoach_upd (s : State) (c : Nat) (v : CoachHid) : (s.setCoach c v).upd = s.upd := rfl
@[simp] theorem setCoach_stn (s : State) (c : Nat) (v : CoachHid) : (s.setCoach c v).stn = s.stn := rfl
@[simp] theorem setCoach_mem (s : State) (c : Nat) (v : CoachHid) : (s.setCoach c v).mem = s.mem := rfl
@[simp] theorem setCoach_flt (s : State) (c : Nat) (v : CoachHid) : (s.setCoach c v).flt = s.flt := rfl
@[simp] theorem setCoach_cons (s : State) (c : Nat) (v : CoachHid) : (s.setCoach c v).cons = s.cons := rfl
@[simp] theorem setCoach_pow (s : State) (c : Nat) (v : CoachHid) : (s.setCoach c v).pow = s.pow := rfl
@[simp] theorem setCoach_sid (s : State) (c : Nat) (v : CoachHid) : (s.setCoach c v).sid = s.sid := rfl
@[simp] theorem setCoach_pins (s : State) (c : Nat) (v : CoachHid) : (s.setCoach c v).pins = s.pins := rfl
@[simp] theorem setCoach_out (s : State) (c : Nat) (v : CoachHid) : (s.setCoach c v).out = s.out := rfl

/-! ### emit -/

@[simp] theorem emit_pending (s : State) (o : Out) : (s.emit o).pending = s.pending := rfl
@[simp] theorem emit_clk (s : State) (o : Out) : (s.emit o).clk = s.clk := rfl
@[simp] theorem emit_asm (s : State) (o : Out) : (s.emit o).asm = s.asm := rfl
@[simp] theorem emit_regs (s : State) (o : Out) : (s.emit o).regs = s.regs := rfl
@[simp] theorem emit_rwv2 (s : State) (o : Out) : (s.emit o).rwv2 = s.rwv2 := rfl
@[simp] theorem emit_rwv3 (s : State) (o : Out) : (s.emit o).rwv3 = s.rwv3 := rfl
@[simp] theorem emit_staging (s : State) (o : Out) : (s.emit o).staging = s.staging := rfl
@[simp] theorem emit_refused (s : State) (o : Out) : (s.emit o).refused = s.refused := rfl
@[simp] theorem emit_timers (s : State) (o : Out) : (s.emit o).timers = s.timers := rfl
@[simp] theorem emit_free (s : State) (o : Out) : (s.emit o).free = s.free := rfl
@[simp] theorem emit_lanes (s : State) (o : Out) : (s.emit o).lanes = s.lanes := rfl
@[simp] theorem emit_ports (s : State) (o : Out) : (s.emit o).ports = s.ports := rfl
@[simp] theorem emit_sw (s : State) (o : Out) : (s.emit o).sw = s.sw := rfl
@[simp] theorem emit_pools (s : State) (o : Out) : (s.emit o).pools = s.pools := rfl
@[simp] theorem emit_time (s : State) (o : Out) : (s.emit o).time = s.time := rfl
@[simp] theorem emit_coll (s : State) (o : Out) : (s.emit o).coll = s.coll := rfl
@[simp] theorem emit_coaches (s : State) (o : Out) : (s.emit o).coaches = s.coaches := rfl
@[simp] theorem emit_upd (s : State) (o : Out) : (s.emit o).upd = s.upd := rfl
@[simp] theorem emit_stn (s : State) (o : Out) : (s.emit o).stn = s.stn := rfl
@[simp] theorem emit_mem (s : State) (o : Out) : (s.emit o).mem = s.mem := rfl
@[simp] theorem emit_flt (s : State) (o : Out) : (s.emit o).flt = s.flt := rfl
@[simp] theorem emit_cons (s : State) (o : Out) : (s.emit o).cons = s.cons := rfl
@[simp] theorem emit_pow (s : State) (o : Out) : (s.emit o).pow = s.pow := rfl
@[simp] theorem emit_sid (s : State) (o : Out) : (s.emit o).sid = s.sid := rfl
@[simp] theorem emit_pins (s : State) (o : Out) : (s.emit o).pins = s.pins := rfl

/-! ### startTimer -/

@[simp] theorem startTimer_pending (s : State) (k : TKey) : (s.startTimer k).pending = s.pending := rfl
@[simp] theorem startTimer_clk (s : State) (k : TKey) : (s.startTimer k).clk = s.clk := rfl
@[simp] theorem startTimer_asm (s : State) (k : TKey) : (s.startTimer k).asm = s.asm := rfl
@[simp] theorem startTimer_regs (s : State) (k : TKey) : (s.startTimer k).regs = s.regs := rfl
@[simp] theorem startTimer_rwv2 (s : State) (k : TKey) : (s.startTimer k).rwv2 = s.rwv2 := rfl
@[simp] theorem startTimer_rwv3 (s : State) (k : TKey) : (s.startTimer k).rwv3 = s.rwv3 := rfl
@[simp] theorem startTimer_staging (s : State) (k : TKey) : (s.startTimer k).staging = s.staging := rfl
@[simp] theorem startTimer_refused (s : State) (k : TKey) : (s.startTimer k).refused = s.refused := rfl
@[simp] theorem startTimer_free (s : State) (k : TKey) : (s.startTimer k).free = s.free := rfl
@[simp] theorem startTimer_lanes (s : State) (k : TKey) : (s.startTimer k).lanes = s.lanes := rfl
@[simp] theorem startTimer_ports (s : State) (k : TKey) : (s.startTimer k).ports = s.ports := rfl
@[simp] theorem startTimer_sw (s : State) (k : TKey) : (s.startTimer k).sw = s.sw := rfl
@[simp] theorem startTimer_pools (s : State) (k : TKey) : (s.startTimer k).pools = s.pools := rfl
@[simp] theorem startTimer_time (s : State) (k : TKey) : (s.startTimer k).time = s.time := rfl
@[simp] theorem startTimer_coll (s : State) (k : TKey) : (s.startTimer k).coll = s.coll := rfl
@[simp] theorem startTimer_coaches (s : State) (k : TKey) : (s.startTimer k).coaches = s.coaches := rfl
@[simp] theorem startTimer_upd (s : State) (k : TKey) : (s.startTimer k).upd = s.upd := rfl
@[simp] theorem startTimer_stn (s : State) (k : TKey) : (s.startTimer k).stn = s.stn := rfl
@[simp] theorem startTimer_mem (s : State) (k : TKey) : (s.startTimer k).mem = s.mem := rfl
@[simp] theorem startTimer_flt (s : State) (k : TKey) : (s.startTimer k).flt = s.flt := rfl
@[simp] theorem startTimer_cons (s : State) (k : TKey) : (s.startTimer k).cons = s.cons := rfl
@[simp] theorem startTimer_pow (s : State) (k : TKey) : (s.startTimer k).pow = s.pow := rfl
@[simp] theorem startTimer_sid (s : State) (k : TKey) : (s.startTimer k).sid = s.sid := rfl
@[simp] theorem startTimer_pins (s : State) (k : TKey) : (s.startTimer k).pins = s.pins := rfl
@[simp] theorem startTimer_out (s : State) (k : TKey) : (s.startTimer k).out = s.out := rfl

/-! ### stopTimer -/

@[simp] theorem stopTimer_pending (s : State) (k : TKey) : (s.stopTimer k).pending = s.pending := rfl
@[simp] theorem stopTimer_clk (s : State) (k : TKey) : (s.stopTimer k).clk = s.clk := rfl
@[simp] theorem stopTimer_asm (s : State) (k : TKey) : (s.stopTimer k).asm = s.asm := rfl
@[simp] theorem stopTimer_regs (s : State) (k : TKey) : (s.stopTimer k).regs = s.regs := rfl
@[simp] theorem stopTimer_rwv2 (s : State) (k : TKey) : (s.stopTimer k).rwv2 = s.rwv2 := rfl
@[simp] theorem stopTimer_rwv3 (s : State) (k : TKey) : (s.stopTimer k).rwv3 = s.rwv3 := rfl
@[simp] theorem stopTimer_staging (s : State) (k : TKey) : (s.stopTimer k).staging = s.staging := rfl
@[simp] theorem stopTimer_refused (s : State) (k : TKey) : (s.stopTimer k).refused = s.refused := rfl
@[simp] theorem stopTimer_free (s : State) (k : TKey) : (s.stopTimer k).free = s.free := rfl
@[simp] theorem stopTimer_lanes (s : State) (k : TKey) : (s.stopTimer k).lanes = s.lanes := rfl
@[simp] theorem stopTimer_ports (s : State) (k : TKey) : (s.stopTimer k).ports = s.ports := rfl
@[simp] theorem stopTimer_sw (s : State) (k : TKey) : (s.stopTimer k).sw = s.sw := rfl
@[simp] theorem stopTimer_pools (s : State) (k : TKey) : (s.stopTimer k).pools = s.pools := rfl
@[simp] theorem stopTimer_time (s : State) (k : TKey) : (s.stopTimer k).time = s.time := rfl
@[simp] theorem stopTimer_coll (s : State) (k : TKey) : (s.stopTimer k).coll = s.coll := rfl
@[simp] theorem stopTimer_coaches (s : State) (k : TKey) : (s.stopTimer k).coaches = s.coaches := rfl
@[simp] theorem stopTimer_upd (s : State) (k : TKey) : (s.stopTimer k).upd = s.upd := rfl
@[simp] theorem stopTimer_stn (s : State) (k : TKey) : (s.stopTimer k).stn = s.stn := rfl
@[simp] theorem stopTimer_mem (s : State) (k : TKey) : (s.stopTimer k).mem = s.mem := rfl
@[simp] theorem stopTimer_flt (s : State) (k : TKey) : (s.stopTimer k).flt = s.flt := rfl
@[simp] theorem stopTimer_cons (s : State) (k : TKey) : (s.stopTimer k).cons = s.cons := rfl
@[simp] theorem stopTimer_pow (s : State) (k : TKey) : (s.stopTimer k).pow = s.pow := rfl
@[simp] theorem stopTimer_sid (s : State) (k : TKey) : (s.stopTimer k).sid = s.sid := rfl
@[simp] theorem stopTimer_pins (s : State) (k : TKey) : (s.stopTimer k).pins = s.pins := rfl
@[simp] theorem stopTimer_out (s : State) (k : TKey) : (s.stopTimer k).out = s.out := rfl

/-! ### stopTimers -/

@[simp] theorem stopTimers_pending (s : State) (k : TKind) (a : Nat) : (s.stopTimers k a).pending = s.pending := rfl
@[simp] theorem stopTimers_clk (s : State) (k : TKind) (a : Nat) : (s.stopTimers k a).clk = s.clk := rfl
@[simp] theorem stopTimers_asm (s : State) (k : TKind) (a : Nat) : (s.stopTimers k a).asm = s.asm := rfl
@[simp] theorem stopTimers_regs (s : State) (k : TKind) (a : Nat) : (s.stopTimers k a).regs = s.regs := rfl
@[simp] theorem stopTimers_rwv2 (s : State) (k : TKind) (a : Nat) : (s.stopTimers k a).rwv2 = s.rwv2 := rfl
@[simp] theorem stopTimers_rwv3 (s : State) (k : TKind) (a : Nat) : (s.stopTimers k a).rwv3 = s.rwv3 := rfl
@[simp] theorem stopTimers_staging (s : State) (k : TKind) (a : Nat) : (s.stopTimers k a).staging = s.staging := rfl
@[simp] theorem stopTimers_refused (s : State) (k : TKind) (a : Nat) : (s.stopTimers k a).refused = s.refused := rfl
@[simp] theorem stopTimers_free (s : State) (k : TKind) (a : Nat) : (s.stopTimers k a).free = s.free := rfl
@[simp] theorem stopTimers_lanes (s : State) (k : TKind) (a : Nat) : (s.stopTimers k a).lanes = s.lanes := rfl
@[simp] theorem stopTimers_ports (s : State) (k : TKind) (a : Nat) : (s.stopTimers k a).ports = s.ports := rfl
@[simp] theorem stopTimers_sw (s : State) (k : TKind) (a : Nat) : (s.stopTimers k a).sw = s.sw := rfl
@[simp] theorem stopTimers_pools (s : State) (k : TKind) (a : Nat) : (s.stopTimers k a).pools = s.pools := rfl
@[simp] theorem stopTimers_time (s : State) (k : TKind) (a : Nat) : (s.stopTimers k a).time = s.time := rfl
@[simp] theorem stopTimers_coll (s : State) (k : TKind) (a : Nat) : (s.stopTimers k a).coll = s.coll := rfl
@[simp] theorem stopTimers_coaches (s : State) (k : TKind) (a : Nat) : (s.stopTimers k a).coaches = s.coaches := rfl
@[simp] theorem stopTimers_upd (s : State) (k : TKind) (a : Nat) : (s.stopTimers k a).upd = s.upd := rfl
@[simp] theorem stopTimers_stn (s : State) (k : TKind) (a : Nat) : (s.stopTimers k a).stn = s.stn := rfl
@[simp] theorem stopTimers_mem (s : State) (k : TKind) (a : Nat) : (s.stopTimers k a).mem = s.mem := rfl
@[simp] theorem stopTimers_flt (s : State) (k : TKind) (a : Nat) : (s.stopTimers k a).flt = s.flt := rfl
@[simp] theorem stopTimers_cons (s : State) (k : TKind) (a : Nat) : (s.stopTimers k a).cons = s.cons := rfl
@[simp] theorem stopTimers_pow (s : State) (k : TKind) (a : Nat) : (s.stopTimers k a).pow = s.pow := rfl
@[simp] theorem stopTimers_sid (s : State) (k : TKind) (a : Nat) : (s.stopTimers k a).sid = s.sid := rfl
@[simp] theorem stopTimers_pins (s : State) (k : TKind) (a : Nat) : (s.stopTimers k a).pins = s.pins := rfl
@[simp] theorem stopTimers_out (s : State) (k : TKind) (a : Nat) : (s.stopTimers k a).out = s.out := rfl

/-! ### drivePins -/

@[simp] theorem drivePins_pending (s : State)  : (s.drivePins).pending = s.pending := rfl
@[simp] theorem drivePins_clk (s : State)  : (s.drivePins).clk = s.clk := rfl
@[simp] theorem drivePins_asm (s : State)  : (s.drivePins).asm = s.asm := rfl
@[simp] theorem drivePins_regs (s : State)  : (s.drivePins).regs = s.regs := rfl
@[simp] theorem drivePins_rwv2 (s : State)  : (s.drivePins).rwv2 = s.rwv2 := rfl
@[simp] theorem drivePins_rwv3 (s : State)  : (s.drivePins).rwv3 = s.rwv3 := rfl
@[simp] theorem drivePins_staging (s : State)  : (s.drivePins).staging = s.staging := rfl
@[simp] theorem drivePins_refused (s : State)  : (s.drivePins).refused = s.refused := rfl
@[simp] theorem drivePins_timers (s : State)  : (s.drivePins).timers = s.timers := rfl
@[simp] theorem drivePins_free (s : State)  : (s.drivePins).free = s.free := rfl
@[simp] theorem drivePins_lanes (s : State)  : (s.drivePins).lanes = s.lanes := rfl
@[simp] theorem drivePins_ports (s : State)  : (s.drivePins).ports = s.ports := rfl
@[simp] theorem drivePins_sw (s : State)  : (s.drivePins).sw = s.sw := rfl
@[simp] theorem drivePins_pools (s : State)  : (s.drivePins).pools = s.pools := rfl
@[simp] theorem drivePins_time (s : State)  : (s.drivePins).time = s.time := rfl
@[simp] theorem drivePins_coll (s : State)  : (s.drivePins).coll = s.coll := rfl
@[simp] theorem drivePins_coaches (s : State)  : (s.drivePins).coaches = s.coaches := rfl
@[simp] theorem drivePins_upd (s : State)  : (s.drivePins).upd = s.upd := rfl
@[simp] theorem drivePins_stn (s : State)  : (s.drivePins).stn = s.stn := rfl
@[simp] theorem drivePins_mem (s : State)  : (s.drivePins).mem = s.mem := rfl
@[simp] theorem drivePins_flt (s : State)  : (s.drivePins).flt = s.flt := rfl
@[simp] theorem drivePins_cons (s : State)  : (s.drivePins).cons = s.cons := rfl
@[simp] theorem drivePins_pow (s : State)  : (s.drivePins).pow = s.pow := rfl
@[simp] theorem drivePins_sid (s : State)  : (s.drivePins).sid = s.sid := rfl
@[simp] theorem drivePins_out (s : State)  : (s.drivePins).out = s.out := rfl

/-! ### setWord -/

@[simp] theorem setWord_pending (s : State) (a : Nat) (w : Word) : (s.setWord a w).pending = s.pending := by unfold setWord; split <;> rfl
@[simp] theorem setWord_clk (s : State) (a : Nat) (w : Word) : (s.setWord a w).clk = s.clk := by unfold setWord; split <;> rfl
@[simp] theorem setWord_asm (s : State) (a : Nat) (w : Word) : (s.setWord a w).asm = s.asm := by unfold setWord; split <;> rfl
@[simp] theorem setWord_staging (s : State) (a : Nat) (w : Word) : (s.setWord a w).staging = s.staging := by unfold setWord; split <;> rfl
@[simp] theorem setWord_refused (s : State) (a : Nat) (w : Word) : (s.setWord a w).refused = s.refused := by unfold setWord; split <;> rfl
@[simp] theorem setWord_timers (s : State) (a : Nat) (w : Word) : (s.setWord a w).timers = s.timers := by unfold setWord; split <;> rfl
@[simp] theorem setWord_free (s : State) (a : Nat) (w : Word) : (s.setWord a w).free = s.free := by unfold setWord; split <;> rfl
@[simp] theorem setWord_lanes (s : State) (a : Nat) (w : Word) : (s.setWord a w).lanes = s.lanes := by unfold setWord; split <;> rfl
@[simp] theorem setWord_ports (s : State) (a : Nat) (w : Word) : (s.setWord a w).ports = s.ports := by unfold setWord; split <;> rfl
@[simp] theorem setWord_sw (s : State) (a : Nat) (w : Word) : (s.setWord a w).sw = s.sw := by unfold setWord; split <;> rfl
@[simp] theorem setWord_pools (s : State) (a : Nat) (w : Word) : (s.setWord a w).pools = s.pools := by unfold setWord; split <;> rfl
@[simp] theorem setWord_time (s : State) (a : Nat) (w : Word) : (s.setWord a w).time = s.time := by unfold setWord; split <;> rfl
@[simp] theorem setWord_coll (s : State) (a : Nat) (w : Word) : (s.setWord a w).coll = s.coll := by unfold setWord; split <;> rfl
@[simp] theorem setWord_coaches (s : State) (a : Nat) (w : Word) : (s.setWord a w).coaches = s.coaches := by unfold setWord; split <;> rfl
@[simp] theorem setWord_upd (s : State) (a : Nat) (w : Word) : (s.setWord a w).upd = s.upd := by unfold setWord; split <;> rfl
@[simp] theorem setWord_stn (s : State) (a : Nat) (w : Word) : (s.setWord a w).stn = s.stn := by unfold setWord; split <;> rfl
@[simp] theorem setWord_mem (s : State) (a : Nat) (w : Word) : (s.setWord a w).mem = s.mem := by unfold setWord; split <;> rfl
@[simp] theorem setWord_flt (s : State) (a : Nat) (w : Word) : (s.setWord a w).flt = s.flt := by unfold setWord; split <;> rfl
@[simp] theorem setWord_cons (s : State) (a : Nat) (w : Word) : (s.setWord a w).cons = s.cons := by unfold setWord; split <;> rfl
@[simp] theorem setWord_pow (s : State) (a : Nat) (w : Word) : (s.setWord a w).pow = s.pow := by unfold setWord; split <;> rfl
@[simp] theorem setWord_sid (s : State) (a : Nat) (w : Word) : (s.setWord a w).sid = s.sid := by unfold setWord; split <;> rfl
@[simp] theorem setWord_pins (s : State) (a : Nat) (w : Word) : (s.setWord a w).pins = s.pins := by unfold setWord; split <;> rfl
@[simp] theorem setWord_out (s : State) (a : Nat) (w : Word) : (s.setWord a w).out = s.out := by unfold setWord; split <;> rfl

/-! ### wr -/

@[simp] theorem wr_pending (s : State) (a v : Nat) : (s.wr a v).pending = s.pending := setWord_pending s a _
@[simp] theorem wr_clk (s : State) (a v : Nat) : (s.wr a v).clk = s.clk := setWord_clk s a _
@[simp] theorem wr_asm (s : State) (a v : Nat) : (s.wr a v).asm = s.asm := setWord_asm s a _
@[simp] theorem wr_staging (s : State) (a v : Nat) : (s.wr a v).staging = s.staging := setWord_staging s a _
@[simp] theorem wr_refused (s : State) (a v : Nat) : (s.wr a v).refused = s.refused := setWord_refused s a _
@[simp] theorem wr_timers (s : State) (a v : Nat) : (s.wr a v).timers = s.timers := setWord_timers s a _
@[simp] theorem wr_free (s : State) (a v : Nat) : (s.wr a v).free = s.free := setWord_free s a _
@[simp] theorem wr_lanes (s : State) (a v : Nat) : (s.wr a v).lanes = s.lanes := setWord_lanes s a _
@[simp] theorem wr_ports (s : State) (a v : Nat) : (s.wr a v).ports = s.ports := setWord_ports s a _
@[simp] theorem wr_sw (s : State) (a v : Nat) : (s.wr a v).sw = s.sw := setWord_sw s a _
@[simp] theorem wr_pools (s : State) (a v : Nat) : (s.wr a v).pools = s.pools := setWord_pools s a _
@[simp] theorem wr_time (s : State) (a v : Nat) : (s.wr a v).time = s.time := setWord_time s a _
@[simp] theorem wr_coll (s : State) (a v : Nat) : (s.wr a v).coll = s.coll := setWord_coll s a _
@[simp] theorem wr_coaches (s : State) (a v : Nat) : (s.wr a v).coaches = s.coaches := setWord_coaches s a _
@[simp] theorem wr_upd (s : State) (a v : Nat) : (s.wr a v).upd = s.upd := setWord_upd s a _
@[simp] theorem wr_stn (s : State) (a v : Nat) : (s.wr a v).stn = s.stn := setWord_stn s a _
@[simp] theorem wr_mem (s : State) (a v : Nat) : (s.wr a v).mem = s.mem := setWord_mem s a _
@[simp] theorem wr_flt (s : State) (a v : Nat) : (s.wr a v).flt = s.flt := setWord_flt s a _
@[simp] theorem wr_cons (s : State) (a v : Nat) : (s.wr a v).cons = s.cons := setWord_cons s a _
@[simp] theorem wr_pow (s : State) (a v : Nat) : (s.wr a v).pow = s.pow := setWord_pow s a _
@[simp] theorem wr_sid (s : State) (a v : Nat) : (s.wr a v).sid = s.sid := setWord_sid s a _
@[simp] theorem wr_pins (s : State) (a v : Nat) : (s.wr a v).pins = s.pins := setWord_pins s a _
@[simp] theorem wr_out (s : State) (a v : Nat) : (s.wr a v).out = s.out := setWord_out s a _

/-! ### wr64 -/

@[simp] theorem wr64_pending (s : State) (a v : Nat) : (s.wr64 a v).pending = s.pending := by simp [wr64]
@[simp] theorem wr64_clk (s : State) (a v : Nat) : (s.wr64 a v).clk = s.clk := by simp [wr64]
@[simp] theorem wr64_asm (s : State) (a v : Nat) : (s.wr64 a v).asm = s.asm := by simp [wr64]
@[simp] theorem wr64_staging (s : State) (a v : Nat) : (s.wr64 a v).staging = s.staging := by simp [wr64]
@[simp] theorem wr64_refused (s : State) (a v : Nat) : (s.wr64 a v).refused = s.refused := by simp [wr64]
@[simp] theorem wr64_timers (s : State) (a v : Nat) : (s.wr64 a v).timers = s.timers := by simp [wr64]
@[simp] theorem wr64_free (s : State) (a v : Nat) : (s.wr64 a v).free = s.free := by simp [wr64]
@[simp] theorem wr64_lanes (s : State) (a v : Nat) : (s.wr64 a v).lanes = s.lanes := by simp [wr64]
@[simp] theorem wr64_ports (s : State) (a v : Nat) : (s.wr64 a v).ports = s.ports := by simp [wr64]
@[simp] theorem wr64_sw (s : State) (a v : Nat) : (s.wr64 a v).sw = s.sw := by simp [wr64]
@[simp] theorem wr64_pools (s : State) (a v : Nat) : (s.wr64 a v).pools = s.pools := by simp [wr64]
@[simp] theorem wr64_time (s : State) (a v : Nat) : (s.wr64 a v).time = s.time := by simp [wr64]
@[simp] theorem wr64_coll (s : State) (a v : Nat) : (s.wr64 a v).coll = s.coll := by simp [wr64]
@[simp] theorem wr64_coaches (s : State) (a v : Nat) : (s.wr64 a v).coaches = s.coaches := by simp [wr64]
@[simp] theorem wr64_upd (s : State) (a v : Nat) : (s.wr64 a v).upd = s.upd := by simp [wr64]
@[simp] theorem wr64_stn (s : State) (a v : Nat) : (s.wr64 a v).stn = s.stn := by simp [wr64]
@[simp] theorem wr64_mem (s : State) (a v : Nat) : (s.wr64 a v).mem = s.mem := by simp [wr64]
@[simp] theorem wr64_flt (s : State) (a v : Nat) : (s.wr64 a v).flt = s.flt := by simp [wr64]
@[simp] theorem wr64_cons (s : State) (a v : Nat) : (s.wr64 a v).cons = s.cons := by simp [wr64]
@[simp] theorem wr64_pow (s : State) (a v : Nat) : (s.wr64 a v).pow = s.pow := by simp [wr64]
@[simp] theorem wr64_sid (s : State) (a v : Nat) : (s.wr64 a v).sid = s.sid := by simp [wr64]
@[simp] theorem wr64_pins (s : State) (a v : Nat) : (s.wr64 a v).pins = s.pins := by simp [wr64]
@[simp] theorem wr64_out (s : State) (a v : Nat) : (s.wr64 a v).out = s.out := by simp [wr64]

/-! ### put -/

@[simp] theorem put_pending (s : State) (f : Fld) (v : Nat) : (s.put f v).pending = s.pending := by unfold put; split <;> simp
@[simp] theorem put_clk (s : State) (f : Fld) (v : Nat) : (s.put f v).clk = s.clk := by unfold put; split <;> simp
@[simp] theorem put_asm (s : State) (f : Fld) (v : Nat) : (s.put f v).asm = s.asm := by unfold put; split <;> simp
@[simp] theorem put_staging (s : State) (f : Fld) (v : Nat) : (s.put f v).staging = s.staging := by unfold put; split <;> simp
@[simp] theorem put_refused (s : State) (f : Fld) (v : Nat) : (s.put f v).refused = s.refused := by unfold put; split <;> simp
@[simp] theorem put_timers (s : State) (f : Fld) (v : Nat) : (s.put f v).timers = s.timers := by unfold put; split <;> simp
@[simp] theorem put_free (s : State) (f : Fld) (v : Nat) : (s.put f v).free = s.free := by unfold put; split <;> simp
@[simp] theorem put_lanes (s : State) (f : Fld) (v : Nat) : (s.put f v).lanes = s.lanes := by unfold put; split <;> simp
@[simp] theorem put_ports (s : State) (f : Fld) (v : Nat) : (s.put f v).ports = s.ports := by unfold put; split <;> simp
@[simp] theorem put_sw (s : State) (f : Fld) (v : Nat) : (s.put f v).sw = s.sw := by unfold put; split <;> simp
@[simp] theorem put_pools (s : State) (f : Fld) (v : Nat) : (s.put f v).pools = s.pools := by unfold put; split <;> simp
@[simp] theorem put_time (s : State) (f : Fld) (v : Nat) : (s.put f v).time = s.time := by unfold put; split <;> simp
@[simp] theorem put_coll (s : State) (f : Fld) (v : Nat) : (s.put f v).coll = s.coll := by unfold put; split <;> simp
@[simp] theorem put_coaches (s : State) (f : Fld) (v : Nat) : (s.put f v).coaches = s.coaches := by unfold put; split <;> simp
@[simp] theorem put_upd (s : State) (f : Fld) (v : Nat) : (s.put f v).upd = s.upd := by unfold put; split <;> simp
@[simp] theorem put_stn (s : State) (f : Fld) (v : Nat) : (s.put f v).stn = s.stn := by unfold put; split <;> simp
@[simp] theorem put_mem (s : State) (f : Fld) (v : Nat) : (s.put f v).mem = s.mem := by unfold put; split <;> simp
@[simp] theorem put_flt (s : State) (f : Fld) (v : Nat) : (s.put f v).flt = s.flt := by unfold put; split <;> simp
@[simp] theorem put_cons (s : State) (f : Fld) (v : Nat) : (s.put f v).cons = s.cons := by unfold put; split <;> simp
@[simp] theorem put_pow (s : State) (f : Fld) (v : Nat) : (s.put f v).pow = s.pow := by unfold put; split <;> simp
@[simp] theorem put_sid (s : State) (f : Fld) (v : Nat) : (s.put f v).sid = s.sid := by unfold put; split <;> simp
@[simp] theorem put_pins (s : State) (f : Fld) (v : Nat) : (s.put f v).pins = s.pins := by unfold put; split <;> simp
@[simp] theorem put_out (s : State) (f : Fld) (v : Nat) : (s.put f v).out = s.out := by unfold put; split <;> simp

/-! ### bump -/

@[simp] theorem bump_pending (s : State) (a n : Nat) : (s.bump a n).pending = s.pending := by unfold bump; split <;> simp
@[simp] theorem bump_clk (s : State) (a n : Nat) : (s.bump a n).clk = s.clk := by unfold bump; split <;> simp
@[simp] theorem bump_asm (s : State) (a n : Nat) : (s.bump a n).asm = s.asm := by unfold bump; split <;> simp
@[simp] theorem bump_staging (s : State) (a n : Nat) : (s.bump a n).staging = s.staging := by unfold bump; split <;> simp
@[simp] theorem bump_refused (s : State) (a n : Nat) : (s.bump a n).refused = s.refused := by unfold bump; split <;> simp
@[simp] theorem bump_timers (s : State) (a n : Nat) : (s.bump a n).timers = s.timers := by unfold bump; split <;> simp
@[simp] theorem bump_free (s : State) (a n : Nat) : (s.bump a n).free = s.free := by unfold bump; split <;> simp
@[simp] theorem bump_lanes (s : State) (a n : Nat) : (s.bump a n).lanes = s.lanes := by unfold bump; split <;> simp
@[simp] theorem bump_ports (s : State) (a n : Nat) : (s.bump a n).ports = s.ports := by unfold bump; split <;> simp
@[simp] theorem bump_sw (s : State) (a n : Nat) : (s.bump a n).sw = s.sw := by unfold bump; split <;> simp
@[simp] theorem bump_pools (s : State) (a n : Nat) : (s.bump a n).pools = s.pools := by unfold bump; split <;> simp
@[simp] theorem bump_time (s : State) (a n : Nat) : (s.bump a n).time = s.time := by unfold bump; split <;> simp
@[simp] theorem bump_coll (s : State) (a n : Nat) : (s.bump a n).coll = s.coll := by unfold bump; split <;> simp
@[simp] theorem bump_coaches (s : State) (a n : Nat) : (s.bump a n).coaches = s.coaches := by unfold bump; split <;> simp
@[simp] theorem bump_upd (s : State) (a n : Nat) : (s.bump a n).upd = s.upd := by unfold bump; split <;> simp
@[simp] theorem bump_stn (s : State) (a n : Nat) : (s.bump a n).stn = s.stn := by unfold bump; split <;> simp
@[simp] theorem bump_mem (s : State) (a n : Nat) : (s.bump a n).mem = s.mem := by unfold bump; split <;> simp
@[simp] theorem bump_flt (s : State) (a n : Nat) : (s.bump a n).flt = s.flt := by unfold bump; split <;> simp
@[simp] theorem bump_cons (s : State) (a n : Nat) : (s.bump a n).cons = s.cons := by unfold bump; split <;> simp
@[simp] theorem bump_pow (s : State) (a n : Nat) : (s.bump a n).pow = s.pow := by unfold bump; split <;> simp
@[simp] theorem bump_sid (s : State) (a n : Nat) : (s.bump a n).sid = s.sid := by unfold bump; split <;> simp
@[simp] theorem bump_pins (s : State) (a n : Nat) : (s.bump a n).pins = s.pins := by unfold bump; split <;> simp
@[simp] theorem bump_out (s : State) (a n : Nat) : (s.bump a n).out = s.out := by unfold bump; split <;> simp

/-! ### bump32 -/

@[simp] theorem bump32_pending (s : State) (a n : Nat) : (s.bump32 a n).pending = s.pending := by simp [bump32]
@[simp] theorem bump32_clk (s : State) (a n : Nat) : (s.bump32 a n).clk = s.clk := by simp [bump32]
@[simp] theorem bump32_asm (s : State) (a n : Nat) : (s.bump32 a n).asm = s.asm := by simp [bump32]
@[simp] theorem bump32_staging (s : State) (a n : Nat) : (s.bump32 a n).staging = s.staging := by simp [bump32]
@[simp] theorem bump32_refused (s : State) (a n : Nat) : (s.bump32 a n).refused = s.refused := by simp [bump32]
@[simp] theorem bump32_timers (s : State) (a n : Nat) : (s.bump32 a n).timers = s.timers := by simp [bump32]
@[simp] theorem bump32_free (s : State) (a n : Nat) : (s.bump32 a n).free = s.free := by simp [bump32]
@[simp] theorem bump32_lanes (s : State) (a n : Nat) : (s.bump32 a n).lanes = s.lanes := by simp [bump32]
@[simp] theorem bump32_ports (s : State) (a n : Nat) : (s.bump32 a n).ports = s.ports := by simp [bump32]
@[simp] theorem bump32_sw (s : State) (a n : Nat) : (s.bump32 a n).sw = s.sw := by simp [bump32]
@[simp] theorem bump32_pools (s : State) (a n : Nat) : (s.bump32 a n).pools = s.pools := by simp [bump32]
@[simp] theorem bump32_time (s : State) (a n : Nat) : (s.bump32 a n).time = s.time := by simp [bump32]
@[simp] theorem bump32_coll (s : State) (a n : Nat) : (s.bump32 a n).coll = s.coll := by simp [bump32]
@[simp] theorem bump32_coaches (s : State) (a n : Nat) : (s.bump32 a n).coaches = s.coaches := by simp [bump32]
@[simp] theorem bump32_upd (s : State) (a n : Nat) : (s.bump32 a n).upd = s.upd := by simp [bump32]
@[simp] theorem bump32_stn (s : State) (a n : Nat) : (s.bump32 a n).stn = s.stn := by simp [bump32]
@[simp] theorem bump32_mem (s : State) (a n : Nat) : (s.bump32 a n).mem = s.mem := by simp [bump32]
@[simp] theorem bump32_flt (s : State) (a n : Nat) : (s.bump32 a n).flt = s.flt := by simp [bump32]
@[simp] theorem bump32_cons (s : State) (a n : Nat) : (s.bump32 a n).cons = s.cons := by simp [bump32]
@[simp] theorem bump32_pow (s : State) (a n : Nat) : (s.bump32 a n).pow = s.pow := by simp [bump32]
@[simp] theorem bump32_sid (s : State) (a n : Nat) : (s.bump32 a n).sid = s.sid := by simp [bump32]
@[simp] theorem bump32_pins (s : State) (a n : Nat) : (s.bump32 a n).pins = s.pins := by simp [bump32]
@[simp] theorem bump32_out (s : State) (a n : Nat) : (s.bump32 a n).out = s.out := by simp [bump32]

/-! ### setCause -/

@[simp] theorem setCause_pending (s : State) (pg mask : Nat) : (s.setCause pg mask).pending = s.pending := by unfold setCause; simp only; split <;> (try split) <;> simp
@[simp] theorem setCause_clk (s : State) (pg mask : Nat) : (s.setCause pg mask).clk = s.clk := by unfold setCause; simp only; split <;> (try split) <;> simp
@[simp] theorem setCause_asm (s : State) (pg mask : Nat) : (s.setCause pg mask).asm = s.asm := by unfold setCause; simp only; split <;> (try split) <;> simp
@[simp] theorem setCause_staging (s : State) (pg mask : Nat) : (s.setCause pg mask).staging = s.staging := by unfold setCause; simp only; split <;> (try split) <;> simp
@[simp] theorem setCause_refused (s : State) (pg mask : Nat) : (s.setCause pg mask).refused = s.refused := by unfold setCause; simp only; split <;> (try split) <;> simp
@[simp] theorem setCause_timers (s : State) (pg mask : Nat) : (s.setCause pg mask).timers = s.timers := by unfold setCause; simp only; split <;> (try split) <;> simp
@[simp] theorem setCause_free (s : State) (pg mask : Nat) : (s.setCause pg mask).free = s.free := by unfold setCause; simp only; split <;> (try split) <;> simp
@[simp] theorem setCause_lanes (s : State) (pg mask : Nat) : (s.setCause pg mask).lanes = s.lanes := by unfold setCause; simp only; split <;> (try split) <;> simp
@[simp] theorem setCause_ports (s : State) (pg mask : Nat) : (s.setCause pg mask).ports = s.ports := by unfold setCause; simp only; split <;> (try split) <;> simp
@[simp] theorem setCause_sw (s : State) (pg mask : Nat) : (s.setCause pg mask).sw = s.sw := by unfold setCause; simp only; split <;> (try split) <;> simp
@[simp] theorem setCause_pools (s : State) (pg mask : Nat) : (s.setCause pg mask).pools = s.pools := by unfold setCause; simp only; split <;> (try split) <;> simp
@[simp] theorem setCause_time (s : State) (pg mask : Nat) : (s.setCause pg mask).time = s.time := by unfold setCause; simp only; split <;> (try split) <;> simp
@[simp] theorem setCause_coll (s : State) (pg mask : Nat) : (s.setCause pg mask).coll = s.coll := by unfold setCause; simp only; split <;> (try split) <;> simp
@[simp] theorem setCause_coaches (s : State) (pg mask : Nat) : (s.setCause pg mask).coaches = s.coaches := by unfold setCause; simp only; split <;> (try split) <;> simp
@[simp] theorem setCause_upd (s : State) (pg mask : Nat) : (s.setCause pg mask).upd = s.upd := by unfold setCause; simp only; split <;> (try split) <;> simp
@[simp] theorem setCause_stn (s : State) (pg mask : Nat) : (s.setCause pg mask).stn = s.stn := by unfold setCause; simp only; split <;> (try split) <;> simp
@[simp] theorem setCause_mem (s : State) (pg mask : Nat) : (s.setCause pg mask).mem = s.mem := by unfold setCause; simp only; split <;> (try split) <;> simp
@[simp] theorem setCause_flt (s : State) (pg mask : Nat) : (s.setCause pg mask).flt = s.flt := by unfold setCause; simp only; split <;> (try split) <;> simp
@[simp] theorem setCause_cons (s : State) (pg mask : Nat) : (s.setCause pg mask).cons = s.cons := by unfold setCause; simp only; split <;> (try split) <;> simp
@[simp] theorem setCause_pow (s : State) (pg mask : Nat) : (s.setCause pg mask).pow = s.pow := by unfold setCause; simp only; split <;> (try split) <;> simp
@[simp] theorem setCause_sid (s : State) (pg mask : Nat) : (s.setCause pg mask).sid = s.sid := by unfold setCause; simp only; split <;> (try split) <;> simp
@[simp] theorem setCause_pins (s : State) (pg mask : Nat) : (s.setCause pg mask).pins = s.pins := by unfold setCause; simp only; split <;> (try split) <;> simp
@[simp] theorem setCause_out (s : State) (pg mask : Nat) : (s.setCause pg mask).out = s.out := by unfold setCause; simp only; split <;> (try split) <;> simp

/-! ### report -/

@[simp] theorem report_pending (s : State) (n d : Nat) (l : List Nat) : (s.report n d l).pending = s.pending := by unfold report; split <;> rfl
@[simp] theorem report_clk (s : State) (n d : Nat) (l : List Nat) : (s.report n d l).clk = s.clk := by unfold report; split <;> rfl
@[simp] theorem report_asm (s : State) (n d : Nat) (l : List Nat) : (s.report n d l).asm = s.asm := by unfold report; split <;> rfl
@[simp] theorem report_regs (s : State) (n d : Nat) (l : List Nat) : (s.report n d l).regs = s.regs := by unfold report; split <;> rfl
@[simp] theorem report_rwv2 (s : State) (n d : Nat) (l : List Nat) : (s.report n d l).rwv2 = s.rwv2 := by unfold report; split <;> rfl
@[simp] theorem report_rwv3 (s : State) (n d : Nat) (l : List Nat) : (s.report n d l).rwv3 = s.rwv3 := by unfold report; split <;> rfl
@[simp] theorem report_staging (s : State) (n d : Nat) (l : List Nat) : (s.report n d l).staging = s.staging := by unfold report; split <;> rfl
@[simp] theorem report_refused (s : State) (n d : Nat) (l : List Nat) : (s.report n d l).refused = s.refused := by unfold report; split <;> rfl
@[simp] theorem report_timers (s : State) (n d : Nat) (l : List Nat) : (s.report n d l).timers = s.timers := by unfold report; split <;> rfl
@[simp] theorem report_free (s : State) (n d : Nat) (l : List Nat) : (s.report n d l).free = s.free := by unfold report; split <;> rfl
@[simp] theorem report_lanes (s : State) (n d : Nat) (l : List Nat) : (s.report n d l).lanes = s.lanes := by unfold report; split <;> rfl
@[simp] theorem report_ports (s : State) (n d : Nat) (l : List Nat) : (s.report n d l).ports = s.ports := by unfold report; split <;> rfl
@[simp] theorem report_sw (s : State) (n d : Nat) (l : List Nat) : (s.report n d l).sw = s.sw := by unfold report; split <;> rfl
@[simp] theorem report_pools (s : State) (n d : Nat) (l : List Nat) : (s.report n d l).pools = s.pools := by unfold report; split <;> rfl
@[simp] theorem report_time (s : State) (n d : Nat) (l : List Nat) : (s.report n d l).time = s.time := by unfold report; split <;> rfl
@[simp] theorem report_coll (s : State) (n d : Nat) (l : List Nat) : (s.report n d l).coll = s.coll := by unfold report; split <;> rfl
@[simp] theorem report_coaches (s : State) (n d : Nat) (l : List Nat) : (s.report n d l).coaches = s.coaches := by unfold report; split <;> rfl
@[simp] theorem report_upd (s : State) (n d : Nat) (l : List Nat) : (s.report n d l).upd = s.upd := by unfold report; split <;> rfl
@[simp] theorem report_stn (s : State) (n d : Nat) (l : List Nat) : (s.report n d l).stn = s.stn := by unfold report; split <;> rfl
@[simp] theorem report_mem (s : State) (n d : Nat) (l : List Nat) : (s.report n d l).mem = s.mem := by unfold report; split <;> rfl
@[simp] theorem report_cons (s : State) (n d : Nat) (l : List Nat) : (s.report n d l).cons = s.cons := by unfold report; split <;> rfl
@[simp] theorem report_pow (s : State) (n d : Nat) (l : List Nat) : (s.report n d l).pow = s.pow := by unfold report; split <;> rfl
@[simp] theorem report_sid (s : State) (n d : Nat) (l : List Nat) : (s.report n d l).sid = s.sid := by unfold report; split <;> rfl
@[simp] theorem report_pins (s : State) (n d : Nat) (l : List Nat) : (s.report n d l).pins = s.pins := by unfold report; split <;> rfl
@[simp] theorem report_out (s : State) (n d : Nat) (l : List Nat) : (s.report n d l).out = s.out := by unfold report; split <;> rfl

/-! ### reportHang -/

@[simp] theorem reportHang_pending (s : State) (n d : Nat) (en : Bool) : (s.reportHang n d en).pending = s.pending := rfl
@[simp] theorem reportHang_clk (s : State) (n d : Nat) (en : Bool) : (s.reportHang n d en).clk = s.clk := rfl
@[simp] theorem reportHang_asm (s : State) (n d : Nat) (en : Bool) : (s.reportHang n d en).asm = s.asm := rfl
@[simp] theorem reportHang_regs (s : State) (n d : Nat) (en : Bool) : (s.reportHang n d en).regs = s.regs := rfl
@[simp] theorem reportHang_rwv2 (s : State) (n d : Nat) (en : Bool) : (s.reportHang n d en).rwv2 = s.rwv2 := rfl
@[simp] theorem reportHang_rwv3 (s : State) (n d : Nat) (en : Bool) : (s.reportHang n d en).rwv3 = s.rwv3 := rfl
@[simp] theorem reportHang_staging (s : State) (n d : Nat) (en : Bool) : (s.reportHang n d en).staging = s.staging := rfl
@[simp] theorem reportHang_refused (s : State) (n d : Nat) (en : Bool) : (s.reportHang n d en).refused = s.refused := rfl
@[simp] theorem reportHang_timers (s : State) (n d : Nat) (en : Bool) : (s.reportHang n d en).timers = s.timers := rfl
@[simp] theorem reportHang_free (s : State) (n d : Nat) (en : Bool) : (s.reportHang n d en).free = s.free := rfl
@[simp] theorem reportHang_lanes (s : State) (n d : Nat) (en : Bool) : (s.reportHang n d en).lanes = s.lanes := rfl
@[simp] theorem reportHang_ports (s : State) (n d : Nat) (en : Bool) : (s.reportHang n d en).ports = s.ports := rfl
@[simp] theorem reportHang_sw (s : State) (n d : Nat) (en : Bool) : (s.reportHang n d en).sw = s.sw := rfl
@[simp] theorem reportHang_pools (s : State) (n d : Nat) (en : Bool) : (s.reportHang n d en).pools = s.pools := rfl
@[simp] theorem reportHang_time (s : State) (n d : Nat) (en : Bool) : (s.reportHang n d en).time = s.time := rfl
@[simp] theorem reportHang_coll (s : State) (n d : Nat) (en : Bool) : (s.reportHang n d en).coll = s.coll := rfl
@[simp] theorem reportHang_coaches (s : State) (n d : Nat) (en : Bool) : (s.reportHang n d en).coaches = s.coaches := rfl
@[simp] theorem reportHang_upd (s : State) (n d : Nat) (en : Bool) : (s.reportHang n d en).upd = s.upd := rfl
@[simp] theorem reportHang_stn (s : State) (n d : Nat) (en : Bool) : (s.reportHang n d en).stn = s.stn := rfl
@[simp] theorem reportHang_mem (s : State) (n d : Nat) (en : Bool) : (s.reportHang n d en).mem = s.mem := rfl
@[simp] theorem reportHang_cons (s : State) (n d : Nat) (en : Bool) : (s.reportHang n d en).cons = s.cons := rfl
@[simp] theorem reportHang_pow (s : State) (n d : Nat) (en : Bool) : (s.reportHang n d en).pow = s.pow := rfl
@[simp] theorem reportHang_sid (s : State) (n d : Nat) (en : Bool) : (s.reportHang n d en).sid = s.sid := rfl
@[simp] theorem reportHang_pins (s : State) (n d : Nat) (en : Bool) : (s.reportHang n d en).pins = s.pins := rfl
@[simp] theorem reportHang_out (s : State) (n d : Nat) (en : Bool) : (s.reportHang n d en).out = s.out := rfl

end Sys2Proof.Machine.State
end

