-- ==== Sys2Proof/Laws/Tab.lean ====
section
/-! SUPPORT. Laws of the sparse tables: a read after a write, and the canonical form kept by every operation. -/

namespace Sys2Proof.Machine.Tab

variable {β : Type}

@[simp] theorem get_erase_same (d : β) (l : List (Nat × β)) (k : Nat) : get d (erase l k) k = d := by
  induction l with
  | nil => rfl
  | cons e l ih =>
    obtain ⟨k', v⟩ := e
    by_cases h : k = k' <;> simp [erase, get, h, ih]
    simpa [h] using ih

theorem get_erase_other (d : β) (l : List (Nat × β)) {k k' : Nat} (h : k' ≠ k) :
    get d (erase l k) k' = get d l k' := by
  induction l with
  | nil => rfl
  | cons e l ih =>
    obtain ⟨j, v⟩ := e
    by_cases hj : k = j
    · subst hj; simp [erase, get, h, ih]
    · simp [erase, get, hj, ih]

@[simp] theorem get_insert_same (d : β) (l : List (Nat × β)) (k : Nat) (v : β) : get d (insert l k v) k = v := by
  induction l with
  | nil => simp [insert, get]
  | cons e l ih =>
    obtain ⟨j, w⟩ := e
    simp only [insert]
    split
    · simp [get]
    · split
      · simp [get]
      · next h => simp [get, h, ih]

theorem get_insert_other (d : β) (l : List (Nat × β)) {k k' : Nat} (v : β) (h : k' ≠ k) :
    get d (insert l k v) k' = get d l k' := by
  induction l with
  | nil => simp [insert, get, h]
  | cons e l ih =>
    obtain ⟨j, w⟩ := e
    simp only [insert]
    split
    · simp [get, h]
    · split
      · next hj => subst hj; simp [get, h]
      · simp [get, ih]

/-- A read of the key written gives the value written. -/
@[simp] theorem get_put_same [DecidableEq β] (d : β) (l : List (Nat × β)) (k : Nat) (v : β) : get d (put d l k v) k = v := by
  unfold put; split
  · next h => simp [h]
  · simp

/-- A write leaves every other key alone, whatever an unlisted key reads as there. -/
theorem get_put_other [DecidableEq β] (d d' : β) (l : List (Nat × β)) {k k' : Nat} (v : β) (h : k' ≠ k) :
    get d' (put d l k v) k' = get d' l k' := by
  unfold put; split
  · exact get_erase_other d' l h
  · exact get_insert_other d' l v h

theorem rising_weaken {l : List (Nat × β)} {a b : Nat} (h : b ≤ a) (hr : rising (some a) l = true) :
    rising (some b) l = true := by
  cases l with
  | nil => rfl
  | cons e l =>
    obtain ⟨k, v⟩ := e
    simp only [rising, Bool.and_eq_true, decide_eq_true_eq] at hr ⊢
    exact ⟨by omega, hr.2⟩

theorem rising_erase {l : List (Nat × β)} (a k : Nat) (hr : rising (some a) l = true) :
    rising (some a) (erase l k) = true := by
  induction l generalizing a with
  | nil => rfl
  | cons e l ih =>
    obtain ⟨j, v⟩ := e
    simp only [rising, Bool.and_eq_true, decide_eq_true_eq] at hr
    simp only [erase]
    split
    · exact ih a (rising_weaken (by omega) hr.2)
    · simp only [rising, Bool.and_eq_true, decide_eq_true_eq]; exact ⟨hr.1, ih j hr.2⟩

theorem rising_insert {l : List (Nat × β)} (a k : Nat) (v : β) (ha : a < k) (hr : rising (some a) l = true) :
    rising (some a) (insert l k v) = true := by
  induction l generalizing a with
  | nil => simp [insert, rising, ha]
  | cons e l ih =>
    obtain ⟨j, w⟩ := e
    simp only [rising, Bool.and_eq_true, decide_eq_true_eq] at hr
    simp only [insert]
    split
    · next h => simp [rising, ha, h, hr.2]
    · split
      · next h => subst h; simp [rising, ha, hr.2]
      · next h h' => simp only [rising, Bool.and_eq_true, decide_eq_true_eq]; exact ⟨hr.1, ih j (by omega) hr.2⟩

theorem mem_erase {l : List (Nat × β)} {k : Nat} {e : Nat × β} (h : e ∈ erase l k) : e ∈ l := by
  induction l with
  | nil => cases h
  | cons x l ih =>
    obtain ⟨j, v⟩ := x
    simp only [erase] at h
    split at h
    · exact List.mem_cons_of_mem _ (ih h)
    · rcases List.mem_cons.1 h with h | h
      · exact h ▸ List.mem_cons_self
      · exact List.mem_cons_of_mem _ (ih h)

theorem mem_insert {l : List (Nat × β)} {k : Nat} {v : β} {e : Nat × β} (h : e ∈ insert l k v) : e = (k, v) ∨ e ∈ l := by
  induction l with
  | nil => simpa [insert] using h
  | cons x l ih =>
    obtain ⟨j, w⟩ := x
    simp only [insert] at h
    split at h
    · simpa using h
    · split at h
      · rcases List.mem_cons.1 h with h | h
        · exact .inl h
        · exact .inr (List.mem_cons_of_mem _ h)
      · rcases List.mem_cons.1 h with h | h
        · exact .inr (h ▸ List.mem_cons_self)
        · exact (ih h).imp id (List.mem_cons_of_mem _)

theorem rising_none {l : List (Nat × β)} {e : Nat × β} : rising none (e :: l) = rising (some e.1) l := by
  obtain ⟨k, v⟩ := e; rfl

theorem rising_none_of_some {l : List (Nat × β)} {a : Nat} (h : rising (some a) l = true) : rising none l = true := by
  cases l with
  | nil => rfl
  | cons e l =>
    obtain ⟨k, v⟩ := e
    simp only [rising, Bool.and_eq_true] at h
    exact h.2

theorem canon_erase [DecidableEq β] {d : Nat → β} {l : List (Nat × β)} (k : Nat) (h : canon d l = true) :
    canon d (erase l k) = true := by
  simp only [canon, Bool.and_eq_true, List.all_eq_true] at h ⊢
  refine ⟨?_, fun e he => h.2 e (mem_erase he)⟩
  cases l with
  | nil => rfl
  | cons e l =>
    obtain ⟨j, v⟩ := e
    have hr : rising (some j) l = true := h.1
    simp only [erase]
    split
    · exact rising_none_of_some (rising_erase j k hr)
    · exact rising_erase j k hr

theorem canon_insert [DecidableEq β] {d : Nat → β} {l : List (Nat × β)} (k : Nat) {v : β} (hv : v ≠ d k)
    (h : canon d l = true) : canon d (insert l k v) = true := by
  simp only [canon, Bool.and_eq_true, List.all_eq_true] at h ⊢
  refine ⟨?_, fun e he => ?_⟩
  · cases l with
    | nil => rfl
    | cons e l =>
      obtain ⟨j, w⟩ := e
      have hr : rising (some j) l = true := h.1
      simp only [insert]
      split
      · next hk => simp [rising, hk, hr]
      · split
        · next hk => subst hk; exact hr
        · next hk hk' => exact rising_insert j k v (by omega) hr
  · rcases mem_insert he with rfl | he
    · simpa using hv
    · exact h.2 e he

/-- Storing keeps the canonical form. -/
theorem canon_put [DecidableEq β] {d : Nat → β} {l : List (Nat × β)} (k : Nat) (v : β) (h : canon d l = true) :
    canon d (put (d k) l k v) = true := by
  unfold put; split
  · exact canon_erase k h
  · next hv => exact canon_insert k hv h

theorem rising_filter {l : List (Nat × β)} (p : Nat × β → Bool) (a : Nat) (h : rising (some a) l = true) :
    rising (some a) (l.filter p) = true := by
  induction l generalizing a with
  | nil => rfl
  | cons e l ih =>
    obtain ⟨k, v⟩ := e
    simp only [rising, Bool.and_eq_true, decide_eq_true_eq] at h
    simp only [List.filter]
    split
    · simp only [rising, Bool.and_eq_true, decide_eq_true_eq]; exact ⟨h.1, ih k h.2⟩
    · exact rising_weaken (Nat.le_of_lt h.1) (ih k h.2)

/-- Dropping entries keeps the canonical form. -/
theorem canon_filter [DecidableEq β] {d : Nat → β} {l : List (Nat × β)} (p : Nat × β → Bool) (h : canon d l = true) :
    canon d (l.filter p) = true := by
  simp only [canon, Bool.and_eq_true, List.all_eq_true] at h ⊢
  refine ⟨?_, fun e he => h.2 e (List.mem_filter.1 he).1⟩
  cases l with
  | nil => rfl
  | cons e l =>
    obtain ⟨k, v⟩ := e
    have hr : rising (some k) l = true := h.1
    simp only [List.filter]
    split
    · exact rising_filter p k hr
    · exact rising_none_of_some (rising_filter p k hr)

end Sys2Proof.Machine.Tab
end

