-- ==== Sys2Proof/Laws/Registers.lean ====
section
/-! SUPPORT. Laws of the register file: a read of a word or field after a write of it gives what was written, every other
word and field reads as before, and the three copies of an RWV word agree after a write. -/

namespace Sys2Proof.Machine

/-! ### Bits -/

theorem bits_setBits_same (v lo w x : Nat) : bits (setBits v lo w x) lo w = x % 2 ^ w := by
  unfold bits setBits
  rw [Nat.shiftRight_eq_div_pow, Nat.shiftRight_eq_div_pow, Nat.pow_add]
  have e : v % 2 ^ lo + x % 2 ^ w * 2 ^ lo + v / (2 ^ lo * 2 ^ w) * (2 ^ lo * 2 ^ w)
      = v % 2 ^ lo + 2 ^ lo * (x % 2 ^ w + 2 ^ w * (v / (2 ^ lo * 2 ^ w))) := by ring
  rw [e, Nat.add_mul_div_left _ _ (Nat.two_pow_pos lo), Nat.div_eq_of_lt (Nat.mod_lt _ (Nat.two_pow_pos lo)), Nat.zero_add,
    Nat.add_mul_mod_self_left, Nat.mod_mod]

theorem bits_setBits_below (v lo w x lo' w' : Nat) (h : lo' + w' ≤ lo) :
    bits (setBits v lo w x) lo' w' = bits v lo' w' := by
  unfold bits setBits
  simp only [Nat.shiftRight_eq_div_pow]
  obtain ⟨d, rfl⟩ := Nat.exists_eq_add_of_le h
  have e : v % 2 ^ (lo' + w' + d) + x % 2 ^ w * 2 ^ (lo' + w' + d) + v / 2 ^ (lo' + w' + d + w) * 2 ^ (lo' + w' + d + w)
      = v % 2 ^ (lo' + w' + d) + 2 ^ lo' * (2 ^ w' * (2 ^ d * (x % 2 ^ w + v / 2 ^ (lo' + w' + d + w) * 2 ^ w))) := by ring
  rw [e, Nat.add_mul_div_left _ _ (Nat.two_pow_pos lo'), Nat.add_mul_mod_self_left]
  rw [← Nat.shiftRight_eq_div_pow, ← Nat.shiftRight_eq_div_pow]
  apply Nat.eq_of_testBit_eq
  intro i
  simp only [Nat.testBit_mod_two_pow, Nat.testBit_shiftRight]
  by_cases hi : i < w'
  · simp [hi]; omega
  · simp [hi]

/-- A low part below `m` and a high part below `n` make a number below `m * n`. -/
theorem add_mul_lt {a b m n : Nat} (ha : a < m) (hb : b < n) : a + b * m < m * n := by
  have h1 : (b + 1) * m ≤ n * m := Nat.mul_le_mul_right m hb
  rw [Nat.mul_comm n m, Nat.succ_mul] at h1
  omega

theorem bits_setBits_above (v lo w x lo' w' : Nat) (h : lo + w ≤ lo') :
    bits (setBits v lo w x) lo' w' = bits v lo' w' := by
  unfold bits setBits
  obtain ⟨d, rfl⟩ := Nat.exists_eq_add_of_le h
  have hb : v % 2 ^ lo + x % 2 ^ w * 2 ^ lo < 2 ^ (lo + w) := by
    have h1 := Nat.mod_lt v (Nat.two_pow_pos lo)
    have h2 := Nat.mod_lt x (Nat.two_pow_pos w)
    rw [Nat.pow_add]
    exact add_mul_lt h1 h2
  have e : (v % 2 ^ lo + x % 2 ^ w * 2 ^ lo + (v >>> (lo + w)) * 2 ^ (lo + w)) >>> (lo + w) = v >>> (lo + w) := by
    rw [Nat.shiftRight_eq_div_pow, Nat.mul_comm (v >>> (lo + w)), Nat.add_mul_div_left _ _ (Nat.two_pow_pos _),
      Nat.div_eq_of_lt hb, Nat.zero_add]
  rw [Nat.shiftRight_add, Nat.shiftRight_add v (lo + w) d, e]

theorem setBits_lt (v lo w x n : Nat) (h : lo + w ≤ n) (hv : v < 2 ^ n) : setBits v lo w x < 2 ^ n := by
  unfold setBits
  obtain ⟨d, rfl⟩ := Nat.exists_eq_add_of_le h
  have h1 := Nat.mod_lt v (Nat.two_pow_pos lo)
  have h2 := Nat.mod_lt x (Nat.two_pow_pos w)
  have hb : v % 2 ^ lo + x % 2 ^ w * 2 ^ lo < 2 ^ (lo + w) := by
    rw [Nat.pow_add]; exact add_mul_lt h1 h2
  have hd : v >>> (lo + w) < 2 ^ d := by
    rw [Nat.shiftRight_eq_div_pow]; exact Nat.div_lt_of_lt_mul (by rwa [← Nat.pow_add])
  rw [Nat.pow_add _ (lo + w) d]
  exact add_mul_lt hb hd

theorem bits_lt (v lo w : Nat) : bits v lo w < 2 ^ w := Nat.mod_lt _ (Nat.two_pow_pos w)

/-! ### Words -/

namespace State

@[simp] theorem majority_self (x : Word) : majority x x x = x := by simp [majority]

/-- Reading a word after storing it, whether or not it is held in three copies (R29, R34). -/
@[simp] theorem word_setWord_same (s : State) (a : Nat) (w : Word) : (s.setWord a w).word a = w := by
  unfold word setWord
  by_cases h : isRwv a <;> simp [h]

/-- Storing a word leaves every other word alone. -/
theorem word_setWord_other (s : State) {a b : Nat} (w : Word) (h : b ≠ a) : (s.setWord a w).word b = s.word b := by
  unfold word setWord
  by_cases ha : isRwv a <;> by_cases hb : isRwv b <;> simp [ha, hb, Tab.get_put_other _ _ _ _ h]

/-- A word depends on the register file and the assembly alone. -/
theorem word_congr {s t : State} (a : Nat) (h0 : t.asm = s.asm) (h1 : t.regs = s.regs) (h2 : t.rwv2 = s.rwv2)
    (h3 : t.rwv3 = s.rwv3) : t.word a = s.word a := by
  unfold word; rw [h0, h1, h2, h3]

theorem rd_congr {s t : State} (a : Nat) (h0 : t.asm = s.asm) (h1 : t.regs = s.regs) (h2 : t.rwv2 = s.rwv2)
    (h3 : t.rwv3 = s.rwv3) : t.rd a = s.rd a := by
  unfold rd; rw [word_congr a h0 h1 h2 h3]

theorem get_congr {s t : State} (f : Fld) (h : ∀ a, t.rd a = s.rd a) : t.get f = s.get f := by
  unfold get; simp only [h]

theorem rd_lt (s : State) (a : Nat) : s.rd a < 2 ^ 32 := (s.word a).isLt

@[simp] theorem rd_wr_same (s : State) (a v : Nat) : (s.wr a v).rd a = v % 2 ^ 32 := by
  unfold rd wr; simp

theorem rd_wr_other (s : State) {a b : Nat} (v : Nat) (h : b ≠ a) : (s.wr a v).rd b = s.rd b := by
  unfold rd wr; rw [word_setWord_other _ _ h]

theorem rd_wr (s : State) (a b v : Nat) : (s.wr a v).rd b = if b = a then v % 2 ^ 32 else s.rd b := by
  split
  · next h => subst h; exact rd_wr_same ..
  · next h => exact rd_wr_other _ _ h

theorem rd_wr64_other (s : State) {a b : Nat} (v : Nat) (h : b ≠ a) (h4 : b ≠ a + 4) : (s.wr64 a v).rd b = s.rd b := by
  unfold wr64; rw [rd_wr_other _ _ h4, rd_wr_other _ _ h]

/-- A 64-bit register reads back what was stored, modulo 2^64. -/
@[simp] theorem rd64_wr64_same (s : State) (a v : Nat) : (s.wr64 a v).rd64 a = v % 2 ^ 64 := by
  unfold rd64 wr64
  rw [rd_wr_other _ _ (by omega), rd_wr_same, rd_wr_same, Nat.shiftRight_eq_div_pow]
  omega

/-- A counter gains `n`, modulo 2^64 (R50). -/
theorem rd64_bump_same (s : State) (a n : Nat) : (s.bump a n).rd64 a = (s.rd64 a + n) % 2 ^ 64 := by
  unfold bump
  split
  · next h =>
    subst h
    have h1 := rd_lt s a
    have h2 := rd_lt s (a + 4)
    unfold rd64
    omega
  · simp

theorem rd_bump_other (s : State) {a b : Nat} (n : Nat) (h : b ≠ a) (h4 : b ≠ a + 4) : (s.bump a n).rd b = s.rd b := by
  unfold bump; split
  · rfl
  · exact rd_wr64_other s _ h h4

theorem rd_bump32_other (s : State) {a b : Nat} (n : Nat) (h : b ≠ a) : (s.bump32 a n).rd b = s.rd b := rd_wr_other s _ h

/-! ### Fields -/

/-- A field of one word reads back the value stored, cut to its width. -/
theorem get_put_same (s : State) (f : Fld) (v : Nat) (hf : f.lo + f.width ≤ 32) : (s.put f v).get f = v % 2 ^ f.width := by
  unfold get put
  simp only [hf, if_true, rd_wr_same]
  rw [Nat.mod_eq_of_lt (setBits_lt _ _ _ _ 32 hf (rd_lt s f.addr)), bits_setBits_same]

/-- A stored field leaves every other word alone. -/
theorem rd_put_other (s : State) (f : Fld) (v : Nat) {a : Nat} (hf : f.lo + f.width ≤ 32) (h : a ≠ f.addr) :
    (s.put f v).rd a = s.rd a := by
  unfold put; simp only [hf, if_true]; exact rd_wr_other s _ h

/-- A field of another word reads as before. -/
theorem get_put_addr (s : State) (f g : Fld) (v : Nat) (hf : f.lo + f.width ≤ 32) (hg : g.lo + g.width ≤ 32)
    (h : g.addr ≠ f.addr) : (s.put f v).get g = s.get g := by
  unfold get; simp only [hg, if_true, rd_put_other s f v hf h]

/-- Another field of the same word reads as before. -/
theorem get_put_bits (s : State) (f g : Fld) (v : Nat) (hf : f.lo + f.width ≤ 32) (hg : g.lo + g.width ≤ 32)
    (ha : g.addr = f.addr) (h : g.lo + g.width ≤ f.lo ∨ f.lo + f.width ≤ g.lo) : (s.put f v).get g = s.get g := by
  unfold get put
  simp only [hf, hg, if_true, ha, rd_wr_same]
  rw [Nat.mod_eq_of_lt (setBits_lt _ _ _ _ 32 hf (rd_lt s f.addr))]
  rcases h with h | h
  · exact bits_setBits_below _ _ _ _ _ _ h
  · exact bits_setBits_above _ _ _ _ _ _ h

theorem get_wr_other (s : State) (g : Fld) (a v : Nat) (hg : g.lo + g.width ≤ 32) (h : g.addr ≠ a) :
    (s.wr a v).get g = s.get g := by
  unfold get; simp only [hg, if_true, rd_wr_other s v h]

theorem get_bump_other (s : State) (g : Fld) (a n : Nat) (hg : g.lo + g.width ≤ 32) (h : g.addr ≠ a) (h4 : g.addr ≠ a + 4) :
    (s.bump a n).get g = s.get g := by
  unfold get; simp only [hg, if_true, rd_bump_other s n h h4]

theorem get_lt (s : State) (f : Fld) : s.get f < 2 ^ f.width := by
  unfold get; split <;> exact bits_lt ..

end State

end Sys2Proof.Machine
end

