-- ==== Sys2Proof/Laws/Hidden.lean ====
section
/-! SUPPORT. Laws of the hidden state's accessors, of timers, of causes and of the end of a command. -/

namespace Sys2Proof.Machine.State

/-! ### Registers are untouched by updates of hidden state -/

@[simp] theorem rd_setLane (s : State) (l : Nat) (v : LaneHid) (a : Nat) : (s.setLane l v).rd a = s.rd a := id rfl
@[simp] theorem get_setLane (s : State) (l : Nat) (v : LaneHid) (f : Fld) : (s.setLane l v).get f = s.get f := id rfl
@[simp] theorem flag_setLane (s : State) (l : Nat) (v : LaneHid) (f : Fld) : (s.setLane l v).flag f = s.flag f := id rfl
@[simp] theorem mach_setLane (s : State) (l : Nat) (v : LaneHid) (u : Mach) : (s.setLane l v).mach u = s.mach u := id rfl
@[simp] theorem rd64_setLane (s : State) (l : Nat) (v : LaneHid) (a : Nat) : (s.setLane l v).rd64 a = s.rd64 a := id rfl
@[simp] theorem rd_setPort (s : State) (p : Nat) (v : PortHid) (a : Nat) : (s.setPort p v).rd a = s.rd a := id rfl
@[simp] theorem get_setPort (s : State) (p : Nat) (v : PortHid) (f : Fld) : (s.setPort p v).get f = s.get f := id rfl
@[simp] theorem flag_setPort (s : State) (p : Nat) (v : PortHid) (f : Fld) : (s.setPort p v).flag f = s.flag f := id rfl
@[simp] theorem mach_setPort (s : State) (p : Nat) (v : PortHid) (u : Mach) : (s.setPort p v).mach u = s.mach u := id rfl
@[simp] theorem rd64_setPort (s : State) (p : Nat) (v : PortHid) (a : Nat) : (s.setPort p v).rd64 a = s.rd64 a := id rfl
@[simp] theorem rd_setPool (s : State) (k : Nat) (v : PoolHid) (a : Nat) : (s.setPool k v).rd a = s.rd a := id rfl
@[simp] theorem get_setPool (s : State) (k : Nat) (v : PoolHid) (f : Fld) : (s.setPool k v).get f = s.get f := id rfl
@[simp] theorem flag_setPool (s : State) (k : Nat) (v : PoolHid) (f : Fld) : (s.setPool k v).flag f = s.flag f := id rfl
@[simp] theorem mach_setPool (s : State) (k : Nat) (v : PoolHid) (u : Mach) : (s.setPool k v).mach u = s.mach u := id rfl
@[simp] theorem rd64_setPool (s : State) (k : Nat) (v : PoolHid) (a : Nat) : (s.setPool k v).rd64 a = s.rd64 a := id rfl
@[simp] theorem rd_setCoach (s : State) (c : Nat) (v : CoachHid) (a : Nat) : (s.setCoach c v).rd a = s.rd a := id rfl
@[simp] theorem get_setCoach (s : State) (c : Nat) (v : CoachHid) (f : Fld) : (s.setCoach c v).get f = s.get f := id rfl
@[simp] theorem flag_setCoach (s : State) (c : Nat) (v : CoachHid) (f : Fld) : (s.setCoach c v).flag f = s.flag f := id rfl
@[simp] theorem mach_setCoach (s : State) (c : Nat) (v : CoachHid) (u : Mach) : (s.setCoach c v).mach u = s.mach u := id rfl
@[simp] theorem rd64_setCoach (s : State) (c : Nat) (v : CoachHid) (a : Nat) : (s.setCoach c v).rd64 a = s.rd64 a := id rfl
@[simp] theorem rd_emit (s : State) (o : Out) (a : Nat) : (s.emit o).rd a = s.rd a := id rfl
@[simp] theorem get_emit (s : State) (o : Out) (f : Fld) : (s.emit o).get f = s.get f := id rfl
@[simp] theorem flag_emit (s : State) (o : Out) (f : Fld) : (s.emit o).flag f = s.flag f := id rfl
@[simp] theorem mach_emit (s : State) (o : Out) (u : Mach) : (s.emit o).mach u = s.mach u := id rfl
@[simp] theorem rd64_emit (s : State) (o : Out) (a : Nat) : (s.emit o).rd64 a = s.rd64 a := id rfl
@[simp] theorem rd_startTimer (s : State) (k : TKey) (a : Nat) : (s.startTimer k).rd a = s.rd a := id rfl
@[simp] theorem get_startTimer (s : State) (k : TKey) (f : Fld) : (s.startTimer k).get f = s.get f := id rfl
@[simp] theorem flag_startTimer (s : State) (k : TKey) (f : Fld) : (s.startTimer k).flag f = s.flag f := id rfl
@[simp] theorem mach_startTimer (s : State) (k : TKey) (u : Mach) : (s.startTimer k).mach u = s.mach u := id rfl
@[simp] theorem rd64_startTimer (s : State) (k : TKey) (a : Nat) : (s.startTimer k).rd64 a = s.rd64 a := id rfl
@[simp] theorem rd_stopTimer (s : State) (k : TKey) (a : Nat) : (s.stopTimer k).rd a = s.rd a := id rfl
@[simp] theorem get_stopTimer (s : State) (k : TKey) (f : Fld) : (s.stopTimer k).get f = s.get f := id rfl
@[simp] theorem flag_stopTimer (s : State) (k : TKey) (f : Fld) : (s.stopTimer k).flag f = s.flag f := id rfl
@[simp] theorem mach_stopTimer (s : State) (k : TKey) (u : Mach) : (s.stopTimer k).mach u = s.mach u := id rfl
@[simp] theorem rd64_stopTimer (s : State) (k : TKey) (a : Nat) : (s.stopTimer k).rd64 a = s.rd64 a := id rfl
@[simp] theorem rd_stopTimers (s : State) (k : TKind) (n : Nat) (a : Nat) : (s.stopTimers k n).rd a = s.rd a := id rfl
@[simp] theorem get_stopTimers (s : State) (k : TKind) (n : Nat) (f : Fld) : (s.stopTimers k n).get f = s.get f := id rfl
@[simp] theorem flag_stopTimers (s : State) (k : TKind) (n : Nat) (f : Fld) : (s.stopTimers k n).flag f = s.flag f := id rfl
@[simp] theorem mach_stopTimers (s : State) (k : TKind) (n : Nat) (u : Mach) : (s.stopTimers k n).mach u = s.mach u := id rfl
@[simp] theorem rd64_stopTimers (s : State) (k : TKind) (n : Nat) (a : Nat) : (s.stopTimers k n).rd64 a = s.rd64 a := id rfl
@[simp] theorem rd_drivePins (s : State)  (a : Nat) : (s.drivePins).rd a = s.rd a := id rfl
@[simp] theorem get_drivePins (s : State)  (f : Fld) : (s.drivePins).get f = s.get f := id rfl
@[simp] theorem flag_drivePins (s : State)  (f : Fld) : (s.drivePins).flag f = s.flag f := id rfl
@[simp] theorem mach_drivePins (s : State)  (u : Mach) : (s.drivePins).mach u = s.mach u := id rfl
@[simp] theorem rd64_drivePins (s : State)  (a : Nat) : (s.drivePins).rd64 a = s.rd64 a := id rfl

/-! ### Sparse tables -/

@[simp] theorem lane_setLane_same (s : State) (l : Nat) (v : LaneHid) : (s.setLane l v).lane l = v :=
  Tab.get_put_same ..

theorem lane_setLane_other (s : State) {l k : Nat} (v : LaneHid) (h : k ≠ l) : (s.setLane l v).lane k = s.lane k :=
  Tab.get_put_other _ _ _ _ h

@[simp] theorem port_setPort_same (s : State) (p : Nat) (v : PortHid) : (s.setPort p v).port p = v :=
  Tab.get_put_same ..

theorem port_setPort_other (s : State) {p q : Nat} (v : PortHid) (h : q ≠ p) : (s.setPort p v).port q = s.port q :=
  Tab.get_put_other _ _ _ _ h

@[simp] theorem pool_setPool_same (s : State) (k : Nat) (v : PoolHid) : (s.setPool k v).pool k = v :=
  Tab.get_put_same ..

theorem pool_setPool_other (s : State) {k j : Nat} (v : PoolHid) (h : j ≠ k) : (s.setPool k v).pool j = s.pool j :=
  Tab.get_put_other _ _ _ _ h

@[simp] theorem coach_setCoach_same (s : State) (c : Nat) (v : CoachHid) : (s.setCoach c v).coach c = v :=
  Tab.get_put_same ..

theorem coach_setCoach_other (s : State) {c d : Nat} (v : CoachHid) (h : d ≠ c) : (s.setCoach c v).coach d = s.coach d :=
  Tab.get_put_other _ _ _ _ h

/-! ### Timers -/

theorem find?_filter_self (l : List (TKey × Nat)) (k : TKey) :
    (l.filter (fun e => decide (e.1 ≠ k))).find? (fun e => decide (e.1 = k)) = none := by
  rw [List.find?_eq_none]
  intro e he
  have := (List.mem_filter.1 he).2
  simpa using this

/-- A timer just started began at the current slow cycle. -/
@[simp] theorem timer_startTimer_same (s : State) (k : TKey) : (s.startTimer k).timer k = some s.clk := by
  unfold timer startTimer
  rw [List.find?_append, find?_filter_self]
  simp

/-- A stopped timer does not run. -/
@[simp] theorem timer_stopTimer_same (s : State) (k : TKey) : (s.stopTimer k).timer k = none := by
  unfold timer stopTimer
  rw [find?_filter_self]
  rfl

theorem find?_filter_ne (l : List (TKey × Nat)) {k j : TKey} (h : j ≠ k) :
    (l.filter (fun e => decide (e.1 ≠ k))).find? (fun e => decide (e.1 = j)) = l.find? (fun e => decide (e.1 = j)) := by
  induction l with
  | nil => rfl
  | cons e l ih =>
    by_cases h1 : e.1 = k
    · have h2 : e.1 ≠ j := fun h2 => h (h2 ▸ h1)
      simp [List.filter, List.find?, h1, ← ih]
      simp [h1 ▸ h2]
    · by_cases h2 : e.1 = j
      · simp [List.filter, List.find?, h2, h]
      · simp [List.filter, List.find?, h1, h2, ← ih]

theorem timer_stopTimer_other (s : State) {k j : TKey} (h : j ≠ k) : (s.stopTimer k).timer j = s.timer j := by
  unfold timer stopTimer; simp only; rw [find?_filter_ne s.timers h]

theorem timer_startTimer_other (s : State) {k j : TKey} (h : j ≠ k) : (s.startTimer k).timer j = s.timer j := by
  unfold timer startTimer
  simp only [List.find?_append, find?_filter_ne s.timers h]
  simp [h.symm]

/-! ### Causes -/

theorem rd_report (s : State) (n d : Nat) (l : List Nat) (a : Nat) : (s.report n d l).rd a = s.rd a := by
  unfold report; split <;> rfl

theorem get_report (s : State) (n d : Nat) (l : List Nat) (f : Fld) : (s.report n d l).get f = s.get f :=
  get_congr f (rd_report s n d l)

theorem rd_foldl_report (l : List Nat) (c : Nat → Bool) (g : Nat → Nat) (d : Nat) (x : List Nat) (s : State) (a : Nat) :
    (l.foldl (fun t k => if c k then t.report (g k) d x else t) s).rd a = s.rd a := by
  induction l generalizing s with
  | nil => rfl
  | cons k l ih =>
    rw [List.foldl_cons, ih]; split
    · exact rd_report ..
    · rfl

/-- An event's registers are those of `setCause`: a report changes none. -/
theorem rd_raiseAs (s : State) (b : Blk) (i j mask d : Nat) (x : List Nat) (a : Nat) :
    (s.raiseAs b i j mask d x).rd a = (s.setCause (b.causePage i j) mask).rd a := by
  unfold raiseAs; simp only; split
  · rfl
  · exact rd_foldl_report _ _ _ _ _ _ _

theorem rd_raise (s : State) (b : Blk) (i j k : Nat) (x : List Nat) (a : Nat) :
    (s.raise b i j k x).rd a = (s.setCause (b.causePage i j) (2 ^ k)).rd a := rd_raiseAs ..

/-- Setting CAUSE bits changes the words CAUSE, CAUSE_SEQ and CAUSE_FIRST of the page alone (R31). -/
theorem rd_setCause_other (s : State) (pg mask : Nat) {a : Nat} (h : a ≠ pg + 0x10) (h1 : a ≠ pg + 0x18)
    (h2 : a ≠ pg + 0x1C) : (s.setCause pg mask).rd a = s.rd a := by
  unfold setCause; simp only; split
  · rfl
  · split
    · rw [rd_wr_other _ _ h2, rd_bump32_other _ _ h1, rd_wr_other _ _ h]
    · rw [rd_bump32_other _ _ h1, rd_wr_other _ _ h]

theorem rd_raise_other (s : State) (b : Blk) (i j k : Nat) (x : List Nat) {a : Nat} (h : a ≠ b.causePage i j + 0x10)
    (h1 : a ≠ b.causePage i j + 0x18) (h2 : a ≠ b.causePage i j + 0x1C) : (s.raise b i j k x).rd a = s.rd a := by
  rw [rd_raise]; exact rd_setCause_other s _ _ h h1 h2

/-- CAUSE after bits are set: the old bits and the new ones (R30, R31). -/
theorem rd_setCause (s : State) (pg mask : Nat) (hm : mask < 2 ^ 32) :
    (s.setCause pg mask).rd (pg + 0x10) = s.rd (pg + 0x10) ||| mask := by
  have hlt : s.rd (pg + 0x10) ||| mask < 2 ^ 32 := Nat.or_lt_two_pow (rd_lt s _) hm
  unfold setCause; simp only; split
  · next h => exact h.symm
  · split
    · rw [rd_wr_other _ _ (by omega), rd_bump32_other _ _ (by omega), rd_wr_same, Nat.mod_eq_of_lt hlt]
    · rw [rd_bump32_other _ _ (by omega), rd_wr_same, Nat.mod_eq_of_lt hlt]

/-- An event leaves its CAUSE bit at 1 (R30). -/
theorem cause_raise (s : State) (b : Blk) (i j k : Nat) (x : List Nat) (hk : k < 32) :
    ((s.raise b i j k x).rd (b.causePage i j + 0x10)).testBit k = true := by
  rw [rd_raise, rd_setCause _ _ _ (Nat.pow_lt_pow_right (by omega) hk), Nat.testBit_or, Nat.testBit_two_pow_self, Bool.or_true]

theorem foldl_report_frame {α : Type} (g : State → α) (hg : ∀ s n d l, g (State.report s n d l) = g s) (l : List Nat)
    (c : Nat → Bool) (h : Nat → Nat) (d : Nat) (x : List Nat) (s : State) :
    g (l.foldl (fun t k => if c k then t.report (h k) d x else t) s) = g s := by
  induction l generalizing s with
  | nil => rfl
  | cons k l ih =>
    rw [List.foldl_cons, ih]; split
    · exact hg ..
    · rfl

/-- Whatever neither a cause nor a report touches is untouched by an event. -/
theorem raise_frame {α : Type} (g : State → α) (hg : ∀ s n d l, g (State.report s n d l) = g s)
    (hc : ∀ s pg m, g (State.setCause s pg m) = g s) (s : State) (b : Blk) (i j k : Nat) (x : List Nat) :
    g (s.raise b i j k x) = g s := by
  unfold raise raiseAs; simp only; split
  · exact hc ..
  · rw [foldl_report_frame g hg, hc]

@[simp] theorem raise_pending (s : State) (b : Blk) (i j k : Nat) (x : List Nat) : (s.raise b i j k x).pending = s.pending :=
  raise_frame (·.pending) (by simp) (by simp) ..
@[simp] theorem raise_clk (s : State) (b : Blk) (i j k : Nat) (x : List Nat) : (s.raise b i j k x).clk = s.clk :=
  raise_frame (·.clk) (by simp) (by simp) ..
@[simp] theorem raise_asm (s : State) (b : Blk) (i j k : Nat) (x : List Nat) : (s.raise b i j k x).asm = s.asm :=
  raise_frame (·.asm) (by simp) (by simp) ..
@[simp] theorem raise_staging (s : State) (b : Blk) (i j k : Nat) (x : List Nat) : (s.raise b i j k x).staging = s.staging :=
  raise_frame (·.staging) (by simp) (by simp) ..
@[simp] theorem raise_refused (s : State) (b : Blk) (i j k : Nat) (x : List Nat) : (s.raise b i j k x).refused = s.refused :=
  raise_frame (·.refused) (by simp) (by simp) ..
@[simp] theorem raise_timers (s : State) (b : Blk) (i j k : Nat) (x : List Nat) : (s.raise b i j k x).timers = s.timers :=
  raise_frame (·.timers) (by simp) (by simp) ..
@[simp] theorem raise_free (s : State) (b : Blk) (i j k : Nat) (x : List Nat) : (s.raise b i j k x).free = s.free :=
  raise_frame (·.free) (by simp) (by simp) ..
@[simp] theorem raise_lanes (s : State) (b : Blk) (i j k : Nat) (x : List Nat) : (s.raise b i j k x).lanes = s.lanes :=
  raise_frame (·.lanes) (by simp) (by simp) ..
@[simp] theorem raise_ports (s : State) (b : Blk) (i j k : Nat) (x : List Nat) : (s.raise b i j k x).ports = s.ports :=
  raise_frame (·.ports) (by simp) (by simp) ..
@[simp] theorem raise_sw (s : State) (b : Blk) (i j k : Nat) (x : List Nat) : (s.raise b i j k x).sw = s.sw :=
  raise_frame (·.sw) (by simp) (by simp) ..
@[simp] theorem raise_pools (s : State) (b : Blk) (i j k : Nat) (x : List Nat) : (s.raise b i j k x).pools = s.pools :=
  raise_frame (·.pools) (by simp) (by simp) ..
@[simp] theorem raise_time (s : State) (b : Blk) (i j k : Nat) (x : List Nat) : (s.raise b i j k x).time = s.time :=
  raise_frame (·.time) (by simp) (by simp) ..
@[simp] theorem raise_coll (s : State) (b : Blk) (i j k : Nat) (x : List Nat) : (s.raise b i j k x).coll = s.coll :=
  raise_frame (·.coll) (by simp) (by simp) ..
@[simp] theorem raise_coaches (s : State) (b : Blk) (i j k : Nat) (x : List Nat) : (s.raise b i j k x).coaches = s.coaches :=
  raise_frame (·.coaches) (by simp) (by simp) ..
@[simp] theorem raise_upd (s : State) (b : Blk) (i j k : Nat) (x : List Nat) : (s.raise b i j k x).upd = s.upd :=
  raise_frame (·.upd) (by simp) (by simp) ..
@[simp] theorem raise_stn (s : State) (b : Blk) (i j k : Nat) (x : List Nat) : (s.raise b i j k x).stn = s.stn :=
  raise_frame (·.stn) (by simp) (by simp) ..
@[simp] theorem raise_mem (s : State) (b : Blk) (i j k : Nat) (x : List Nat) : (s.raise b i j k x).mem = s.mem :=
  raise_frame (·.mem) (by simp) (by simp) ..
@[simp] theorem raise_cons (s : State) (b : Blk) (i j k : Nat) (x : List Nat) : (s.raise b i j k x).cons = s.cons :=
  raise_frame (·.cons) (by simp) (by simp) ..
@[simp] theorem raise_pow (s : State) (b : Blk) (i j k : Nat) (x : List Nat) : (s.raise b i j k x).pow = s.pow :=
  raise_frame (·.pow) (by simp) (by simp) ..
@[simp] theorem raise_sid (s : State) (b : Blk) (i j k : Nat) (x : List Nat) : (s.raise b i j k x).sid = s.sid :=
  raise_frame (·.sid) (by simp) (by simp) ..
@[simp] theorem raise_pins (s : State) (b : Blk) (i j k : Nat) (x : List Nat) : (s.raise b i j k x).pins = s.pins :=
  raise_frame (·.pins) (by simp) (by simp) ..
@[simp] theorem raise_out (s : State) (b : Blk) (i j k : Nat) (x : List Nat) : (s.raise b i j k x).out = s.out :=
  raise_frame (·.out) (by simp) (by simp) ..

/-! ### The end of a command -/

theorem reactN_quiet (s : State) (h : s.flt.reports = []) : ∀ n, State.reactN n s = s
  | 0 => rfl
  | n + 1 => by simp [State.reactN, h]

/-- A state in which no event waits for its reaction has none to make (R416). -/
theorem reacted_quiet {s : State} (h : s.flt.reports = []) : s.reacted = s := reactN_quiet s h _

/-- A command completes exactly when its operands name units of the part. -/
theorem finish_next (s : State) (ok : Bool) (f : State → State) (t : State) :
    s.finish ok f = .next t ↔ ok = true ∧ t = (f s).reacted.drivePins := by
  unfold finish; split <;> simp_all [eq_comm]

theorem finish_ok (s : State) {ok : Bool} (f : State → State) (h : ok = true) :
    s.finish ok f = .next (f s).reacted.drivePins := by
  simp [finish, h]

theorem finish_fault (s : State) {ok : Bool} (f : State → State) (h : ok = false) : s.finish ok f = .fault .noSuchUnit := by
  simp [finish, h]

/-- A command is never refused by its end. -/
theorem finish_not_refused (s : State) (ok : Bool) (f : State → State) (r : Refusal) : s.finish ok f ≠ .refused r := by
  unfold finish; split <;> simp

/-- The levels the pins should have do not depend on what they are. -/
@[simp] theorem pinLevels_drivePins (s : State) : s.drivePins.pinLevels = s.pinLevels := rfl

/-- Driven pins stand at their levels (R423, R511, R512). -/
theorem drivePins_levels (s : State) :
    (s.drivePins.pins.faultN, s.drivePins.pins.attnN, s.drivePins.pins.ready) = s.drivePins.pinLevels := rfl

end Sys2Proof.Machine.State
end

