-- ==== Sys2Proof/Laws/Memory.lean ====
section
/-! SUPPORT. Laws of the stack memory, the flash and the sliver stores: a byte read after it was written, every other
byte left alone, and the canonical form kept by every operation that writes one of them. -/

namespace Sys2Proof.Machine

/-! ### Bytes of module memory -/

@[simp] theorem State.byteAt_setByte_same (s : State) (a : Nat) (b : Byte) : (s.setByte a b).byteAt a = b :=
  Tab.get_put_same 0 s.mem.bytes a b

theorem State.byteAt_setByte_other (s : State) {a c : Nat} (b : Byte) (h : c ≠ a) : (s.setByte a b).byteAt c = s.byteAt c :=
  Tab.get_put_other 0 0 s.mem.bytes b h

@[simp] theorem State.byteAt_setSynd (s : State) (g v a : Nat) : (s.setSynd g v).byteAt a = s.byteAt a := rfl

@[simp] theorem State.granSynd_setByte (s : State) (a : Nat) (b : Byte) (g : Nat) : (s.setByte a b).granSynd g = s.granSynd g := rfl

theorem State.granSynd_setSynd_same (s : State) (g v : Nat) : (s.setSynd g v).granSynd g = v % 2 ^ 16 := by
  simp [State.granSynd, State.setSynd]

theorem State.granSynd_setSynd_other (s : State) {g k : Nat} (v : Nat) (h : k ≠ g) : (s.setSynd g v).granSynd k = s.granSynd k := by
  unfold State.granSynd State.setSynd
  rw [Tab.get_put_other 0 0 s.mem.synd _ h]

/-- Bytes outside those stored read as before. -/
theorem State.byteAt_setBytes_other (s : State) (a : Nat) (l : List Byte) {c : Nat} (h : c < a ∨ a + l.length ≤ c) :
    (s.setBytes a l).byteAt c = s.byteAt c := by
  induction l generalizing s a with
  | nil => rfl
  | cons b l ih =>
    simp only [List.length_cons] at h
    rw [State.setBytes, ih _ _ (by omega), State.byteAt_setByte_other _ _ (by omega)]

/-- Each byte stored reads as it was stored. -/
theorem State.byteAt_setBytes_same (s : State) (a : Nat) (l : List Byte) (i : Nat) (h : i < l.length) :
    (s.setBytes a l).byteAt (a + i) = l.getD i 0 := by
  induction l generalizing s a i with
  | nil => simp at h
  | cons b l ih =>
    cases i with
    | zero =>
      rw [State.setBytes, State.byteAt_setBytes_other _ _ _ (.inl (by omega))]
      exact State.byteAt_setByte_same s a b
    | succ i =>
      rw [State.setBytes, show a + (i + 1) = a + 1 + i by omega, ih _ _ i (by simpa using h)]
      rfl

/-! ### The canonical form of module memory -/

theorem wf_setByte {s : State} (a : Nat) (b : Byte) (h : s.mem.wf = true) : (s.setByte a b).mem.wf = true := by
  simp only [Memory.wf, Bool.and_eq_true] at h ⊢
  exact ⟨Tab.canon_put (d := fun _ => 0) a b h.1, h.2⟩

theorem wf_setSynd {s : State} (g v : Nat) (h : s.mem.wf = true) : (s.setSynd g v).mem.wf = true := by
  simp only [Memory.wf, Bool.and_eq_true] at h ⊢
  exact ⟨h.1, Tab.canon_put (d := fun _ => 0) g _ h.2⟩

theorem wf_setBytes {s : State} (a : Nat) (l : List Byte) (h : s.mem.wf = true) : (s.setBytes a l).mem.wf = true := by
  induction l generalizing s a with
  | nil => exact h
  | cons b l ih => exact ih (a + 1) (wf_setByte a b h)

theorem wf_correct {s : State} (g i : Nat) (h : s.mem.wf = true) : (s.correct g i).mem.wf = true :=
  wf_setSynd g 0 (wf_setByte _ _ h)

theorem wf_poison {s : State} (g : Nat) (h : s.mem.wf = true) : (s.poison g).mem.wf = true := wf_setSynd g 0xFFFF h

@[simp] theorem State.corrected_mem (s : State) (n : Nat) : (s.corrected n).mem = s.mem := by simp [State.corrected]

@[simp] theorem State.captureUe_mem (s : State) (n a : Nat) : (s.captureUe n a).mem = s.mem := by
  unfold State.captureUe State.capture; split <;> simp

/-- A read of a granule changes no stored bit. -/
@[simp] theorem State.readGran_mem (s : State) (g : Nat) : (s.readGran g).2.mem = s.mem := by
  unfold State.readGran; simp only; split <;> simp

theorem foldl_keeps {α : Type} {β : Type} (p : β → Prop) (f : β → α → β) (hf : ∀ x a, p x → p (f x a)) (l : List α) (x : β)
    (h : p x) : p (l.foldl f x) := by
  induction l generalizing x with
  | nil => exact h
  | cons a l ih => exact ih _ (hf x a h)

/-- A read of module memory changes no stored bit. -/
@[simp] theorem State.readMem_mem (s : State) (a n : Nat) : (s.readMem a n).2.mem = s.mem := by
  unfold State.readMem
  simp only
  exact foldl_keeps (fun x : Bool × State => x.2.mem = s.mem) _ (fun x g h => by simp [h]) (granules a n) (true, s) rfl

theorem wf_storeGran {s : State} (a : Nat) (l : List Byte) (g : Nat) (h : s.mem.wf = true) :
    (s.storeGran a l g).mem.wf = true := by
  have h1 : (s.bump (A.HBM_BYTES_WRITTEN (s.stackOf (16 * g))) 16).mem.wf = true := by simpa using h
  unfold State.storeGran
  simp only
  refine wf_setBytes _ _ ?_
  split
  · split
    · exact wf_setSynd g 0 h1
    · exact wf_correct g _ h1
  · exact wf_setSynd g 0 h1

theorem wf_writeGran {s : State} (a : Nat) (l : List Byte) (g : Nat) (h : s.mem.wf = true) :
    (s.writeGran a l g).mem.wf = true := by
  unfold State.writeGran
  simp only
  split
  · exact wf_storeGran a l g h
  · split
    · exact wf_storeGran a l g (by simpa using h)
    · simpa using h

theorem wf_storeMem {s : State} (a : Nat) (l : List Byte) (h : s.mem.wf = true) : (s.storeMem a l).mem.wf = true :=
  foldl_keeps (fun t : State => t.mem.wf = true) _ (fun _ g ht => wf_storeGran a l g ht) _ s h

/-- A write of module memory keeps its canonical form. -/
theorem wf_writeMem {s : State} (a : Nat) (l : List Byte) (h : s.mem.wf = true) : (s.writeMem a l).mem.wf = true :=
  foldl_keeps (fun t : State => t.mem.wf = true) _ (fun _ g ht => wf_writeGran a l g ht) _ s h

theorem wf_upset {s : State} (g data check : Nat) (h : s.mem.wf = true) : (s.upset g data check).mem.wf = true :=
  wf_setSynd g _ (foldl_keeps (fun t : State => t.mem.wf = true) _ (fun _ _ ht => wf_setByte _ _ ht) _ s h)

theorem wf_scrubGran {s : State} (g : Nat) (h : s.mem.wf = true) : (s.scrubGran g).mem.wf = true := by
  unfold State.scrubGran
  split
  · exact h
  · exact wf_setSynd g 0 h
  · exact wf_correct g _ h
  · exact wf_poison g h
  · exact wf_poison g h
  · exact h

theorem wf_fillStack {s : State} (n : Nat) (h : s.mem.wf = true) : (s.fillStack n).mem.wf = true := by
  simp only [Memory.wf, Bool.and_eq_true] at h ⊢
  exact ⟨Tab.canon_filter _ h.1, Tab.canon_filter _ h.2⟩

/-! ### Flash -/

theorem State.flashByte_flashWrite_other (s : State) (region off : Nat) (l : List Byte) {r o : Nat}
    (h : r * 2 ^ 28 + o < region * 2 ^ 28 + off ∨ region * 2 ^ 28 + off + l.length ≤ r * 2 ^ 28 + o) :
    (s.flashWrite region off l).flashByte r o = s.flashByte r o := by
  induction l generalizing s off with
  | nil => rfl
  | cons b l ih =>
    simp only [List.length_cons] at h
    rw [State.flashWrite, ih _ _ (by omega)]
    exact Tab.get_put_other 0 0 s.cons.flash b (by omega)

theorem State.flashByte_flashWrite_same (s : State) (region off : Nat) (l : List Byte) (i : Nat) (h : i < l.length) :
    (s.flashWrite region off l).flashByte region (off + i) = l.getD i 0 := by
  induction l generalizing s off i with
  | nil => simp at h
  | cons b l ih =>
    cases i with
    | zero =>
      rw [State.flashWrite, State.flashByte_flashWrite_other _ _ _ _ (.inl (by omega))]
      exact Tab.get_put_same 0 s.cons.flash _ b
    | succ i =>
      rw [State.flashWrite, show off + (i + 1) = off + 1 + i by omega, ih _ _ i (by simpa using h)]
      rfl

/-- A write of flash keeps its canonical form. -/
theorem wf_flashWrite {s : State} (region off : Nat) (l : List Byte) (h : s.cons.flashWf = true) :
    (s.flashWrite region off l).cons.flashWf = true := by
  induction l generalizing s off with
  | nil => exact h
  | cons b l ih =>
    refine ih (off + 1) ?_
    exact Tab.canon_put (d := fun _ => 0) _ b h

/-! ### Sliver stores -/

theorem wf_sliverSynd {c : CoachHid} (g v : Nat) (h : c.sliverWf = true) : (c.setSynd g v).sliverWf = true := by
  simp only [CoachHid.sliverWf, Bool.and_eq_true] at h ⊢
  exact ⟨h.1, Tab.canon_put (d := fun _ => 0) g _ h.2⟩

theorem wf_sliverHeal {c : CoachHid} (p n g : Nat) (h : c.sliverWf = true) : (c.heal p n g).sliverWf = true := by
  unfold CoachHid.heal
  split
  · exact wf_sliverSynd g 0 h
  · split
    · exact h
    · exact wf_sliverSynd g 0 h
    · have h1 := wf_sliverSynd g 0 h
      simp only [CoachHid.sliverWf, Bool.and_eq_true] at h1 ⊢
      exact ⟨Tab.canon_put (d := fun _ => 0) _ _ h1.1, h1.2⟩
    · exact h

/-- A write of a sliver store keeps its canonical form. -/
theorem wf_sliverWrite {c : CoachHid} (p : Nat) (l : List Byte) (h : c.sliverWf = true) : (c.write p l).sliverWf = true := by
  have h1 := foldl_keeps (fun d : CoachHid => d.sliverWf = true) (fun d g => d.heal p l.length g)
    (fun _ g hd => wf_sliverHeal p l.length g hd) (granules p l.length) c h
  simp only [CoachHid.sliverWf, Bool.and_eq_true] at h1
  simp only [CoachHid.write, CoachHid.sliverWf, Bool.and_eq_true]
  exact ⟨foldl_keeps (fun t : List (Nat × Byte) => Tab.canon (fun _ => 0) t = true) _
    (fun _ i ht => Tab.canon_put (d := fun _ => 0) (p + i) (l.getD i 0) ht) _ _ h1.1, h1.2⟩

theorem wf_sliverUpset {c : CoachHid} (g data check addr : Nat) (h : c.sliverWf = true) :
    (c.upset g data check addr).sliverWf = true := by
  simp only [CoachHid.sliverWf, Bool.and_eq_true] at h
  refine wf_sliverSynd g _ ?_
  simp only [CoachHid.sliverWf, Bool.and_eq_true]
  exact ⟨foldl_keeps (fun t : List (Nat × Byte) => Tab.canon (fun _ => 0) t = true) _
    (fun _ i ht => Tab.canon_put (d := fun _ => 0) _ _ ht) _ _ h.1, h.2⟩

/-! ### The register file -/

theorem regsWf_setWord {s : State} (a : Nat) (w : Word) (h : s.regsWf = true) : (s.setWord a w).regsWf = true := by
  simp only [State.regsWf, Bool.and_eq_true] at h ⊢
  rw [State.setWord_asm]
  unfold State.setWord
  split
  · exact ⟨⟨Tab.canon_put (d := resetWord s.asm) a w h.1.1, Tab.canon_put (d := resetWord s.asm) a w h.1.2⟩,
      Tab.canon_put (d := resetWord s.asm) a w h.2⟩
  · exact ⟨⟨Tab.canon_put (d := resetWord s.asm) a w h.1.1, h.1.2⟩, h.2⟩

/-- A write of a register word keeps the register file's canonical form. -/
theorem regsWf_wr {s : State} (a v : Nat) (h : s.regsWf = true) : (s.wr a v).regsWf = true := regsWf_setWord a _ h

/-! ### At reset -/

theorem reset_mem_wf : State.reset.mem.wf = true := by decide

theorem reset_flash_wf : State.reset.cons.flashWf = true := by decide

theorem reset_regs_wf : State.reset.regsWf = true := by decide

end Sys2Proof.Machine
end

