-- ==== Sys2Proof/Tests/Slice0.lean ====
section
/-! SUPPORT. Tests. The expected results are those of the rules cited. A `smoke` theorem shows an ill-formed command that
the check refuses; a `witness` theorem shows a state and operands that meet the hypotheses of a statement together. -/

namespace Sys2Proof.Tests

set_option maxRecDepth 200000
set_option Elab.async false

open Sys2Proof Sys2Proof.Machine

/-- The command completes in a state with the property. -/
def ans (o : Host.Outcome State Fault Refusal) (f : State → Bool) : Bool :=
  match o with
  | .next t => f t
  | _ => false

/-- Stores fields. -/
def puts (s : State) (l : List (Fld × Nat)) : State := l.foldl (fun t e => t.put e.1 e.2) s

/-- Reset with a clock far enough for every timer, the boot over and the register bus released. -/
def base : State :=
  { State.reset with clk := 100000000, pow := { released := true }, sid := { released := true } }

/-! ## Registers and machines -/

/-- The location that a write reaches. -/
def reached (s : State) (m : Master) (a : Nat) (v : Word) (p : Loc → Bool) : Bool :=
  match s.busCheck m a 32 v.toNat true with
  | .target l => p l
  | _ => false

/-- Base with the core PLL locked. -/
def lit : State := base.put F.TOP_STATE_CORE_PLL_LOCK 1

theorem witness_registerWrite : reached lit .consort (A.PORT_FC_CFG 3) 0xFF080205 Loc.plain = true ∧
    ans (exec (.registerWrite .consort (A.PORT_FC_CFG 3) 32 0xFF080205) lit) (fun t =>
      t.rd (A.PORT_FC_CFG 3) == 0x080205) = true := by decide +kernel

theorem witness_registerWrite_readOnly :
    reached lit .siding (A.TOP + 4) 7 (fun l => l.reg.ty == .ro && l.reg.id != 4 && l.reg.w1c.getD l.w 0 == 0) = true ∧
    ans (exec (.registerWrite .siding (A.TOP + 4) 32 7) lit) (fun t => t.rd (A.TOP + 4) == lit.rd (A.TOP + 4)) = true := by
  decide +kernel

theorem witness_rwvWrite : lit.grants .consort (A.POWER_REC_CAP 16) 0x1234 = true ∧ (priorityRec 16 || sharedRec 16) = true ∧
    ans (exec (.rwvWrite .consort (A.POWER_REC_CAP 16) 0x1234) { lit with rwv2 := [(A.POWER_REC_CAP 16, 1)] }) (fun t =>
      t.get (F.POWER_REC_CAP_CAP 16) == 0x234 && t.copiesEqual (A.POWER_REC_CAP 16)) = true := by decide +kernel

theorem witness_absentPage :
    let s : State := { lit with asm := { lit.asm with m := .m4 } }
    s.absentAt (A.HBM 5 + 0x38) = true ∧ s.regionsGrant .consort (A.HBM 5 + 0x38) true = true ∧
      ans (exec (.registerWrite .consort (A.HBM 5 + 0x38) 32 1) s) (fun t => t.rd64 A.TOP_BUS_ERR == 0 &&
        t.rd64 A.TOP_ACCESS_CONSORT == 1) = true := by decide +kernel

theorem witness_busError : locate 0x800 = none ∧ lit.flag F.TOP_BUS_ERR_ADDR_VALID = false ∧
    ans (exec (.registerWrite .siding 0x800 32 1) lit) (fun t => t.rd64 A.TOP_BUS_ERR == 1 &&
      t.get F.TOP_BUS_ERR_ADDR_ADDR == 0x800 && t.get F.TOP_BUS_ERR_KIND_KIND == 2 &&
      t.get F.TOP_BUS_ERR_ADDR_MASTER == 2) = true ∧
    ans (exec (.registerWrite .consort 2 16 1) lit) (fun t => t.causeBit .TOP 0 0 K.TOP_DECODE_ERR) = true := by decide +kernel

theorem witness_registerWrite_notReady :
    let s : State := { lit with sid := {} }
    s.sidingServed 0x20000 1 true = false ∧
      ans (exec (.registerWrite .siding 0x20000 32 1) s) (fun t => t.rd64 A.TOP_BUS_ERR == 0) = true := by decide +kernel

theorem witness_respTimeout : reached lit .consort (A.PORT_FC_CFG 3) 0x0205 Loc.plain = true ∧
    ans (exec (.respTimeout .consort (A.PORT_FC_CFG 3) true true 0x0205) lit) (fun t =>
      t.rd (A.PORT_FC_CFG 3) == 0x0205 && t.get F.TOP_BUS_ERR_KIND_KIND == E_TIMEOUT &&
        t.causeBit .TOP 0 0 K.TOP_RESP_TIMEOUT) = true := by decide +kernel

/-- A captured bus error and a raised cause of TOP. -/
def capturedSt : State := (puts lit [(F.TOP_BUS_ERR_ADDR_VALID, 1)]).wr (A.TOP + 0x10) 0x42

theorem witness_w1cWrite :
    reached capturedSt .consort A.TOP_BUS_ERR_ADDR 0x80000000 (fun l => l.reg.ty == .ro && l.reg.id != 4 &&
      l.reg.w1c.getD l.w 0 != 0) = true ∧
    ans (exec (.w1cWrite .consort A.TOP_BUS_ERR_ADDR 0x80000000 (0, 0)) capturedSt)
      (fun t => !t.flag F.TOP_BUS_ERR_ADDR_VALID) = true ∧
    ans (exec (.w1cWrite .consort A.TOP_BUS_ERR_ADDR 0x80000000 (0x80000000, 0)) capturedSt)
      (fun t => t.flag F.TOP_BUS_ERR_ADDR_VALID) = true := by decide +kernel

theorem witness_w1cWrite_cause :
    reached capturedSt .consort (A.TOP + 0x10) 0x42 (fun l => l.reg.ty == .ro && l.reg.id == 4) = true ∧
    ans (exec (.w1cWrite .consort (A.TOP + 0x10) 0x42 (0x2, 0)) capturedSt) (fun t => t.rd (A.TOP + 0x10) == 2) = true ∧
    ans (exec (.w1cWrite .consort (A.TOP + 0x10) 0x42 (0, 0)) capturedSt) (fun t => t.rd (A.TOP + 0x10) == 0) = true := by decide +kernel

/-- The STATUS word of FAULT at SEQ 5. -/
def statusSt : State := lit.wr A.FAULT_STATUS 0x00050003

theorem witness_sqcWrite :
    reached statusSt .consort A.FAULT_STATUS 0x00050000 (fun l => l.reg.ty == .sqc && (statusSt.locHandling l).isNone)
      = true ∧
    ans (exec (.sqcWrite .consort A.FAULT_STATUS 0x00050000) statusSt) (fun t => t.rd A.FAULT_STATUS == 0x00050000) = true ∧
    ans (exec (.sqcWrite .consort A.FAULT_STATUS 0x00040000) statusSt) (fun t => t.rd A.FAULT_STATUS == 0x00050003 &&
      t.rd64 A.TOP_SQC_STALE == 1) = true := by decide +kernel

theorem witness_tableEntry :
    reached lit .consort (A.COLL_MEMBER 5) 7 (fun l => l.reg.ty == .ent && l.w + 1 < l.reg.words) = true ∧
    reached lit .consort (A.COLL_MEMBER 5 + 4) 9 (fun l => l.reg.ty == .ent && l.w + 1 == l.reg.words &&
      !specialEntries.contains l.reg.id && (lit.staged .consort l).isNone) = true ∧
    ans (exec (.tableEntryLowerWrite .consort (A.COLL_MEMBER 5) 7) lit) (fun t => t.rd (A.COLL_MEMBER 5) == 0 &&
      ans (exec (.tableEntryCommit .consort (A.COLL_MEMBER 5 + 4) 9) t) (fun u => u.rd (A.COLL_MEMBER 5) == 7 &&
        u.staging == [])) = true := by decide +kernel

/-- An RWV word one copy of which was upset. -/
def upsetSt : State := { lit with regs := [(A.POWER_BUDGET, 1)] }

theorem witness_rwvScrub : upsetSt.elapsed { kind := .scrub, a := 16 } (ms 1) = true ∧
    ans (exec .rwvScrub upsetSt) (fun t => t.rwvAddrs.all t.copiesEqual) = true := by decide +kernel

theorem witness_enableWrite :
    let s := puts lit [(Mach.stateFld (.port 3), UP), (F.PORT_CTL_ENABLE 3, 1)]
    s.grants .consort (A.PORT 3 + 8) 0 = true ∧ s.mach (.port 3) = UP ∧
      ans (exec (.enableWrite .consort (A.PORT 3 + 8) 0) s) (fun t => t.mach (.port 3) == DRAINING &&
        !t.enabled (.port 3)) = true := by decide +kernel

/-- A machine in DOWN that may start. -/
def downSt (u : Mach) : State := puts lit [(u.enableFld, 1)]

theorem witness_downTimeElapsed :
    (downSt (.window 2)).mach (.window 2) = DOWN ∧ (downSt (.window 2)).enabled (.window 2) = true ∧
    (downSt (.window 2)).elapsed (Mach.key (.window 2) .down) (us 1) = true ∧
    (downSt (.window 2)).mayStart (.window 2) = true ∧ (downSt (.window 2)).settingsHold (.window 2) = true ∧
    ans (exec (.downTimeElapsed (.window 2)) (downSt (.window 2))) (fun t => t.mach (.window 2) == STARTING) = true := by
  decide +kernel

theorem witness_downTimeElapsed_refusal :
    (downSt (.port 3)).mayStart (.port 3) = true ∧ (downSt (.port 3)).settingsHold (.port 3) = false ∧
    ans (exec (.downTimeElapsed (.port 3)) (downSt (.port 3))) (fun t => t.mach (.port 3) == DOWN &&
      t.refused == [.port 3]) = true := by decide +kernel

theorem witness_startupComplete :
    let s := puts lit [(Mach.stateFld (.station 4), STARTING), (F.STATION_STN_CTL_ENABLE 4, 1)]
    s.mach (.station 4) = STARTING ∧ s.started (.station 4) = true ∧
      ans (exec (.startupComplete (.station 4)) s) (fun t => t.mach (.station 4) == UP) = true := by decide +kernel

theorem witness_drainComplete :
    let s := puts lit [(Mach.stateFld (.line 9), DRAINING)]
    s.mach (.line 9) = DRAINING ∧ s.drainEnds (.line 9) = true ∧
      ans (exec (.drainComplete (.line 9)) s) (fun t => t.mach (.line 9) == DOWN) = true := by decide +kernel

theorem witness_drainTimeout :
    let s : State := { puts lit [(Mach.stateFld (.stack 1), DRAINING)] with
      timers := [(Mach.key (.stack 1) .drain, 0)] }
    s.mach (.stack 1) = DRAINING ∧ s.due (Mach.key (.stack 1) .drain) (drainLimit (.stack 1) + 1) = true ∧
      ans (exec (.drainTimeout (.stack 1)) s) (fun t => t.fenced (s.machDom (.stack 1)) && t.flt.reports == []) = true := by decide +kernel

theorem witness_corePllLocked :
    let s := base.startPll
    s.pow.mainRails = true ∧ s.flag F.TOP_STATE_CORE_PLL_LOCK = false ∧ (s.timer { kind := .pll, a := 0 }).isSome = true ∧
      ans (exec .corePllLocked s) (fun t => t.flag F.TOP_STATE_CORE_PLL_LOCK) = true := by decide +kernel

theorem witness_corePllStop :
    let s : State := { puts lit [(F.TOP_STATE_SECTION_AWAKE, 3)] with timers := [({ kind := .pll, a := 0 }, 0)] }
    s.pllHeld = false ∧ s.due { kind := .pll, a := 0 } (ms 1) = true ∧
      ans (exec .corePllStop s) (fun t => t.get F.TOP_STATE_SECTION_AWAKE == 0) = true := by decide +kernel

/-! ## Lanes and ports -/

/-- Port 0 of lanes 0 and 1 of die 0, LINK up, its lanes in a phase, lane 0 locked to logical lane 0. -/
def laneSt (ph : Nat) : State :=
  let h : LaneHid := { lockLogical := some 0, lockCheck := some 9, rxReady := true, partnerReady := true }
  let s : State := { base with ports := [(0, { layout := some ⟨0, 0, 2, 1⟩ })], lanes := [(0, h)] }
  puts s [(F.LANE_STATE_PHASE 0, ph), (F.LANE_STATE_PHASE 1, ph), (Mach.stateFld (.port 0), UP),
    (Mach.stateFld (.die 0), UP), (F.LANE_CTL_ENABLE 0, 1), (F.LANE_CTL_ADAPT_EN 0, 1), (F.PORT_CTL_ENABLE 0, 1),
    (F.LANE_STATE_RX_IN_PORT 0, 1), (F.PORT_MASKS_RX_ACTIVE 0, 3), (F.PORT_MASKS_TX_ACTIVE 0, 3), (F.PORT_STATE_LINK 0, 2),
    (Mach.stateFld (.lane 0), UP)]

theorem witness_laneSignalDetect : laneIn (laneSt 1).asm 0 = true ∧ (laneSt 1).phase 0 = P_WAIT ∧
    ans (exec (.laneSignalDetect 0) (laneSt 1)) (fun t => t.phase 0 == P_CDR) = true := by decide +kernel

theorem witness_laneCdrLock : (laneSt 2).phase 0 = P_CDR ∧
    ans (exec (.laneCdrLock 0) (laneSt 2)) (fun t => t.phase 0 == P_ADAPT) = true := by decide +kernel

theorem witness_laneRxAdapted : (laneSt 3).phase 0 = P_ADAPT ∧
    ans (exec (.laneRxAdapted 0 66000) (laneSt 3)) (fun t => t.phase 0 == P_TUNE && t.get (F.LANE_RX_QUALITY_SNR 0) == 464)
      = true := by decide +kernel

theorem witness_laneTxTuned : (laneSt 4).phase 0 = P_TUNE ∧ ((laneSt 4).lane 0).rxReady = true ∧
    ((laneSt 4).lane 0).partnerReady = true ∧
    ans (exec (.laneTxTuned 0) (laneSt 4)) (fun t => t.phase 0 == P_PARTNER) = true := by decide +kernel

theorem witness_laneCwLock : (laneSt 5).phase 0 = P_PARTNER ∧
    ans (exec (.laneCwLock 0) (laneSt 5)) (fun t => t.phase 0 == P_MARKER) = true := by decide +kernel

theorem witness_laneRun : (laneSt 7).phase 0 = P_MARKER ∧ ((laneSt 7).lane 0).lockLogical ≠ none ∧
    ((laneSt 7).lane 0).skew ≤ 64 ∧ ans (exec (.laneRun 0) (laneSt 7)) (fun t => t.phase 0 == P_RUN) = true := by decide +kernel

theorem witness_laneTrainStart : (laneSt 0).phase 0 = P_IDLE ∧ (laneSt 0).mayTrain 0 = true ∧
    (laneSt 0).timer { kind := .trainIdle, a := 0 } = none := by decide +kernel

/-- Lane 0 with running timers. -/
def timed (ph : Nat) (l : List (TKey × Nat)) : State := { laneSt ph with timers := l }

theorem witness_trainFail :
    let s := timed 2 [({ kind := .train, a := 1, b := 0 }, 0)]
    P_CDR ≤ s.phase 0 ∧ s.phase 0 ≤ P_MARKER ∧
      s.due { kind := .train, a := 1, b := 0 } (ms (s.get (F.LANE_CFG_TRAIN_LIMIT 0))) = true ∧
      ans (exec (.trainFail 0) s) (fun t => t.phase 0 == P_IDLE && t.causeBit .LANE 0 0 K.LANE_TRAIN_FAIL) = true := by
  decide +kernel

theorem witness_trainRestart :
    let s := timed 0 [({ kind := .trainIdle, a := 0 }, 0)]
    s.due { kind := .trainIdle, a := 0 } (ms 1) = true ∧ s.phase 0 = P_IDLE ∧ s.mayTrain 0 = true := by decide +kernel

theorem witness_trainingFrameRx : P_WAIT ≤ (laneSt 3).phase 0 ∧ (laneSt 3).phase 0 ≤ P_TUNE ∧
    trainOk (sealTrain (2 + 4 * 2 ^ 8 + 2 ^ 17)) = true ∧ trainOk 2 = false ∧
    polarityOf (prbsSymbols 5) = false ∧ polarityOf (inverted (prbsSymbols 5)) = true ∧
    ans (exec (.trainingFrameRx 0 (inverted frameMarker) (inverted (ctrlSymbols (sealTrain (2 + 4 * 2 ^ 8 + 2 ^ 17))))
      (inverted (prbsSymbols 5))) (laneSt 3)) (fun t =>
      t.get (F.LANE_STATE_LOGICAL 0) == 2 && (t.lane 0).partnerReady && !(t.lane 0).partnerPrecode &&
        t.flag (F.LANE_STATE_RX_INVERTED 0)) = true := by decide +kernel

theorem witness_laneMarkerLock :
    let s := (laneSt 7).setLane 0 {}
    s.phase 0 = P_MARKER ∧ (s.lane 0).lockLogical = none ∧ s.lanePort 0 = some (0, 0) ∧
      ans (exec (.laneMarkerLock 0 1 9 5 65) s) (fun t => (t.lane 0).lockLogical == some 1 &&
        t.causeBit .LANE 0 0 K.LANE_SKEW_LIMIT && t.causeBit .PORT 0 0 K.PORT_DESKEW_LIMIT) = true := by decide +kernel

theorem witness_codewordRx : P_MARKER ≤ (laneSt 8).phase 0 ∧
    ans (exec (.codewordRx 0 (some 15, []) 1) (laneSt 8)) (fun t => t.rd64 (A.LANE_CW_CORRECTED 0) == 2 &&
      t.rd64 (A.LANE_SYM_CORRECTED 0) == 15 && t.rd64 (A.LANE_FEC_HIST 0 15) == 1) = true ∧
    ans (exec (.codewordRx 0 (none, [0, 2]) 0) (laneSt 8)) (fun t => t.rd64 (A.LANE_CW_UNCORRECTABLE 0) == 1 &&
      (t.port 0).badUnits == [0, 2]) = true := by decide +kernel

theorem witness_fillerRx : P_MARKER ≤ (laneSt 8).phase 0 ∧
    ans (exec (.fillerRx 0) (laneSt 8)) (fun t => t.rd64 (A.LANE_FILLER_RX 0) == 1) = true := by decide +kernel

theorem witness_markerRx : ((laneSt 8).lane 0).lockLogical = some 0 ∧ ((laneSt 8).lane 0).lockCheck = some 9 ∧
    ans (exec (.markerRx 0 0 9 7 false true) (laneSt 8)) (fun t => (t.lane 0).lastMarker == some 7) = true := by decide +kernel

theorem test_fillerTx : ans (exec (.fillerTx 0) (laneSt 8)) (fun t => t.out == [.pair 0 0x1E 0, .pair 1 0x1E 0] &&
    t.rd64 (A.LANE_FILLER_TX 1) == 1) = true := by decide +kernel

theorem witness_markerTx : ((laneSt 8).port 0).layout = some ⟨0, 0, 2, 1⟩ ∧ P_PARTNER ≤ (laneSt 8).phase 1 ∧
    ans (exec (.markerTx 0) (laneSt 8)) (fun t => (t.port 0).txMarker == 1 && t.out.length == 2) = true := by decide +kernel

theorem witness_widthReq : (laneSt 8).linkIsUp 0 = true ∧ (laneSt 8).txMask 0 &&& 1 ≠ (laneSt 8).txMask 0 ∧
    ans (exec (.widthReq 0 1 true false) (laneSt 8)) (fun t => t.txMask 0 == 1 && t.rxMask 0 == 3 &&
      t.out == [.pair 0 0x33 1, .pair 1 0x33 1]) = true := by decide +kernel

theorem witness_switch : ans (exec (.switch 0 2 0 false true) (laneSt 8)) (fun t => t.rxMask 0 == 2 && t.txMask 0 == 3 &&
    t.get (F.PORT_STATE_LINK 0) == LINK_DEGRADED) = true ∧
    ans (exec (.switch 0 2 7 false true) (laneSt 8)) (fun t => t.rxMask 0 == 3 && (t.port 0).switches == [(7, 2)]) = true := by
  decide +kernel

theorem witness_laneReady :
    let s := (laneSt 8).put (F.PORT_MASKS_TX_ACTIVE 0) 1
    s.linkIsUp 0 = true ∧ (s.lane 1).partnerLaneReady = false ∧ (s.port 0).layout = some ⟨0, 0, 2, 1⟩ ∧
      ans (exec (.laneReady 0 6 true true) s) (fun t => t.txMask 0 == 3) = true := by decide +kernel

theorem witness_laneFault : (laneSt 8).lanePort 0 = some (0, 0) ∧ ((laneSt 8).lane 0).lockLogical = some 0 ∧
    (laneSt 8).linkIsUp 0 = true ∧ ((laneSt 8).rxMask 0).testBit 0 = true ∧
    ans (exec (.laneFault 0 3) (laneSt 8)) (fun t => t.rxMask 0 == 2 && t.txMask 0 == 2 && t.phase 0 == P_IDLE &&
      (t.port 0).lost == 1 && t.causeBit .LANE 0 0 3) = true := by decide +kernel

theorem witness_laneWithdraw :
    let s := (laneSt 8).put (F.LANE_CTL_ENABLE 0) 0
    s.phase 0 = P_RUN ∧ s.flag (F.LANE_CTL_ENABLE 0) = false ∧ s.lanePort 0 = some (0, 0) ∧
      ans (exec (.laneWithdraw 0) s) (fun t => t.txMask 0 == 2 && t.rxMask 0 == 3 && t.mach (.lane 0) == DRAINING &&
        t.out.contains (.pair 1 0x2D (linkMsg 1 2 0))) = true := by decide +kernel

/-- The port of `laneSt` in TRAINING, both lanes running. -/
def upSt : State := (puts (laneSt 8) [(F.PORT_STATE_LINK 0, LINK_TRAINING)]).setLane 1 { lockLogical := some 1 }

theorem witness_linkUp : upSt.linkReady 0 3 = true ∧ upSt.linkReady 0 2 = false ∧ (upSt.port 0).layout = some ⟨0, 0, 2, 1⟩ ∧
    upSt.rxLabels 0 &&& upSt.fullMask 0 = upSt.fullMask 0 := by decide +kernel

theorem witness_goodbye : (laneSt 8).linkIsUp 0 = true ∧ (laneSt 8).accountsExist = true ∧
    ans (exec (.goodbye 0 true false) (laneSt 8)) (fun t => t.rxMask 0 == 0 && t.get (F.PORT_STATE_LINK 0) == LINK_DOWN &&
      t.causeBit .PORT 0 0 K.PORT_LINK_DOWN) = true := by decide +kernel

theorem witness_linkDown :
    let s := (laneSt 8).put (F.PORT_MASKS_RX_ACTIVE 0) 0
    s.linkIsUp 0 = true ∧ s.masksHold 0 = false ∧ s.accountsExist = true ∧
      ans (exec (.linkDown 0) s) (fun t => t.txMask 0 == 0 && t.rd64 (A.PORT_LINK_DOWNS 0) == 1) = true := by decide +kernel

theorem witness_layoutConflictClear :
    let s := (laneSt 0).put (Mach.stateFld (.port 0)) STARTING
    let s1 := s.setPort 0 { s.port 0 with conflict := true }
    (s1.port 0).conflict = true ∧ s1.mach (.port 0) = STARTING ∧ (s1.port 0).waits = [] ∧
      ans (exec (.layoutConflictClear 0) s1) (fun t => !(t.port 0).conflict) = true := by decide +kernel

theorem witness_adaptStep : (laneSt 8).flag (F.LANE_CTL_ADAPT_EN 0) = true ∧ (laneSt 8).watching 0 = false ∧
    (laneSt 8).adaptHeld 0 = false ∧ (laneSt 8).elapsed { kind := .adaptStep, a := 0 } (ms 1) = true ∧
    ans (exec (.adaptStep 0 3 2) (laneSt 8)) (fun t => (t.lane 0).asked == some (3, 2) &&
      t.out.contains (.pair 1 0x2D (linkMsg 3 1 19))) = true := by decide +kernel

/-- A lane whose step was asked and is judged. -/
def adaptSt : State :=
  { (laneSt 8) with
    lanes := [(0, { lockLogical := some 0, asked := some (1, 1), watched := some (1, 1), symBefore := 1
                    symHist := [(40, 3)] })]
    timers := [({ kind := .adaptWindow, a := 0 }, 0)] }

theorem witness_coefReq : P_MARKER ≤ (laneSt 8).phase 0 ∧ (laneSt 8).lanePort 0 = some (0, 0) ∧
    ((laneSt 8).lane 0).lockLogical = some 0 := by decide +kernel

theorem witness_coefAck : (adaptSt.lane 0).asked = some (1, 1) ∧
    ans (exec (.coefAck 0 true true true) adaptSt) (fun t => (t.lane 0).asked == none && (t.lane 0).watched == none) = true ∧
    ans (exec (.coefAck 0 false true true) adaptSt)
      (fun t => t.timer { kind := .adaptWindow, a := 0 } == some 100000000) = true := by decide +kernel

theorem witness_adaptRevert : (adaptSt.lane 0).watched = some (1, 1) ∧
    adaptSt.timer { kind := .adaptWindow, a := 0 } = some 0 ∧ adaptSt.adaptHeld 0 = false ∧
    2 * (adaptSt.lane 0).symBefore < adaptSt.symsFrom 0 0 ∧
    ans (exec (.adaptRevert 0) adaptSt) (fun t => (t.lane 0).asked == some (1, 2) &&
      t.rd64 (A.LANE_ADAPT_REVERTS 0) == 1) = true := by decide +kernel

theorem witness_eyeStart : (laneSt 8).grants .siding (A.LANE_EYE_CMD 0) 1 = true ∧
    (laneSt 8).flag (F.LANE_EYE_STATUS_BUSY 0) = false ∧
    ans (exec (.eyeStart .siding 0) (laneSt 8)) (fun t => t.flag (F.LANE_EYE_STATUS_BUSY 0)) = true := by decide +kernel

/-- A lane with an eye-scan point running, its adaptation held. -/
def eyeSt : State :=
  let s := (laneSt 8).put (F.LANE_EYE_STATUS_BUSY 0) 1
  { s with lanes := [(0, { eyeCtl := 0x01C00000 })], timers := [({ kind := .eyeHold, a := 0 }, 0)] }

theorem witness_eyeAbort : eyeSt.grants .consort (A.LANE_EYE_CMD 0) 2 = true ∧
    eyeSt.flag (F.LANE_EYE_STATUS_BUSY 0) = true ∧
    ans (exec (.eyeAbort .consort 0) eyeSt) (fun t => !t.flag (F.LANE_EYE_STATUS_BUSY 0) &&
      t.flag (F.LANE_EYE_STATUS_ABORTED 0)) = true := by decide +kernel

theorem witness_eyePointDone : bits (eyeSt.lane 0).eyeCtl.toNat 20 4 ≤ 12 ∧
    ans (exec (.eyePointDone 0 5 true) eyeSt) (fun t => t.rd64 (A.LANE_EYE_BITS 0) == 2 ^ 32 &&
      t.rd64 (A.LANE_EYE_ERRS 0) == 5 && !t.flag (F.LANE_EYE_STATUS_ADAPT_MOVED 0)) = true := by decide +kernel

theorem witness_eyeHoldRelease : eyeSt.adaptHeld 0 = true ∧ eyeSt.due { kind := .eyeHold, a := 0 } (ms 10) = true ∧
    ans (exec (.eyeHoldRelease 0) eyeSt) (fun t => (t.lane 0).eyeReleased) = true := by decide +kernel

theorem witness_codewordRx_first : (laneSt 5).phase 0 = P_PARTNER ∧
    ans (exec (.codewordRx 0 (none, []) 0) (laneSt 5)) (fun t => t.phase 0 == P_CW) = true ∧
    ans (exec (.laneCwLock 0) (laneSt 6)) (fun t => t.phase 0 == P_MARKER) = true := by decide +kernel

theorem witness_laneFault_other :
    let s := (laneSt 8).put (F.PORT_MASKS_RX_ACTIVE 0) 2
    s.linkIsUp 0 = true ∧ (s.rxMask 0).testBit 0 = false ∧
      ans (exec (.laneFault 0 3) s) (fun t => t.rxMask 0 == 2 && t.txMask 0 == 2) = true := by decide +kernel

/-- The published 8b/10b words of K28.5, D21.5 and D0.0. -/
theorem test_code10 : code10 true 188 false = (0b0011111010, true) ∧ code10 true 188 true = (0b1100000101, false) ∧
    code10 false 181 false = (0b1010101010, false) ∧ code10 false 0 false = (0b1001110100, false) ∧
    code10 false 0 true = (0b0110001011, true) := by decide +kernel

/-! ## Packets, flow control, switch core, pools -/

/-- Ports whose LINK is UP. -/
def linkUpSt : State := puts lit [(F.PORT_STATE_LINK 3, LINK_UP), (F.PORT_STATE_LINK 4, LINK_UP),
  (Mach.stateFld (.port 3), UP), (F.PORT_STATE_TOPO 4, 1)]

/-- A HELLO as it arrives, and a data packet of class 0 with one cell of payload. -/
def helloIn : Pkt := mkPkt false 4 false 0x0001 0xFFFF 7 0 0 0 [] []
def dataIn : Pkt := mkPkt true 0 false 0x1003 9 7 0 0 0 [] [1]

theorem witness_packetHeaderRx :
    let v := linkUpSt.countUnits 3 1
    let u := ((v.setPort 3 { v.port 3 with hunt := false }).rxCharge 3 4 1).bump (A.PORT_UNITS_RX 3) 1
    linkUpSt.unitBoundary 3 = true ∧ linkUpSt.unitsLost 3 0 1 = false ∧ helloIn.hdr.length = 64 ∧
      unitParses helloIn false [1, 2] = true ∧ headerSized helloIn = true ∧ helloIn.ver = 1 ∧ helloIn.tc = 4 ∧
      u.classAllowed 3 helloIn = true ∧ (u.resolveIn helloIn).1 = .out 288 := by decide +kernel

theorem witness_packetHeaderRx_refused :
    let v := linkUpSt.countUnits 3 1
    let u := ((v.setPort 3 { v.port 3 with hunt := false }).rxCharge 3 0 2).bump (A.PORT_UNITS_RX 3) 1
    unitParses dataIn false [1, 2] = true ∧ headerSized dataIn = true ∧ u.classAllowed 3 dataIn = false ∧
      ans (exec (.packetHeaderRx 3 dataIn.hdr false) linkUpSt) (fun t => (t.port 3).rxSkip &&
        t.causeBit .PORT 3 0 K.PORT_CLASS_REFUSED && t.get (F.PORT_CR_RETURN_TOTAL_TOTAL 3 0) == 2) = true := by decide +kernel

theorem witness_packetHeaderRx_hunt : unitParses helloIn true [1, 2] = false ∧ unitParses helloIn true [3] = false ∧
    ans (exec (.packetHeaderRx 3 helloIn.hdr true) linkUpSt) (fun t => (t.port 3).hunt &&
      t.rd64 (A.PORT_DISC_HDR 3) == 1) = true := by decide +kernel

theorem witness_packetHeaderRx_hunting :
    let s := linkUpSt.setPort 3 { hunt := true }
    s.unitBoundary 3 = true ∧ (s.port 3).hunt = true ∧
      ans (exec (.packetHeaderRx 3 helloIn.hdr true) s) (fun t => t.rd64 (A.PORT_DISC_HDR 3) == 0) = true := by decide +kernel

theorem witness_packetHeaderRx_format :
    let k := mkPkt false 6 false 0x0001 0xFFFF 7 0 0 0 [] []
    unitParses k false [1, 2] = true ∧ headerSized k = false := by decide +kernel

/-- A packet of port 3 in the buffer. -/
def bufOf (k : Pkt) (acct : Nat) (whole : Bool) (chosen : Option Nat) : BufPkt :=
  { id := 0, acct := acct, tc := k.tc, pkt := k, cost := k.cost, whole := whole, chosen := chosen, hdrCells := [0]
    payCells := [], refs := 1, taken := false, arrived := (0, 0) }

/-- Port 3 receiving a packet. -/
def rxSt (k : Pkt) (chosen : Option Nat) : State :=
  ({ linkUpSt with sw := { pkts := [bufOf k 3 false chosen], nextId := 1 } } : State).setPort 3 { rx := some 0 }

theorem witness_packetRxComplete_skip :
    let s := linkUpSt.setPort 3 { rxSkip := true }
    (s.port 3).rxSkip = true ∧ ans (exec (.packetRxComplete 3 [0] true) s) (fun t => !(t.port 3).rxSkip &&
      t.rd64 (A.PORT_UNITS_RX 3) == 1) = true := by decide +kernel

theorem witness_packetRxComplete :
    ((rxSt helloIn none).port 3).rx = some 0 ∧ (rxSt helloIn none).bufPkt 0 = some (bufOf helloIn 3 false none) ∧
    helloIn.pay = 0 ∧ helloIn.dst = 0xFFFF ∧
    ans (exec (.packetRxComplete 3 [] true) (rxSt helloIn none)) (fun t => t.sw.pkts.isEmpty &&
      t.rd64 (A.PORT_DISC_FEC 3) == 1 && t.get (F.PORT_CR_RETURN_TOTAL_TOTAL 3 4) == 1) = true ∧
    ans (exec (.packetRxComplete 3 [] false) (rxSt helloIn none)) (fun t =>
      t.sw.queue == [⟨1, 0, 288, 4, 0xFFFF, false⟩]) = true := by decide +kernel

theorem witness_packetRxComplete_forward :
    let k := mkPkt false 2 false 0x5001 9 7 0 0 0 [] []
    k.dst ≠ 0xFFFF ∧ k.dst ≠ (rxSt k (some 4)).node ∧ (rxSt k (some 4)).portLive 4 2 = true ∧
      ans (exec (.packetRxComplete 3 [] false) (rxSt k (some 4))) (fun t => t.sw.queue == [⟨1, 0, 4, 2, 9, false⟩]) = true := by
  decide +kernel

/-- A LINK unit. -/
def linkIn (totals : List Nat) : Pkt := { hdr := linkUnit totals, payload := [] }

theorem witness_linkUnitRx : unitParses (linkIn [5, 6, 7]) false [3] = true ∧ (linkIn [5, 6, 7]).num 8 3 = 5 ∧
    (linkIn [65535]).num 8 3 = 65535 ∧
    ans (exec (.linkUnitRx 3 (linkUnit [5, 6, 7]) false) (linkUpSt.setPort 3 { linkHeard := true })) (fun t =>
      t.get (F.PORT_CR_RX_TOTAL_TOTAL 3 0) == 5 && t.get (F.PORT_CR_RETURN_RX_TOTAL 3 0) == 6 &&
      t.get (F.PORT_CR_TX_GRANT_GRANT 3 0) == 7) = true := by decide +kernel

theorem witness_linkUnitRx_wrong : (linkIn [0, 0, 0, 65536]).num 16 3 = 65536 ∧ linkUpSt.layoutOnDie 3 = true ∧ linkUpSt.accountsExist = true ∧
    ans (exec (.linkUnitRx 3 (linkUnit [0, 0, 0, 65536]) false) linkUpSt) (fun t =>
      t.causeBit .PORT 3 0 K.PORT_CREDIT_PROTOCOL && t.get (F.PORT_STATE_LINK 3) == LINK_DOWN) = true := by decide +kernel

theorem witness_linkUnitTx : linkUpSt.transmits 3 = true ∧ (linkUpSt.port 3).tx = none ∧ linkUpSt.linkDue 3 = true ∧
    ans (exec (.linkUnitTx 3) linkUpSt) (fun t => t.out == [.link 3 (linkUnit (linkUpSt.linkTotals 3)) 0]) = true := by decide +kernel

/-- A HELLO of the firmware port queued at port 3. -/
def txSt : State :=
  ({ linkUpSt with sw := { pkts := [bufOf helloIn 288 true none], queue := [⟨1, 0, 3, 4, 0xFFFF, false⟩], nextId := 2 } } :
    State).setPort 3 { linkHeard := true }

theorem witness_packetTxStart :
    let s := puts txSt [(F.PORT_CR_TX_GRANT_GRANT 3 4, 16)]
    ((s.noteNofit 3).schedule 3).1 = some 4 ∧ s.mach (.port 3) = UP ∧
      ((s.noteNofit 3).schedule 3).2.head 3 4 = some ⟨1, 0, 3, 4, 0xFFFF, false⟩ ∧
      ((s.noteNofit 3).schedule 3).2.copyPkt ⟨1, 0, 3, 4, 0xFFFF, false⟩ = some helloIn ∧
      ans (exec (.packetTxStart 3) s) (fun t => (t.port 3).tx == some 1 &&
        t.get (F.PORT_CR_DEBIT_TOTAL_TOTAL 3 4) == 1) = true := by decide +kernel

theorem witness_packetReadOut :
    let s := txSt.setPort 3 { tx := some 1 }
    (s.port 3).tx = some 1 ∧ s.sw.queue.find? (fun x => x.id = 1) = some ⟨1, 0, 3, 4, 0xFFFF, false⟩ ∧
      s.copyPkt ⟨1, 0, 3, 4, 0xFFFF, false⟩ = some helloIn ∧
      ans (exec (.packetReadOut 3 0 true) s) (fun t => t.out == [.packet 3 helloIn (s.unitLanes 3 0 1)] && t.sw.queue.isEmpty &&
        t.sw.pkts.isEmpty) = true := by decide +kernel

theorem witness_packetReadOut_internal :
    let k := mkPkt false 2 false 0x5001 9 7 0 0 0 [] []
    let s : State := { lit with sw := { pkts := [bufOf k 3 true none], queue := [⟨1, 0, 288, 2, 9, false⟩], nextId := 2 } }
    s.headFor 288 (readable 288 true) = some (⟨1, 0, 288, 2, 9, false⟩, k) ∧
      ans (exec (.packetReadOut 288 2 true) s) (fun t => t.out == [.packet 288 k []] && t.sw.queue.isEmpty) = true := by decide +kernel

theorem witness_limitWrite :
    lit.grants .consort (A.SWITCH_LIMIT 5 0) 0x20 = true ∧ lit.eff 5 0 < 0x20 ∧
      ans (exec (.limitWrite .consort 5 0 0x20) lit) (fun t => t.eff 5 0 == 0x20 || t.flag (F.SWITCH_EFF_PENDING 5 0)) = true := by
  decide +kernel

theorem witness_limitWrite_lower : linkUpSt.linkIsUp 3 = true ∧ 0xF < linkUpSt.eff 3 4 ∧
    ans (exec (.limitWrite .consort 3 4 0xF) linkUpSt) (fun t => t.eff 3 4 == 0xF && t.oldLimit 3 4 == 0x10 &&
      t.commit 3 4 == 0x10) = true := by decide +kernel

theorem witness_limitRelease :
    let s : State := { linkUpSt with sw := { releasing := [(3, 4, 0x20)] }, timers := [({ kind := .release, a := 3, b := 4 }, 0)] }
    (∃ e ∈ s.sw.releasing, e.1 = 3 ∧ e.2.1 = 4) ∧ s.held 3 4 ≤ s.eff 3 4 ∧
      s.due { kind := .release, a := 3, b := 4 } (us 200) = true ∧
      ans (exec (.limitRelease 3 4) s) (fun t => t.oldLimit 3 4 == 0 && t.commit 3 4 == 0x10) = true := by decide +kernel

theorem witness_limitPendingRaise :
    let s := puts lit [(F.SWITCH_EFF_PENDING 0 0, 1), (F.SWITCH_LIMIT_LIMIT 0 0, 9), (F.SWITCH_UNCOMMITTED_CELLS, 4)]
    s.flag (F.SWITCH_EFF_PENDING 0 0) = true ∧
      ans (exec (.limitPendingRaise 0 0) s) (fun t => t.eff 0 0 == 4 && t.flag (F.SWITCH_EFF_PENDING 0 0)) = true := by decide +kernel

theorem witness_originatedSend : linkUpSt.fits 288 4 1 = true ∧ linkUpSt.sw.waiting = [] ∧
    helloIn.launch.dst = 0xFFFF ∧ linkUpSt.portLive 4 4 = true ∧ helloIn.launch.tc = 4 := by decide +kernel

theorem witness_originatedSend_waits :
    let k := mkPkt false 2 false 0x5001 9 7 0 0 0 [] []
    lit.fits 288 2 1 = lit.fits 288 k.tc k.cost ∧
      ((lit.put (F.SWITCH_EFF_EFF 288 2) 0).fits 288 k.tc k.cost) = false ∧
      ans (exec (.originatedSend 288 2 (some (k.hdr, [], 4))) (lit.put (F.SWITCH_EFF_EFF 288 2) 0)) (fun t =>
        t.sw.waiting.length == 1 && t.sw.queue.isEmpty) = true := by decide +kernel

/-- A waiting origination of the firmware port, to module 5 itself. -/
def ownIn : Pkt := mkPkt false 4 false 0x0001 5 7 0 0 0 [] []
def origOf (dsts : List Nat) : Orig := ⟨0, 288, ownIn, dsts, none, false, none, none, false⟩
def origSt (dsts : List Nat) : State :=
  puts { linkUpSt with sw := { waiting := [origOf dsts], nextId := 1 }, timers := [({ kind := .multicast, a := 0 }, 0)] }
    [(F.TOP_MODULE_NUM_NUMBER, 5), (F.TOP_MODULE_NUM_VALID, 1)]

theorem witness_originatedSend_waiting :
    ((origSt []).uplinkTurn 288).1 = some (origOf []) ∧ (origSt []).fits 288 4 1 = true ∧
    (((origSt []).delWaiting 0).resolve ownIn ownIn.dst).1 = .out 288 := by decide +kernel

theorem witness_multicastAdmit_offer :
    ans (exec (.multicastAdmit 288 (some (helloIn.hdr, [], [9, 10]))) lit) (fun t => t.sw.waiting.length == 1) = true := by
  decide +kernel

theorem witness_multicastAdmit :
    ((origSt [5]).uplinkTurn 288).1 = some (origOf [5]) ∧ (State.resolveCopies ownIn [5] (origSt [5])).1 = [(5, 288)] ∧
    (origSt [5]).fits 288 4 1 = true := by decide +kernel

theorem witness_mcBlocked :
    let s := (origSt [5]).put (F.SWITCH_EFF_EFF 288 4) 0
    s.due { kind := .multicast, a := 0 } (us 10) = true ∧ s.eff 288 4 < (State.resolveCopies ownIn [5] s).1.length ∧
      ans (exec (.mcBlocked 288) s) (fun t => t.causeBit .SWITCH 0 0 K.SWITCH_MC_BLOCKED) = true := by decide +kernel

/-- A flush of port 3 with one packet of its account and one copy for it. -/
def flushSt : State :=
  ({ linkUpSt with
      sw := { pkts := [bufOf helloIn 3 true none, { bufOf helloIn 288 true none with id := 1, hdrCells := [1] }]
              queue := [⟨2, 1, 3, 4, 0xFFFF, false⟩], nextId := 3 }
      timers := [({ kind := .flush, a := 3 }, 0)] } : State).setPort 3 { flushing := true }

theorem witness_flushComplete : (flushSt.port 3).flushing = true ∧ (∀ e ∈ flushSt.ports, e.2.flushWait = false) ∧
    (∀ c ∈ flushSt.sw.queue, c.sending = false) ∧ flushSt.accountsExist = true ∧
    ans (exec (.flushComplete 3) flushSt) (fun t => t.sw.pkts.isEmpty && t.sw.queue.isEmpty && !(t.port 3).flushing) = true := by
  decide +kernel

theorem witness_flushOverrun : flushSt.due { kind := .flush, a := 3 } (us 12) = true ∧
    ans (exec (.flushOverrun 3) flushSt) (fun t => t.causeBit .SWITCH 0 0 K.SWITCH_FLUSH_OVERRUN) = true := by decide +kernel

theorem witness_poolRequest : poolOk 64 = true ∧ lit.poolFits 64 3 5 = false ∧
    (lit.put (F.POOL_QUOTA_ENTRIES 64 3) 5).poolFits 64 5 3 = true ∧ (lit.pool 64).waits = [] ∧
    ans (exec (.poolRequest 64 3 5 9) lit) (fun t => (t.pool 64).waits == [⟨3, 5, 9⟩] && t.rd64 A.POOL_QUOTA_WAITS == 1) = true := by
  decide +kernel

theorem witness_poolGrant :
    let s := (((lit.setPool 1 { waits := [⟨0, 5, 9⟩] }).wr (A.POOL_SIZE 1) 16).wr (A.POOL_FREE 1) 16).put
      (F.POOL_QUOTA_ENTRIES 1 0) 16
    s.nextRequest 1 = some ⟨0, 5, 9⟩ ∧ s.poolFits 1 5 0 = true := by decide +kernel

theorem witness_poolFree :
    let s := (lit.setPool 64 { owner := [(7, 2)] }).put (F.POOL_USED_ENTRIES 64 2) 1
    Tab.find (s.pool 64).owner 7 = some 2 ∧ Tab.find (s.pool 64).owner 8 = none ∧ 8 < s.rd (A.POOL_SIZE 64) ∧
      ans (exec (.poolFree 64 7 2) s) (fun t => t.rd (A.POOL_FREE 64) == 16385 && t.rd (A.POOL_USED 64 2) == 0) = true ∧
      ans (exec (.poolFree 64 8 2) s) (fun t => t.causeBit .POOL 0 0 K.POOL_POOL_DOUBLE_FREE &&
        t.get F.POOL_DF_ENTRY_ENTRY == 8) = true := by decide +kernel

theorem witness_quotaWrite : lit.grants .consort (A.POOL_QUOTA 64 3) 1 = true ∧
    ans (exec (.quotaWrite .consort 64 3 1) lit) (fun t => t.causeBit .POOL 0 0 K.POOL_QUOTA_OVERCOMMIT) = true := by decide +kernel

theorem witness_poolWalk : 31 < lit.rd (A.POOL_SUB 64) ∧ (lit.pool 64).walkAt + 1 < ((lit.pool 64).sub 0).len 16384 32 0 ∧
    ans (exec (.poolWalk 64 [31]) lit) (fun t => ((t.pool 64).sub 31).relinking && (t.pool 64).walkAt == 1) = true := by decide +kernel

theorem witness_poolRelinkDone :
    let s := lit.setPool 64 { subs := [(1, { fresh := 3, relinking := true })], owner := [(33, 0)] }
    ((s.pool 64).sub 1).relinking = true ∧
      ans (exec (.poolRelinkDone 64 1) s) (fun t => ((t.pool 64).sub 1).front == [1, 65]) = true := by decide +kernel

theorem witness_conservationAudit :
    let s : State := { lit with pow := { released := true, mainRails := true } }
    s.elapsed { kind := .audit, a := 0 } (ms 1) = true ∧ s.pow.mainRails = true ∧ s.sid.released = true ∧
      s.fstate (dom 0 0) ≠ 3 := by decide +kernel

theorem witness_poolFree_cell :
    let s := puts (lit.setPool 0 { owner := [(7, 8 * 3 + 2)] }) [(F.SWITCH_HELD_CELLS 3 2, 1)]
    Tab.find (s.pool 0).owner 7 = some 26 ∧ 7 < s.rd (A.POOL_SIZE 0) ∧ s.held 3 2 = 1 ∧
      ans (exec (.poolFree 0 7 0) s) (fun t => t.held 3 2 == 0) = true := by decide +kernel

theorem witness_poolGrant_turn :
    let s := lit.setPool 64 { waits := [{ req := 0, n := 5, tag := 9 }] }
    (s.slotTurn 64 []).1 = some 4105 := by decide +kernel

/-! ## Paths, shaping, time, discovery -/

theorem witness_pathRemoved :
    let s := lit.setPort 3 { live := true }
    (s.port 3).live = true ∧ s.portLive 3 0 = false ∧
      ans (exec (.pathRemoved 3) s) (fun t => !(t.port 3).live && t.rd64 A.ROUTE_PATH_REMOVALS == 1) = true := by decide +kernel

theorem witness_pathReturn : (linkUpSt.port 4).live = false ∧ linkUpSt.portLive 4 0 = true ∧
    ans (exec (.pathReturn 4) linkUpSt) (fun t => (t.port 4).live && t.rd64 A.ROUTE_PATH_RETURNS == 1) = true := by decide +kernel

theorem witness_bucketEnable : lit.grants .siding (A.SHAPE_RATE 3 1) 0x80000007 = true ∧ lit.bucketOn 3 1 = false ∧
    ans (exec (.bucketEnable .siding 3 1 7) (lit.put (F.SHAPE_BURST_BURST 3 1) 2)) (fun t => t.bucketOn 3 1 &&
      t.bucketLevel 3 1 == 1600) = true := by decide +kernel

theorem test_bucketTick :
    let s := puts lit [(F.SHAPE_RATE_EN 3 1, 1), (F.SHAPE_RATE_RATE 3 1, 900), (F.SHAPE_BURST_BURST 3 1, 1)]
    (s.bucketTick 3 1).bucketLevel 3 1 = 800 ∧ (lit.bucketTick 3 1).bucketLevel 3 1 = 0 := by decide +kernel

theorem witness_bucketRefill :
    let s := (puts lit [(F.SHAPE_RATE_EN 3 1, 1), (F.SHAPE_RATE_RATE 3 1, 500), (F.SHAPE_BURST_BURST 3 1, 1)]).shape 3
    s.sw.refillAt ≠ some s.clk ∧ (s.port 3).shaped = true ∧ s.bucketOn 3 1 = true ∧
      ans (exec .bucketRefill s) (fun t => t.bucketLevel 3 1 == 500 && t.sw.refillAt == some t.clk &&
        ans (exec .bucketRefill t) (fun u => u.bucketLevel 3 1 == 500)) = true := by decide +kernel

/-- Exchanges enabled on port 3, whose LINK is UP and which is the parent. -/
def timeSt (servo : Nat) : State :=
  puts linkUpSt [(F.TIME_PORT_EN_EN 0, 8), (F.TIME_CFG_PARENT_EN, 1), (F.TIME_CFG_PARENT_PORT, 3), (F.TIME_STATE_SERVO, servo)]

theorem witness_timeSyncTx : (timeSt 1).syncOn 3 = true ∧ (timeSt 1).flushBusy 3 = false ∧
    (timeSt 1).elapsed { kind := .sync, a := 3 } (us (timeSt 1).syncUs) = true := by decide +kernel

/-- A management packet of port 3 at the firmware port. -/
def mgmtSt (s : State) (k : Pkt) : State :=
  { s with sw := { pkts := [bufOf k 3 true none], queue := [⟨1, 0, 288, 4, 0xFFFF, false⟩], nextId := 2 } }

/-- A packet taken from the firmware port: its copy and bytes. -/
def mgmtHead (s : State) (k : Pkt) : Bool :=
  s.headFor 288 (fun x => x.op == k.op) == some (⟨1, 0, 288, 4, 0xFFFF, false⟩, k)

theorem witness_timeSync :
    let k := mkPkt false 4 false 0x0101 0xFFFF 7 0 0 0 (mkBody 30 [(0, 2, 5)]) []
    mgmtHead (mgmtSt (timeSt 1) k) k = true ∧ k.op = 0x0101 ∧ (timeSt 1).linkIsUp 3 = true := by decide +kernel

theorem witness_timeReply :
    let k := mkPkt false 4 false 0x0102 0xFFFF 7 0 0 0 (mkBody 30 [(0, 2, 5), (2, 8, 2000), (14, 8, 2000)]) []
    let s := (mgmtSt (timeSt 1) k).setPort 3 { syncSeq := 5, syncT1 := some (0, 0) }
    mgmtHead s k = true ∧ s.timeParent = 3 ∧ s.flag F.TIME_CFG_GM = false ∧ k.num 32 2 = 5 ∧
      s.due { kind := .sync, a := 3 } (us s.syncUs) = false ∧ s.get F.TIME_STEP_LIMIT_NS < 2000 ∧
      ans (exec .timeReply s) (fun t => t.rd A.TIME_OFFSET == 2000 && t.time.ns == 2000 && t.rd64 A.TIME_STEPS == 1) = true ∧
      ans (exec .timeReply (mgmtSt (timeSt 1) k)) (fun t => t.rd64 A.TIME_EXCH_BAD == 1) = true := by decide +kernel

theorem witness_timeExchangeMissed :
    let s0 := (timeSt 2).setPort 3 { syncT1 := some (0, 0) }
    let s : State := { s0 with time := { bad := 3 }, timers := [({ kind := .sync, a := 3 }, 0)] }
    (s.port s.timeParent).syncT1.isSome = true ∧ s.due { kind := .sync, a := 3 } (us s.syncUs) = true ∧
      s.servo = SERVO_LOCKED ∧ ans (exec .timeExchangeMissed s) (fun t => t.servo == SERVO_HOLDOVER) = true := by decide +kernel

theorem witness_timeParentLost :
    let s := (timeSt 2).put (F.PORT_STATE_LINK 3) LINK_DOWN
    s.linkIsUp s.timeParent = false ∧ ans (exec .timeParentLost s) (fun t => t.servo == SERVO_HOLDOVER) = true ∧
      ans (exec .timeParentLost (s.put F.TIME_CFG_BACKUP_EN 1)) (fun t => t.servo == SERVO_ACQUIRE &&
        t.flag F.TIME_STATE_ON_BACKUP) = true := by decide +kernel

theorem witness_timeCommands :
    let s : State := { lit with time := { ns := 2 ^ 40, frac := 9 } }
    s.grants .siding A.TIME_CMD 1 = true ∧ s.grants .siding A.TIME_CMD 2 = true ∧ s.grants .siding A.TIME_CMD 4 = true ∧
      ans (exec (.timeLatch .siding) s) (fun t => t.rd64 A.TIME_LATCH_NS == 2 ^ 40 && t.rd A.TIME_LATCH_FRAC == 9) = true ∧
      ans (exec (.timeSet .siding) s) (fun t => t.time.ns == 0 && t.time.frac == 0) = true ∧
      ans (exec (.timeRestart .siding) s) (fun t => t.servo == SERVO_ACQUIRE) = true := by decide +kernel

theorem witness_ppsMissing :
    let s : State := { (lit.put F.TIME_CFG_PPS_IN_EN 1) with
      clk := 200000000, timers := [({ kind := .ppsIn, a := 0 }, 0)] }
    s.due { kind := .ppsIn, a := 0 } (ms 1100) = true ∧ s.flag F.TIME_CFG_PPS_IN_EN = true ∧
      ans (exec .ppsMissing s) (fun t => t.causeBit .TIME 0 0 K.TIME_PPS_MISSING) = true ∧
      ans (exec .ppsInEdge s) (fun t => t.timer { kind := .ppsIn, a := 0 } == some 200000000) = true := by decide +kernel

theorem witness_ppsOutPulse :
    let s := lit.put F.TIME_CFG_PPS_OUT_EN 1
    s.flag F.TIME_CFG_PPS_OUT_EN = true ∧ s.time.ns % 1000000000 ≤ 10 ∧
      ans (exec .ppsOutPulse s) (fun t => t.time.ppsOut) = true := by decide +kernel

/-- Port 3 with one gate entry of 1 µs in bank 0. -/
def gateSt (running : Bool) : State :=
  let s := puts lit [(F.SHAPE_GATE_CTL_GATE_EN 3, 1), (F.SHAPE_GATE_LEN_LEN0 3, 1), (F.SHAPE_GATE0_DURATION 3 0, 1000),
    (F.SHAPE_SWAP_AT_AT 3, 1500), (F.SHAPE_GATE_CTL_SWAP_PENDING 3, 1)]
  { (s.setPort 3 { gating := true, gateRunning := running }) with time := { ns := 2500 } }

theorem witness_gateEnable :
    let s := (gateSt false).setPort 3 {}
    s.grants .consort (A.SHAPE_GATE_CTL 3) 1 = true ∧ (s.port 3).gating = false ∧ s.gateBankOk 3 (s.gateBank 3) = true ∧
      ans (exec (.gateEnable .consort 3) s) (fun t => (t.port 3).gating) = true ∧
      ans (exec (.gateEnable .consort 4) lit) (fun t => t.causeBit .SHAPE 4 0 K.SHAPE_GATE_INVALID) = true := by decide +kernel

theorem witness_swapAtWrite : lit.grants .siding (A.SHAPE_SWAP_AT 3) 5 = true ∧
    lit.grants .siding (A.SHAPE_SWAP_AT 3 + 4) 6 = true ∧
    ans (exec (.swapAtWrite .siding 3 5 6) lit) (fun t => t.get (F.SHAPE_SWAP_AT_AT 3) == 5 + 2 ^ 32 * 6 &&
      t.flag (F.SHAPE_GATE_CTL_SWAP_PENDING 3)) = true := by decide +kernel

theorem witness_gateBaseReached : (gateSt false).gateActive 3 = true ∧
    ans (exec (.gateBaseReached 3) (gateSt false)) (fun t => (t.port 3).gateRunning && (t.port 3).gateCycle == 2) = true := by
  decide +kernel

theorem witness_gateEntryAdvance : (gateSt true).gateActive 3 = true ∧ ((gateSt true).port 3).gateRunning = true ∧
    ans (exec (.gateEntryAdvance 3) (gateSt true)) (fun t => t.rd64 (A.SHAPE_GATE_CYCLES 3) == 2) = true := by decide +kernel

theorem witness_gateSwap :
    let s := puts (gateSt true) [(F.SHAPE_GATE_LEN_LEN1 3, 1), (F.SHAPE_GATE1_DURATION 3 0, 700)]
    s.gateActive 3 = true ∧ s.gateBankOk 3 1 = true ∧ (gateSt true).gateBankOk 3 1 = false ∧
      ans (exec (.gateSwap 3) s) (fun t => t.gateBank 3 == 1 && t.get (F.SHAPE_GATE_BASE_BASE 3) == 2000) = true ∧
      ans (exec (.gateSwap 3) (gateSt true)) (fun t => t.gateBank 3 == 0 && t.causeBit .SHAPE 3 0 K.SHAPE_GATE_INVALID) = true := by
  decide +kernel

theorem witness_planCommit : lit.grants .siding (A.PORT_PLAN 3 + 12) 2 = true ∧
    ans (exec (.planCommit .siding 3 2) lit) (fun t => t.get (F.PORT_STATE_TOPO 3) == 5 &&
      t.get (F.PORT_TOPO_REASON_REASON 3) == 0xB) = true := by decide +kernel

theorem witness_moduleNumWrite : lit.grants .siding A.TOP_MODULE_NUM 0x80000007 = true := by decide +kernel

theorem witness_helloTx : linkUpSt.linkIsUp 3 = true ∧ linkUpSt.flushBusy 3 = false ∧
    linkUpSt.elapsed { kind := .hello, a := 3 } (us (linkUpSt.helloUs 3)) = true := by decide +kernel

theorem witness_hello : mgmtHead (mgmtSt linkUpSt helloIn) helloIn = true := by decide +kernel

theorem witness_neighbourDead :
    let s : State := { (linkUpSt.put (F.PORT_NB_NODE_VALID 3) 1) with timers := [({ kind := .dead, a := 3 }, 0)] }
    s.flag (F.PORT_NB_NODE_VALID 3) = true ∧ s.due { kind := .dead, a := 3 } (us (s.deadCount 3 * s.helloUs 3)) = true := by
  decide +kernel

theorem witness_absentTimeout :
    let s : State := { (linkUpSt.put (F.PORT_PLAN_CTL_MODE 3) 1) with timers := [({ kind := .absent, a := 3 }, 0)] }
    s.due { kind := .absent, a := 3 } (ms (s.get (F.PORT_DISC_CFG_ABSENT_MS 3))) = true ∧ s.mach (.port 3) ≠ DOWN ∧
      s.flag (F.PORT_NB_NODE_VALID 3) = false ∧ s.get (F.PORT_PLAN_CTL_MODE 3) = MODE_EXPECT := by decide +kernel

/-! ## Collectives -/

/-- A line of two sources at nodes 7 and 8: ROLE, one shard, UPPER_FMT and OUT_FMT FP32; its parent is module 5. -/
def lineOf (role : Nat) (stage : Bool := false) : LineCopy :=
  { group := [BitVec.ofNat 32 (2 * 2 ^ 16 + role * 2 ^ 28 + b2n stage * 2 ^ 31), BitVec.ofNat 32 (2 ^ 16),
      BitVec.ofNat 32 (1 + 2 ^ 16 + 2 ^ 20), 2, 32, 0, 0, 0]
    members := [⟨7, 0, false, 1⟩, ⟨8, 1, false, 1⟩]
    parents := [5] }

/-- Body of a ticket for one chunk of 32 FP32 elements, by operation byte. -/
def tixBody (op member : Nat) : List Byte :=
  let b := mkBody 30 [(2, 2, member), (4, 1, op), (5, 1, 0x11), (8, 4, 32), (16, 2, 32)]
  slice b 0 26 ++ toBytes 4 (bodyHash b)

/-- The ticket packet of source 7 or 8. -/
def tixIn (op node member : Nat) : Pkt := mkPkt false 0 false 0x1001 9 node 0 0 3 (tixBody op member) []

/-- A ticket as an entry keeps it. -/
def tixOf (op j : Nat) (hash : Nat := 0) : Tix :=
  { src := j, tag := 3, hash := hash, below := false, body := tixBody op j, payload := [] }

/-- An entry of line 0 with the tickets of both sources. -/
def entryOf (op : Nat) (st : EState) (up : Nat := 0) : Entry :=
  { line := 0, step := 0, sub := 0, fam := 0, state := st, tix := [tixOf op 0, tixOf op 1], since := 0, resendAt := 0
    upTag := up }

/-- Line 0 UP with entries and chunks, the section of its chunk 0's coach UP. -/
def collSt (y : LineCopy) (es : List Entry) (cs : List Chunk) : State :=
  puts { lit with coll := { copies := [(0, y)], entries := es, chunks := cs } }
    [(Mach.stateFld (.line 0), UP), (Mach.stateFld (.sect 11), UP)]

/-- A packet at the head of station port 256, its section awake. -/
def atPort (s : State) (k : Pkt) : State :=
  puts { s with sw := { pkts := [bufOf k 3 true none], queue := [⟨1, 0, 256, k.tc, k.dst, false⟩], nextId := 2 } }
    [(F.SWITCH_EFF_EFF 256 k.tc, 64), (F.TOP_STATE_SECTION_AWAKE, 1)]

/-- The copy of a packet placed by `atPort`. -/
def portCopy (k : Pkt) : Copy := ⟨1, 0, 256, k.tc, k.dst, false⟩

/-- Chunk 0 of line 0 at its coach. -/
def chunkOf (st : Stage) : Chunk :=
  { key := ⟨0, 0, 0, 0, 0⟩, coach := 376, stage := st, admitted := true, recCells := 2
    slots := List.replicate 32 {} }

theorem witness_ticket :
    let s := atPort (collSt (lineOf 2) [] []) (tixIn 0x50 7 0)
    let k := tixIn 0x50 7 0
    s.headOp 256 0x1001 = some (portCopy k, k) ∧ (s.bufPkt 0).isSome = true ∧
      (s.consume (portCopy k) k).judgeTicket k 0 (fun y _ => ticketFormed y k) = .join 0 ∧ s.entry 0 0 0 0 = none ∧
      ans (exec (.ticket 256) s) (fun t => (t.coll.entries.map fun e => (e.step, e.tix.length)) == [(0, 1)] &&
        t.sw.queue.isEmpty) = true := by decide +kernel

theorem witness_ticket_last :
    let k := tixIn 0x50 8 1
    let e : Entry := { entryOf 0x50 .gathering with tix := [tixOf 0x50 0 (k.num 58 4)] }
    let s := atPort (collSt (lineOf 2) [e] []) k
    s.headOp 256 0x1001 = some (portCopy k, k) ∧
      (s.consume (portCopy k) k).judgeTicket k 0 (fun y _ => ticketFormed y k) = .join 1 ∧ s.entry 0 0 0 0 = some e ∧
      (lineOf 2).isRoot = true ∧
      ans (exec (.ticket 256) s) (fun t => (t.coll.entries.map (·.state)) == [.matched] && t.coll.nextOrder == 1) = true := by
  decide +kernel

theorem witness_ticket_refused :
    let k := tixIn 0x50 6 1
    let s := atPort (collSt (lineOf 2) [] []) k
    (s.consume (portCopy k) k).judgeTicket k 0 (fun y _ => ticketFormed y k) = .refuse 0x11 ∧
      ans (exec (.ticket 256) s) (fun t => t.coll.entries.isEmpty && t.causeBit .COLL 0 0 K.COLL_TICKET_REFUSED) = true := by
  decide +kernel

theorem witness_ticket_dup :
    let k := tixIn 0x50 7 0
    let s := atPort (collSt (lineOf 2) [entryOf 0x50 .matched] []) k
    (s.consume (portCopy k) k).judgeTicket k 0 (fun y _ => ticketFormed y k) = .dup := by decide +kernel

theorem witness_stationTicket :
    let b := mkBody 30 [(4, 1, 9), (5, 1, 0x11), (8, 2, 1), (10, 2, 1), (12, 2, 1)]
    let k0 := mkPkt true 0 false 0x2001 9 7 0 0 3 b [1]
    let k := mkPkt true 0 false 0x2001 9 7 0 0 3 (slice b 0 14 ++ toBytes 4 k0.stationHash ++ toBytes 8 0) [1]
    let s := atPort (puts (collSt (lineOf 2) [] []) [(F.STATION_STATION_LINE_VALID 0, 1), (F.STATION_STATION_LINE_NEXP 0, 1)]) k
    s.headOp 256 0x2001 = some (portCopy k, k) ∧ k.byte 36 % 16 = 9 ∧
      (s.consume (portCopy k) k).judgeTicket k 9 (fun y j => stationTicketFormed y j (some 1) k) = .join 0 ∧
      ans (exec (.stationTicket 256) s) (fun t => t.coll.entries.length == 1) = true := by decide +kernel

theorem witness_entryActivate :
    let s := collSt (lineOf 2) [entryOf 0x50 .matched] []
    s.mach (.line 0) = UP ∧ s.activeCount 0 < 2 ∧ s.nextMatched 0 = some (entryOf 0x50 .matched) ∧
      (entryOf 0x50 .matched).op (lineOf 2) = 0 ∧ (entryOf 0x50 .matched).owned (lineOf 2) = 1 := by decide +kernel

theorem witness_chunkAdmit :
    let e := entryOf 0x50 .active
    let y := lineOf 2
    let k := mkPkt true 1 true 0x1003 9 7 0 0 3 (chunkBody ⟨0, 0, 0, 0, 0⟩ 0 false 0 1) (List.replicate 128 1)
    let s0 := collSt y [e] []
    let s := { s0 with coll := { s0.coll with parked := [⟨0, k, 279, ⟨0, 0, 0, 0, 0⟩, 0⟩] } }
    let ch := s.chunkOr (e.key 0)
    s.entry 0 0 0 0 = some e ∧ e.op y ≠ 6 ∧ e.owns y 0 = true ∧ e.ended y 0 = false ∧ e.fromAbove y 0 = false ∧
      ch.stage = .opening ∧ s.coachOpen ch.coach = true ∧ s.chunkHere e y ch.key = true ∧
      e.len y 0 ≤ s.rd (A.POOL_QUOTA (s.slotPool ch.coach) 0) ∧ recordCells y (e.len y 0) = 2 ∧
      s.chunkFits ch.coach (e.len y 0) 2 (e.slabCount y) = true ∧
      (s.chunkTurn ch (s.slotPool ch.coach) (e.len y 0)).isSome = true ∧
      (let u := s.wr (A.POOL_FREE (s.slotPool ch.coach)) 1
       u.chunkFits ch.coach (e.len y 0) 2 (e.slabCount y) = false ∧
         ans (exec (.chunkAdmit 0 0 0 0) u) (fun t => t.rd64 A.POOL_QUOTA_WAITS == 1 &&
           t.coll.chunks.map (fun c => (c.waited, c.asks)) == [(true, 32)]) = true) := by decide +kernel

theorem witness_entryActivate_above :
    let y : LineCopy := { lineOf 0 with members := [⟨7, 1, false, 1⟩, ⟨8, 2, false, 1⟩] }
    let e := { entryOf 5 .matched 2 with tix := [tixOf 5 0, tixOf 5 1] }
    let s := collSt y [e] []
    s.nextMatched 0 = some e ∧ y.isRoot = false ∧ e.op y = 5 ∧ e.owned y = 1 ∧ e.fromAbove y (y.ownChunk 0) = true ∧
      ans (exec (.entryActivate 0) s) (fun t => t.coll.chunks.map (fun c => (c.key, c.stage)) == [(⟨0, 0, 0, 0, 0⟩, .up)]) = true := by decide +kernel

theorem witness_timetable :
    let k := mkPkt true 0 true 0x1002 9 7 0 0 3 (chunkBody ⟨0, 0, 0, 0, 0⟩ 0 false 0 1) (toBytes 2 5)
    let s := atPort (collSt (lineOf 2) [entryOf 0 .active] [{ chunkOf .anchor with tt := [(1, [9])] }]) k
    s.headOp 256 0x1002 = some (portCopy k, k) ∧ s.judgeTt k = .take 0 ∧
      ans (exec (.timetable 256) s) (fun t => t.coll.chunks.map (fun c => (c.stage, c.anchors)) == [(.combine, some [9])]) = true := by
  decide +kernel

/-- The contribution of source 7 to chunk 0: 32 FP32 elements. -/
def contribIn : Pkt :=
  mkPkt true 1 true 0x1003 9 7 0 0 3 (chunkBody ⟨0, 0, 0, 0, 0⟩ 0 false 0 1) ((List.range 32).flatMap fun _ => toBytes 4 0x3F800000)

theorem witness_contribution :
    let s := atPort (collSt (lineOf 2) [entryOf 0x50 .active] [chunkOf .combine]) contribIn
    s.headOp 256 0x1003 = some (portCopy contribIn, contribIn) ∧ s.judgeData contribIn = .take 0 ∧
      s.fits 256 contribIn.tc contribIn.cost = true ∧
      ans (exec (.contribution 256) s) (fun t => t.coll.adding.length == 1 && t.coll.chunks.map (·.arrived) == [[(0, 0)]]) = true := by
  decide +kernel

theorem witness_contribution_staging :
    let s := atPort (collSt (lineOf 2 true) [entryOf 0x50 .active] [chunkOf .combine]) contribIn
    (lineOf 2 true).staging = true ∧ s.judgeData contribIn = .take 0 ∧
      ans (exec (.contribution 256) s) (fun t => t.coll.adding.isEmpty &&
        t.coll.chunks.map (fun c => c.landed.length) == [1]) = true := by decide +kernel

theorem witness_stationTakeover :
    let s := atPort (collSt (lineOf 2) [] []) contribIn
    s.asleep 256 = false ∧ s.head 256 1 = some (portCopy contribIn) ∧ contribIn.op = 0x1003 ∧ s.judgeData contribIn = .park ∧
      s.parkedCells 256 contribIn.tc + contribIn.cost ≤ s.eff 256 contribIn.tc / 2 ∧
      ans (exec (.stationTakeover 256 1) s) (fun t => t.sw.queue.isEmpty && t.coll.parked.length == 1) = true := by decide +kernel

/-- A contribution parked or taken over. -/
def parkedIn : Parked := ⟨0, contribIn, 279, ⟨0, 0, 0, 0, 0⟩, 0⟩

theorem witness_platformRelease :
    let s0 := collSt (lineOf 2) [entryOf 0x50 .active] [chunkOf .combine]
    let s : State := { s0 with coll := { s0.coll with parked := [parkedIn] } }
    s.coll.parked.find? (fun x => x.port = 279 && s.releasable x) = some parkedIn ∧ s.judgeData parkedIn.pkt = .take 0 ∧
      ans (exec (.platformRelease 279) s) (fun t => t.coll.parked.isEmpty && t.coll.adding == [parkedIn]) = true := by decide +kernel

theorem witness_platformExpiry :
    let s0 := collSt (lineOf 2) [] []
    let s : State := { s0 with coll := { s0.coll with parked := [parkedIn] }, sw := { pkts := [bufOf contribIn 279 true none] } }
    s.entryOf parkedIn.key = none ∧ parkedIn.at_ + s.chunkTime 0 ≤ s.clk ∧
      ans (exec (.platformExpiry 0 0 0 0 0) s) (fun t => t.coll.parked.isEmpty && t.sw.pkts.isEmpty) = true := by decide +kernel

theorem witness_contributionAdd :
    let s0 := collSt (lineOf 2) [entryOf 0x50 .active] [chunkOf .combine]
    let s : State := { s0 with coll := { s0.coll with adding := [parkedIn] } }
    (s.unitTurn 376).map (·.1) = some parkedIn ∧
      s.coachServes (s.physCoach 376) = true ∧ s.chunk parkedIn.key = some (chunkOf .combine) ∧
      (s.line 0).findSource 7 0 false = some 0 ∧ (entryOf 0x50 .active).usesTt (s.line 0) = false ∧
      ans (exec (.contributionAdd 376) s) (fun t => t.coll.adding.isEmpty &&
        t.coll.chunks.all fun c => c.slots.all fun x => x.acc == 0x3F800000) = true := by decide +kernel

/-- Chunk 0 with both contributions arrived. -/
def fullChunk : Chunk := { chunkOf .combine with arrived := [(0, 0), (1, 0)] }

theorem witness_stagingScan :
    let ch := { fullChunk with landed := [(0, 0, 1)], slabs := [0] }
    let s := puts (collSt (lineOf 2 true) [entryOf 0x50 .active] [ch])
      ((F.WINDOW_SPACE_SIZE_SIZE SP_STAGE, 4096) :: (List.range 8).map fun n => (Mach.stateFld (.stack n), UP))
    s.openChunk 0 0 0 0 = some (entryOf 0x50 .active, lineOf 2 true, ch) ∧ s.sumReady ch (entryOf 0x50 .active) (lineOf 2 true) = true ∧
      s.coachServes (s.physCoach ch.coach) = true ∧ s.stacksServe = true ∧ (s.unitServes ch.coach ⟨0, 1, 2⟩).isSome = true ∧
      (s.readLanded (entryOf 0x50 .active) (lineOf 2 true) ch).1.isSome = true ∧
      ans (exec (.stagingScan 0 0 0 0) s) (fun t => t.coll.chunks.all fun c => c.landed.isEmpty) = true := by decide +kernel

theorem witness_chunkSendUp :
    let e := entryOf 0x50 .active 2
    let s := collSt (lineOf 0) [e] [fullChunk]
    s.openChunk 0 0 0 0 = some (e, lineOf 0, fullChunk) ∧ (lineOf 0).isRoot = false ∧ (s.sumDone fullChunk e (lineOf 0)).isSome = true := by
  decide +kernel

theorem witness_chunkRound :
    let e := entryOf 0x50 .active
    let s := collSt (lineOf 2) [e] [fullChunk]
    s.openChunk 0 0 0 0 = some (e, lineOf 2, fullChunk) ∧ (lineOf 2).isRoot = true ∧ (s.sumDone fullChunk e (lineOf 2)).isSome = true ∧
      e.op (lineOf 2) ≠ 8 := by decide +kernel

/-- A step of tensor 5 in progress on line 0. -/
def shardOf (rw7 step : Nat) : Shard :=
  { line := 0, local_ := false, step := step, sub := 0, tensor := 5, tw := [0, 0, 0, 0, 0, 0, 0, 0]
    rw := [0, 0, 0, 0, 0, 0, 1, BitVec.ofNat 32 rw7], hp := [0, 0, 0, 0], live := 0, commits := 0, seed := 0, flags := 0, held := 0
    firstHeld := none, chunksOk := 0, chunks := 1, closed := false, next := 0 }

theorem witness_chunkRound_update :
    let e := { entryOf 8 .active with tix := [tixOf 8 0, tixOf 8 1] }
    let ch := { fullChunk with tt := [(0, [9]), (1, [9])], anchors := some [9] }
    let s0 := collSt (lineOf 2) [e] [ch]
    let s : State := { s0 with upd := { shards := [shardOf 0 0] } }
    s.openChunk 0 0 0 0 = some (e, lineOf 2, ch) ∧ (s.sumDone ch e (lineOf 2)).isSome = true ∧ e.op (lineOf 2) = 8 ∧
      s.shardOf 0 0 0 = some (shardOf 0 0) ∧ frozen (shardOf 0 0).tw = false ∧
      ans (exec (.chunkRound 0 0 0 0) s) (fun t => t.coll.chunks.map (·.stage) == [.apply]) = true := by decide +kernel

/-- A refresh of tile 0 of tensor 5 for bank 0. -/
def refreshOf (done : Bool) : Refresh :=
  { tensor := 5, tile := 0, bank := 0, coach := 376, tw := [], rw := [], recs := 0, step := 3, placed := true, done := done }

/-- Chunk 0 in APPLY, every stack and the section of its coach UP. -/
def applySt (rw7 step : Nat) (wait : Bool) (slots : Nat) : State :=
  let e := { entryOf 8 .active with step := step, tix := [tixOf 8 0, tixOf 8 1] }
  let ch := { chunkOf .apply with key := ⟨0, step, 0, 0, 0⟩, applyWait := wait, slots := List.replicate slots {} }
  let s0 := collSt (lineOf 2) [e] [ch]
  puts { s0 with upd := { shards := [shardOf rw7 step], refreshes := [refreshOf false] } }
    ((List.range 8).map fun n => (Mach.stateFld (.stack n), UP))

theorem witness_updateApply_wait :
    let s := applySt 6 2 false 32
    (shardOf 6 2).period = 2 ∧ s.refreshWait (shardOf 6 2) 0 = true ∧ (s.shardOf 0 2 0) = some (shardOf 6 2) ∧
      (∀ ch ∈ s.coll.chunks, s.pipeServes ch (shardOf 6 2) = true ∧ ch.stage = .apply) ∧
      ans (exec (.updateApply 0 2 0 0) s) (fun t => t.coll.chunks.all (·.applyWait) &&
        t.rd64 A.UPDATE_PRECOND_WAITS == 1) = true := by decide +kernel

theorem witness_updateApply :
    (∀ ch ∈ (applySt 0 0 false 0).coll.chunks, (applySt 0 0 false 0).pipeServes ch (shardOf 0 0) = true) ∧
      (applySt 0 0 false 0).refreshWait (shardOf 0 0) 0 = false ∧ ((applySt 0 0 false 0).applyPlain (shardOf 0 0) 0 0 []).lost = none ∧
      ans (exec (.updateApply 0 0 0 0) (applySt 0 0 false 0)) (fun t => t.coll.chunks.map (·.stage) == [.emit]) = true := by decide +kernel

theorem witness_precondReady :
    let s := applySt 6 0 true 32
    ruleKind (shardOf 6 0).rw = 3 ∧ s.refreshWait (shardOf 6 0) 0 = false ∧
      (∀ ch ∈ s.coll.chunks, s.pipeServes ch (shardOf 6 0) = true ∧ ch.applyWait = true) ∧
      ans (exec (.precondReady 0 0 0 0) s) (fun t => t.coll.chunks.map (fun c => (c.stage, c.products)) == [(.apply, 1)] &&
        (t.coach (s.physCoach 376)).queues.map (fun r => (r.queue, r.home)) == [(1, 376)]) = true := by decide +kernel

theorem witness_updateApply_products :
    let s := applySt 6 0 false 32
    (∀ ch ∈ s.coll.chunks, s.pipeServes ch (shardOf 6 0) = true ∧ ch.products = 0 ∧ ch.applyWait = false) ∧
      ans (exec (.updateApply 0 0 0 0) s) (fun t =>
        (t.coach (s.physCoach 376)).queues.map (·.job) == [.products 0 0 0 0]) = true := by decide +kernel

/-- A held result packet of block 0. -/
def heldOf (emitted : Bool) : HeldPkt :=
  { pkt := mkPkt true 3 true 0x1004 0xFFFF 5 0 0 0 (chunkBody ⟨0, 0, 0, 0, 0⟩ 0 false 0 1) (List.replicate 128 0)
    buf := none, emitted := emitted }

/-- Chunk 0 with its result held. -/
def heldChunk (emitted : Bool) : Chunk := { chunkOf .emit with held := [heldOf emitted] }

theorem witness_resultEmit :
    let e := entryOf 0x50 .active
    let s := collSt (lineOf 2) [e] [heldChunk false]
    s.openChunk 0 0 0 0 = some (e, lineOf 2, heldChunk false) ∧ (heldChunk false).nextEmit = some (heldOf false) ∧
      s.coachServes (s.physCoach 376) = true ∧ e.recipients (lineOf 2) 0 = [0, 1] ∧
      ans (exec (.resultEmit 0 0 0 0 false) s) (fun t => t.sw.waiting.map (·.dsts) == [[7, 8]] &&
        t.coll.chunks.map (·.stage) == [.hold]) = true := by decide +kernel

/-- A CONTROL packet about chunk 0 of line 0. -/
def ctlIn (op src tag : Nat) (fs : List (Nat × Nat × Nat)) : Pkt := mkPkt false 2 false op 9 src 0 0 tag (mkBody 30 fs) []

theorem witness_result :
    let e := entryOf 0x50 .active 2
    let k := (heldOf false).pkt
    let s := atPort (collSt (lineOf 0) [e] []) k
    s.headFor 256 (fun x => x.op == 0x1004 || x.op == 0x3001) = some (portCopy k, k) ∧ k.src ≠ s.node ∧
      s.entryOf k.chunkKey = some e ∧ e.owns (lineOf 0) 0 = true ∧ k.src = (lineOf 0).parentOf 0 ∧
      s.fits 256 k.tc k.cost = true ∧ s.coachRefuses k = false ∧
      ans (exec (.result 256) s) (fun t => t.coll.chunks.map (fun c => (c.stage, c.held.length)) == [(.emit, 1)] &&
        t.sw.queue.isEmpty) = true := by decide +kernel

theorem witness_resultAck :
    let e := entryOf 0x50 .active
    let k := ctlIn 0x1007 7 3 []
    let s := atPort (collSt (lineOf 2) [e] [heldChunk true]) k
    s.headOp 256 0x1007 = some (portCopy k, k) ∧ s.openChunk 0 0 0 0 = some (e, lineOf 2, heldChunk true) ∧
      (e.recipients (lineOf 2) 0).find? (fun i => ((lineOf 2).source i).node = k.src ∧ ((lineOf 2).source i).member = k.member) =
        some 0 ∧
      ans (exec (.resultAck 256) s) (fun t => t.coll.chunks.map (·.acked) == [[0]]) = true := by decide +kernel

theorem witness_resultReq :
    let e := entryOf 0x50 .active
    let k := ctlIn 0x1008 7 3 [(10, 2, 1)]
    let s := atPort (collSt (lineOf 2) [e] [heldChunk true]) k
    s.headOp 256 0x1008 = some (portCopy k, k) ∧ (collSt (lineOf 2) [e] []).openChunk 0 0 0 0 = none ∧
      (heldChunk true).held.filter (fun x => decide (x.pkt.blk < k.blk + k.nblk ∧ k.blk < x.pkt.blk + x.pkt.nblk)) = [heldOf true] := by
  decide +kernel

theorem witness_resultResendTimer :
    let e := entryOf 0x50 .active
    let s := collSt (lineOf 2) [e] [heldChunk true]
    s.openChunk 0 0 0 0 = some (e, lineOf 2, heldChunk true) ∧ (heldChunk true).heldWhole e (lineOf 2) = true ∧
      (heldChunk true).emitAt + s.resendTime ≤ s.clk := by decide +kernel

theorem witness_done :
    let e := entryOf 0x50 .active 2
    let k (st : Nat) := ctlIn 0x1005 5 2 [(4, 1, st)]
    let s (st : Nat) := atPort (collSt (lineOf 0) [e] [heldChunk true]) (k st)
    (s 0).headOp 256 0x1005 = some (portCopy (k 0), k 0) ∧ (k 0).src ≠ ((s 0).consume (portCopy (k 0)) (k 0)).node ∧
      (s 0).childEntry 0 5 2 = some e ∧ (k 0).num 36 1 = 0 ∧ (heldChunk true).endsWith e (lineOf 0) 0 = false ∧ (k 0x11).num 36 1 = 0x11 ∧ e.owns (lineOf 0) 0 = true ∧
      ans (exec (.done 256) (s 0)) (fun t => t.coll.chunks.map (·.parentDone) == [some (k 0)]) = true := by decide +kernel

theorem witness_done_collective :
    let e := entryOf 0x50 .active 2
    let s := atPort (collSt (lineOf 0) [e] []) (ctlIn 0x1005 5 2 [(4, 1, 0x12)])
    s.childEntry 0 5 2 = some e := by decide +kernel

theorem witness_abortUp :
    let e := entryOf 0x50 .active
    let y : LineCopy := { lineOf 2 with members := [⟨7, 0, true, 1⟩, ⟨8, 1, true, 1⟩] }
    let k := ctlIn 0x1009 7 3 []
    let s := atPort (collSt y [e] []) k
    s.headOp 256 0x1009 = some (portCopy k, k) ∧
      (s.line 0).sources.find? (fun i => ((s.line 0).source i).node = k.src && ((s.line 0).source i).isLine) = some 0 ∧
      ((s.lineEntries 0).filter fun x => x.step = k.step && x.sub = k.sub).find? (fun x => x.tagOf 0 = k.tag) = some e := by decide +kernel

theorem witness_chunkTimerExpiry :
    let e := entryOf 0x50 .active
    let s := collSt (lineOf 2) [e] []
    s.entry 0 0 0 0 = some e ∧ (s.expiredChunks e (s.line 0)).length = 1 ∧
      (collSt (lineOf 2) [entryOf 0x50 .gathering] []).chunkTime 0 ≤ 100000000 := by decide +kernel

theorem witness_resendReq :
    let e := entryOf 0x50 .active 2
    let k := ctlIn 0x1006 5 2 [(4, 1, 1)]
    let s := atPort (collSt (lineOf 0) [e] []) k
    s.headOp 256 0x1006 = some (portCopy k, k) ∧ k.src ≠ (s.consume (portCopy k) k).node ∧ k.byte 36 = 1 ∧
      ((s.lineEntries 0).filter fun x => x.step = k.step && x.sub = k.byte 40 && x.upTag ≠ 0 &&
        (k.tag = 0 || x.upTag = k.tag) && (s.line 0).parentNodes.contains k.src) = [e] := by decide +kernel

theorem witness_resendTimer :
    let e := { entryOf 0x50 .gathering with tix := [tixOf 0x50 0] }
    let s := collSt (lineOf 2) [e] []
    s.entry 0 0 0 0 = some e ∧ e.resendAt + s.resendTime ≤ s.clk := by decide +kernel

theorem witness_lineHang :
    let s := collSt (lineOf 2) [{ entryOf 0x50 .matched with readyAt := some 0 }] []
    s.mach (.line 0) = UP ∧ s.lineStuck 0 (us (max 1 (s.get F.COLL_WATCHDOG_WATCHDOG_US))) = true ∧
      ans (exec (.lineHang 0) s) (fun t => t.causeBit .COLL 0 0 K.COLL_LINE_HANG && t.fenced (dom 4 0)) = true := by decide +kernel

theorem test_endedMemoryExpiry :
    let s := { collSt (lineOf 2) [] [] with coll := { ended := [⟨0, 1, 0, 0, [0], 0⟩, ⟨1, 1, 0, 0, [0], 0⟩] } }
    ans (exec (.endedMemoryExpiry 0) s) (fun t => t.coll.ended.map (·.line) == [1]) = true := by decide +kernel

theorem witness_withdraw :
    let e := entryOf 0x50 .active 2
    let k := ctlIn 0x100A 5 2 []
    let s := atPort (collSt (lineOf 0) [e] []) k
    s.headOp 256 0x100A = some (portCopy k, k) ∧ k.src ≠ (s.consume (portCopy k) k).node ∧ s.entryOf k.chunkKey = some e ∧
      (lineOf 0).isRoot = false ∧ (lineOf 0).shardCount = 1 ∧ k.src = (lineOf 0).parentOf k.chunk ∧ e.owns (lineOf 0) k.chunk = true := by
  decide +kernel

theorem witness_storeScrub :
    let e := entryOf 0x50 .active 2
    let s := collSt (lineOf 0) [e] [chunkOf .combine]
    s.elapsed { kind := .scrub, a := 11, b := 24 } (ms 1) = true ∧ s.openChunk 0 0 0 0 = some (e, lineOf 0, chunkOf .combine) ∧
      s.physCoach 376 = 64 * 11 + 24 ∧ e.owns (lineOf 0) 0 = true := by decide +kernel

theorem witness_resultEmit_bad :
    let e := entryOf 0x50 .active
    let s := collSt (lineOf 2) [e] [heldChunk false]
    s.coachExists 376 = true ∧ e.ended (lineOf 2) 0 = false ∧ (heldChunk false).nextEmit = some (heldOf false) := by decide +kernel

theorem witness_resendTimer_open :
    let e := entryOf 0x50 .active
    let s := collSt (lineOf 2) [e] [{ chunkOf .combine with firstAt := some 0 }]
    s.entry 0 0 0 0 = some e ∧ (e.ticket (s.line 0).refSrc).isSome = true ∧
      ((s.chunksLeft e (s.line 0)).filter s.askDue).length = 1 := by decide +kernel

theorem witness_storeScrub_others :
    let e := entryOf 0x50 .active 2
    let s := collSt (lineOf 0) [e] [{ chunkOf .combine with ackedUp := true }]
    s.severity 352 ≠ 0 ∧ (s.openChunk 0 0 0 0).isSome = true ∧
      ans (exec (.storeScrub 11 24 (2, [(0, 0, 0, 0)])) s) (fun t => t.coll.chunks.length == 1) = true := by
  decide +kernel

theorem witness_resultReq_bad :
    let e := entryOf 0x50 .active
    let k := ctlIn 0x1008 7 3 [(10, 2, 1)]
    let s := atPort (collSt (lineOf 2) [e] [heldChunk true]) k
    e.ended (lineOf 2) 0 = false ∧ (s.consume (portCopy k) k).coachExists 376 = true ∧
      ans (exec (.resultReq (256, some 0)) s) (fun t => t.openChunk 0 0 0 0 == none) = true := by decide +kernel

theorem witness_resultEmit_acked :
    let e := entryOf 0x50 .active
    let ch := { heldChunk false with acked := [0, 1] }
    let s := collSt (lineOf 2) [e] [ch]
    ch.nextEmit = some (heldOf false) ∧ e.ended (lineOf 2) 0 = false ∧ (∀ j ∈ e.recipients (lineOf 2) 0, j ∈ ch.acked) ∧
      { ch with held := [heldOf true] }.heldWhole e (lineOf 2) = true ∧
      ans (exec (.resultEmit 0 0 0 0 false) s) (fun t => t.openChunk 0 0 0 0 == none) = true := by decide +kernel

/-! ## Cores, coaches and sections -/

/-- Section 0 UP and awake, every stack UP, coach 0's run queue 2 with one run. -/
def runOf (count : Nat) : Run :=
  { queue := 2, list := 0, count := count, record := 0, core := 0, coachWide := false, seed := 0, step := 0, tag := 7 }
def secSt (h : CoachHid) : State :=
  puts { lit with coaches := [(0, h)] } ([(Mach.stateFld (.sect 0), UP), (F.TOP_STATE_SECTION_AWAKE, 1),
    (F.SECTION_STATE_AWAKE 0, 1)] ++ (List.range 8).map fun n => (Mach.stateFld (.stack n), UP))

theorem witness_runSubmit : (match (secSt {}).busCheck .consort (A.COACH_RUN_SUBMIT 0 0 + 44) 32 1 true with
      | .target l => l.blk == .COACH && l.w == 11 && l.reg.words == 12 | _ => false) = true ∧
    (secSt {}).fstate (dom 2 0) = 0 ∧ (secSt {}).mach (.sect 0) = UP ∧
    ans (exec (.runSubmit .consort 0 0 1) (secSt {})) (fun t => (t.coach 0).queues.length == 1) = true ∧
    ans (exec (.runSubmit .consort 0 0 1) (secSt { queues := List.replicate 16 (runOf 1) })) (fun t =>
      (t.coach 0).queues.length == 16 && t.causeBit .COACH 0 0 K.COACH_RUNQ_FULL) = true := by decide +kernel

theorem witness_runStart :
    let s := secSt { queues := [runOf 1] }
    s.awake 0 = true ∧ s.coachServes 0 = true ∧ s.flag (F.SECTION_SUBST_STATE_PENDING 0) = false ∧
      (s.coach 0).headRun 2 = some (runOf 1) ∧ (s.coach 0).coresFree (runOf 1) = true ∧ (s.coach 0).headRun 1 = none ∧
      ans (exec (.runStart 0 0) s) (fun t => (t.coach 0).running == [(runOf 1).start] && (t.coach 0).queues.isEmpty) = true := by
  decide +kernel

theorem witness_descriptorIssue :
    let x := (runOf 1).start
    let s := (secSt { running := [x] }).wr (A.WINDOW_SPACE_SIZE 0) 1
    ((secSt {}).readFabric 0 64).1 = none ∧ s.stacksServe = true ∧ s.fenced (dom 2 0) = false ∧ (s.readFabric 0 64).1 = some (List.replicate 64 0) ∧
      (readDesc (List.replicate 64 0)).refused = true ∧
      ans (exec (.descriptorIssue 0 0 0 0) s) (fun t => (t.coach 0).running.map (·.ending) == [some (2, 0)]) = true := by decide +kernel

/-- A CVT of one FP32 element at 0 to 16, in memory at 0. -/
def cvtBytes : List Byte :=
  toBytes 4 (0x0C + 0x0 * 2 ^ 8 + 1 * 2 ^ 16 + 1 * 2 ^ 24) ++ toBytes 4 0 ++ toBytes 4 1 ++ toBytes 4 0 ++ toBytes 4 0 ++
    toBytes 4 16 ++ toBytes 40 0

theorem witness_descriptorIssue_executed :
    (readDesc cvtBytes).refused = false ∧ (readDesc cvtBytes).opc = 0x0C ∧
      ((({} : CoachHid).execute (readDesc cvtBytes) 0 0 fun j => Config.free (0 + j)).map fun o => o.writes) =
        some [(16, [0, 0, 0, 0])] := by decide +kernel

theorem witness_runComplete :
    let x : Running := { (runOf 1).start with pc := 1 }
    let s := secSt { running := [x] }
    (s.coach 0).running[0]? = some x ∧ x.ending = none ∧ x.run.count ≤ x.pc ∧
      ans (exec (.runComplete 0 0 0) s) (fun t => (t.coach 0).running.isEmpty && (t.coach 0).signals == [(2, 7, 0)] &&
        t.get (F.COACH_LAST_FW_TAG_TAG 0 0) == 7) = true := by decide +kernel

theorem witness_seqHang :
    let s := { secSt { running := [(runOf 1).start] } with timers := [((runOf 1).watch 0, 0)] }
    (s.coach 0).running[0]? = some (runOf 1).start ∧ s.awake 0 = true ∧ s.fenced (dom 2 0) = false ∧
      s.due ((runOf 1).watch 0) (us (max 1 (s.get (F.COACH_SEQ_CFG_WATCHDOG_US 0 0))) + 5) = true ∧
      ans (exec (.seqHang (0, 0) (0, 5)) s) (fun t => t.causeBit .COACH 0 0 K.COACH_SEQ_HANG && t.fenced (dom 2 0)) = true := by decide +kernel

theorem witness_sliverScrub : (secSt {}).elapsed { kind := .sliverScrub, a := 0 } (ms 10) = true ∧
    ans (exec (.sliverScrub 0 0 [(5, 3, 0)] []) (secSt {})) (fun t => (t.coach 0).gran 5 == .poisoned &&
      t.causeBit .COACH 0 0 K.COACH_MEM_ERROR) = true ∧
    ans (exec (.sliverScrub 0 0 [(5, 1, 0)] [(6, 1)]) (secSt {})) (fun t => (t.coach 0).gran 5 == .good &&
      (t.coach 0).gran 6 == .poisoned) = true := by decide +kernel

theorem witness_subst : (secSt {}).grants .consort (A.SECTION_CMD 0) (BitVec.ofNat 32 (3 + 2 ^ 8)) = true ∧
    (secSt {}).spareInUse 0 = false ∧
    ans (exec (.subst .consort 0 3) (secSt {})) (fun t => t.flag (F.SECTION_SUBST_STATE_PENDING 0) &&
      t.get (F.SECTION_SUBST_STATE_LOGICAL 0) == 3) = true := by decide +kernel

/-- Logical coach 3 of section 0 on the spare. -/
def spareSt : State := (secSt {}).put (F.SECTION_REMAP_PHYS 0 3) 32

theorem witness_returnCoach : spareSt.grants .consort (A.SECTION_CMD 0) (BitVec.ofNat 32 (3 + 2 ^ 9 + 3 * 2 ^ 16)) = true ∧
    (∀ j, j < 32 → spareSt.get (F.SECTION_REMAP_PHYS 0 j) ≠ 3) ∧ spareSt.get (F.COACH_STATE_MACHINE 0 3) = DOWN ∧
    spareSt.fstate (dom 2 3) = 0 ∧
    ans (exec (.returnCoach .consort 0 3 3) spareSt) (fun t => t.flag (F.SECTION_SUBST_STATE_PENDING 0)) = true ∧
    ans (exec (.returnCoach .consort 0 3 3) (secSt {})) (fun t => t.causeBit .SECTION 0 0 K.SECTION_REMAP_REFUSED) = true := by
  decide +kernel

/-- A substitution of logical coach 3, or its return, pending. -/
def pendSt (ret : Nat) : State :=
  { puts (if ret = 0 then secSt {} else spareSt) [(F.SECTION_SUBST_STATE_PENDING 0, 1), (F.SECTION_SUBST_STATE_LOGICAL 0, 3),
      (F.SECTION_SUBST_STATE_RETURNING 0, ret), (F.SECTION_SUBST_STATE_PHYS 0, 3)] with
    timers := [({ kind := .substLimit, a := 0 }, 0)] }

theorem witness_substRemap : (pendSt 0).logicalFree 0 3 = true ∧ (pendSt 0).get (F.SECTION_REMAP_PHYS 0 3) = 3 ∧
    (pendSt 0).flag (F.SECTION_SUBST_STATE_RETURNING 0) = false := by decide +kernel

theorem witness_returnRemap : (pendSt 1).logicalFree 0 3 = true ∧ (pendSt 1).flag (F.SECTION_SUBST_STATE_PENDING 0) = true ∧
    (pendSt 1).flag (F.SECTION_SUBST_STATE_RETURNING 0) = true := by decide +kernel

theorem witness_substTimeout : (pendSt 1).due { kind := .substLimit, a := 0 } ((pendSt 1).substTime 0) = true ∧
    ans (exec (.substTimeout 0) (pendSt 1)) (fun t => t.get (F.SECTION_REMAP_PHYS 0 3) == 32 &&
      !t.flag (F.SECTION_SUBST_STATE_PENDING 0) && t.causeBit .SECTION 0 0 K.SECTION_SUBST_TIMEOUT) = true := by decide +kernel

theorem witness_remapWrite : lit.mach (.sect 0) = DOWN ∧ lit.grants .consort (A.SECTION_REMAP 0 3) 32 = true ∧
    ans (exec (.remapWrite .consort 0 3 32) lit) (fun t => t.get (F.SECTION_REMAP_PHYS 0 3) == 32 &&
      t.flag (F.SECTION_STATE_SPARE_IN_USE 0)) = true ∧
    ans (exec (.remapWrite .consort 0 3 32) (secSt {})) (fun t => t.causeBit .SECTION 0 0 K.SECTION_REMAP_REFUSED) = true := by
  decide +kernel

theorem witness_sectionClockGate :
    let s : State := { secSt {} with timers := [({ kind := .idle, a := 0 }, 0)] }
    s.awake 0 = true ∧ s.elapsed { kind := .sectionAccess, a := 0 } (us 1) = true ∧
    s.due { kind := .idle, a := 0 } (us (max 1 (s.get (F.SECTION_CFG_IDLE_US 0)))) = true ∧
    s.sectionBusy 0 = false ∧ ans (exec (.sectionClockGate 0) s) (fun t => !t.awake 0) = true := by decide +kernel

theorem witness_sectionWake :
    let s := puts (secSt { queues := [runOf 1] }) [(F.TOP_STATE_SECTION_AWAKE, 0), (F.POWER_FREE_TOKENS, 100), (F.POWER_REC_STATE_HELD 0, 3)]
    s.sectionBusy 0 = true ∧ s.fenced (dom 1 0) = false ∧ s.tokens 0 ≤ 28 ∧ 28 - s.tokens 0 ≤ s.freeTokens ∧
      ans (exec (.sectionWake 0) s) (fun t => t.awake 0 && t.tokens 0 == 28 && t.freeTokens == 75) = true := by decide +kernel

/-- A run of the update engine for the products of chunk 0 of line 0, ended. -/
def productsRun (st : Nat) : Running :=
  { Run.start { runOf 1 with queue := 1, job := .products 0 0 0 0, home := 376 } with ending := some (st, 0) }

theorem witness_runComplete_products :
    let s (st : Nat) : State := { secSt { running := [productsRun st] } with
      coll := { chunks := [{ chunkOf .apply with products := 1 }] } }
    ((s 0).coach 0).running[0]? = some (productsRun 0) ∧ (s 0).stn.endings = [] ∧ (s 0).stacksServe = true ∧
      ans (exec (.runComplete 0 0 0) (s 0)) (fun t => t.coll.chunks.map (·.products) == [2]) = true ∧ endedEarly 4 = true ∧
      ans (exec (.runComplete 0 0 0) (s 4)) (fun t => t.coll.chunks.map (·.products) == [0]) = true := by decide +kernel

/-! ## Update engine and stations -/

/-- Every stack UP, the five spaces one unit each, and station and update state. -/
def updSt (u : Update) (st : Stations) : State :=
  puts { lit with upd := u, stn := st } ((List.range 8).map (fun n => (Mach.stateFld (.stack n), UP)) ++
    [(⟨A.WINDOW_SPACE_SIZE 0, 0, 32⟩, 1), (⟨A.WINDOW_SPACE_SIZE 1, 0, 32⟩, 1), (⟨A.WINDOW_SPACE_BASE 1, 0, 32⟩, 1)])

/-- A closed step of tensor 5. -/
def closedOf (kind ok : Nat) : Shard :=
  { shardOf (2 * kind + 256) 0 with closed := true, chunksOk := ok }

theorem witness_shardCommit :
    (updSt { shards := [closedOf 0 1] } {}).stacksServe = true ∧
    ans (exec (.shardCommit 5) (updSt { shards := [closedOf 0 1] } {})) (fun t => t.upd.shards.isEmpty &&
      t.rd64 A.UPDATE_COMMITS == 1 && t.byteAt 8 == 1 && t.byteAt 12 == 1) = true ∧
    ans (exec (.shardCommit 5) (updSt { shards := [closedOf 0 0] } {})) (fun t => t.upd.shards.isEmpty &&
      t.rd64 A.UPDATE_STEPS_UNCOMMITTED == 1 && t.byteAt 8 == 0 && t.byteAt 0x48 == 1) = true := by decide +kernel

theorem witness_shardCommit_refresh :
    let h := closedOf 3 1
    ruleKind h.rw = 3 ∧ ruleRefresh h.rw = 1 ∧ tensorT0 h.tw ≤ h.step ∧ (h.step + 1 - tensorT0 h.tw) % ruleRefresh h.rw = 0 := by
  decide +kernel

theorem witness_refreshComplete :
    (updSt { refreshes := [refreshOf true] } {}).upd.refreshes.find? (fun x => x.tensor = 5 && x.tile = 0 && x.bank = 0) =
      some (refreshOf true) ∧
    ans (exec (.refreshComplete 5 0 0) (updSt { refreshes := [refreshOf true] } {})) (fun t => t.upd.refreshes.isEmpty &&
      t.rd64 A.UPDATE_REFRESHES == 1) = true ∧
    ans (exec (.refreshComplete 5 0 0) (updSt { refreshes := [refreshOf false] } {})) (fun t => t.upd.refreshes.length == 1) = true ∧
    (updSt {} {}).spaceAddr SP_STATE (tileAddr ((updSt {} {}).tensorWords 5) 0 7) 65536 = some 0x70000 ∧
    (updSt {} {}).granSynd 0x7000 = 0 := by decide +kernel

theorem witness_localUpdate :
    let s := updSt { requests := [(3, 5, 1, 0)] } {}
    s.tensorBusy 5 = false ∧ entryValid (s.tensorWords 5) = false ∧
      ans (exec (.localUpdate 5) s) (fun t => t.upd.requests.isEmpty && t.flag (F.STATION_EXPERT_STALE 3) &&
        t.causeBit .UPDATE 0 0 K.UPDATE_TENSOR_INVALID) = true := by decide +kernel

theorem witness_localUpdate_opens :
    let s := puts ((updSt { requests := [(3, 5, 1, 0)] } {}).setBytes 80 [1])
      [(⟨A.UPDATE_TENSOR 5 + 28, 0, 1⟩, 1), (⟨A.UPDATE_TENSOR 5 + 24, 9, 1⟩, 1), (⟨A.UPDATE_TENSOR 5, 0, 28⟩, 1), (⟨A.UPDATE_RULE 0 + 28, 0, 1⟩, 1)]
    let tw := s.tensorWords 5
    entryValid tw = true ∧ isLocal tw = true ∧ entryValid (s.ruleWords (wordField tw 6 0 6)) = true ∧
      (s.readSpace SP_STATE (s.hpAddr 0 1) 64).1.map (fun b => numAt b 16 8) = some 1 ∧
      (s.readSpace SP_STATE (recordPage tw) 16).1.map (fun c => numAt c 0 8 + 1) = some 1 ∧
      ans (exec (.localUpdate 5) s) (fun t => t.upd.shards.map (fun h => (h.line, h.step)) == [(3, 1)]) = true := by decide +kernel

/-- A local step of tensor 5, FROZEN or not, with no elements. -/
def localOf (fr : Nat) : Shard :=
  { shardOf 0 0 with local_ := true, line := 3, tw := [0, 0, 0, 0, 0, 0, BitVec.ofNat 32 (fr * 128 + 512), 1] }

theorem witness_localUpdate_chunk :
    let L := logicalCoach 5 0 0 0 / 32
    let s := (updSt { shards := [localOf 0] } {}).put (Mach.stateFld (.sect L)) UP
    s.upd.shards.find? (fun x => x.tensor = 5 && x.local_ && !x.closed) = some (localOf 0) ∧ s.mach (.sect L) = UP ∧
      frozen (localOf 0).tw = false ∧ frozen (localOf 1).tw = true ∧ (s.readSpace SP_EXPERT 0 0).1 = some [] ∧
      (s.applyPlain (localOf 0) 0 0 []).lost = none ∧
      ans (exec (.localUpdate 5) s) (fun t => t.upd.shards.map (fun h => (h.next, h.chunksOk, h.closed)) == [(1, 1, true)]) = true := by
  decide +kernel

/-- A station entry's work on line 0 for one expert with 32 rows, of width 0 or 32. -/
def workOf (op dw : Nat) (filled : Nat) (granted : Bool) : Work :=
  { line := 0, step := 0, sub := 0, op := op, sline := 1, experts := [[BitVec.ofNat 32 (1 * 2 ^ 21), BitVec.ofNat 32 dw, 1, 1, 0, 0, 0, 0]]
    inFmt := 1, outFmt := 1, recs := [(0, 7, 3, [filled])], adm := [(0, 0, 0, filled)], filled := [filled], blocks := [[0]]
    granted := granted, rows := [], tiles := [], z := [], gg := [], combined := [], rets := []
    flags := [none, none, none, none, none], runFlags := 0, saved := false }

/-- Line 0 UP at its ROOT with a station entry and works, section 0 and its station UP. -/
def stnSt (st : EState) (ws : List Work) : State :=
  let s := updSt {} { work := ws, blocks := 1 }
  puts { s with coll := { copies := [(0, lineOf 2)], entries := [{ entryOf 9 st with fam := 9 }] } }
    [(Mach.stateFld (.line 0), UP), (Mach.stateFld (.sect 0), UP), (Mach.stateFld (.station 0), UP)]

theorem witness_arenaGrant :
    let w := workOf 9 1 0 false
    let s := stnSt .matched [w]
    s.nextMatched 0 = some { entryOf 9 .matched with fam := 9 } ∧ s.work 0 0 0 9 = some w ∧ s.mach (.line 0) = UP ∧ s.activeCount 0 < 2 ∧
      w.need 0 = 0 ∧ s.freeArena = [0] ∧ s.arenaQueue 0 = false ∧ (workOf 9 1 65536 false).need 0 = 3 := by decide +kernel

/-- A TOKEN packet of member 0 for its J-th row. -/
def tokenIn (j : Nat) : Pkt :=
  mkPkt true 1 true 0x2002 9 7 0 0 3 (mkBody 26 [(8, 2, j), (10, 2, 4)]) (List.replicate 128 1)

theorem witness_token :
    let s := atPort (stnSt .active [workOf 9 1 1 true]) (tokenIn 0)
    s.headOp 256 0x2002 = some (portCopy (tokenIn 0), tokenIn 0) ∧ s.judgeToken (tokenIn 0) = .land ∧
      s.tokenWork (tokenIn 0) = some (workOf 9 1 1 true) ∧
      ans (exec (.token 256) s) (fun t => t.stn.work.map (fun w => w.rows.map fun q => (q.row, q.tok, q.parts)) == [[(0, 4, [0])]] &&
        t.byteAt (0x400000 + 20) == 1) = true := by decide +kernel

theorem witness_token_others :
    let s := stnSt .active [{ workOf 9 1 1 true with recs := [(0, 7, 3, [2])], rows := [⟨0, 0, 0, 4, 0, [0]⟩] }]
    s.judgeToken (tokenIn 1) = .dropped ∧ s.judgeToken (tokenIn 2) = .refuse 5 true ∧ s.judgeToken (tokenIn 0) = .dup := by decide +kernel

theorem witness_tileCompute :
    let w := workOf 9 0 0 true
    let s := stnSt .active [w]
    s.work 0 0 0 9 = some w ∧ s.tileReady w 0 0 = true ∧ w.expertField 0 0 16 5 = 0 ∧ w.expertField 0 0 21 6 = 1 ∧
      s.stacksServe = true ∧ s.coachServes (s.physCoach 0) = true ∧
      ans (exec (.tileCompute 0 0 0 9 0 0 0 2 0) s) (fun t => (t.coach (s.physCoach 0)).queued 0 == 2 &&
        t.stn.work.map (·.tiles) == [[]]) = true := by decide +kernel

/-- Pass `i` of the two runs of tile 0, issuing its descriptor or ended. -/
def tileRun (op i pc : Nat) (ending : Option (Nat × Nat)) : Running :=
  { (ownRun 0 0 0 false 0 0 (.tile 0 0 0 op 0 0 i)).start with pc := pc, ending := ending }

/-- Coach 0 running a pass of tile 0 of a station entry whose other pass stands in `done`. -/
def tileSt (op pc : Nat) (ending : Option (Nat × Nat)) (done : List Nat) : State :=
  let p : TileRuns := { k := 0, tile := 0, total := 2, issued := done, ended := done }
  let s := stnSt .active [{ workOf 9 0 0 true with saved := decide (op = 10), passes := if op = 9 then [p] else [] },
    { workOf 10 0 0 true with passes := if op = 9 then [] else [p] }]
  puts { s with coaches := [(0, { running := [tileRun op (if done = [] then 0 else 1) pc ending] })] }
    [(F.TOP_STATE_SECTION_AWAKE, 1), (F.SECTION_STATE_AWAKE 0, 1)]

theorem witness_tileRun :
    let s := tileSt 9 0 none []
    (s.coach 0).running[0]? = some (tileRun 9 0 0 none) ∧ s.awake 0 = true ∧ s.stacksServe = true ∧ s.fenced (dom 2 0) = false ∧
      0 < (tileRun 9 0 0 none).run.count ∧ (s.work 0 0 0 9).isSome = true ∧
      ((s.work 0 0 0 9).any fun w => (s.readWeights w 0).1.isSome && (s.readRows w 0 (w.tileRows 0 0)).1.isSome) = true ∧
      ((s.work 0 0 0 9).bind fun w => w.runsOf 0 0) = some ⟨0, 0, 2, [], []⟩ ∧
      (((tileSt 9 0 none [0]).work 0 0 0 9).bind fun w => w.runsOf 0 0) = some ⟨0, 0, 2, [0], [0]⟩ := by decide +kernel

theorem witness_tileRun_end :
    let s := tileSt 9 1 none [0]
    s.stn.endings = [] ∧ (tileRun 9 1 1 none).run.count = 1 ∧
      ans (exec (.runComplete 0 0 0) s) (fun t => t.stn.work.map (·.tiles) == [[(0, 0)], []] &&
        t.rd64 (A.STATION_STN_RUNS 0) == 1 && t.rd64 (A.STATION_STN_ROWS 0) == 32) = true ∧
      ans (exec (.runComplete 0 0 0) (tileSt 9 0 (some (4, 0)) [])) (fun t => (t.coach 0).queued 0 == 1 &&
        t.rd64 A.STATION_RUN_RESUBMITS == 1) = true := by decide +kernel

theorem witness_tileRun_backward :
    let s := tileSt 10 0 none [0]
    (s.savedWork 0 0 0).isSome = true ∧ (s.work 0 0 0 10).isSome = true ∧
      ans (exec (.runComplete 0 0 0) (let u := tileSt 10 1 (some (4, 0)) [0, 1]
        { u with coaches := [(0, { running := [{ tileRun 10 1 1 (some (4, 0)) with done := 1 }] })] })) (fun t =>
          t.causeBit .STATION 0 0 K.STATION_GRAD_LOST) = true := by decide +kernel

theorem witness_tokenCombine :
    let w := { workOf 9 1 1 true with rows := [⟨0, 0, 0, 4, 0, [0]⟩], z := [(0, 0, List.replicate 32 0)] }
    let L := tokenCombineCoach 0 0 4 0 0
    let s := (stnSt .active [w]).put (Mach.stateFld (.sect (L / 32))) UP
    heldRows (s.tokenRows w) 1 0 4 = [⟨0, 0, 0, 4, 0, [0]⟩] ∧ w.rec_ 0 = some (7, 3, [1]) ∧ (w.zRow 0 0).isSome = true ∧
      mayHold w (s.tokenRows w) 0 4 = false ∧ s.coachServes (s.physCoach L) = true ∧
      s.poolFits (s.slotPool L) (w.dim 0) 1 = true := by decide +kernel

/-- A RETURN emitted at 0 and not acknowledged. -/
def retOf : Ret := ⟨0, 4, 0, tokenIn 0, some 0, 0⟩

theorem witness_returnAck :
    let k := mkPkt false 2 false 0x2005 9 7 0 0 3 (mkBody 30 [(4, 1, 9), (8, 2, 4), (10, 2, 1)]) []
    let s := atPort (stnSt .active [{ workOf 9 1 1 true with rets := [retOf] }]) k
    s.headOp 256 0x2005 = some (portCopy k, k) ∧ (s.work 0 0 0 (k.byte 36 % 16)).isSome = true ∧
      ans (exec (.returnAck 256) s) (fun t => t.stn.work.map (fun w => w.rets.length) == [0]) = true := by decide +kernel

theorem witness_returnResendTimer :
    let s := stnSt .active [{ workOf 9 1 1 true with rets := [retOf] }]
    retOf.blk.isSome = true ∧ retOf.at_ + s.resendTime ≤ s.clk := by decide +kernel

theorem witness_stationChunkEnd :
    let w := { workOf 9 1 0 true with tiles := [(0, 0)] }
    let s := stnSt .active [w]
    s.workDone w = true ∧ s.entry 0 0 0 9 = some { entryOf 9 .active with fam := 9 } ∧ (s.line 0).isRoot = true ∧
      (s.line 0).shardCount = 1 ∧ (s.line 0).shardIndex = 0 := by decide +kernel

theorem witness_weightRebuild :
    let s := puts (stnSt .matched []) [(F.STATION_STATION_LINE_NEXP 0, 1), (F.STATION_STATION_LINE_EXPERT_BASE 0, 3),
      (F.STATION_EXPERT_STALE 3, 1)]
    (s.lineExperts 0).contains 3 = true ∧ (s.readSpace SP_STATE (recordPage (s.tensorWords 0)) 16).1.isSome = true ∧
      (s.rebuildFrom (s.tensorWords 0) 0 0 0 1 0).1 = true ∧
      ans (exec (.weightRebuild 3) s) (fun t => !t.flag (F.STATION_EXPERT_STALE 3) && t.rd64 A.STATION_WEIGHT_REBUILDS == 1) = true := by
  decide +kernel

theorem witness_actExpired :
    let s0 := stnSt .active [{ workOf 9 1 1 true with saved := true }]
    let s : State := { s0 with stn := { s0.stn with arena := [0] }, clk := 10 ^ 13 }
    s.work 0 0 0 10 = none ∧
      (∀ d ∈ s.stn.work, d.of 0 0 0 9 = true ∧ d.saved = true ∧ d.lastAt + ms (max 1 (s.get F.STATION_CFG_ACT_HOLD_MS)) ≤ s.clk) ∧
      ans (exec (.actExpired 0 0 0) s) (fun t => t.stn.work.isEmpty && t.stn.arena.isEmpty) = true := by decide +kernel

theorem witness_localUpdate_refused :
    let s := updSt { shards := [localOf 0] } {}
    let L := logicalCoach 5 0 0 0 / 32
    s.localRefused (localOf 0) = false ∧ (s.put (Mach.stateFld (.sect L)) FENCED).localRefused (localOf 0) = true := by decide +kernel

theorem witness_tokenCombine_waits :
    let w := { workOf 9 1 1 true with rows := [⟨0, 0, 0, 4, 0, [0]⟩], z := [(0, 0, List.replicate 32 0)] }
    let L := tokenCombineCoach 0 0 4 0 0
    let s := (stnSt .active [w]).put (Mach.stateFld (.sect (L / 32))) UP
    (s.combineSlots w 0 4 L (w.dim 0)).isSome = true ∧
      ((s.wr (A.POOL_QUOTA (s.slotPool L) 1) 0).combineSlots w 0 4 L (w.dim 0)) = none ∧
      (match s.combineSlots w 0 4 L (w.dim 0) with
        | some u => (u.unitServes L ⟨stationChild (w.sectionOf 0), 1, combineCost 1 (w.dim 0)⟩).isSome | none => false) = true := by
  decide +kernel

/-! ### Fabric memory and stacks -/

/-- A memory of one unit in STATE that window 0 opens whole to node 9. -/
def winSt : State :=
  puts (updSt {} {}) [(Mach.stateFld (.window 0), UP), (F.WINDOW_WIN_NODE_FIRST 0, 9), (F.WINDOW_WIN_NODE_LAST 0, 9),
    (F.WINDOW_WIN_RIGHTS 0, 7), (F.WINDOW_WIN_SIZE 0, 1024)]

/-- A memory request of node 9 at an offset of STATE, and where it waits. -/
def memReq (data : Bool) (op off : Nat) (fs : List (Nat × Nat × Nat)) : Pkt :=
  mkPkt data 1 false op 7 9 0 off 3 (mkBody (if data then 26 else 30) fs) (if data then List.replicate 16 5 else [])

/-- The state once the request at port 256 has left it. -/
def tookSt (s : State) (k : Pkt) : State := (atPort s k).consume (portCopy k) k

theorem witness_read :
    let k := memReq false 0x4001 0x8000 [(0, 2, 16)]
    let u := tookSt (winSt.setByte 0x8003 9) k
    (atPort winSt k).headOp 256 0x4001 = some (portCopy k, k) ∧ u.memJudge k = .ok 0 ∧
      u.stacksOf (u.memAddr k) k.memLen = true ∧
      (u.readMem (u.memAddr k) k.memLen).1 = some [0, 0, 0, 9, 0, 0, 0, 0, 0, 0, 0, 0, 0, 0, 0, 0] := by decide +kernel

theorem witness_write :
    let k := memReq true 0x4002 0x8000 [(0, 2, 16), (16, 2, 4)]
    let u := tookSt winSt k
    let s := atPort winSt k
    s.headOp 256 0x4002 = some (portCopy k, k) ∧ u.cached k.src k.tag = none ∧ u.memJudge k = .ok 0 ∧
      u.commitsIn k = [] ∧
      ans (exec (.write 256) s) (fun t => t.byteAt 0x8000 == 5 && t.byteAt 0x800F == 5 && t.byteAt 0x8010 == 0 &&
        t.mem.pendingAcks.map (fun m => (m.src, m.tag, m.epoch, m.port)) == [(9, 3, 4, 256)]) = true := by decide +kernel

theorem witness_fetchAdd :
    let k := memReq false 0x4003 0x8008 [(0, 8, 2 ^ 64 - 1)]
    let s := atPort (winSt.setByte 0x8008 3) k
    s.headOp 256 0x4003 = some (portCopy k, k) ∧ (tookSt winSt k).memJudge k = .ok 0 ∧
      ans (exec (.fetchAdd 256) s) (fun t => t.byteAt 0x8008 == 2 && t.byteAt 0x800F == 0 &&
        t.mem.pendingAcks.map (fun m => slice m.reply.hdr 32 9) == [[3, 0, 0, 0, 0, 0, 0, 0, 0]]) = true := by decide +kernel

theorem witness_cas :
    let k := memReq false 0x4004 0x8008 [(0, 8, 3), (8, 8, 7)]
    let r := fun (b : Byte) => exec (.cas 256) (atPort (winSt.setByte 0x8008 b) k)
    (atPort winSt k).headOp 256 0x4004 = some (portCopy k, k) ∧ (tookSt winSt k).memJudge k = .ok 0 ∧
      ans (r 3) (fun t => t.byteAt 0x8008 == 7 && t.mem.pendingAcks.map (fun m => slice m.reply.hdr 40 1) == [[1]]) = true ∧
      ans (r 4) (fun t => t.byteAt 0x8008 == 4 && t.mem.pendingAcks.map (fun m => slice m.reply.hdr 40 1) == [[0]] &&
        t.rd64 (A.HBM_BYTES_WRITTEN 0) == 0) = true := by decide +kernel

theorem witness_memory_refused :
    let k := fun o => memReq false 0x4001 o [(0, 2, 16)]
    let f := memReq true 0x4002 0x8000 [(0, 2, 16)]
    let s := winSt.put (Mach.stateFld (.window 0)) DRAINING
    let b : State := { winSt with mem := { winSt.mem with fences := List.replicate 8192 ⟨1, 1, 0⟩ } }
    winSt.memJudge (k 8) = .malformed ∧ winSt.memJudge (k 0x400000) = .range ∧
      (winSt.put (F.WINDOW_WIN_RIGHTS 0) 2).memJudge (k 0) = .access ∧ s.memJudge (k 0) = .draining ∧
      b.memJudge f = .retry := by decide +kernel

theorem witness_memory_busy :
    let s : State := { winSt with upd := { shards := [{ shardOf 0 0 with local_ := true }] } }
    s.memJudge (memReq true 0x4002 0x800 [(0, 2, 16), (16, 2, 4)]) = .busy := by decide +kernel

theorem witness_duplicate :
    let k := memReq true 0x4002 0x8000 [(0, 2, 16)]
    let c := fun r => ({ winSt with mem := { winSt.mem with cache := [⟨9, 3, r⟩] }
                                    timers := [(cacheKey 9 3, 100000000)] } : State)
    (tookSt (c none) k).cached 9 3 = some ⟨9, 3, none⟩ ∧ (tookSt (c (some k)) k).cached 9 3 = some ⟨9, 3, some k⟩ ∧
      ans (exec (.write 256) (atPort (c none) k)) (fun t => t.rd64 A.WINDOW_DUP_REPLAYED == 1 && t.mem.bytes.isEmpty) = true := by
  decide +kernel

theorem witness_fence :
    let k := memReq false 0x4005 0 [(0, 4, 2), (16, 2, 4)]
    let s := atPort winSt k
    s.headOp 256 0x4005 = some (portCopy k, k) ∧ (tookSt winSt k).memJudge k = .ok 0 ∧
      ans (exec (.fence 256) s) (fun t => t.mem.fenceWaits == [⟨9, 3, 4, 2, 256, k, 0⟩] && t.rd64 A.WINDOW_FENCES == 1) = true ∧
      (tookSt winSt k).fenceCtr 9 4 = none := by decide +kernel

/-- A FENCE of epoch 4 that waits for one write to be answered, and that write. -/
def fenceSt (acks : List MemWait) : State :=
  let k := memReq false 0x4005 0 [(0, 4, 1), (16, 2, 4)]
  { winSt with mem := { winSt.mem with cache := [⟨9, 3, none⟩, ⟨9, 8, none⟩], fenceWaits := [⟨9, 3, 4, 1, 256, k, 0⟩]
                                       fences := [⟨9, 5, 6⟩], pendingAcks := acks }
               timers := [(fenceKey 9 3, 0), (fenceIdleKey 9 5, 0)] }

theorem witness_fenceTimeout :
    (fenceSt []).due (fenceKey 9 3) (us (max 1 ((fenceSt []).get F.WINDOW_FENCE_CFG_FENCE_US))) = true ∧
      ((fenceSt []).mem.fenceWaits.find? (fun x => x.src = 9 && x.tag = 3)).isSome = true ∧
      ((fenceSt []).mem.fenceWaits.all fun w => w.req.src == 9 && w.req.tag == 3) = true := by decide +kernel

theorem witness_fenceEntryIdle :
    let s : State := { fenceSt [] with clk := 10 ^ 12 }
    (s.fenceCtr 9 5).isSome = true ∧ s.due (fenceIdleKey 9 5) (ms (max 1 (s.get F.WINDOW_FENCE_CFG_FENCE_IDLE_MS))) = true ∧
      ans (exec (.fenceEntryIdle 9 5) s) (fun t => t.mem.fences.isEmpty) = true := by decide +kernel

theorem witness_stackWriteAck :
    let k := memReq true 0x4002 0x8000 [(0, 2, 16)]
    let w := fun e => fenceSt [⟨0, 256, 9, 8, e, k, 0⟩]
    ((w 4).mem.fenceWaits.filter fun x => x.src = 9 && x.epoch = 4 && decide (x.n ≤ ((w 4).fenceCtr 9 4).getD 0 + 1)) =
        (w 4).mem.fenceWaits ∧
      ((w 5).mem.fenceWaits.filter fun x => x.src = 9 && x.epoch = 5 && decide (x.n ≤ 7)) = [] ∧
      (w 5).fenceCtr 9 5 = some 6 := by decide +kernel

theorem witness_spaceLayoutWrite :
    let s := updSt {} {}
    s.grants .consort (A.WINDOW_SPACE_BASE 2) 4 = true ∧ s.grants .consort (A.WINDOW_SPACE_SIZE 2) 8 = true ∧
      (s.put (F.WINDOW_SPACE_BASE_BASE 2) 4).layoutFits = true ∧
      ((s.put (F.WINDOW_SPACE_BASE_BASE 2) 4).put (F.WINDOW_SPACE_SIZE_SIZE 2) 8).layoutFits = true ∧
      ans (exec (.spaceLayoutWrite .consort 2 4 8) s) (fun t => t.rd (A.POOL_SIZE 1) == 8 && t.rd (A.WINDOW_SPACE_BASE 2) == 4) = true ∧
      (s.put (F.WINDOW_SPACE_BASE_BASE 0) 1).layoutFits = false ∧ (s.put (F.WINDOW_SPACE_SIZE_SIZE 0) 2).layoutFits = false ∧
      ans (exec (.spaceLayoutWrite .consort 0 1 2) s) (fun t => t.rd (A.WINDOW_SPACE_SIZE 0) == 1 &&
        t.causeBit .WINDOW 0 0 K.WINDOW_LAYOUT_INVALID) = true := by decide +kernel

/-- The weights and columns of R379: bit 0 has column 7, bit 1 column 11; two flipped bits are uncorrectable. -/
theorem witness_patrolScrub :
    let s := updSt {} {}
    let r := fun data check race => exec (.patrolScrub 0 0 data check race) s
    s.stackServes 0 = true ∧ s.stackOf 0 = 0 ∧ dataCol 0 = 7 ∧ dataCol 1 = 11 ∧ addrCol 0 = 31 ∧
      synd ((s.upset 0 0 0).granSynd 0) = .good ∧ synd ((s.upset 0 0 4).granSynd 0) = .check ∧
      synd ((s.upset 0 2 0).granSynd 0) = .bit 1 ∧ synd ((s.upset 0 3 0).granSynd 0) = .ue ∧
      synd ((s.upset 0 0 31).granSynd 0) = .addr ∧
      ans (r 2 0 false) (fun t => t.mem.bytes.isEmpty && t.rd64 (A.HBM_CE 0) == 1) = true ∧
      ans (r 3 0 false) (fun t => t.granSynd 0 == 0xFFFF && t.causeBit .HBM 0 0 K.HBM_UE) = true ∧
      ans (r 2 0 true) (fun t => t.byteAt 0 == 2) = true := by decide +kernel

theorem witness_refresh :
    let s := updSt {} {}
    s.stackServes 0 = true ∧ s.timer { kind := .bankRefresh, a := 0, b := 3, c := 4 } = none ∧
      ans (exec (.refresh 0 3 4 7) s) (fun t => t.rd64 (A.HBM_REFRESH_WAITS 0) == 7) = true ∧ lit.stackServes 0 = false := by decide +kernel

theorem witness_startRepair :
    let s := updSt {} {}
    s.grants .consort (A.HBM_REPAIR_CMD 0) 1 = true ∧ s.mach (.stack 0) = UP ∧ (s.shelters 0).length = 0 ∧
      ans (exec (.startRepair .consort 0 []) s) (fun t => t.flag (F.HBM_REPAIR_STATE_BUSY 0) &&
        t.get (F.HBM_INFO_SHELTER_USED 0) == 1) = true ∧
      lit.mach (.stack 0) = DOWN ∧
      ans (exec (.startRepair .consort 0 []) lit) (fun t => t.causeBit .HBM 0 0 K.HBM_REPAIR_REFUSED) = true := by decide +kernel

theorem witness_repair_steps :
    let at_ := fun k => ({ lit with mem := { lit.mem with shelter := [⟨0, 1, 2, 3, k⟩] } } : State)
    ans (exec (.repairPprDone 0 5 false) (at_ 2)) (fun t => t.mem.shelter.map (·.step) == [4]) = true ∧
      ans (exec (.repairPprDone 0 0 true) (at_ 2)) (fun t => t.get (F.HBM_INFO_RETIRED 0) == 1) = true ∧
      ans (exec (.repairDone 0) (at_ 4)) (fun t => t.mem.repairs == [(0, 1, 2, 3)] && t.mem.shelter.isEmpty) = true := by
  decide +kernel

theorem witness_stackInitStep :
    let at_ := fun k => ((lit.put (Mach.stateFld (.stack 0)) STARTING).setInit 0 k)
    (at_ 4).mach (.stack 0) = STARTING ∧ (at_ 4).mem.initStep.length = 8 ∧
      ans (exec (.stackInitStep 0 5 false 0) (at_ 4)) (fun t => t.mach (.stack 0) == DOWN &&
        t.causeBit .HBM 0 0 K.HBM_TRAIN_FAIL) = true ∧
      ans (exec (.stackInitStep 0 2 true 300) (at_ 1)) (fun t => t.get (F.HBM_REPAIR_STATE_LEFT 0) == 255) = true ∧
      ans (exec (.stackInitStep 0 6 true 0) (at_ 5)) (fun t => t.flag (F.HBM_STATE_TRAINED 0)) = true ∧
      ans (exec (.stackInitStep 0 7 true 0) ((at_ 6).setByte 3 9)) (fun t => t.byteAt 3 == 0 && t.flag (F.HBM_STATE_FILLED 0)) = true := by
  decide +kernel

/-! ### Faults and domains -/

/-- An event of source 240, of line 3, of a severity. -/
def reportOf (severity : Nat) (lost inert : Bool) : Report := ⟨240, severity, dom 4 3, 7, [1], lost, inert, false⟩

/-- A state with one event reported. -/
def fltSt (r : Report) : State := { lit with flt := { reports := [r] } }

theorem witness_faultEvent :
    lit.domOk (dom 4 3) = true ∧ lit.flt.reports = [] ∧
      ans (exec (.faultEvent none) (fltSt (reportOf 1 false false))) (fun t => t.rd (A.FAULT_SRC_COUNT 240) == 1) = true ∧
      ans (exec (.faultEvent none) (fltSt (reportOf 2 true false))) (fun t => t.rd64 A.FAULT_LOST == 1 && t.flt.pend.isEmpty) = true ∧
      ans (exec (.faultEvent none) (fltSt (reportOf 4 false false))) (fun t =>
        t.flt.pend == [⟨240, 4, 1, dom 4 3, 7, [1], 0⟩]) = true ∧
      ans (exec (.faultEvent none) (fltSt (reportOf 6 false true))) (fun t => t.fstate (dom 4 3) == 0 && t.rd64 A.FAULT_EVENTS == 1) = true := by
  decide +kernel

theorem witness_faultEvent_merged :
    let s0 := fltSt (reportOf 2 false false)
    let full : State := { s0 with flt := { s0.flt with pend := [⟨240, 2, 1, 0, 0, [], 5⟩] } }
    let soon : State := { s0 with flt := { s0.flt with lastRec := [(240, 3)] } }
    ans (exec (.faultEvent none) full) (fun t => t.flt.pend.map (·.merged) == [6] && t.rd64 A.FAULT_SUPPRESSED == 1) = true ∧
      ans (exec (.faultEvent none) soon) (fun t => t.flt.pend.isEmpty && t.flt.carried == [(240, 1)]) = true := by decide +kernel

theorem witness_faultEvent_quiet :
    let s := (fltSt (reportOf 2 false false)).setFstate (dom 4 3) 2
    s.fstate (dom 4 3) = 2 ∧
      ans (exec (.faultEvent none) s) (fun t => t.timer { kind := .quiet, a := dom 4 3 } == some 100000000) = true := by decide +kernel

theorem witness_faultEvent_contain :
    let m : Report := { reportOf 5 false false with domain := dom 0 0 }
    ans (exec (.faultEvent none) (fltSt (reportOf 5 false false))) (fun t => t.fstate (dom 4 3) == 1 &&
        t.mach (.line 3) == FENCED) = true ∧
      ans (exec (.faultEvent none) (fltSt m)) (fun t => t.get F.RESET_LAST_MODULE_RESET_CAUSE == 5 &&
        t.get F.RESET_LAST_MODULE_RESET_SOURCE == 240) = true := by decide +kernel

theorem witness_faultEvent_stop :
    let m : Report := { reportOf 6 false false with domain := dom 0 0 }
    ans (exec (.faultEvent none) (fltSt (reportOf 6 false false))) (fun t => t.fstate (dom 4 3) == 3 &&
        t.mach (.line 3) == STOP) = true ∧
      ans (exec (.faultEvent none) (fltSt m)) (fun t => t.get F.TOP_STATE_MODULE == 2 && t.pins.faultN == true && t.fstate (dom 0 0) == 3) = true := by
  decide +kernel

theorem witness_collectorTake :
    let p : FPend := ⟨5, 4, 1, 0, 7, [1], 2⟩
    let s : State := { lit with flt := { pend := [⟨3, 2, 1, 0, 6, [], 0⟩, p], ptr := 4 } }
    let f := s.wr A.FAULT_RING_WR 4096
    let later : State := { s with flt := { s.flt with takeAt := some s.clk } }
    ringTakes s.unconsumed 4 1 = true ∧ ringTakes f.unconsumed 4 1 = false ∧ s.flt.takeAt ≠ some s.clk ∧
      ans (exec .collectorTake later) (fun t => t.flt.pend.length == 2 && t.flt.ptr == 4) = true ∧
      ans (exec .collectorTake lit) (fun t => t.flt.ptr == 1 && t.flt.takeAt == some 100000000) = true ∧
      ans (exec .collectorTake s) (fun t => t.flt.ring == [(0, ⟨7, 5, 4, 1, 2, 0, 0, [1]⟩)] && t.rd A.FAULT_RING_WR == 1 &&
        t.flt.pend.map (·.source) == [3] && t.flt.ptr == 5) = true ∧
      ans (exec .collectorTake f) (fun t => t.rd64 A.FAULT_RING_DROPS == 1) = true := by decide +kernel

theorem witness_ringRdWrite :
    let s := lit.wr A.FAULT_RING_WR 3
    s.grants .consort A.FAULT_RING_RD 2 = true ∧
      ans (exec (.ringRdWrite .consort 2) s) (fun t => t.rd A.FAULT_RING_RD == 2) = true ∧
      ans (exec (.ringRdWrite .consort 4) s) (fun t => t.rd A.FAULT_RING_RD == 0) = true := by decide +kernel

theorem witness_srcCfgWrite :
    lit.grants .siding (A.FAULT_SRC_CFG 241) 0x1202 = true ∧
      ans (exec (.srcCfgWrite .siding 241 0x1202) lit) (fun t => t.severity 241 == 5 && t.get (F.FAULT_SRC_CFG_GAP 241) == 0x12) = true ∧
      ans (exec (.srcCfgWrite .siding 240 0x1207) lit) (fun t => t.severity 240 == 2) = true := by decide +kernel

/-- Line 3 in a handling state, with the handling of its reset. -/
def domSt (fs : Nat) (how : How) : State :=
  ({ lit with flt := { handling := [⟨dom 4 3, 241, 5, how⟩] }
              timers := [({ kind := .deadline, a := dom 4 3 }, 0), ({ kind := .quiet, a := dom 4 3 }, 0),
                         ({ kind := .window, a := dom 4 3 }, 0)] } : State).setFstate (dom 4 3) fs

theorem witness_resetCmd :
    lit.grants .consort A.RESET_CMD (BitVec.ofNat 32 (dom 4 3 + 2 ^ 20)) = true ∧ lit.fstate (dom 4 3) = 0 ∧
      ans (exec (.resetCmd .consort (dom 4 3)) lit) (fun t => t.fstate (dom 4 3) == 1 && t.rd64 A.RESET_CMD_RESETS == 1) = true ∧
      ans (exec (.resetCmd .consort (dom 4 3)) (domSt 2 .event)) (fun t => t.causeBit .RESET 0 0 K.RESET_CMD_REFUSED) = true ∧
      lit.domOk (dom 9 0) = false := by decide +kernel

theorem witness_release :
    (domSt 3 .event).grants .consort A.FAULT_CMD (BitVec.ofNat 32 (dom 4 3 + 2 ^ 31)) = true ∧
      ans (exec (.release .consort (dom 4 3)) (domSt 3 .event)) (fun t => t.fstate (dom 4 3) == 1) = true ∧
      ans (exec (.release .consort (dom 4 3)) (domSt 2 .event)) (fun t => t.fstate (dom 4 3) == 2) = true := by decide +kernel

theorem witness_domainResetComplete :
    let r := fun how => exec (.domainResetComplete (dom 4 3)) (domSt 1 how)
    (domSt 1 .event).resetDone (dom 4 3) = true ∧
      ans (r .event) (fun t => t.fstate (dom 4 3) == 2) = true ∧
      ans (r .command) (fun t => t.fstate (dom 4 3) == 0 && t.causeBit .RESET 0 0 K.RESET_SOFT_RESET) = true ∧
      ans (r .release) (fun t => t.fstate (dom 4 3) == 0 && t.flt.ring.map (fun e => e.2.kind) == [4]) = true := by decide +kernel

theorem witness_quietPeriodEnd :
    let s := (domSt 2 .event).setWindow (dom 4 3)
    (s 1).due { kind := .quiet, a := dom 4 3 } ((s 1).quietTime (dom 4 3)) = true ∧
      (s 1).timer { kind := .window, a := dom 4 3 } ≠ none ∧
      ans (exec (.quietPeriodEnd (dom 4 3)) (s 1)) (fun t => t.fstate (dom 4 3) == 0 && t.windowCount (dom 4 3) == 2 &&
        t.recovery (dom 4 3) % 65536 == 1) = true ∧
      ans (exec (.quietPeriodEnd (dom 4 3)) (s 3)) (fun t => t.fstate (dom 4 3) == 3 && t.rd64 A.FAULT_STOPS == 1) = true := by
  decide +kernel

theorem witness_recoveryWindowClose :
    let s : State := { (domSt 0 .event).setWindow (dom 4 3) 2 with clk := 10 ^ 15 }
    s.due { kind := .window, a := dom 4 3 } (s.windowTime (dom 4 3)) = true ∧
      ans (exec (.recoveryWindowClose (dom 4 3)) s) (fun t => t.windowCount (dom 4 3) == 0) = true := by decide +kernel

/-- The module's own deadline passed while it boots. -/
def lateSt : State :=
  ({ lit with timers := [({ kind := .deadline, a := dom 0 0 }, 0)], clk := 10 ^ 11, pow := { released := true } } : State).put
    F.TOP_STATE_MODULE 0

theorem witness_deadlineMiss_module :
    lateSt.pow.released = true ∧ lateSt.get F.TOP_STATE_MODULE = 0 ∧ lateSt.fstate (dom 0 0) ≠ 3 ∧
      lateSt.handlingOf (dom 0 0) = none ∧ lateSt.due { kind := .deadline, a := dom 0 0 } (deadlineOf (dom 0 0)) = true ∧
      ans (exec (.deadlineMiss (dom 0 0)) lateSt) (fun t => t.fstate (dom 0 0) == 3 &&
        t.causeBit .RESET 0 0 K.RESET_ESCALATED && t.rd64 A.RESET_ESCALATIONS == 1) = true := by decide +kernel

theorem witness_deadlineMiss :
    let d := dom 3 (16 * 5)
    let s := ({ lit with timers := [({ kind := .deadline, a := d }, 0)] } : State).setFstate d 1
    s.domOk d = true ∧ s.due { kind := .deadline, a := d } (deadlineOf d) = true ∧ s.fstate (dom 2 5) = 0 ∧
      ans (exec (.deadlineMiss (dom 4 3)) (domSt 1 .event)) (fun t => t.get F.RESET_LAST_MODULE_RESET_CAUSE == 4 &&
        t.get F.RESET_LAST_MODULE_RESET_DOMAIN == dom 4 3) = true := by decide +kernel

/-- Processor 1 runs, with its timers started at 0. -/
def procSt : State :=
  { lit with cons := { running := [1] }, timers := [({ kind := .procWatch, a := 1 }, 0), ({ kind := .startLimit, a := 1 }, 0)] }

theorem witness_procHang :
    procSt.fenced (dom 8 1) = false ∧
      procSt.due { kind := .procWatch, a := 1 } (ms (max 1 (procSt.get F.RESET_CFG_PROC_WD_MS))) = true ∧
      ans (exec (.procHang 1) procSt) (fun t => t.causeBit .RESET 0 0 K.RESET_PROC_HANG && t.fenced (dom 8 1)) = true := by
  decide +kernel

theorem witness_kick :
    procSt.grants .consort A.RESET_KICK 2 = true ∧
      ans (exec (.kick .consort 2) procSt) (fun t => t.timer { kind := .procWatch, a := 1 } == some 100000000) = true ∧
      ans (exec (.kick .consort 2) (procSt.put (F.CONSORT_ACT_STATE_ASTATE 1) AS_STARTING)) (fun t =>
        t.astate 1 == AS_PROBATION) = true := by decide +kernel

theorem witness_moduleReset :
    lit.grants .consort A.RESET_CMD (BitVec.ofNat 32 (0 + 2 * 2 ^ 20 + 0xA5 * 2 ^ 24)) = true ∧
      ans (exec (.moduleReset .consort 0xA5 0) lit) (fun t => t.get F.RESET_LAST_MODULE_RESET_CAUSE == 3 && !t.pow.released) = true ∧
      ans (exec (.moduleReset .consort 0xA4 0) lit) (fun t => t.causeBit .RESET 0 0 K.RESET_CMD_REFUSED && t.pow.released) = true := by
  decide +kernel

/-! ### Resets, boot and power -/

theorem witness_moduleResetStart :
    let r := fun a b c d e => exec (.moduleResetStart a b c d e) lit
    let cause := fun (t : State) => t.get F.RESET_LAST_MODULE_RESET_CAUSE
    let s := lit.put (F.FAULT_SRC_CFG_SEVERITY 0) 5
    s.severity 0 = 5 ∧ srcKind 0 = 0 ∧ lit.severity 0 ≠ 5 ∧
      ans (r true true none true none) (fun t => cause t == 2 && !t.pow.mainRails) = true ∧
      ans (r false true none true none) (fun t => cause t == 1) = true ∧
      ans (exec (.moduleResetStart false false (some 0) true none) s) (fun t => cause t == 5) = true ∧
      ans (r false false (some 0) true (some (dom 4 3))) (fun t => cause t == 3) = true ∧
      ans (exec (.moduleResetStart false false (some 0) true none) (s.setFstate (dom 0 0) 1)) (fun t => cause t == 3) = true ∧
      ans (r false false none false (some (dom 4 3))) (fun t => cause t == 4 &&
        t.get F.RESET_LAST_MODULE_RESET_DOMAIN == dom 4 3) = true ∧ s.fstate (dom 0 0) = 0 := by decide +kernel

/-- A module whose rails are good and pins high, at a boot step. -/
def bootSt (k : Nat) : State := ({ base with sid := {} } : State).setBootStep k

theorem witness_bootStep :
    let z : State := State.reset
    z.mayRelease = true ∧ z.bootStep = 0 ∧ (bootSt 1).booting = true ∧ base.mayRelease = false ∧
      ans (exec (.bootStep (true, 9)) z) (fun t => t.pow.released && t.get F.TOP_SLOT_ID_SLOT == 9 && t.bootStep == 1 &&
        t.timer { kind := .deadline, a := dom 0 0 } == some 0) = true ∧
      ans (exec (.bootStep (false, 9)) (bootSt 2)) (fun t => t.bootStep == 3 && t.get F.SIDING_ID_INFO_ID_STATUS == 1 &&
        t.causeBit .SIDING 0 0 K.SIDING_ID_FAIL) = true ∧
      ans (exec (.bootStep (true, 9)) (bootSt 3)) (fun t => t.sid.recovery && t.get F.SIDING_BOOT_STATUS_RESULT == 2) = true ∧
      ans (exec (.bootStep (true, 9)) (bootSt 4)) (fun t => t.sid.recovery && t.get F.SIDING_BOOT_STATUS_RESULT == 3) = true := by
  decide +kernel

/-- A manifest in slot 0, with a grade. -/
def manSt (s : State) : State :=
  ((s.flashWrite 2 0 (toBytes 4 0x464D4849 ++ toBytes 2 1)).flashWrite 2 0x44 [0x55]).flashWrite 2 0x48 [8]

/-- With a ROM key under which every signature verifies, slot 0 is valid. -/
theorem witness_bootStep_manifest (h : ∀ a b c, Config.verifies a b c = true) :
    (manSt (bootSt 3)).slotReason 2 false = 0 ∧ (manSt (bootSt 3)).slotReason 3 false ≠ 0 := by
  simp only [State.slotReason, h]
  decide +kernel

/-- The digest of no bytes. -/
def noDigest : List Byte :=
  toBytes 64 0x3EDA27F97A3238A5817A4147BD31B9632FEC7E87D21883FFB0F2855D3CD1D047CEE96CD321A9F483DC15570B05E420D607806DD6502854F1BDB8EF7E35E183CF

/-- Byte `k` of an image of eight empty sections. -/
def imageByte (k : Nat) : Byte :=
  if k < 8 then (toBytes 4 0x4F445244 ++ toBytes 2 1 ++ toBytes 2 8).getD k 0
  else if 0x1000 ≤ k ∧ k < 0x2000 then
    (if k % 512 = 0 then BitVec.ofNat 8 (k / 512 - 8) else if 32 ≤ k % 512 ∧ k % 512 < 96 then noDigest.getD (k % 512 - 32) 0
    else 0)
  else 0

/-- Boot at step 4 with the image in bank 0. -/
def imageSt : State :=
  { bootSt 4 with cons := { flash := (List.range' 0 0x2000).map fun k => (k, imageByte k) } }

theorem get_run (f : Nat → Byte) (n a k : Nat) :
    Tab.get 0 ((List.range' a n).map fun i => (i, f i)) k = if a ≤ k ∧ k < a + n then f k else 0 := by
  induction n generalizing a with
  | zero => simp only [List.range'_zero, List.map_nil, Tab.get, show ¬ (a ≤ k ∧ k < a + 0) by omega, if_false]
  | succ n ih =>
    simp only [List.range'_succ, List.map_cons, Tab.get, ih]
    split
    · next h => subst h; simp
    · next h => simp only [show (a + 1 ≤ k ∧ k < a + 1 + n) ↔ (a ≤ k ∧ k < a + (n + 1)) by omega]

theorem image_byte (r k : Nat) :
    imageSt.flashByte r k = if r * 2 ^ 28 + k < 0x2000 then imageByte (r * 2 ^ 28 + k) else 0 :=
  (get_run imageByte 0x2000 0 (r * 2 ^ 28 + k)).trans (by simp)

theorem foldl_zero {α : Type} (f : α → Nat) (l : List α) (h : ∀ e ∈ l, f e = 0) :
    l.foldl (fun r e => if r = 0 then f e else r) 0 = 0 := by
  induction l with
  | nil => rfl
  | cons a l ih => simp_all

theorem test_sha512_nil : sha512 [] = noDigest := by decide +kernel

/-- What the sections of a bank that boots hold, beside their signatures. -/
def emptySections (s : State) : Prop :=
  ∀ e ∈ s.secEntries 0, s.flashBytes 0 (e.at_ + 32) 64 = noDigest ∧ s.flashBytes 0 e.off e.len = [] ∧
    ¬ e.svn < s.svnFloor e.proc ∧ ((s.secEntries 0).filter fun f => f.proc = e.proc).length = 1 ∧ ¬ procMem e.proc < e.len

theorem bank_boots {s : State} (h : ∀ a b c, Config.verifies a b c = true) (hh : s.headerOk 0 = true)
    (ha : s.allEight 0 = true) (hs : emptySections s) : s.bankBoots 0 = true := by
  have hr : s.bankReason 0 = 0 := by
    unfold State.bankReason
    rw [hh]
    exact foldl_zero _ _ fun e he => by
      obtain ⟨h1, h2, h3, h4, h5⟩ := hs e he
      simp [State.secReason, State.digestOk, h, h1, h2, h3, h4, h5, test_sha512_nil]
  simp [State.bankBoots, hr, ha]

theorem image_entry : imageSt.secEntry 0 = fun i =>
    let n (o k : Nat) : Nat := ofBytes ((List.range k).map fun j =>
      if 0 * 2 ^ 28 + (0x1000 + 512 * i + o + j) < 0x2000 then imageByte (0 * 2 ^ 28 + (0x1000 + 512 * i + o + j)) else 0)
    { at_ := 0x1000 + 512 * i, proc := n 0 1, ilevel := n 2 2, ilevelMin := n 4 2, svn := n 8 4, version := n 12 4
      off := n 16 8, len := n 24 4 } := by
  funext i
  simp only [State.secEntry, State.flashNum, State.flashBytes, image_byte, Nat.add_zero]

theorem image_list : imageSt.secEntries 0 = (List.range 8).map fun i => ⟨0x1000 + 512 * i, i, 0, 0, 0, 0, 0, 0⟩ := by
  simp only [State.secEntries, image_entry, State.flashNum, State.flashBytes, image_byte]
  decide +kernel

theorem image_sections : imageSt.headerOk 0 = true ∧ imageSt.allEight 0 = true ∧
    imageSt.get (F.CONSORT_BANK_STATE_BOOT_BANK 0) = 0 := by
  simp only [State.headerOk, State.allEight, State.secOf, image_list, State.flashNum, State.flashBytes, image_byte]
  decide +kernel

theorem image_empty : emptySections imageSt := by
  simp only [emptySections, image_list, State.svnFloor, State.flashNum, State.flashBytes, image_byte]
  decide +kernel

/-- With signatures that verify, the image's bank boots. -/
theorem witness_bootStep_bank (h : ∀ a b c, Config.verifies a b c = true) :
    imageSt.bankBoots 0 = true ∧ imageSt.get (F.CONSORT_BANK_STATE_BOOT_BANK 0) = 0 :=
  ⟨bank_boots h image_sections.1 image_sections.2.1 image_empty, image_sections.2.2⟩

theorem witness_bootStep_grade :
    (manSt (bootSt 5)).booting = true ∧ (manSt (bootSt 5)).flashNum (manSt (bootSt 5)).manRegion 0x44 4 = 0x55 ∧
      (bootSt 6).booting = true ∧ derLength [0x30, 0x82, 1, 2] = 262 := by decide +kernel

theorem witness_registerBusRelease :
    let s := (manSt (bootSt 7)).flashWrite 2 (0x6500 + 8) [0x1F]
    s.booting = true ∧ s.bootStep = 7 ∧ s.flashNum s.manRegion (0x6500 + 8) 4 % 32 = 0x1F := by decide +kernel

theorem witness_moduleReady :
    let s := puts base ((List.range 8).flatMap fun n => [(F.HBM_STATE_TRAINED n, 1), (F.HBM_STATE_FILLED n, 1)])
    s.sid.released = true ∧ s.pow.released = true ∧ s.get F.SIDING_BOOT_STATUS_RESULT = 0 ∧ s.stacksTrained = true ∧
      s.fstate (dom 0 0) = 0 ∧
      ans (exec .moduleReady s) (fun t => t.get F.TOP_STATE_MODULE == 1 && t.pins.ready && t.cons.running.length == 8) = true := by
  decide +kernel

/-- A module in reset by one of its holds: RESET_N low, the rails off, or no power. -/
def heldSt (modEn resetN rails hot : Bool) : State :=
  { State.reset with pins := { State.reset.pins with modEn := modEn, resetN := resetN }
                     pow := { State.reset.pow with mainRails := rails, hotSwap := hot } }

theorem witness_power_pins :
    let up := (base.setByte 3 9).put (F.HBM_STATE_FILLED 1) 1
    ans (exec .hotSwapOn (heldSt true true false false)) (fun t => t.pow.hotSwap && !t.pow.mainRails) = true ∧
      ans (exec .hotSwapOff up) (fun t => t.mem.bytes.isEmpty && !t.pow.released) = true ∧
      ans (exec .modEnRise (heldSt false true false true)) (fun t => t.pins.modEn) = true ∧
      ans (exec .modEnFall (up.wr A.POWER_TRIP_LOG 1)) (fun t => t.rd A.POWER_TRIP_LOG == 0) = true ∧
      ans (exec .hotSwapOn up) (fun t => t.pow.released) = true ∧ up.pow.hotSwap = true ∧
      ans (exec .modEnFall up) (fun t => t.get F.RESET_LAST_MODULE_RESET_CAUSE == 2 && !t.flag (F.HBM_STATE_FILLED 1)) = true ∧
      ans (exec .resetNFall up) (fun t => t.byteAt 3 == 9 && t.flag (F.HBM_STATE_FILLED 1) &&
        t.get F.RESET_LAST_MODULE_RESET_CAUSE == 1) = true ∧
      ans (exec (.resetNRise 33) (heldSt true false true true)) (fun t => t.pow.released && t.get F.TOP_SLOT_ID_SLOT == 33) = true ∧
      ans (exec (.resetNRise 33) (heldSt true false false true)) (fun t => !t.pow.released) = true ∧
      ans (exec (.mainRailsGood 33) (heldSt true true false true)) (fun t => t.pow.released && t.bootStep == 1) = true ∧
      ans (exec (.mainRailsGood 33) (heldSt true false false true)) (fun t => !t.pow.released && t.pow.mainRails) = true := by
  decide +kernel

theorem witness_telemetryRead :
    let s := base.put F.POWER_VIN_V 540
    ans (exec (.telemetryRead (0x58, 1, false)) s) (fun t => t.out == [.smb (some 540)]) = true ∧
      ans (exec (.telemetryRead (0x58, 6, false)) s) (fun t => t.out == [.smb (some 3)]) = true ∧
      ans (exec (.telemetryRead (0x58, 7, false)) s) (fun t => t.out == [.smb none]) = true ∧
      ans (exec (.telemetryRead (0x58, 1, true)) (heldSt true true false false)) (fun t => t.out == [.smb none]) = true ∧
      ans (exec (.telemetryRead (0x50, 12, false)) s) (fun t => t.out == [.smb none]) = true ∧
      ans (exec (.telemetryRead (0x50, 12, true)) s) (fun t => (t.out.map fun o => o == .smb none) == [false]) = true := by
  decide +kernel

theorem witness_bootStep_lame :
    let s : State := { base with cons := { flash := [(base.manRegion * 2 ^ 28 + 0x808, 3)] } }
    2 ≤ (bitList (s.flashNum s.manRegion (0x800 + 8 * 1) 8) 33).length := by decide +kernel

theorem witness_reportDone :
    (base.put F.SIDING_ATTEST_STATUS_BUSY 1).flag F.SIDING_ATTEST_STATUS_BUSY = true := by decide +kernel

/-! ### The consort -/

/-- A bank 1 in a state, with bank 0 running and booting. -/
def bankSt (v : Nat) : State := base.put (bankFld 1) v

theorem witness_imageCommands :
    let g := fun k => base.grants .consort (A.CONSORT_IMG_CMD 0) (BitVec.ofNat 32 (k + 16 * 1))
    g 1 = true ∧ g 2 = true ∧ g 3 = true ∧ g 4 = true ∧ g 5 = true ∧
      (bankSt 0).beginRefused 1 = false ∧ (bankSt 0).beginRefused 0 = true ∧
      ans (exec (.beginImage .consort 1) (bankSt BK_EMPTY)) (fun t => t.bank 1 == BK_STAGING) = true ∧
      ans (exec (.beginImage .consort 0) base) (fun t => t.causeBit .CONSORT 0 0 K.CONSORT_ACT_REFUSED) = true ∧
      ans (exec (.endImage .consort 1) (bankSt BK_STAGING)) (fun t => t.bank 1 == BK_VERIFYING) = true ∧
      ans (exec (.abortImage .consort 1) (bankSt BK_STAGING)) (fun t => t.bank 1 == BK_EMPTY) = true ∧
      ans (exec (.abortImage .consort 1) (bankSt BK_VERIFIED)) (fun t => t.bank 1 == BK_VERIFIED) = true ∧
      ans (exec (.resumeImage .consort 1) ((bankSt BK_STAGING).put (F.CONSORT_BANK_STATE_PAUSED 0) 1)) (fun t =>
        !t.flag (F.CONSORT_BANK_STATE_PAUSED 0)) = true ∧
      (bankSt BK_VERIFIED).allEight 1 = false := by decide +kernel

theorem witness_bootBank : ({ imageSt with cons := imageSt.cons } : State).allEight 0 = true := image_sections.2.1

theorem witness_imageVerifyDone :
    (bankSt BK_VERIFYING).bankReason 1 = 1 ∧
      ans (exec (.imageVerifyDone 1) (bankSt BK_VERIFYING)) (fun t => t.bank 1 == BK_INVALID &&
        t.get (F.CONSORT_BANK_STATE_INVALID_REASON 0) == 1) = true := by decide +kernel

/-- With signatures that verify, the image's bank verifies. -/
theorem witness_imageVerifyDone_ok (h : ∀ a b c, Config.verifies a b c = true) : imageSt.bankReason 0 = 0 := by
  have hb := bank_boots h image_sections.1 image_sections.2.1 image_empty
  simp only [State.bankBoots, Bool.and_eq_true, beq_iff_eq] at hb
  exact hb.1

/-- Processor 2 in an activation state, running or not. -/
def actSt (a : Nat) (run rev : Bool) : State :=
  { lit.put (F.CONSORT_ACT_STATE_ASTATE 2) a with
    cons := { running := if run then [2] else [], reverting := if rev then [2] else [] }
    timers := [({ kind := .safePoint, a := 2 }, 0), ({ kind := .probation, a := 2 }, 0), ({ kind := .startLimit, a := 2 }, 0),
               ({ kind := .emergClear, a := 0 }, 0)]
    clk := 10 ^ 12 }

theorem witness_activate :
    lit.grants .consort (A.CONSORT_ACT_CMD 2) (BitVec.ofNat 32 (1 + 16 * 0)) = true ∧ lit.actRefusal 2 0 = 0x10 ∧
      lit.grants .consort (A.CONSORT_ACT_CMD 2) 2 = true ∧
      ans (exec (.activateImage .consort 2 0) lit) (fun t => t.get (F.CONSORT_ACT_STATE_LAST_RESULT 2) == 0x10) = true ∧
      ans (exec (.cancelImage .consort 2) (actSt AS_PENDING true false)) (fun t => t.astate 2 == AS_IDLE &&
        t.get (F.CONSORT_ACT_STATE_LAST_RESULT 2) == 2) = true := by decide +kernel

/-- A verified bank 0 with sections, while bank 1 runs. -/
def takenSt : State := puts imageSt [(bankFld 0, BK_VERIFIED), (F.CONSORT_RUN_INFO_RUN_BANK 2, 1)]

theorem witness_activate_taken : takenSt.actRefusal 2 0 = 0 := by
  have h : takenSt.secEntries 0 = _ := (rfl : takenSt.secEntries 0 = imageSt.secEntries 0).trans image_list
  simp only [State.actRefusal, State.secOf, h]
  decide +kernel

theorem witness_emergencyHoldoffEnd :
    let s := actSt AS_PENDING true false
    s.mayLoad 2 = true ∧ s.mayLoad 0 = false ∧ s.mayLoad 1 = false ∧
      ans (exec (.emergencyHoldoffEnd 2) s) (fun t => t.astate 2 == AS_LOADING) = true := by decide +kernel

theorem witness_safePoint :
    let s := actSt AS_LOADING true false
    s.due { kind := .safePoint, a := 2 } (ms 2) = true ∧ s.holdoffOver 2 = true ∧
      (s.put F.POWER_STATE_EMERGENCY 1).holdoffOver 2 = false ∧
      ans (exec (.safePoint 2 true) s) (fun t => t.cons.running.isEmpty) = true ∧
      ans (exec (.safePoint 2 true) (s.put F.POWER_STATE_EMERGENCY 1)) (fun t => t.astate 2 == AS_PENDING) = true := by decide +kernel

theorem witness_imageStart :
    (actSt AS_LOADING false false).fenced (dom 8 2) = false ∧ (imageSt.secOf 0 2).isSome = true := by
  refine ⟨by decide, ?_⟩
  simp only [State.secOf, image_list]
  decide +kernel

theorem witness_image_digest : ∀ e ∈ imageSt.secEntries 0, imageSt.digestOk 0 e = true := by
  intro e he
  obtain ⟨h1, h2, -⟩ := image_empty e he
  simp [State.digestOk, h1, h2, test_sha512_nil]

theorem witness_probationEnd :
    let s := actSt AS_PROBATION true
    (s false).due { kind := .probation, a := 2 } (ms (1000 * max 1 ((s false).get (F.CONSORT_START_CFG_PROBATION_S 2)))) = true ∧
      ans (exec (.probationEnd 2) (s false)) (fun t => t.astate 2 == AS_IDLE && t.rd64 (A.CONSORT_ACTIVATIONS 2) == 1) = true ∧
      ans (exec (.probationEnd 2) (s true)) (fun t => t.astate 2 == AS_IDLE && t.rd64 (A.CONSORT_ACTIVATIONS 2) == 0) = true := by
  decide +kernel

theorem witness_startLimitExpiry :
    let s := actSt AS_STARTING true true
    s.due { kind := .startLimit, a := 2 } (ms (max 1 (s.get (F.CONSORT_START_CFG_START_LIMIT_MS 2)))) = true ∧
      ans (exec (.startLimitExpiry 2) s) (fun t => t.fstate (dom 8 2) == 3 && t.get (F.CONSORT_ACT_STATE_LAST_RESULT 2) == 4) = true := by
  decide +kernel

theorem witness_heartbeat :
    let s := (puts base [(F.TOP_STATE_MODULE, 1)])
    let a := s.put F.TOP_STATE_HOST_ABSENT 1
    s.grants .siding (A.CONSORT_HEARTBEAT 0) 5 = true ∧ a.hevUnread = 0 ∧
      ans (exec (.heartbeatWrite .siding 5) s) (fun t => t.timer { kind := .heartbeat, a := 0 } == some 100000000) = true ∧
      ans (exec (.heartbeatWrite .siding 5) (s.put F.TOP_STATE_MODULE 2)) (fun t =>
        t.timer { kind := .heartbeat, a := 0 } == some 100000000) = true ∧
      ans (exec (.heartbeatWrite .siding 5) base) (fun t => t.timer { kind := .heartbeat, a := 0 } == none) = true ∧
      ans (exec (.heartbeatWrite .siding 0) s) (fun t => t.timer { kind := .heartbeat, a := 0 } == none) = true ∧
      ans (exec (.heartbeatWrite .siding 5) a) (fun t => !t.flag F.TOP_STATE_HOST_ABSENT &&
        t.cons.hev.map (fun e => numAt e.2 16 8) == [1000000000]) = true := by decide +kernel

theorem witness_hostAbsent :
    let s : State := { bankSt BK_STAGING with timers := [({ kind := .heartbeat, a := 0 }, 0)], clk := 10 ^ 12 }
    s.due { kind := .heartbeat, a := 0 } (ms (max 1000 (min 60000 (s.get (F.CONSORT_HB_CFG_HB_TIMEOUT_MS 0))))) = true ∧
      ans (exec .hostAbsent s) (fun t => t.flag F.TOP_STATE_HOST_ABSENT && t.flag (F.CONSORT_BANK_STATE_PAUSED 0)) = true := by
  decide +kernel

theorem witness_hevRdWrite :
    let s := base.wr (A.CONSORT_HEV_WR 0) 4096
    let l : State := { s with cons := { hevLost := 3 } }
    s.grants .siding (A.CONSORT_HEV_RD 0) 1 = true ∧
      ans (exec (.hevRdWrite .siding 1) s) (fun t => t.rd (A.CONSORT_HEV_RD 0) == 1) = true ∧
      ans (exec (.hevRdWrite .siding 4097) s) (fun t => t.rd (A.CONSORT_HEV_RD 0) == 0) = true ∧
      ans (exec (.hevRdWrite .siding 1) l) (fun t => t.rd (A.CONSORT_HEV_WR 0) == 4097 && t.cons.hevLost == 0 &&
        t.cons.hev.map (fun e => (e.1, numAt e.2 16 8)) == [(0, 3)]) = true := by decide +kernel

theorem witness_hostEventPush :
    procSt.procRuns 1 = true ∧ procSt.procRuns 2 = false ∧ (procSt.wr (A.CONSORT_HEV_WR 0) 4096).hevUnread = 4096 ∧
      ans (exec (.hostEventPush 1 0x100 [7]) procSt) (fun t => t.cons.hev.map (fun e => (numAt e.2 8 2, numAt e.2 10 1, numAt e.2 16 1))
        == [(0x100, 1, 7)]) = true ∧
      ans (exec (.hostEventPush 1 0x100 [7]) (procSt.wr (A.CONSORT_HEV_WR 0) 4096)) (fun t => t.cons.hevLost == 1) = true := by
  decide +kernel

theorem witness_logEntryWrite :
    let s := puts procSt [(F.CONSORT_TRACE_EN_EN 1 2, 2), (F.CONSORT_TRACE_CFG_LEVEL 1, 3)]
    ((s.get (F.CONSORT_TRACE_EN_EN 1 (65 / 32))).testBit (65 % 32) && decide (3 ≤ s.get (F.CONSORT_TRACE_CFG_LEVEL 1))) = true ∧
      ans (exec (.logEntryWrite 1 65 3 [9]) s) (fun t => t.rd (A.CONSORT_LOG_WR 1) == 1 && t.cons.logs.map (fun e => e.2.2.getD 4 0) == [9]) = true ∧
      ans (exec (.logEntryWrite 1 65 4 [9]) s) (fun t => t.cons.logs.isEmpty) = true := by decide +kernel

/-! ### Power -/

/-- A module of 1,000 W at an epoch boundary, with two sections awake. -/
def powSt : State :=
  let s := puts lit [(F.TOP_STATE_SECTION_AWAKE, 3), (F.POWER_BUDGET_WATTS, 1000), (F.POWER_TOTAL_TOKENS, 1000),
    (F.POWER_REC_STATE_DEMAND 0, 100), (F.POWER_REC_STATE_DEMAND 16, 120)]
  s.setFree 100

theorem witness_epochBoundary :
    powSt.rd64 A.TOP_UPTIME % 1000 = 0 ∧ powSt.pow.epochAt = none ∧ powSt.get F.POWER_TOTAL_TOKENS ≠ 0 ∧
      ans (exec .epochBoundary powSt) (fun t => t.tokens 16 == 120 && t.tokens 0 == 100 && t.tokens 1 == 28 && t.tokens 2 == 3 &&
        t.tokens 33 == 20) = true := by decide +kernel

/-- The requests that stand at the end of a slow cycle. -/
def askSt (l : List Nat) (d0 d16 : Nat) : State :=
  let s := puts powSt [(F.POWER_REC_STATE_DEMAND 0, d0), (F.POWER_REC_STATE_DEMAND 16, d16)]
  { s with pow := { s.pow with requests := l } }

theorem witness_tokenRequest :
    powSt.awake 0 = true ∧ powSt.get F.POWER_TOTAL_TOKENS ≠ 0 ∧ priorityRec 17 = false ∧ sharedRec 17 = false ∧
      ans (exec (.tokenRequest 16 150) powSt) (fun t => t.get (F.POWER_REC_STATE_DEMAND 16) == 150 && t.pow.requests == [16] &&
        t.tokens 16 == 0) = true ∧
      ans (exec (.tokenRequest 17 150) powSt) (fun t => t.pow.requests.isEmpty) = true := by decide +kernel

theorem witness_tokenGrant :
    let two := (askSt [0, 16] 50 80).pow.requests
    (askSt [16] 0 150).pending = [] ∧ (askSt [16] 0 150).pow.hotSwap = true ∧
      (askSt [16] 0 150).tokens 16 + (askSt [16] 0 150).freeTokens < 4096 ∧ two = [0, 16] ∧
      ans (step (askSt [16] 0 150)) (fun t => t.tokens 16 == 100 && t.freeTokens == 0 && t.flag (F.POWER_REC_STATE_SHORT 16) &&
        t.causeBit .POWER 0 0 K.POWER_BUDGET_SHORT) = true ∧
      ans (step (askSt [0] 50 0)) (fun t => t.tokens 0 == 50 && t.freeTokens == 50) = true ∧
      ans (step (askSt [0, 16] 50 80)) (fun t => t.tokens 16 == 80 && t.tokens 0 == 20 && t.freeTokens == 0) = true := by decide +kernel

/-- An input of 54.0 V and 10 A since 2 ms, its measures exact. -/
def inputSt : State :=
  let p := inputPower 5400 1000 10
  { lit with pow := { lit.pow with input := some ⟨5400, 1000, p, p⟩, energy := 10 ^ 12 - 1, drawn := [(lit.clk - 200000, p)] } }

theorem witness_inputSampled :
    inputSt.pending = [] ∧ inputSt.pow.hotSwap = true ∧
      ans (step inputSt) (fun t => t.get F.POWER_VIN_V == 5400 && t.get F.POWER_IIN_I == 1000 && t.get F.POWER_PIN_P == 540 &&
        t.rd64 A.POWER_ENERGY_MJ == 1) = true := by decide +kernel

theorem witness_budgetWrite :
    powSt.grants .siding A.POWER_BUDGET 700 = true ∧
      ans (exec (.budgetWrite .siding 700) powSt) (fun t => t.budget == 700 && t.flag F.POWER_STATE_REALLOC) = true ∧
      ans (exec (.budgetWrite .siding 10) powSt) (fun t => t.budget == 600) = true ∧
      ans (exec (.budgetWrite .siding 1000) powSt) (fun t => !t.flag F.POWER_STATE_REALLOC) = true := by decide +kernel

/-- A module with a comparator's time started at 0. -/
def heldFor (s : State) (k : TKind) : State := { s with timers := [({ kind := k, a := 0 }, 0)] }

theorem witness_emergency :
    let s := puts lit [(emergFld 1, 1), (F.POWER_STATE_EMERGENCY, 1), (F.POWER_STATE_THROTTLE, 1)]
    let hot : State := { lit with pow := { lit.pow with temps := [(20, 16 * 106)] } }
    lit.pow.hotSwap = true ∧ lit.flag (emergFld 1) = false ∧ (heldFor lit .ocHigh).onsetDue 1 = true ∧ lit.onsetDue 1 = false ∧
      (heldFor s .ocOk).clearDue 1 = true ∧ s.clearDue 1 = false ∧ (heldFor lit .uvLow).onsetDue 0 = true ∧ hot.onsetDue 2 = true ∧
      ans (exec (.emergencyOnset 1) (heldFor lit .ocHigh)) (fun t => t.flag F.POWER_STATE_THROTTLE && t.causeBit .POWER 0 0 1) = true ∧
      ans (exec (.emergencyOnset 1) lit) (fun t => !t.flag F.POWER_STATE_THROTTLE) = true ∧
      ans (exec (.emergencyClear 1) (heldFor s .ocOk)) (fun t => !t.flag F.POWER_STATE_THROTTLE) = true ∧
      ans (exec (.emergencyClear 1) s) (fun t => t.flag F.POWER_STATE_THROTTLE) = true ∧
      ans (exec (.emergencyClear 1) (heldFor (s.put (emergFld 0) 1) .ocOk)) (fun t => t.flag F.POWER_STATE_THROTTLE &&
        !t.flag (emergFld 1)) = true := by decide +kernel

theorem witness_emergency_reset :
    let s := puts lit [(emergFld 0, 1), (F.POWER_STATE_EMERGENCY, 1), (F.POWER_STATE_THROTTLE, 1)]
    ans (exec .resetNFall s) (fun t => t.flag (emergFld 0) && t.flag F.POWER_STATE_EMERGENCY && t.flag F.POWER_STATE_THROTTLE) = true := by
  decide +kernel

theorem witness_trip :
    let s : State := { lit.put F.POWER_STATE_OC 1 with timers := [({ kind := .ocLasting, a := 0 }, 0)] }
    let th : State := { lit with timers := [({ kind := .thermTrip, a := 5 }, 0)] }
    s.pow.mainRails = true ∧ s.tripDue true = true ∧ th.tripDue false = true ∧ lit.tripDue false = false ∧
      ans (exec (.trip true) s) (fun t => t.pow.tripped && !t.pow.mainRails && t.rd A.POWER_TRIP_LOG == 2) = true ∧
      ans (exec (.trip false) th) (fun t => t.rd A.POWER_TRIP_LOG == 1) = true ∧
      ans (exec (.trip false) lit) (fun t => t.pow.mainRails) = true := by decide +kernel

theorem witness_sensorRead :
    let j := List.replicate 20 (16 * 50) ++ [16 * 60]
    let c := fun d h vin iin => Instr.sensorRead j (List.replicate 8 d) (List.replicate 8 h) (16 * 41) vin iin 10 10
    let r := fun d h => exec (c d h 5400 1000) lit
    let soon : State := { lit with timers := [({ kind := .sensor, a := 0 }, 99999500)] }
    hotter (16 * 106) 105 = true ∧ hotter (lit.get (F.DIE_DIE_TEMP_TEMP 0)) 105 = false ∧ hotter (4096 - 16) 40 = false ∧
      lit.pow.hotSwap = true ∧ soon.due { kind := .sensor, a := 0 } (us 10) = false ∧
      ans (r (16 * 106) (16 * 96)) (fun t => t.get F.POWER_TEMP_MAX_SENSOR == 20 && t.causeBit .DIE 0 0 K.DIE_OVERTEMP &&
        t.causeBit .POWER 0 0 K.POWER_STACK_HOT && t.causeBit .POWER 0 0 K.POWER_COOLANT_WARM && t.get F.POWER_VIN_V == 0 &&
        t.pow.input.map (·.vin) == some 5400 && t.timer { kind := .uvLow, a := 0 } == none) = true ∧
      ans (exec (c 0 0 3799 9000) soon) (fun t => t.pow.temps.isEmpty && t.timer { kind := .uvLow, a := 0 } == some 100000000 &&
        t.timer { kind := .ocHigh, a := 0 } == some 100000000) = true := by
  decide +kernel

/-! ### The siding -/

/-- The link UP with nothing outstanding. -/
def sidSt : State :=
  let s := puts lit [(F.SIDING_STATE_LINK_UP, 1), (F.SIDING_STATE_ALL_ALIGNED, 1)]
  { s with sid := { s.sid with txSeq := 7, rxSeq := 3, rxFree := 32 } }

/-- Every lane aligned, the link down. -/
def alignedSt : State := puts lit ((List.range 8).map fun n => (F.SIDING_LANE_CTL_ALIGNED n, 1))

/-- A frame that is the next one expected. -/
def rx (type flags count tag addr : Nat) (payload : List Byte) : List Byte :=
  sealFrame 3 (frameOf type flags count tag addr payload)

/-- D1 of a TS by which every lane is aligned, and all are aligned and deskewed. -/
def tsAll : List Nat := List.replicate 8 3

theorem witness_sidingLinkUp :
    let all := alignedSt.put F.SIDING_STATE_ALL_ALIGNED 1
    let up := fun s l => exec (.sidingLinkUp (0, l)) s
    alignedSt.pow.hotSwap = true ∧ alignedSt.sidUp = false ∧ alignedSt.lanesAligned = true ∧ lit.lanesAligned = false ∧
      ans (up lit [tsAll]) (fun t => !t.sidUp && !t.flag F.SIDING_STATE_ALL_ALIGNED) = true ∧
      ans (up alignedSt [tsAll]) (fun t => !t.sidUp && t.flag F.SIDING_STATE_ALL_ALIGNED && t.flag (F.SIDING_LANE_STATE_PARTNER_ALIGNED 7)) = true ∧
      ans (exec (.sidingLinkUp (4, [])) alignedSt) (fun t => !t.flag F.SIDING_STATE_ALL_ALIGNED &&
        t.flag (F.SIDING_LANE_STATE_SKEW_ERR 2) && t.flag (F.SIDING_LANE_STATE_DESKEWED 1)) = true ∧
      ans (up all (List.replicate 8 tsAll)) (fun t => t.sidUp && t.sid.notifyDue) = true ∧
      ans (up all (List.replicate 7 tsAll)) (fun t => !t.sidUp && t.sid.partnerTs == 7) = true ∧
      ans (up all (List.replicate 7 tsAll ++ [List.replicate 8 1, tsAll])) (fun t => !t.sidUp && t.sid.partnerTs == 1) = true ∧
      ans (up sidSt [tsAll]) (fun t => t.sidUp && t.sid.txSeq == 7) = true := by decide +kernel

theorem witness_sidingLinkDown :
    sidSt.sidUp = true ∧ ans (exec (.sidingLinkDown 3 0) sidSt) (fun t =>
        !t.sidUp && t.causeBit .SIDING 0 0 K.SIDING_ELASTIC_ERR && t.rd64 A.SIDING_LINK_DOWNS == 1) = true ∧
      ans (exec (.sidingLinkDown 1 4) sidSt) (fun t => !t.sidUp && t.rd (A.SIDING_CODE_ERRS 2) == 17) = true ∧
      ans (exec (.sidingLinkDown 1 0) sidSt) (fun t => t.sidUp) = true := by decide +kernel

theorem witness_sidingLaneRealign :
    let s := alignedSt.startTimer (realignKey 2)
    let v : State := { s with clk := s.clk + us 2 }
    let r := fun hits skewed errs => exec (.sidingLaneRealign 2 (hits, skewed) errs)
    v.due (realignKey 2) (us 2) = true ∧ v.sidUp = false ∧ s.due (realignKey 2) (us 2) = false ∧ v.pow.hotSwap = true ∧
      (∀ m, m < 8 → m ≠ 2 → v.laneAligned m = true) ∧
      ans (r 9 0 0 v) (fun t => t.flag (F.SIDING_LANE_CTL_ALIGNED 2) && t.flag F.SIDING_STATE_ALL_ALIGNED) = true ∧
      ans (r 9 1 0 v) (fun t => t.flag (F.SIDING_LANE_CTL_ALIGNED 2) && t.flag (F.SIDING_LANE_STATE_SKEW_ERR 0) &&
        !t.flag F.SIDING_STATE_ALL_ALIGNED) = true ∧
      ans (r 9 0 1 v) (fun t => !t.flag (F.SIDING_LANE_CTL_ALIGNED 2)) = true ∧
      ans (r 9 0 16 sidSt) (fun t => t.sidUp && t.lateErrs 2 == 16) = true ∧
      ans (r 9 0 17 sidSt) (fun t => !t.sidUp && t.rd (A.SIDING_CODE_ERRS 2) == 17) = true := by decide +kernel

theorem witness_sidingSkipTx :
    let s : State := { sidSt with sid := { sidSt.sid with tx := [frameTx [7]] } }
    lit.elapsed { kind := .sidingSkip, a := 0 } 82 = true ∧ ans (exec .sidingSkipTx lit) (fun t => t.out == [.skip]) = true ∧
      ans (exec .sidingSkipTx s) (fun t => t.sid.tx.map (·.ordered) == [true, false]) = true := by
  decide +kernel

/-- PAD is K23.7, of which the two codes stand in turn (R477, R478). -/
theorem test_sidingIdle :
    (match sidSt.sidCycle.out with
      | [.siding lanes] => lanes.map (·.take 2) == List.replicate 8 ((codeLane false [.pad, .pad]).1) && lanes.all (·.length == 12)
      | _ => false) = true := by decide +kernel

/-- K28.5 with negative running disparity is 0011111010, bit a first. -/
theorem test_code10_comma : code10 true (28 + 32 * 5) false = (0b0011111010, true) := by decide +kernel

theorem witness_ack :
    let s : State := { sidSt with sid := { sidSt.sid with unacked := [(5, [1]), (6, [2])], backlog := [] } }
    ans (exec (.ack 5 false 32) s) (fun t => t.sid.unacked == [(6, [2])] && t.out == []) = true ∧
      ans (exec (.ack 5 true 32) s) (fun t => t.out == [.frame [2]] && t.rd64 A.SIDING_REPLAYS == 1) = true ∧
      ans (exec (.ack 9 false 32) s) (fun t => t.sid.unacked.length == 2) = true := by decide +kernel

theorem witness_sidingAckTimer :
    let s : State := { sidSt with sid := { sidSt.sid with ackDue := true } }
    s.elapsed { kind := .sidingAck, a := 0 } 20 = true ∧
      ans (exec .sidingAckTimer s) (fun t => t.out == [.ack 2 false 32]) = true := by decide +kernel

theorem witness_notify :
    let s := puts sidSt [(F.SIDING_CFG_NOTIFY_EN, 1)]
    let v : State := { s with sid := { s.sid with notifyDue := true } }
    v.elapsed { kind := .notify, a := 0 } (us (max 1 (v.get F.SIDING_CFG_NOTIFY_US))) = true ∧
      v.sid.unacked.length < 64 ∧ v.sid.sentSince < v.sid.rxFree ∧
      v.maySend = true ∧ s.maySend = true ∧ lit.maySend = false ∧
      ans (exec .notify v) (fun t => t.rd64 A.SIDING_NOTIFIES == 1 && t.sid.txSeq == 8 && t.sid.notified == v.notifyWords v.pins) = true := by
  decide +kernel

theorem witness_sidingEye :
    let s : State := { lit with sid := { lit.sid with eyeCtl := List.replicate 8 0 } }
    let v := (s.put (F.SIDING_EYE_STATUS_BUSY 1) 1).startTimer (sidEyeKey 1)
    let w : State := { v with clk := v.clk + sidEyeTime 0 }
    s.grants .consort (A.SIDING_EYE_CMD 1) 1 = true ∧ v.grants .siding (A.SIDING_EYE_CMD 1) 2 = true ∧
      w.due (sidEyeKey 1) (sidEyeTime 0) = true ∧
      ans (exec (.sidingEyeStart .consort 1) s) (fun t => t.flag (F.SIDING_EYE_STATUS_BUSY 1)) = true ∧
      ans (exec (.sidingEyeAbort .siding 1) v) (fun t => t.flag (F.SIDING_EYE_STATUS_ABORTED 1)) = true ∧
      ans (exec (.sidingEyeDone 1 77) w) (fun t => t.rd (A.SIDING_EYE_ERRS 1) == 77 && t.flag (F.SIDING_EYE_STATUS_DONE 1)) = true := by
  decide +kernel

theorem witness_regRd :
    let s := sidSt.wr (A.PORT_LAYOUT 3) 0x04080205
    let f := rx 1 0 1 0x55 (A.PORT_LAYOUT 3) []
    s.frameGood f = true ∧ ans (exec (.regRd (f, [])) s) (fun t =>
      t.out == [.frame (sealFrame 7 (frameOf 3 0 1 0x55 (A.PORT_LAYOUT 3) [5, 2, 8, 4]))]) = true := by decide +kernel

/-- A part of six lane dies: the page of an empty slot reads 0. -/
theorem witness_regRd_absent :
    let s : State := { sidSt with asm := { sidSt.asm with l := .e4 } }
    let f := rx 1 0 1 0 (Blk.DIE.page 7 0 + 4) []
    s.frameGood f = true ∧ s.absentAt (frameAddr f) = true ∧ s.sidingServed (frameAddr f) 0 false = true ∧
      s.regionsGrant .siding (frameAddr f) false = true ∧
      ans (exec (.regRd (f, [])) s) (fun t => t.out == [.frame (sealFrame 7 (frameOf 3 0 1 0 (frameAddr f) [0, 0, 0, 0]))]) = true := by
  decide +kernel

theorem witness_regRd_late :
    let f := rx 1 0 1 0 (A.PORT_LAYOUT 3) []
    sidSt.frameGood f = true ∧ (match sidSt.acceptFrame.busCheck .siding (A.PORT_LAYOUT 3) 32 0 false with | .target _ => true | _ => false) = true ∧
      ans (exec (.regRd (f, [0])) sidSt) (fun t => t.rd64 A.TOP_BUS_ERR == 1 &&
        t.out == [.frame (sealFrame 7 (frameOf 3 E_TIMEOUT 1 0 (A.PORT_LAYOUT 3) [0xFF, 0xFF, 0xFF, 0xFF]))]) = true := by decide +kernel

theorem witness_regWr :
    let f := rx 2 1 1 0 (A.PORT_LAYOUT 3) [5, 2, 8, 4]
    sidSt.frameGood f = true ∧ ans (exec (.regWr (f, [])) sidSt) (fun t =>
      t.rd (A.PORT_LAYOUT 3) == 0x04080205 && t.out == [.frame (sealFrame 7 (frameOf 4 0 0 0 (A.PORT_LAYOUT 3) []))]) = true := by
  decide +kernel

theorem witness_flashWr :
    let s := sidSt.put F.SIDING_MAN_STATE_STATE MS_STAGING
    let f := rx 0x10 0 16 9 (2 * 2 ^ 28) ((List.range 16).map (BitVec.ofNat 8))
    s.frameGood f = true ∧ s.acceptFrame.flashRefusal 2 0 16 = 0 ∧ sidSt.acceptFrame.flashRefusal 2 0 16 = 0x20 ∧
      ans (exec (.flashWr f false) s) (fun t => t.flashByte 3 5 == 5 &&
        t.out == [.frame (sealFrame 7 (frameOf 0x11 0 0 9 16 []))]) = true ∧
      ans (exec (.flashWr f true) s) (fun t => t.flashByte 3 5 == 0) = true := by decide +kernel

theorem witness_badFrame :
    let f := sealFrame 4 (frameOf 1 0 1 0 0 [])
    let g := sealFrame 3 (frameOf 9 0 1 0 0 [])
    sidSt.frameGood f = false ∧ sidSt.frameNext f = false ∧ frameCrcOk g = true ∧ sidSt.frameNext g = true ∧
      sidSt.frameGood g = false ∧
      ans (exec (.badFrame f) sidSt) (fun t => t.out == [.ack 2 true 32] && t.rd64 A.SIDING_BAD_FRAMES == 1) = true ∧
      ans (exec (.badFrame g) sidSt) (fun t => t.out == [] && t.sid.rxSeq == 4) = true := by decide +kernel

theorem witness_manifest :
    let s := lit.put F.SIDING_MAN_STATE_STATE MS_STAGING
    let v := lit.put F.SIDING_MAN_STATE_STATE MS_VERIFYING
    lit.grants .siding A.SIDING_MAN_CMD 1 = true ∧ s.grants .siding A.SIDING_MAN_CMD 2 = true ∧
      s.grants .siding A.SIDING_MAN_CMD 3 = true ∧ v.stagedReason = 1 ∧ v.manChosen = true ∧
      ans (exec (.manBegin .siding) lit) (fun t => t.manState == MS_STAGING) = true ∧
      ans (exec (.manEnd .siding) s) (fun t => t.manState == MS_VERIFYING) = true ∧
      ans (exec (.manAbort .siding) s) (fun t => t.manState == MS_EMPTY) = true ∧
      ans (exec .manifestVerifyDone v) (fun t => t.manState == MS_INVALID && t.get F.SIDING_MAN_STATE_REASON == 1) = true := by
  decide +kernel

/-- With a ROM key under which every signature verifies, a staged manifest is VERIFIED while no slot is in use. -/
theorem witness_manifestVerified (h : ∀ a b c, Config.verifies a b c = true) :
    let v := (lit.put F.SIDING_MAN_STATE_STATE MS_VERIFYING).flashWrite 3 0 (toBytes 4 0x464D4849 ++ toBytes 2 1)
    v.stagedReason = 0 ∧ v.manState = MS_VERIFYING := by
  simp only [State.stagedReason, State.slotReason, h]
  decide +kernel

theorem witness_go :
    let s := lit.put F.SIDING_ID_INFO_ID_STATUS 1
    lit.grants .siding A.SIDING_ATTEST_CMD 1 = true ∧ lit.flag F.SIDING_ATTEST_STATUS_BUSY = false ∧
      s.get F.SIDING_ID_INFO_ID_STATUS = 1 ∧ lit.get F.SIDING_ID_INFO_ID_STATUS ≠ 1 ∧
      ans (exec (.go .siding) s) (fun t => t.flag F.SIDING_ATTEST_STATUS_DONE) = true ∧
      (lit.put F.SIDING_ATTEST_STATUS_BUSY 1).flag F.SIDING_ATTEST_STATUS_BUSY = true := by decide +kernel

theorem witness_badFrame_behind :
    let f := sealFrame 5 (frameOf 0x01 0 1 0 0 [])
    let s : State := { sidSt with sid := { sidSt.sid with rxSeq := 6 } }
    s.sidUp = true ∧ frameCrcOk f = true ∧ s.frameNext f = false ∧ (numAt f 2 2 + 4096 - s.sid.rxSeq) % 4096 = 4095 ∧
      ans (exec (.badFrame f) s) (fun t => t.out.isEmpty && t.sid.ackDue && t.sid.rxSeq == 6) = true := by decide +kernel

theorem test_frameSyms : (List.range 6).map (frameSyms [7, 8, 9] 0) = [.sfd, .data 7, .data 8, .data 9, .efd, .pad] ∧
    frameSyms (List.replicate 7 1) 0 7 = .data 1 ∧ frameSyms (List.replicate 7 1) 1 0 = .efd := by decide +kernel

/-! ### Ill-formed commands: one for each kind of check -/



theorem smoke_machine : (Instr.downTimeElapsed (.port 256)).wellFormed lit.asm = false ∧
    (Instr.startupComplete (.line 4096)).wellFormed lit.asm = false ∧
    (Instr.drainComplete (.sect 16)).wellFormed lit.asm = false ∧
    (Instr.drainTimeout (.window 256)).wellFormed lit.asm = false ∧
    (Instr.downTimeElapsed (.station 16)).wellFormed lit.asm = false ∧
    (Instr.downTimeElapsed (.lane 1024)).wellFormed lit.asm = false := by decide +kernel

theorem smoke_machine_of_an_absent_unit :
    (Instr.downTimeElapsed (.stack 4)).wellFormed lit.asm = false ∧
    (Instr.downTimeElapsed (.die 7)).wellFormed { lit.asm with l := .e4 } = false ∧
    (Instr.laneTrainStart 1023).wellFormed { lit.asm with l := .e4 } = false ∧
    (Instr.laneTrainStart 1023).wellFormed lit.asm = true := by decide +kernel

theorem smoke_lane_operands : (Instr.laneMarkerLock 0 16 0 0 0).wellFormed lit.asm = false ∧
    (Instr.codewordRx 0 (some 16, []) 0).wellFormed lit.asm = false ∧
    (Instr.adaptStep 0 4 1).wellFormed lit.asm = false ∧ (Instr.adaptStep 0 0 0).wellFormed lit.asm = false ∧
    (Instr.laneFault 0 4).wellFormed lit.asm = false ∧ (Instr.eyeStart .siding 1024).wellFormed lit.asm = false := by decide +kernel

theorem smoke_port_operands : (Instr.switch 0 65536 0 true true).wellFormed lit.asm = false ∧
    (Instr.linkUp 0 65536).wellFormed lit.asm = false ∧
    (Instr.packetReadOut 289 0 true).wellFormed lit.asm = false ∧ (Instr.packetReadOut 0 6 true).wellFormed lit.asm = false ∧
    (Instr.mcBlocked 255).wellFormed lit.asm = false ∧ (Instr.token 289).wellFormed lit.asm = false ∧
    (Instr.fence 288).wellFormed lit.asm = false := by decide +kernel

theorem smoke_pool_operands : (Instr.poolGrant 2).wellFormed lit.asm = false ∧
    (Instr.poolGrant 97).wellFormed lit.asm = false ∧ (Instr.poolRequest 0 0 0 0).wellFormed lit.asm = false ∧
    (Instr.poolRequest 1 4 0 0).wellFormed lit.asm = false := by decide +kernel

theorem smoke_core_operands : (Instr.runStart 16 0).wellFormed lit.asm = false ∧ (Instr.runStart 0 33).wellFormed lit.asm = false ∧
    (Instr.subst .siding 0 32).wellFormed lit.asm = false ∧ (Instr.contributionAdd 512).wellFormed lit.asm = false ∧
    (Instr.entryActivate 4096).wellFormed lit.asm = false ∧ (Instr.weightRebuild 1024).wellFormed lit.asm = false ∧
    (Instr.shardCommit 4096).wellFormed lit.asm = false := by decide +kernel

theorem smoke_memory_operands : (Instr.repairDone 4).wellFormed lit.asm = false ∧
    (Instr.stackInitStep 0 8 true 0).wellFormed lit.asm = false ∧
    (Instr.spaceLayoutWrite .siding 5 0 0).wellFormed lit.asm = false := by decide +kernel

theorem smoke_domain_operands : (Instr.domainResetComplete (dom 9 0)).wellFormed lit.asm = false ∧
    (Instr.domainResetComplete (dom 0 1)).wellFormed lit.asm = false ∧
    (Instr.quietPeriodEnd (dom 2 33)).wellFormed lit.asm = false ∧
    (Instr.release .siding (2 ^ 18)).wellFormed lit.asm = false := by decide +kernel

theorem smoke_host_operands : (Instr.safePoint 8 false).wellFormed lit.asm = false ∧
    (Instr.beginImage .siding 2).wellFormed lit.asm = false ∧
    (Instr.hostEventPush 0 65536 []).wellFormed lit.asm = false ∧
    (Instr.hostEventPush 0 0 (List.replicate 49 0)).wellFormed lit.asm = false ∧
    (Instr.logEntryWrite 0 1024 0 []).wellFormed lit.asm = false := by decide +kernel

theorem smoke_power_operands : (Instr.tokenRequest 34 0).wellFormed lit.asm = false ∧
    (Instr.emergencyOnset 3).wellFormed lit.asm = false ∧
    (Instr.sensorRead [] [] [] 0 0 0 0 0).wellFormed lit.asm = false ∧
    (Instr.resetNRise 64).wellFormed lit.asm = false ∧ (Instr.telemetryRead (0x58, 256, false)).wellFormed lit.asm = false ∧
    (Instr.sidingLinkUp (256, [])).wellFormed lit.asm = false ∧ (Instr.ack 4096 false 0).wellFormed lit.asm = false := by decide +kernel

/-- A command that names no unit of the part stops with a fault. -/
theorem smoke_ill_formed_stops : exec (.runStart 16 0) lit = .fault .noSuchUnit := by rfl

end Sys2Proof.Tests
end

section
/-! SUPPORT. What the units around the switch core leave alone as they place, free and discard packets and read and write module
memory: the slow clock, the queues of the lines, the works of the stations, and the copies queued before. -/

namespace Sys2Proof.Machine.State

/-! ### Two relations between a state and a later one -/

/-- The slow clock stands, and every copy queued with an old number was queued before (R165). -/
structure Placed (s t : State) : Prop where
  clk : t.clk = s.clk
  nextId : s.sw.nextId ≤ t.sw.nextId
  queue : ∀ x ∈ t.sw.queue, x.id < s.sw.nextId → x ∈ s.sw.queue

/-- The lines' entries, endings and copies and the stations' works stand too, and no chunk has a packet waiting that had
none. -/
structure Kept (s t : State) : Prop extends Placed s t where
  entries : t.coll.entries = s.coll.entries
  ended : t.coll.ended = s.coll.ended
  copies : t.coll.copies = s.coll.copies
  works : t.stn.work = s.stn.work
  waiting : ∀ o ∈ t.sw.waiting, o.chunk = none ∨ ∃ x ∈ s.sw.waiting, x.chunk = o.chunk

variable {s t u : State}

theorem Placed.refl (s : State) : Placed s s := ⟨rfl, le_rfl, fun _ h _ => h⟩

theorem Placed.trans (h : Placed s t) (g : Placed t u) : Placed s u where
  clk := g.clk.trans h.clk
  nextId := h.nextId.trans g.nextId
  queue x hx hid := h.queue x (g.queue x hx (hid.trans_le h.nextId)) hid

theorem Kept.refl (s : State) : Kept s s := ⟨.refl s, rfl, rfl, rfl, rfl, fun o h => .inr ⟨o, h, rfl⟩⟩

theorem Kept.trans (h : Kept s t) (g : Kept t u) : Kept s u where
  toPlaced := h.toPlaced.trans g.toPlaced
  entries := g.entries.trans h.entries
  ended := g.ended.trans h.ended
  copies := g.copies.trans h.copies
  works := g.works.trans h.works
  waiting o ho := by
    obtain hn | ⟨x, hx, e⟩ := g.waiting o ho
    · exact .inl hn
    · obtain hn | ⟨y, hy, e'⟩ := h.waiting x hx
      · exact .inl (e ▸ hn)
      · exact .inr ⟨y, hy, e'.trans e⟩

/-- Nothing that the two relations speak of changes. -/
theorem Kept.of_same (h : Kept s t) (hclk : u.clk = t.clk) (hentries : u.coll.entries = t.coll.entries)
    (hended : u.coll.ended = t.coll.ended) (hcopies : u.coll.copies = t.coll.copies) (hworks : u.stn.work = t.stn.work)
    (hid : u.sw.nextId = t.sw.nextId) (hqueue : u.sw.queue = t.sw.queue) (hwaiting : u.sw.waiting = t.sw.waiting) : Kept s u :=
  h.trans ⟨⟨hclk, hid.ge, fun _ hx _ => hqueue ▸ hx⟩, hentries, hended, hcopies, hworks,
    fun o ho => .inr ⟨o, hwaiting ▸ ho, rfl⟩⟩

/-- Nothing of the clock, the collectives, the stations and the switch core changes. -/
theorem Kept.of_parts (h : Kept s t) (hclk : u.clk = t.clk) (hcoll : u.coll = t.coll) (hstn : u.stn = t.stn)
    (hsw : u.sw = t.sw) : Kept s u := by
  apply h.of_same hclk <;> simp [hcoll, hstn, hsw]

/-- A fold keeps what each of its steps keeps. -/
theorem Kept.foldl {α : Type} {f : State → α → State} (l : List α) (hf : ∀ t a, Kept t (f t a)) (h : Kept s t) :
    Kept s (l.foldl f t) := foldl_keeps (Kept s) f (fun x a hx => hx.trans (hf x a)) l t h

theorem Kept.ite {c : Prop} [Decidable c] {a b : State} (ha : Kept s a) (hb : Kept s b) : Kept s (if c then a else b) := by
  split
  · exact ha
  · exact hb

/-- Works are found as before. -/
theorem Kept.work (h : Kept s t) (g step sub op : Nat) : t.work g step sub op = s.work g step sub op := by
  unfold State.work; rw [h.works]

theorem Kept.entry (h : Kept s t) (g step sub fam : Nat) : t.entry g step sub fam = s.entry g step sub fam := by
  unfold State.entry; rw [h.entries]

theorem Kept.line (h : Kept s t) (g : Nat) : t.line g = s.line g := by unfold State.line; rw [h.copies]

/-! ### Registers, causes and hidden state outside the switch core -/

section
variable (h : Kept s t)
include h

theorem Kept.wr {a v : Nat} : Kept s (t.wr a v) := h.of_parts (by simp) (by simp) (by simp) (by simp)
theorem Kept.put {f : Fld} {v : Nat} : Kept s (t.put f v) := h.of_parts (by simp) (by simp) (by simp) (by simp)
theorem Kept.bump {a n : Nat} : Kept s (t.bump a n) := h.of_parts (by simp) (by simp) (by simp) (by simp)
theorem Kept.report {n d : Nat} {l : List Nat} : Kept s (t.report n d l) := h.of_parts (by simp) (by simp) (by simp) (by simp)
theorem Kept.raise {b : Blk} {i j k : Nat} {x : List Nat} : Kept s (t.raise b i j k x) :=
  h.of_parts (by simp) (by simp) (by simp) (by simp)
theorem Kept.setPool {k : Nat} {q : PoolHid} : Kept s (t.setPool k q) := h.of_parts (by simp) (by simp) (by simp) (by simp)
theorem Kept.fresh : Kept s t.fresh.2 := h.of_parts rfl rfl rfl rfl
theorem Kept.setArb {k : ArbKey} {a : Arb} : Kept s (t.setArb k a) := h.of_same rfl rfl rfl rfl rfl rfl rfl rfl

/-- A capture changes what its fields hold alone. -/
theorem Kept.capture {f : Fld} {g : State → State} (hg : ∀ t, Kept t (g t)) : Kept s (t.capture f g) := by
  unfold State.capture; split
  · exact h
  · exact (h.trans (hg t)).put

end

/-! ### Accounts, pools and cells (R159, R173, R175) -/

section
variable (h : Kept s t)
include h

theorem Kept.account {p c : Nat} {f : State → State} (hf : ∀ t, Kept t (f t)) : Kept s (t.account p c f) :=
  (h.trans (hf t)).put.put

theorem Kept.charge {p c n : Nat} : Kept s (t.charge p c n) := h.account fun t => (Kept.refl t).put

theorem Kept.uncharge {p c n : Nat} : Kept s (t.uncharge p c n) := h.account fun t => (Kept.refl t).put

theorem Kept.noteRelinks {l : List Nat} : Kept s (t.noteRelinks l) := h.foldl l fun t _ => (Kept.refl t).bump.raise

theorem Kept.poolTake {k n owner : Nat} : Kept s (t.poolTake k n owner).2 := h.fresh.setPool.wr.wr.wr.noteRelinks

theorem Kept.poolFree {k e req : Nat} : Kept s (t.poolFree k e req) := by
  unfold State.poolFree; simp only; split
  · exact .ite h.setPool.wr.wr.wr.uncharge h.setPool.wr.wr.wr
  · exact h.bump.raise.capture fun t => (Kept.refl t).put.put.put

theorem Kept.poolFrees {k req : Nat} {l : List Nat} : Kept s (t.poolFrees k req l) :=
  h.foldl l fun t _ => (Kept.refl t).poolFree

theorem Kept.returnCredit {p c n : Nat} : Kept s (t.returnCredit p c n) := by
  unfold State.returnCredit; split
  · exact h.put
  · exact h

theorem Kept.freeCells {b : BufPkt} {l : List Nat} : Kept s (t.freeCells b l) := h.poolFrees

/-! ### Packets in the buffer and copies -/

theorem Kept.setSched {o : Nat} {v : Sched} : Kept s (t.setSched o v) := h.of_same rfl rfl rfl rfl rfl rfl rfl rfl

theorem Kept.settle {o : Nat} : Kept s (t.settle o) := h.setSched

theorem Kept.setBuf {b : BufPkt} : Kept s (t.setBuf b) := h.of_same rfl rfl rfl rfl rfl rfl rfl rfl

theorem Kept.delBuf {id : Nat} : Kept s (t.delBuf id) := h.of_same rfl rfl rfl rfl rfl rfl rfl rfl

theorem Kept.newId : Kept s t.newId.2 :=
  h.trans ⟨⟨rfl, Nat.le_succ _, fun _ hx _ => hx⟩, rfl, rfl, rfl, rfl, fun o ho => .inr ⟨o, ho, rfl⟩⟩

/-- Copies that leave the queue leave the others as they are. -/
theorem Kept.filterQueue {p : Copy → Bool} : Kept s { t with sw := { t.sw with queue := t.sw.queue.filter p } } :=
  h.trans ⟨⟨rfl, le_rfl, fun _ hx _ => List.mem_of_mem_filter hx⟩, rfl, rfl, rfl, rfl, fun o ho => .inr ⟨o, ho, rfl⟩⟩

omit h in
/-- Once a copy has left the queue, its cells return and nothing more leaves (R168). -/
theorem kept_leave (s : State) (c : Copy) :
    Kept { s with sw := { s.sw with queue := s.sw.queue.filter fun x => x.id ≠ c.id } } (s.leave c) := by
  unfold State.leave; dsimp only
  have h0 := (Kept.refl { s with sw := { s.sw with queue := s.sw.queue.filter fun x => x.id ≠ c.id } }).settle (o := c.out)
  split
  · exact h0
  · split
    · exact h0.freeCells.freeCells.delBuf.returnCredit
    · exact h0.freeCells.setBuf

theorem Kept.leave {c : Copy} : Kept s (t.leave c) := h.filterQueue.trans (kept_leave t c)

theorem Kept.discard {id : Nat} : Kept s (t.discard id) := by
  unfold State.discard; split
  · exact h
  · exact (Kept.foldl _ (fun t _ => (Kept.refl t).settle) h.freeCells.delBuf.filterQueue).returnCredit

theorem Kept.serveClass {c : Copy} {n : Nat} : Kept s (t.serveClass c n) := by
  unfold State.serveClass; split
  · exact h
  · exact h.setSched

theorem Kept.consume {c : Copy} {k : Pkt} : Kept s (t.consume c k) := h.serveClass.leave.bump

/-- A copy enters the queue with a new number (R165). -/
theorem Kept.enqueue {id out tc dst : Nat} : Kept s (t.enqueue id out tc dst) := by
  refine h.trans ⟨⟨rfl, Nat.le_succ _, fun x hx hid => ?_⟩, rfl, rfl, rfl, rfl, fun o ho => .inr ⟨o, ho, rfl⟩⟩
  obtain hx | hx := List.mem_append.1 hx
  · exact hx
  · rw [List.mem_singleton.1 hx] at hid
    exact absurd hid (lt_irrefl _)

/-- A packet enters the buffer. -/
theorem Kept.addBuf {b : BufPkt} : Kept s { t with sw := { t.sw with pkts := t.sw.pkts ++ [b] } } := h.of_same rfl rfl rfl rfl rfl rfl rfl rfl

theorem Kept.allocate {p f pay : Nat} {k : Pkt} {whole : Bool} {chosen : Option Nat} :
    Kept s (t.allocate p k f whole chosen pay).2 := h.poolTake.newId.addBuf.charge

/-! ### Origination (R164 to R167) -/

theorem Kept.placeAt {p out : Nat} {k : Pkt} : Kept s (t.placeAt p k out) := h.allocate.bump.enqueue

theorem Kept.addWaiting {o : Orig} (ho : o.chunk = none) : Kept s (t.addWaiting o) := by
  refine h.trans ⟨⟨rfl, le_rfl, fun _ hx _ => hx⟩, rfl, rfl, rfl, rfl, fun x hx => ?_⟩
  obtain hx | hx := List.mem_append.1 hx
  · exact .inr ⟨x, hx, rfl⟩
  · exact .inl (List.mem_singleton.1 hx ▸ ho)

theorem Kept.noteAsked {id : Nat} : Kept s (t.noteAsked id) := by
  unfold State.noteAsked
  refine Kept.bump (h.trans ?_)
  refine ⟨⟨rfl, le_rfl, fun _ hx _ => hx⟩, rfl, rfl, rfl, rfl, fun o ho => .inr ?_⟩
  obtain ⟨x, hx, rfl⟩ := List.mem_map.1 ho
  refine ⟨x, hx, ?_⟩
  split <;> rfl

theorem Kept.wait {p : Nat} {k : Pkt} {link : Option Nat} : Kept s (t.wait p k link none) := by
  unfold State.wait; simp only; split
  · exact (h.newId.addWaiting rfl).noteAsked
  · exact h.newId.addWaiting rfl

theorem Kept.answerOwn {k : Pkt} {code : Nat} : Kept s (t.answerOwn k code) := by
  unfold State.answerOwn
  exact .ite (h.bump.ite h).placeAt (h.bump.ite h).wait

theorem Kept.lookup {src dst tc flow : Nat} {spray : Bool} : Kept s (t.lookup src dst tc spray flow).2 := by
  unfold State.lookup; simp only; split
  · dsimp only; exact h.bump.bump
  · split
    · exact h.bump.bump.raise.capture fun t => (Kept.refl t).put
    · split
      · dsimp only; exact h.bump.bump.put
      · dsimp only; exact h.bump.bump

theorem Kept.resolve {k : Pkt} {dst : Nat} : Kept s (t.resolve k dst).2 := by
  unfold State.resolve; split
  · exact h
  · simp only; split
    · exact h
    · exact h.lookup

theorem Kept.placeUnicast {p : Nat} {k : Pkt} : Kept s (t.placeUnicast p k none) := by
  have hr := h.resolve (k := k) (dst := k.dst)
  unfold State.placeUnicast; simp only
  split
  · next e => rw [e] at hr; exact hr.placeAt
  · next e => rw [e] at hr; exact hr.answerOwn
  · next e => rw [e] at hr; exact hr

theorem Kept.originate {p : Nat} {k : Pkt} : Kept s (t.originate p k) := by
  unfold State.originate; split
  · exact h.placeUnicast
  · exact h.wait

end

end Sys2Proof.Machine.State
end

section
/-! SUPPORT. Module memory, the end of a chunk and the packets that several requesters place on one edge, against `State.Kept`. -/

namespace Sys2Proof.Machine.State

variable {s t u : State}

/-! ### Module memory (R380, R390) -/

section
variable (h : Kept s t)
include h

theorem Kept.corrected {n : Nat} : Kept s (t.corrected n) := h.bump.report

theorem Kept.captureUe {n a : Nat} : Kept s (t.captureUe n a) := h.capture fun t => (Kept.refl t).put

theorem Kept.readGran {g : Nat} : Kept s (t.readGran g).2 := by
  unfold State.readGran; dsimp only; split <;> dsimp only
  · exact h.bump
  · exact h.bump.corrected
  · exact h.bump.corrected
  · exact h.bump.bump.captureUe.raise
  · exact h.bump.bump
  · exact h.bump.bump.captureUe.raise

/-- A fold that carries a state beside a value keeps what each of its steps keeps. -/
theorem Kept.foldl_snd {α β : Type} {f : β × State → α → β × State} (l : List α) {b : β}
    (hf : ∀ x a, Kept x.2 (f x a).2) : Kept s (l.foldl f (b, t)).2 :=
  foldl_keeps (fun x : β × State => Kept s x.2) f (fun x a hx => hx.trans (hf x a)) l (b, t) h

theorem Kept.readMem {a n : Nat} : Kept s (t.readMem a n).2 := by
  unfold State.readMem; dsimp only
  refine h.foldl_snd _ fun x g => ?_
  exact (Kept.refl x.2).readGran

theorem Kept.readSpace {c off n : Nat} : Kept s (t.readSpace c off n).2 := by
  unfold State.readSpace; split
  · exact h.readMem
  · dsimp only; exact h.raise

theorem Kept.setByte {a : Nat} {b : Byte} : Kept s (t.setByte a b) := h.of_parts rfl rfl rfl rfl

theorem Kept.setSynd {g v : Nat} : Kept s (t.setSynd g v) := h.of_parts rfl rfl rfl rfl

theorem Kept.correct {g i : Nat} : Kept s (t.correct g i) := h.setByte.setSynd

omit h in
theorem Kept.setBytes (h : Kept s t) {a : Nat} {l : List Byte} : Kept s (t.setBytes a l) := by
  induction l generalizing t a with
  | nil => exact h
  | cons b l ih => exact ih h.setByte

theorem Kept.storeGran {a : Nat} {l : List Byte} {g : Nat} : Kept s (t.storeGran a l g) := by
  unfold State.storeGran; dsimp only
  refine Kept.setBytes ?_
  split
  · exact .ite h.bump.setSynd h.bump.correct
  · exact h.bump.setSynd

theorem Kept.writeGran {a : Nat} {l : List Byte} {g : Nat} : Kept s (t.writeGran a l g) :=
  .ite h.storeGran (.ite h.readGran.storeGran h.readGran)

theorem Kept.writeMem {a : Nat} {l : List Byte} : Kept s (t.writeMem a l) :=
  h.foldl _ fun t _ => (Kept.refl t).writeGran

theorem Kept.writeSpace {c off : Nat} {l : List Byte} : Kept s (t.writeSpace c off l) := by
  unfold State.writeSpace; split
  · exact h.writeMem
  · exact h.raise

/-! ### The arbiters of slots and reduction units (R193) -/

theorem Kept.slotTurn {pool : Nat} {l : List Contender} : Kept s (t.slotTurn pool l).2 := h.setArb

theorem Kept.settleSlots {pool : Nat} : Kept s (t.settleSlots pool) := h.setArb

theorem Kept.settleUnit {L : Nat} : Kept s (t.settleUnit L) := h.setArb

/-! ### What a chunk gives back as it ends (R272, R279, R291) -/

/-- Chunks and parked packets are no entries, endings or copies of a line. -/
theorem Kept.of_coll {c : Colls} (he : c.entries = t.coll.entries) (hd : c.ended = t.coll.ended)
    (hc : c.copies = t.coll.copies) : Kept s { t with coll := c } :=
  h.of_same rfl he hd hc rfl rfl rfl rfl

theorem Kept.setChunk {c : Chunk} : Kept s (t.setChunk c) := h.of_coll rfl rfl rfl

theorem Kept.freeRecords {k : CKey} : Kept s (t.freeRecords k) := by
  unfold State.freeRecords; split
  · exact h
  · exact (Kept.ite h h.put).poolFrees.setChunk

theorem Kept.freeSlots {k : CKey} {n : Nat} : Kept s (t.freeSlots k n) := by
  unfold State.freeSlots; split
  · exact h
  · exact h.poolFrees.setChunk

theorem Kept.dropParked {test : CKey → Bool} : Kept s (t.dropParked test) :=
  Kept.foldl _ (fun t _ => (Kept.refl t).discard) (h.of_coll rfl rfl rfl)

/-- Packets that wait are cancelled. -/
theorem Kept.filterWaiting {p : Orig → Bool} : Kept s { t with sw := { t.sw with waiting := t.sw.waiting.filter p } } :=
  h.trans ⟨⟨rfl, le_rfl, fun _ hx _ => hx⟩, rfl, rfl, rfl, rfl, fun o ho => .inr ⟨o, List.mem_of_mem_filter ho, rfl⟩⟩

theorem Kept.dropResults {k : CKey} : Kept s (t.dropResults k) := by
  unfold State.dropResults; dsimp only; split
  · exact h.filterWaiting
  · exact Kept.foldl _ (fun t _ => (Kept.refl t).discard) h.filterWaiting.setChunk

theorem Kept.releaseChunk {k : CKey} : Kept s (t.releaseChunk k) := h.dropParked.dropResults.freeRecords.freeSlots

end

/-! ### Several requesters on one edge (R169) -/

theorem mem_insertCopy (t : State) (ptr : Nat) (c x : Copy) (l : List Copy) :
    x ∈ t.insertCopy ptr c l ↔ x = c ∨ x ∈ l := by
  induction l with
  | nil => simp [insertCopy]
  | cons y l ih =>
    unfold insertCopy; split
    · simp
    · simp [ih, or_left_comm]

theorem mem_foldl_insertCopy (t : State) (ptr : Nat) (x : Copy) (l r : List Copy) :
    x ∈ l.foldl (fun l c => t.insertCopy ptr c l) r ↔ x ∈ l ∨ x ∈ r := by
  induction l generalizing r with
  | nil => simp
  | cons c l ih => simp [ih, mem_insertCopy, or_assoc, or_left_comm]

/-- Placing the new copies in their order keeps the same copies queued. -/
theorem mem_inOrder_queue (s : State) (f : State → State) (x : Copy) :
    x ∈ (s.inOrder f).sw.queue ↔ x ∈ (f s).sw.queue := by
  simp only [inOrder, List.mem_append, mem_foldl_insertCopy, List.mem_filter, decide_eq_true_eq]
  have := Nat.lt_or_ge x.id s.sw.nextId
  simp only [List.not_mem_nil, or_false]
  tauto

theorem Placed.inOrder {f : State → State} (h : Placed s t) (hf : Placed t (f t)) : Placed s (t.inOrder f) :=
  h.trans ⟨hf.clk, hf.nextId, fun x hx => hf.queue x ((mem_inOrder_queue t f x).1 hx)⟩

theorem Kept.inOrder {f : State → State} (h : Kept s t) (hf : Kept t (f t)) : Kept s (t.inOrder f) :=
  h.trans ⟨(Placed.refl t).inOrder hf.toPlaced, hf.entries, hf.ended, hf.copies, hf.works, hf.waiting⟩

end Sys2Proof.Machine.State
end

section
/-! SUPPORT. The works of the stations: what is found after one is stored, and what the emission of waiting RETURNs leaves of
each (R366, R367). -/

namespace Sys2Proof.Machine

/-! ### Finding a stored work -/

theorem Work.of_iff {w : Work} {g step sub op : Nat} :
    w.of g step sub op = true ↔ w.line = g ∧ w.step = step ∧ w.sub = sub ∧ w.op = op := by
  simp [Work.of, and_assoc]

namespace State

variable {s t u : State} {w v : Work} {g step sub op : Nat}

/-- A work that is found has the key asked for and is not saved. -/
theorem work_some (h : s.work g step sub op = some w) :
    (w.line = g ∧ w.step = step ∧ w.sub = sub ∧ w.op = op) ∧ w.saved = false := by
  have := List.find?_some h
  simp only [Bool.and_eq_true, Bool.not_eq_true'] at this
  exact ⟨Work.of_iff.1 this.1, this.2⟩

/-- The first element of a kind, where every element of the kind is replaced by one of the kind. -/
theorem find?_replace_same {α : Type} {q : α → Bool} {n : α} (hn : q n = true) {l : List α} (hl : (l.find? q).isSome = true) :
    (l.map fun x => if q x then n else x).find? q = some n := by
  induction l with
  | nil => simp at hl
  | cons x l ih =>
    by_cases hx : q x = true
    · simp [hx, hn]
    · have hx' : q x = false := by simpa using hx
      simp only [List.find?_cons, hx'] at hl
      simpa [hx'] using ih hl

/-- The first element of a kind, where elements of another kind are replaced. -/
theorem find?_replace_other {α : Type} {p q : α → Bool} {n : α} (hn : p n = false) (hpq : ∀ x, q x = true → p x = false)
    (l : List α) : (l.map fun x => if q x then n else x).find? p = l.find? p := by
  induction l with
  | nil => rfl
  | cons x l ih =>
    by_cases hx : q x = true
    · simp [hx, hn, hpq x hx, ih]
    · by_cases hp : p x = true <;> simp [hx, hp, ih]

/-- A stored work is found under its key, as it stands from this slow cycle on (R267). -/
theorem work_setWork_same (hw : w.saved = false) :
    (s.setWork w).work w.line w.step w.sub w.op = some { w with lastAt := s.clk } := by
  have hn : (Work.of { w with lastAt := s.clk } w.line w.step w.sub w.op && !w.saved) = true := by simp [Work.of, hw]
  unfold setWork; dsimp only; split
  · next h =>
    unfold work at h
    exact find?_replace_same (q := fun x => x.of w.line w.step w.sub w.op && !x.saved) (n := { w with lastAt := s.clk }) hn h
  · next h =>
    have h0 : s.work w.line w.step w.sub w.op = none := by simpa using h
    unfold work at h0 ⊢
    dsimp only
    rw [List.find?_append, h0]
    simp [hn]

/-- A work stored under another key leaves what is found. -/
theorem work_setWork_other (h : w.of g step sub op = false) :
    (s.setWork w).work g step sub op = s.work g step sub op := by
  have hn : (Work.of { w with lastAt := s.clk } g step sub op && !w.saved) = false := by
    rw [Bool.and_eq_false_iff]; exact .inl h
  unfold setWork; dsimp only; split
  · refine find?_replace_other (p := fun x => x.of g step sub op && !x.saved)
      (q := fun x => x.of w.line w.step w.sub w.op && !x.saved) (n := { w with lastAt := s.clk }) hn (fun x hx => ?_) _
    rw [Bool.and_eq_true] at hx
    obtain ⟨e1, e2, e3, e4⟩ := Work.of_iff.1 hx.1
    have : x.of g step sub op = w.of g step sub op := by simp [Work.of, e1, e2, e3, e4]
    rw [this, h]; rfl
  · unfold work; dsimp only
    rw [List.find?_append]
    simp [hn]

theorem placed_setWork (s : State) (w : Work) : Placed s (s.setWork w) := ⟨rfl, le_rfl, fun _ h _ => h⟩

end State

/-! ### RETURNs as they are emitted -/

/-- A RETURN as it was, but for its place in a ring and the slow cycle of its emission, which is `now` if it changed. -/
def Ret.Emitted (now : Nat) (r q : Ret) : Prop :=
  q = { r with blk := q.blk, at_ := q.at_ } ∧ (q.at_ = r.at_ ∨ q.at_ = now)

/-- A work as it was, but for the emission of its RETURNs. -/
def Work.Emitted (now : Nat) (w v : Work) : Prop :=
  v = { w with rets := v.rets, lastAt := v.lastAt } ∧ List.Forall₂ (Ret.Emitted now) w.rets v.rets

theorem Ret.Emitted.refl (now : Nat) (r : Ret) : Ret.Emitted now r r := ⟨rfl, .inl rfl⟩

theorem Ret.Emitted.trans {now : Nat} {r q p : Ret} (h : Ret.Emitted now r q) (k : Ret.Emitted now q p) :
    Ret.Emitted now r p := by
  obtain ⟨hq, ha⟩ := h
  obtain ⟨hp, hb⟩ := k
  refine ⟨by rw [hp, hq], ?_⟩
  obtain hb | hb := hb
  · exact hb ▸ ha
  · exact .inr hb

theorem Work.Emitted.refl (now : Nat) (w : Work) : Work.Emitted now w w :=
  ⟨rfl, List.forall₂_same.2 fun r _ => .refl now r⟩

theorem Work.Emitted.trans {now : Nat} {w v x : Work} (h : Work.Emitted now w v) (k : Work.Emitted now v x) :
    Work.Emitted now w x := by
  obtain ⟨hv, hr⟩ := h
  obtain ⟨hx, hq⟩ := k
  refine ⟨by rw [hx, hv], ?_⟩
  rw [List.forall₂_iff_get] at hr hq ⊢
  exact ⟨hr.1.trans hq.1, fun i hi hk => (hr.2 i hi (hr.1 ▸ hi)).trans (hq.2 i (hr.1 ▸ hi) hk)⟩

/-- One RETURN of a work is emitted now. -/
theorem Work.Emitted.set {now i : Nat} {w : Work} {r : Ret} (hi : w.rets[i]? = some r) (b : Option Nat) (n : Nat) :
    Work.Emitted now w { w with rets := w.rets.set i { r with blk := b, at_ := now }, lastAt := n } := by
  refine ⟨rfl, List.forall₂_iff_get.2 ⟨by simp, fun j hj _ => ?_⟩⟩
  obtain ⟨_, rfl⟩ := List.getElem?_eq_some_iff.1 hi
  simp only [List.get_eq_getElem, List.getElem_set]
  split
  · next e => subst e; exact ⟨rfl, .inr rfl⟩
  · exact .refl ..

/-- What depends on neither place nor slow cycle is the same of a work's RETURNs after they are emitted. -/
theorem Ret.Emitted.map_eq {now : Nat} {l k : List Ret} (h : List.Forall₂ (Ret.Emitted now) l k) {α : Type} {f : Ret → α}
    (hf : ∀ r b n, f { r with blk := b, at_ := n } = f r) : k.map f = l.map f := by
  induction h with
  | nil => rfl
  | cons hq _ ih => rw [List.map_cons, List.map_cons, ih, hq.1, hf]

namespace State

variable {s t u : State} {w v : Work} {g step sub op : Nat}

/-- RETURNs are emitted, and nothing else changes in the works that are found (R366). -/
structure Emits (s t : State) : Prop extends Placed s t where
  works : ∀ g step sub op w, s.work g step sub op = some w → ∃ v, t.work g step sub op = some v ∧ w.Emitted s.clk v

theorem Emits.refl (s : State) : Emits s s := ⟨.refl s, fun _ _ _ _ w h => ⟨w, h, .refl _ w⟩⟩

theorem Emits.trans (h : Emits s t) (k : Emits t u) : Emits s u := by
  refine ⟨h.toPlaced.trans k.toPlaced, fun g step sub op w hw => ?_⟩
  obtain ⟨v, hv, hwv⟩ := h.works g step sub op w hw
  obtain ⟨x, hx, hvx⟩ := k.works g step sub op v hv
  exact ⟨x, hx, hwv.trans (h.clk ▸ hvx)⟩

theorem Kept.emits (h : Kept s t) : Emits s t :=
  ⟨h.toPlaced, fun g step sub op w hw => ⟨w, (h.work g step sub op).trans hw, .refl _ w⟩⟩

theorem Emits.foldl {α : Type} {f : State → α → State} (l : List α) (hf : ∀ t a, Emits t (f t a)) (h : Emits s t) :
    Emits s (l.foldl f t) := foldl_keeps (Emits s) f (fun x a hx => hx.trans (hf x a)) l t h

theorem Emits.inOrder {f : State → State} (h : Emits s t) (hf : Emits t (f t)) : Emits s (t.inOrder f) :=
  h.trans ⟨(Placed.refl t).inOrder hf.toPlaced, hf.works⟩

/-- Storing a work again with RETURNs of it emitted. -/
theorem Emits.setWork (h : s.work g step sub op = some w) (hv : w.Emitted s.clk v) : Emits s (s.setWork v) := by
  refine ⟨placed_setWork s v, fun g' step' sub' op' x hx => ?_⟩
  obtain ⟨hk, hs⟩ := work_some h
  have hvs : v.saved = false := by rw [hv.1]; exact hs
  have hvk : v.line = g ∧ v.step = step ∧ v.sub = sub ∧ v.op = op := by rw [hv.1]; exact hk
  by_cases hof : v.of g' step' sub' op' = true
  · obtain ⟨rfl, rfl, rfl, rfl⟩ := Work.of_iff.1 hof
    refine ⟨_, work_setWork_same hvs, ?_⟩
    obtain ⟨rfl, rfl, rfl, rfl⟩ := hvk
    obtain rfl : w = x := Option.some.inj (h.symm.trans hx)
    exact ⟨by rw [hv.1], hv.2⟩
  · exact ⟨x, (work_setWork_other (by simpa using hof)).trans hx, .refl _ x⟩

/-- Rings, blocks and replicas are no works. -/
theorem Kept.of_stn (h : Kept s t) {c : Stations} (hc : c.work = t.stn.work) : Kept s { t with stn := c } :=
  h.of_same rfl rfl rfl rfl hc rfl rfl rfl

/-- A RETURN is written into its ring and handed to its port (R366). -/
theorem kept_emitReturn (s : State) (r : Ret) (p : Nat × Nat) : Kept s (s.emitReturn r p) := by
  unfold emitReturn; dsimp only
  refine Kept.bump (Kept.originate (Kept.writeSpace ?_))
  exact (Kept.refl s).of_stn rfl

theorem emits_emitWaiting (s : State) (w : Work) : Emits s (s.emitWaiting w) := by
  refine Emits.foldl _ (fun t i => ?_) (.refl s)
  split
  · exact .refl t
  · next v hv =>
    split
    · exact .refl t
    · next r hr =>
      split
      · exact .refl t
      · split
        · exact .refl t
        · exact (Emits.setWork hv (.set hr _ _)).trans (kept_emitReturn ..).emits

theorem emits_drainReturns (s : State) : Emits s s.drainReturns :=
  (Emits.refl s).inOrder (.foldl _ (fun t w => emits_emitWaiting t w) (.refl s))

end State

end Sys2Proof.Machine
end

section
/-! SUPPORT. A token's combine: when it has its rows, how its request for slots waits, and what it leaves as it is done
(R174, R193, R365, R366). -/

namespace Sys2Proof.Machine

namespace State

variable {s t u v : State} {w : Work} {m tok L d : Nat}

/-- The rows of a token whose combine is due: all are computed, no other may hold it, and it is not combined yet (R365). -/
theorem combineRows_eq {q : Row} {l : List Row} {r : Nat × Nat × List Nat} (hg : w.granted = true) (hs : w.saved = false)
    (hheld : heldRows (s.tokenRows w) w.experts.length m tok = q :: l) (hrec : w.rec_ m = some r) (hc : (m, tok) ∉ w.combined)
    (hz : ∀ x ∈ q :: l, (x.k, x.row / 512) ∈ w.tiles ∧ (w.zRow x.k x.row).isSome = true)
    (hm : w.op = 9 → mayHold w (s.tokenRows w) m tok = false) : s.combineRows w m tok = q :: l := by
  have hall : (q :: l).all (fun x => w.tiles.contains (x.k, x.row / 512) && (w.zRow x.k x.row).isSome) = true := by
    rw [List.all_eq_true]
    intro x hx
    simp [(hz x hx).1, (hz x hx).2]
  have hmay : (w.op == 9 && mayHold w (s.tokenRows w) m tok) = false := by
    by_cases h : w.op = 9
    · simp [hm h]
    · simp [h]
  unfold combineRows; dsimp only
  rw [hheld, hall, hmay]
  simp [hg, hs, hrec, hc]

/-- The slots of a combine are granted by the arbiter of their pool alone (R193). -/
theorem kept_combineSlots (h : s.combineSlots w m tok L d = some u) : Kept s u := by
  unfold combineSlots at h
  simp only [Option.ite_none_left_eq_some, Option.ite_none_right_eq_some, Option.some.injEq] at h
  obtain ⟨_, _, rfl⟩ := h
  exact (Kept.refl s).slotTurn

/-- A reduction unit serves by its arbiter alone (R193). -/
theorem kept_unitServes {c : Contender} (h : s.unitServes L c = some u) : Kept s u := by
  unfold unitServes at h
  simp only [Option.ite_none_right_eq_some, Option.some.injEq] at h
  obtain ⟨_, rfl⟩ := h
  exact (Kept.refl s).setArb

/-- A combine whose slots are not granted asks for them. -/
theorem tokenCombine_waits {y : LineCopy} {q : Row} {l : List Row} {r : Nat × Nat × List Nat}
    (hrows : s.combineRows w m tok = q :: l) (hrec : w.rec_ m = some r)
    (hserves : s.coachServes (s.physCoach (tokenCombineCoach w.line m tok w.step w.sub)) = true)
    (hslots : s.combineSlots w m tok (tokenCombineCoach w.line m tok w.step w.sub) (w.dim q.k) = none) :
    s.tokenCombine w y m tok = s.askSlots w m tok (tokenCombineCoach w.line m tok w.step w.sub) (w.dim q.k) := by
  unfold tokenCombine
  simp [hrows, hrec, hserves, hslots]

/-- A request for slots that waits is noted in its work, and counts once (R174). -/
theorem askSlots_first (hs : w.saved = false) (h : w.asking m tok = false) :
    (s.askSlots w m tok L d).rd64 A.POOL_QUOTA_WAITS = (s.rd64 A.POOL_QUOTA_WAITS + 1) % 2 ^ 64 ∧
      (s.askSlots w m tok L d).work w.line w.step w.sub w.op =
        some { w with asked := w.asked ++ [(m, tok, L, d)], lastAt := s.clk } := by
  unfold askSlots
  rw [if_neg (by simp [h])]
  constructor
  · rw [rd64_bump_same]; rfl
  · rw [((Kept.refl _).bump).work]
    exact work_setWork_same (w := { w with asked := w.asked ++ [(m, tok, L, d)] }) hs

/-- A RETURN packet of a token as the station of the token's first row keeps it until it is emitted (R366). -/
def waitingRet (s : State) (w : Work) (m tok k : Nat) (p : Pkt) : Ret :=
  { member := m, tok := tok, station := w.sectionOf k, pkt := p, blk := none, at_ := s.clk }

/-- Gate gradients that the RETURN of a COMBINE's token carries, one for each of its rows (R366). -/
def returnGates (w : Work) (rows : List Row) : List Nat :=
  if w.op = 9 then [] else rows.map fun h =>
    match w.gg.find? fun z => z.1 = h.k ∧ z.2.1 = h.row with | some z => z.2.2 | none => 0

/-- The computed rows that a token's combine adds (R365). -/
def zRows (w : Work) (rows : List Row) : List (List Nat) := rows.map fun x => (w.zRow x.k x.row).getD []

/-- A work with a token combined and its RETURN packets kept (R365, R366). -/
def combinedWork (s : State) (w : Work) (y : LineCopy) (m tok : Nat) (r : Nat × Nat × List Nat) (q : Row) (l : List Row) :
    Work :=
  let c := combineToken w y (w.dim q.k) m tok (zRows w (q :: l))
  { w with asked := w.asked.filter (fun a => ¬ (a.1 = m ∧ a.2.1 = tok)), combined := w.combined ++ [(m, tok)]
           rets := w.rets ++ (s.returnPkts w m r.1 r.2.1 tok (returnGates w (q :: l)) c.1).map (s.waitingRet w m tok q.k)
           flags := joinFlags w.flags m tok c.2 }

/-- A combine with its slots and its turn stores the work with the token combined, and then emits RETURNs alone (R365, R366). -/
theorem tokenCombine_done {y : LineCopy} {q : Row} {l : List Row} {r : Nat × Nat × List Nat} (hsaved : w.saved = false)
    (hrows : s.combineRows w m tok = q :: l) (hrec : w.rec_ m = some r)
    (hserves : s.coachServes (s.physCoach (tokenCombineCoach w.line m tok w.step w.sub)) = true)
    (hslots : s.combineSlots w m tok (tokenCombineCoach w.line m tok w.step w.sub) (w.dim q.k) = some u)
    (hunit : u.unitServes (tokenCombineCoach w.line m tok w.step w.sub)
      ⟨stationChild (w.sectionOf q.k), 1, combineCost (l.length + 1) (w.dim q.k)⟩ = some v) :
    ∃ x, (s.tokenCombine w y m tok).work w.line w.step w.sub w.op = some x ∧
      { s.combinedWork w y m tok r q l with lastAt := s.clk }.Emitted s.clk x := by
  have hv : Kept s v := (kept_combineSlots hslots).trans (kept_unitServes hunit)
  unfold tokenCombine
  simp only [hrows, hrec, hserves, hslots, hunit]
  set b := (v.poolTake (s.slotPool (tokenCombineCoach w.line m tok w.step w.sub)) (w.dim q.k) 1).2.poolFrees _ 1 _ with hb
  have hkept : Kept s b := hv.poolTake.poolFrees
  have hstored : (b.setWork (s.combinedWork w y m tok r q l)).work w.line w.step w.sub w.op =
      some { s.combinedWork w y m tok r q l with lastAt := s.clk } := by
    rw [← hkept.clk]; exact work_setWork_same (w := s.combinedWork w y m tok r q l) hsaved
  obtain ⟨x, hx, hem⟩ := (emits_emitWaiting (b.setWork (s.combinedWork w y m tok r q l))
    (s.combinedWork w y m tok r q l)).works _ _ _ _ _ hstored
  have hclk : (b.setWork (s.combinedWork w y m tok r q l)).clk = s.clk := hkept.clk
  refine ⟨x, ?_, hclk ▸ hem⟩
  refine Eq.trans ?_ hx
  exact ((Kept.refl _).settleSlots.settleUnit).work _ _ _ _

end State

end Sys2Proof.Machine
end

section
/-! SUPPORT. The ends of RETURNs and of station entries: acknowledgements, the last DONE of an entry, and what leaves with it
(R247, R256, R257, R367, R368, R370, R373). -/

namespace Sys2Proof.Machine.State

variable {s t u v : State}

/-! ### A packet that is consumed -/

/-- The copy consumed leaves the queue, and no other copy enters it (R168). -/
theorem consume_queue {c x : Copy} {k : Pkt} (hx : x ∈ (s.consume c k).sw.queue) (hid : x.id < s.sw.nextId) :
    x ∈ s.sw.queue ∧ x.id ≠ c.id := by
  have hserve : Kept s (s.serveClass c k.cost) := (Kept.refl s).serveClass
  have hleave := (kept_leave (s.serveClass c k.cost) c).bump (a := A.SWITCH_UNITS_READ) (n := k.units)
  have hmem := hleave.queue x hx (hid.trans_le hserve.nextId)
  rw [List.mem_filter, decide_eq_true_eq] at hmem
  exact ⟨hserve.queue x hmem.1 hid, hmem.2⟩

/-! ### Arena blocks and works that are dropped (R372, R373) -/

theorem Kept.arenaLayout (h : Kept s t) : Kept s t.arenaLayout := by
  unfold State.arenaLayout
  refine .ite h (Kept.put ?_)
  exact h.of_stn rfl

theorem Kept.freeBlocks (h : Kept s t) {l : List Nat} : Kept s (t.freeBlocks l) := by
  unfold State.freeBlocks; dsimp only
  refine (Kept.put ?_).arenaLayout
  exact h.of_stn rfl

/-- The works that are left after some are dropped. -/
theorem works_dropWorks (s : State) (gone : Work → Bool) : (s.dropWorks gone).stn.work = s.stn.work.filter fun x => !gone x :=
  (Kept.freeBlocks (.refl _)).works

theorem work_dropWork (s : State) (w : Work) : (s.dropWork w).work w.line w.step w.sub w.op = none := by
  unfold State.work dropWork
  rw [works_dropWorks, List.find?_eq_none]
  intro x hx
  have := (List.mem_filter.1 hx).2
  rw [Bool.not_eq_true'] at this
  exact Bool.not_eq_true _ ▸ this

theorem work_dropWorks_of_none {g step sub op : Nat} (h : s.work g step sub op = none) (gone : Work → Bool) :
    (s.dropWorks gone).work g step sub op = none := by
  unfold State.work at h ⊢
  rw [works_dropWorks]
  rw [List.find?_eq_none] at h ⊢
  exact fun x hx => h x (List.mem_of_mem_filter hx)

/-! ### The end of a COMBINE (R370, R374) -/

theorem Kept.requestLocal (h : Kept s t) {x tensor step seed : Nat} : Kept s (t.requestLocal x tensor step seed) :=
  h.of_same rfl rfl rfl rfl rfl rfl rfl rfl

theorem Kept.of_readSpace (h : Kept s t) {c off n : Nat} {b : Option (List Byte)} (e : t.readSpace c off n = (b, u)) :
    Kept s u := by
  have := h.readSpace (c := c) (off := off) (n := n)
  rwa [e] at this

theorem Kept.startReplica (h : Kept s t) {x line member sect tensor step seed : Nat} :
    Kept s (t.startReplica x line member sect tensor step seed) := by
  unfold State.startReplica; dsimp only
  split
  · next e => exact Kept.of_readSpace h e
  · next e =>
    refine Kept.foldl _ (fun t _ => (Kept.refl t).originate) ?_
    exact (h.of_readSpace e).of_same rfl rfl rfl rfl rfl rfl rfl rfl

theorem Kept.combineOk (h : Kept s t) {w : Work} {last : Bool} {nmb seed : Nat} : Kept s (t.combineOk w last nmb seed) := by
  unfold State.combineOk; dsimp only
  refine .ite (Kept.inOrder (h.of_stn rfl) (Kept.foldl _ (fun t k => ?_) (.refl _))) (h.of_stn rfl)
  exact .ite (Kept.refl t).startReplica (Kept.refl t).requestLocal

theorem Kept.combineLost (h : Kept s t) {w : Work} : Kept s (t.combineLost w) := h.of_stn rfl

/-! ### An entry leaves the queue (R247) -/

/-- The slow clock, the lines' entries and the memory of ended collectives stand. -/
structure Remembers (s t : State) : Prop where
  clk : t.clk = s.clk
  entries : t.coll.entries = s.coll.entries
  ended : t.coll.ended = s.coll.ended

theorem Kept.remembers (h : Kept s t) : Remembers s t := ⟨h.clk, h.entries, h.ended⟩

theorem Remembers.trans (h : Remembers s t) (k : Remembers t u) : Remembers s u :=
  ⟨k.clk.trans h.clk, k.entries.trans h.entries, k.ended.trans h.ended⟩

theorem remembers_dropWorks (s : State) (gone : Work → Bool) : Remembers s (s.dropWorks gone) := by
  unfold dropWorks
  refine Remembers.trans ?_ (Kept.freeBlocks (.refl _)).remembers
  exact ⟨rfl, rfl, rfl⟩

theorem remembers_dropSaved (s : State) (g step sub : Nat) : Remembers s (s.dropSaved g step sub) := by
  unfold dropSaved; split
  · exact remembers_dropWorks ..
  · exact (Kept.refl s).remembers

theorem work_dropSaved_of_none {g step sub op : Nat} (h : s.work g step sub op = none) (g' step' sub' : Nat) :
    (s.dropSaved g' step' sub').work g step sub op = none := by
  unfold dropSaved; split
  · exact work_dropWorks_of_none h _
  · exact h

/-- A COMBINE's work and its saved DISPATCH are dropped as its entry ends, and then no work changes (R370, R373). -/
theorem workEnded_combine {e : Entry} (hfam : e.fam = 10) (s : State) (y : LineCopy) (status : Nat) :
    ∃ u, Kept (u.dropSaved e.line e.step e.sub) (s.workEnded e y status) ∧ Remembers s u ∧
      u.work e.line e.step e.sub 10 = none := by
  have hop : ¬ e.fam = 9 := by omega
  unfold workEnded; dsimp only
  rw [if_neg hop, if_pos hfam, hfam]
  cases hw : s.work e.line e.step e.sub 10 with
  | none => exact ⟨s, .refl _, (Kept.refl s).remembers, hw⟩
  | some w =>
    obtain ⟨⟨h1, h2, h3, h4⟩, _⟩ := work_some hw
    refine ⟨s.dropWork w, .ite (Kept.refl _).combineOk (Kept.refl _).combineLost, remembers_dropWorks .., ?_⟩
    rw [← h1, ← h2, ← h3, ← h4]; exact work_dropWork s w

/-- The work of a COMBINE is gone once its entry has ended (R373). -/
theorem work_workEnded_combine {e : Entry} (hfam : e.fam = 10) (s : State) (y : LineCopy) (status : Nat) :
    (s.workEnded e y status).work e.line e.step e.sub 10 = none := by
  obtain ⟨u, hkept, _, hnone⟩ := workEnded_combine hfam s y status
  rw [hkept.work]
  exact work_dropSaved_of_none hnone ..

/-- What a station does as an entry ends touches its works, blocks and updates, not the queue of its line (R370, R373). -/
theorem remembers_workEnded (s : State) (e : Entry) (y : LineCopy) (status : Nat) : Remembers s (s.workEnded e y status) := by
  by_cases hfam : e.fam = 10
  · obtain ⟨u, hkept, hrem, _⟩ := workEnded_combine hfam s y status
    exact (hrem.trans (remembers_dropSaved ..)).trans hkept.remembers
  · unfold workEnded; dsimp only
    split
    · split
      · exact (Kept.refl s).remembers
      · split
        · exact ⟨rfl, rfl, rfl⟩
        · exact remembers_dropWorks ..
    · exact (Kept.refl s).remembers

/-- The registers that count an entry's end. -/
theorem kept_countEnd (s : State) (c : Prop) [Decidable c] (a b n m : Nat) (f : Fld) (v : Nat) :
    Kept s ((if c then (s.bump a n).bump b m else s).put f v) := (Kept.ite (Kept.refl s).bump.bump (.refl s)).put

/-- What is parked for an entry goes, and its UPDATE step closes, without a change to the queue of its line. -/
theorem remembers_closeShard (s : State) (c : Bool) (a n : Nat) (gone : CKey → Bool) (e : Entry) :
    Remembers s (((if c = true then s.bump a n else s).dropParked gone).closeShard e) :=
  Remembers.trans (Kept.dropParked (.ite (Kept.refl s).bump (.refl s))).remembers ⟨rfl, rfl, rfl⟩

/-- An entry that leaves the queue passes through a state that has forgotten it and remembers its end. -/
theorem leaveEntry_eq (s : State) (e : Entry) (y : LineCopy) (status : Nat) :
    ∃ u : State, s.leaveEntry e y status = u.workEnded e y status ∧ u.clk = s.clk ∧
      u.coll.entries = s.coll.entries.filter (fun f => !f.same e) ∧
      ⟨e.line, e.step, e.sub, e.fam, e.tix.map (·.src), s.clk⟩ ∈ u.coll.ended := by
  unfold leaveEntry; dsimp only
  set b := (if e.state = .active ∧ e.varies y ∧ e.combined ∧ e.fam = 0 then
    (s.bump (A.COLL_LINE_VARIES e.line) 1).bump A.COLL_VARIES 1 else s).put (F.COLL_LINE_INFO_LAST_STATUS e.line)
      (if 0x10 ≤ status ∧ status < 0x20 then status else 0) with hb
  have hs : Kept s b := kept_countEnd ..
  refine ⟨_, rfl, (remembers_closeShard ..).clk.trans hs.clk, (remembers_closeShard ..).entries.trans ?_, ?_⟩
  · rw [← hs.entries]
  · rw [(remembers_closeShard ..).ended, ← hs.clk]
    exact List.mem_append_right _ (List.mem_singleton.2 rfl)

/-- An entry that leaves the queue is gone from it, and its end is remembered (R247). -/
theorem entryGone_leaveEntry (s : State) (e : Entry) (y : LineCopy) (status : Nat) :
    (s.leaveEntry e y status).entryGone e := by
  obtain ⟨u, heq, hclk, hentries, hended⟩ := leaveEntry_eq s e y status
  have hrem := remembers_workEnded u e y status
  rw [← heq] at hrem
  refine ⟨fun x hx => ?_, _, hrem.ended ▸ hended, rfl, rfl, rfl, rfl, (hrem.clk.trans hclk).symm⟩
  rw [hrem.entries, hentries] at hx
  simpa using (List.mem_filter.1 hx).2

/-- The entry of a COMBINE takes its work with it (R373). -/
theorem work_leaveEntry_combine {e : Entry} (hfam : e.fam = 10) (s : State) (y : LineCopy) (status : Nat) :
    (s.leaveEntry e y status).work e.line e.step e.sub 10 = none := by
  obtain ⟨u, heq, _⟩ := leaveEntry_eq s e y status
  rw [heq]
  exact work_workEnded_combine hfam u y status

/-! ### The last chunk of an entry ends (R256, R257, R368) -/

/-- The entry that is found has the step counter asked for. -/
theorem entry_some {g step sub fam : Nat} {e : Entry} (h : s.entry g step sub fam = some e) :
    e.line = g ∧ e.step = step ∧ e.sub = sub ∧ e.fam = fam := by
  have := List.find?_some h
  simpa [and_assoc] using this

/-- A chunk record is found as it was stored. -/
theorem chunk_setChunk_same {c : Chunk} {k : CKey} (hk : c.key = k) (s : State) :
    (s.setChunk c).chunk k = some { c with lastAt := s.clk } := by
  subst hk
  unfold setChunk; dsimp only
  split
  · next h =>
    unfold chunk at h
    have := find?_replace_same (q := fun x => decide (x.key = c.key)) (n := { c with lastAt := s.clk }) (by simp) h
    simp only [decide_eq_true_eq] at this
    exact this
  · next h =>
    have h0 : s.chunk c.key = none := by simpa using h
    unfold chunk at h0 ⊢
    dsimp only
    rw [List.find?_append, h0]
    simp

/-- At a ROOT line the DONE of a chunk with a status may leave once no packet of the chunk waits (R257). -/
theorem doneReady_root {y : LineCopy} {c : Chunk} (hroot : y.isRoot = true) (hstatus : c.status.isSome = true)
    (hwait : ∀ o ∈ s.sw.waiting, o.chunk ≠ some c.key) : s.doneReady y c = true := by
  have hnone : s.sw.waiting.any (fun o => o.chunk = some c.key) = false := by
    rw [List.any_eq_false]
    exact fun o ho => by simpa using hwait o ho
  simp only [doneReady, hroot, hstatus, hnone, Bool.not_false, Bool.true_or, Bool.and_self]

/-- Once the DONE of the last chunk may leave, it is sent and the entry leaves the queue. -/
theorem flushDones_last {n : Nat} {k : CKey} {e : Entry} {c : Chunk} (he : s.entryOf k = some e)
    (howned : e.owned (s.line e.line) = e.cursor + 1)
    (hc : s.chunk (e.key ((s.line e.line).ownChunk e.cursor)) = some c) (hd : s.doneReady (s.line e.line) c = true) :
    ∃ (u : State) (status : Nat), State.flushDones (n + 1) k s =
      u.leaveEntry { e with cursor := e.cursor + 1 } (s.line e.line) status := by
  unfold flushDones
  simp only [he, howned, hc, hd, if_true, decide_true]
  rw [if_neg (by omega)]
  exact ⟨_, _, rfl⟩

theorem chunkOr_key (s : State) (k : CKey) : (s.chunkOr k).key = k := by
  unfold chunkOr
  cases h : s.chunk k with
  | none => rfl
  | some c => exact of_decide_eq_true (List.find?_some (p := fun c : Chunk => decide (c.key = k)) h)

/-- The one chunk of an entry at its ROOT line, with no packet waiting, ends, and the entry leaves the queue. -/
theorem chunkEnd_only {e : Entry} (he : s.entryOf (e.key 0) = some e) (howned : e.owned (s.line e.line) = 1)
    (hcursor : e.cursor = 0) (hroot : (s.line e.line).isRoot = true) (hindex : (s.line e.line).shardIndex = 0)
    (hwait : ∀ x ∈ s.sw.waiting, x.chunk ≠ some (e.key 0)) (status detail : Nat) (flags : FlagRec) :
    ∃ (u : State) (st : Nat), s.chunkEnd (e.key 0) status detail flags =
      u.leaveEntry { e with cursor := e.cursor + 1 } (s.line e.line) st := by
  have hnot : e.ended (s.line (e.key 0).line) (e.key 0).idx = false := by simp [Entry.ended, hcursor]
  unfold chunkEnd
  simp only [he, hnot, Bool.false_eq_true, if_false]
  set c : Chunk := { (s.releaseChunk (e.key 0)).chunkOr (e.key 0) with status := some status, detail := detail, flags := flags }
    with hc
  have hkey : c.key = e.key 0 := chunkOr_key ..
  have hkept : Kept s ((s.releaseChunk (e.key 0)).setChunk c) := (Kept.refl s).releaseChunk.setChunk
  have hline : (s.line e.line).ownChunk e.cursor = 0 := by simp [LineCopy.ownChunk, hindex, hcursor]
  have hready : ((s.releaseChunk (e.key 0)).setChunk c).doneReady (s.line e.line)
      { c with lastAt := (s.releaseChunk (e.key 0)).clk } = true := by
    refine doneReady_root hroot rfl fun o ho => ?_
    rw [hkey]
    obtain hn | ⟨x, hx, hxo⟩ := hkept.waiting o ho
    · simp [hn]
    · exact hxo ▸ hwait x hx
  rw [← hkept.line] at howned hline hready ⊢
  exact flushDones_last ((hkept.entry ..).trans he) (by rw [howned, hcursor]) (by rw [hline]; exact chunk_setChunk_same hkey _) hready

/-- The end of a station's work ends its entry, and a COMBINE's work with it (R368, R373). -/
theorem stationEnd_ends {w : Work} {e : Entry} (hdone : s.workDone w = true) (he : s.entry w.line w.step w.sub w.op = some e)
    (hop : w.op = 9 ∨ w.op = 10) (hroot : (s.line w.line).isRoot = true) (hcount : (s.line w.line).shardCount = 1)
    (hindex : (s.line w.line).shardIndex = 0) (hcursor : e.cursor = 0)
    (hwait : ∀ x ∈ s.sw.waiting, x.chunk ≠ some ⟨w.line, w.step, w.sub, w.op, 0⟩) :
    (s.stationEnd w).entryGone e ∧ (w.op = 10 → (s.stationEnd w).work w.line w.step w.sub w.op = none) := by
  obtain ⟨h1, h2, h3, h4⟩ := entry_some he
  have hkey : (⟨w.line, w.step, w.sub, w.op, 0⟩ : CKey) = e.key 0 := by simp [Entry.key, h1, h2, h3, h4]
  have hfam : e.fam ≠ 0 := by omega
  rw [← h1] at hroot hcount hindex
  have howned : e.owned (s.line e.line) = 1 := by simp [Entry.owned, Entry.chunks, hfam, hcount, hindex]
  have hfound : s.entryOf (e.key 0) = some e := by rw [← hkey]; exact he
  unfold stationEnd
  rw [if_pos hdone, hkey]
  obtain ⟨u, st, heq⟩ := chunkEnd_only hfound howned hcursor hroot hindex (hkey ▸ hwait) 0 0 w.record
  rw [heq]
  refine ⟨entryGone_leaveEntry u { e with cursor := e.cursor + 1 } _ st, fun h10 => ?_⟩
  rw [h10, ← h1, ← h2, ← h3]
  exact work_leaveEntry_combine (e := { e with cursor := e.cursor + 1 }) (h4.trans h10) u _ st

end Sys2Proof.Machine.State
end

section
/-! SUPPORT. The register words that the origination of a packet at a station port, an access to module memory and the emission
of RETURNs write; every other word reads as before. -/

namespace Sys2Proof.Machine

/-! ### Words written -/

/-- Words that an own unit's access to module memory writes: those of the stacks' pages, and the causes of WINDOW (R380, R381). -/
def memWord (a : Nat) : Prop := (A.HBM 0 ≤ a ∧ a < A.HBM 8) ∨ causeWords A.WINDOW a

/-- Words that the origination of a packet at a station or firmware port writes: those of the pages SWITCH, POOL and ROUTE,
HELD of the port's account, and the count of refused memory requests (R159, R173, R185, R526). -/
def originWord (a : Nat) : Prop :=
  (A.SWITCH ≤ a ∧ a < A.SWITCH + 0x200000) ∨ (∃ i c, c < 8 ∧ a = A.SWITCH_HELD (256 + 2 * i) c) ∨ pairWords A.WINDOW_REFUSED a

/-- Words that the emission of RETURNs writes (R366). -/
def emissionWord (a : Nat) : Prop := originWord a ∨ memWord a ∨ pairWords A.STATION_RETURNS a

/-- A word of the STATION page that the emission of a RETURN does not write: HELD of a station port's account lies in the first
half of an account of 64 bytes, a counter from 0x28 on in the second. -/
theorem not_emissionWord_of_station {a : Nat} (h0 : A.STATION + 0xA8 ≤ a) (h1 : a < A.STATION + 0xB0) : ¬ emissionWord a := by
  unfold emissionWord originWord memWord pairWords causeWords
  simp only [A.SWITCH_HELD, A.SWITCH, A.HBM, A.WINDOW, A.WINDOW_REFUSED, A.STATION_RETURNS, A.STATION] at *
  rintro ((h | ⟨i, c, hc, h⟩ | h) | (h | h) | h) <;> omega

theorem not_memWord_of_station {a : Nat} (h : A.STATION ≤ a ∧ a < A.HBM 0) : ¬ memWord a := by
  unfold memWord causeWords
  simp only [A.HBM, A.WINDOW] at *
  omega

namespace State

variable {W V : Nat → Prop} {s t u : State}

/-- The assembly and every register word that `W` does not hold of are the same. -/
structure RegsKept (W : Nat → Prop) (s t : State) : Prop where
  asm : t.asm = s.asm
  rd : ∀ a, ¬ W a → t.rd a = s.rd a

theorem RegsKept.refl (W : Nat → Prop) (s : State) : RegsKept W s s := ⟨rfl, fun _ _ => rfl⟩

theorem RegsKept.trans (h : RegsKept W s t) (k : RegsKept W t u) : RegsKept W s u :=
  ⟨k.asm.trans h.asm, fun a ha => (k.rd a ha).trans (h.rd a ha)⟩

theorem RegsKept.mono (h : RegsKept W s t) (hV : ∀ a, W a → V a) : RegsKept V s t :=
  ⟨h.asm, fun a ha => h.rd a fun hw => ha (hV a hw)⟩

/-- A field whose words `W` does not hold of reads as before. -/
theorem RegsKept.get (h : RegsKept W s t) {f : Fld} (h0 : ¬ W f.addr) (h4 : f.lo + f.width ≤ 32) : t.get f = s.get f := by
  unfold State.get; rw [if_pos h4, if_pos h4, h.rd _ h0]

theorem RegsKept.rd64 (h : RegsKept W s t) {a : Nat} (h0 : ¬ W a) (h4 : ¬ W (a + 4)) : t.rd64 a = s.rd64 a := by
  unfold State.rd64; rw [h.rd _ h0, h.rd _ h4]

theorem RegsKept.foldl {α : Type} {f : State → α → State} (l : List α) (hf : ∀ t a, RegsKept W t (f t a))
    (h : RegsKept W s t) : RegsKept W s (l.foldl f t) := foldl_keeps (RegsKept W s) f (fun x a hx => hx.trans (hf x a)) l t h

theorem RegsKept.ite {c : Prop} [Decidable c] {a b : State} (ha : RegsKept W s a) (hb : RegsKept W s b) :
    RegsKept W s (if c then a else b) := by
  split
  · exact ha
  · exact hb

section
variable (h : RegsKept W s t)
include h

/-- A change of hidden state alone. -/
theorem RegsKept.of_hidden (hasm : u.asm = t.asm) (h1 : u.regs = t.regs) (h2 : u.rwv2 = t.rwv2) (h3 : u.rwv3 = t.rwv3) :
    RegsKept W s u := h.trans ⟨hasm, fun a _ => rd_congr a hasm h1 h2 h3⟩

theorem RegsKept.wr {a v : Nat} (ha : W a) : RegsKept W s (t.wr a v) :=
  h.trans ⟨by simp, fun b hb => rd_wr_other t v fun e => hb (e ▸ ha)⟩

theorem RegsKept.wr64 {a v : Nat} (ha : ∀ b, pairWords a b → W b) : RegsKept W s (t.wr64 a v) :=
  h.trans ⟨by simp, fun b hb => rd_wr64_other t v (fun e => hb (ha b (.inl e))) fun e => hb (ha b (.inr e))⟩

theorem RegsKept.bump {a n : Nat} (ha : ∀ b, pairWords a b → W b) : RegsKept W s (t.bump a n) :=
  h.trans ⟨by simp, fun b hb => rd_bump_other t n (fun e => hb (ha b (.inl e))) fun e => hb (ha b (.inr e))⟩

theorem RegsKept.put {f : Fld} {v : Nat} (ha : ∀ b, pairWords f.addr b → W b) : RegsKept W s (t.put f v) := by
  unfold State.put
  exact .ite (h.wr (ha _ (.inl rfl))) (h.wr64 ha)

theorem RegsKept.report {n d : Nat} {l : List Nat} : RegsKept W s (t.report n d l) :=
  h.of_hidden (by simp) (by simp) (by simp) (by simp)

theorem RegsKept.raise {b : Blk} {i j k : Nat} {x : List Nat} (ha : ∀ a, causeWords (b.causePage i j) a → W a) :
    RegsKept W s (t.raise b i j k x) :=
  h.trans ⟨by simp, fun a hb => rd_raise_other t b i j k x (fun e => hb (ha a (.inl e))) (fun e => hb (ha a (.inr (.inl e))))
    fun e => hb (ha a (.inr (.inr e)))⟩

theorem RegsKept.capture {f : Fld} {g : State → State} (hf : ∀ b, pairWords f.addr b → W b) (hg : ∀ t, RegsKept W t (g t)) :
    RegsKept W s (t.capture f g) := by
  unfold State.capture
  exact .ite h ((h.trans (hg t)).put hf)

end

/-! ### Origination at a station or firmware port -/

theorem originWord_of_pair {a : Nat} (h : A.SWITCH ≤ a ∧ a + 4 < A.SWITCH + 0x200000) : ∀ b, pairWords a b → originWord b := by
  rintro b (rfl | rfl)
  · exact .inl ⟨h.1, by omega⟩
  · exact .inl ⟨by omega, h.2⟩

theorem originWord_of_causes {p : Nat} (h : A.SWITCH ≤ p ∧ p + 0x1C < A.SWITCH + 0x200000) :
    ∀ b, causeWords p b → originWord b := by
  rintro b (rfl | rfl | rfl) <;> exact .inl ⟨by omega, by omega⟩

theorem tc_lt (k : Pkt) : k.tc < 8 := Nat.mod_lt _ (by decide)

section
variable (h : RegsKept originWord s t)
include h

/-- HELD of an account of a station port changes, with COMMITTED and UNCOMMITTED (R160). -/
theorem RegsKept.charge {i c n : Nat} (hc : c < 8) : RegsKept originWord s (t.charge (256 + 2 * i) c n) := by
  unfold State.charge account; dsimp only
  refine RegsKept.put (RegsKept.put ?_ (originWord_of_pair (by decide))) (originWord_of_pair (by decide))
  have : ∀ v, t.put (F.SWITCH_HELD_CELLS (256 + 2 * i) c) v =
    t.wr (A.SWITCH_HELD (256 + 2 * i) c) (setBits (t.rd (A.SWITCH_HELD (256 + 2 * i) c)) 0 20 v) := fun v => rfl
  rw [this]
  exact h.wr (.inr (.inl ⟨i, c, hc, rfl⟩))

theorem RegsKept.noteRelinks {l : List Nat} : RegsKept originWord s (t.noteRelinks l) :=
  h.foldl l fun t _ => ((RegsKept.refl _ t).bump (originWord_of_pair (by decide))).raise (originWord_of_causes (by decide))

/-- Cells are taken from the pool of cells, pool 0 (R173). -/
theorem RegsKept.poolTake {n owner : Nat} : RegsKept originWord s (t.poolTake 0 n owner).2 := by
  have hused : originWord (A.POOL_USED 0 (usedKind 0 owner)) := by
    refine .inl ?_
    have : usedKind 0 owner ≤ 2 := by
      unfold usedKind portKind; split
      · split
        · omega
        · split <;> omega
      · contradiction
    unfold A.POOL_USED A.POOL A.SWITCH; omega
  unfold State.poolTake; dsimp only
  refine RegsKept.noteRelinks (RegsKept.wr (RegsKept.wr (RegsKept.wr ?_ (.inl (by decide))) (.inl (by decide))) hused)
  exact h.of_hidden rfl rfl rfl rfl

theorem RegsKept.allocate {i f pay : Nat} {k : Pkt} {whole : Bool} {chosen : Option Nat} :
    RegsKept originWord s (t.allocate (256 + 2 * i) k f whole chosen pay).2 := by
  unfold State.allocate; dsimp only
  refine RegsKept.charge ?_ (tc_lt k)
  have htake := h.poolTake (n := f + pay) (owner := 8 * (256 + 2 * i) + k.tc)
  generalize t.poolTake 0 (f + pay) (8 * (256 + 2 * i) + k.tc) = r at htake ⊢
  exact htake.of_hidden rfl rfl rfl rfl

theorem RegsKept.enqueue {id out tc dst : Nat} : RegsKept originWord s (t.enqueue id out tc dst) :=
  h.of_hidden rfl rfl rfl rfl

theorem RegsKept.placeAt {i out : Nat} {k : Pkt} : RegsKept originWord s (t.placeAt (256 + 2 * i) k out) := by
  unfold State.placeAt; dsimp only
  exact (h.allocate.bump (originWord_of_pair (a := A.SWITCH_UNITS_WRITTEN) (by decide))).enqueue

theorem RegsKept.noteAsked {id : Nat} : RegsKept originWord s (t.noteAsked id) := by
  unfold State.noteAsked
  refine RegsKept.bump ?_ (originWord_of_pair (a := A.POOL_QUOTA_WAITS) (by decide))
  exact h.of_hidden rfl rfl rfl rfl

theorem RegsKept.wait {p : Nat} {k : Pkt} {link : Option Nat} {c : Option CKey} :
    RegsKept originWord s (t.wait p k link c) := by
  unfold State.wait; dsimp only
  refine .ite (RegsKept.noteAsked ?_) ?_ <;> exact h.of_hidden rfl rfl rfl rfl

theorem RegsKept.answerOwn {k : Pkt} {code : Nat} : RegsKept originWord s (t.answerOwn k code) := by
  unfold State.answerOwn; dsimp only
  have hcount := RegsKept.ite (c := 0x4001 ≤ k.op ∧ k.op ≤ 0x4005)
    (h.bump (a := A.WINDOW_REFUSED) (n := 1) fun b hb => .inr (.inr hb)) h
  exact .ite (hcount.placeAt (i := 16)) hcount.wait

theorem RegsKept.lookup {src dst tc flow : Nat} {spray : Bool} :
    RegsKept originWord s (t.lookup src dst tc spray flow).2 := by
  have hcount := h.bump (a := A.ROUTE_LOOKUPS) (n := 1) (originWord_of_pair (by decide))
  have hset : (t.bump A.ROUTE_LOOKUPS 1).get (F.ROUTE_NODE_SET dst) < 2 ^ 12 := get_lt _ _
  unfold State.lookup; dsimp only; split
  · dsimp only; exact hcount.bump (originWord_of_pair (by decide))
  · split
    · have hmissed := hcount.bump (a := A.ROUTE_NO_ROUTE) (n := 1) (originWord_of_pair (by decide))
      have hraised := hmissed.raise (b := .ROUTE) (i := 0) (j := 0) (k := K.ROUTE_SET_EMPTY) (x := [])
        (originWord_of_causes (by decide))
      refine hraised.capture (originWord_of_pair ?_) fun t => (RegsKept.refl _ t).put (originWord_of_pair ?_) <;> decide
    · split
      · dsimp only
        refine RegsKept.put (RegsKept.bump hcount (originWord_of_pair (by decide))) (originWord_of_pair ?_)
        simp only [A.ROUTE_SET, A.ROUTE, A.SWITCH]; omega
      · dsimp only; exact hcount.bump (originWord_of_pair (by decide))

theorem RegsKept.resolve {k : Pkt} {dst : Nat} : RegsKept originWord s (t.resolve k dst).2 := by
  unfold State.resolve; split
  · exact h
  · dsimp only; split
    · exact h
    · exact h.lookup

theorem RegsKept.placeUnicast {i : Nat} {k : Pkt} : RegsKept originWord s (t.placeUnicast (256 + 2 * i) k none) := by
  have hr := h.resolve (k := k) (dst := k.dst)
  unfold State.placeUnicast; dsimp only
  split
  · next e => rw [e] at hr; exact hr.placeAt
  · next e => rw [e] at hr; exact hr.answerOwn
  · next e => rw [e] at hr; exact hr

theorem RegsKept.originate {i : Nat} {k : Pkt} : RegsKept originWord s (t.originate (256 + 2 * i) k) := by
  unfold State.originate
  exact .ite h.placeUnicast h.wait

end

end State

end Sys2Proof.Machine
end

section
/-! SUPPORT. Module memory as its readers and writers see it: states alike in memory, assembly and spaces give the same bytes and
stay alike, whatever their counters hold (R380, R387, R390). -/

namespace Sys2Proof.Machine.State

variable {s t u : State}

/-! ### Register words of an access to module memory -/

theorem stackOf_lt (s : State) (a : Nat) : s.stackOf a < 8 := by
  have : ∀ n, n ≤ 3 → bits a 8 n < 8 := fun n hn => (bits_lt a 8 n).trans_le (Nat.pow_le_pow_right (by decide) hn)
  unfold stackOf
  split <;> exact this _ (by decide)

theorem memWord_of_pair {n k : Nat} (hn : n < 8) (hk : k + 4 < 0x10000) : ∀ b, pairWords (A.HBM n + k) b → memWord b := by
  rintro b (rfl | rfl) <;> refine .inl ?_ <;> simp only [A.HBM] <;> omega

theorem memWord_of_stack_cause {n : Nat} (hn : n < 8) : ∀ b, causeWords (Blk.causePage .HBM n 0) b → memWord b := by
  have hpage : Blk.causePage .HBM n 0 = A.HBM n := by
    simp [Blk.causePage, Blk.page, Blk.info, A.HBM]
  rw [hpage]
  rintro b (rfl | rfl | rfl) <;> refine .inl ?_ <;> simp only [A.HBM] <;> omega

theorem memWord_of_range_cause : ∀ b, causeWords (Blk.causePage .WINDOW 0 0) b → memWord b := fun _ hb => .inr hb

section
variable (h : RegsKept memWord s t)
include h

theorem RegsKept.corrected {n : Nat} (hn : n < 8) : RegsKept memWord s (t.corrected n) :=
  (h.bump (memWord_of_pair (k := 0x80) hn (by decide))).report

theorem RegsKept.captureUe {n a : Nat} (hn : n < 8) : RegsKept memWord s (t.captureUe n a) :=
  h.capture (memWord_of_pair (k := 0x38) hn (by decide)) fun t =>
    (RegsKept.refl _ t).put (memWord_of_pair (k := 0x38) hn (by decide))

theorem RegsKept.readGran {g : Nat} : RegsKept memWord s (t.readGran g).2 := by
  have hn := stackOf_lt t (16 * g)
  have hread := h.bump (a := A.HBM_BYTES_READ (t.stackOf (16 * g))) (n := 16) (memWord_of_pair (k := 0xA8) hn (by decide))
  unfold State.readGran; dsimp only; split <;> dsimp only
  · exact hread
  · exact hread.corrected hn
  · exact hread.corrected hn
  · exact ((hread.bump (memWord_of_pair (k := 0x90) hn (by decide))).captureUe hn).raise (memWord_of_stack_cause hn)
  · exact hread.bump (memWord_of_pair (k := 0x98) hn (by decide))
  · exact ((hread.bump (memWord_of_pair (k := 0x88) hn (by decide))).captureUe hn).raise (memWord_of_stack_cause hn)

theorem RegsKept.foldl_snd {α β : Type} {f : β × State → α → β × State} (l : List α) {b : β}
    (hf : ∀ x a, RegsKept memWord x.2 (f x a).2) : RegsKept memWord s (l.foldl f (b, t)).2 :=
  foldl_keeps (fun x : β × State => RegsKept memWord s x.2) f (fun x a hx => hx.trans (hf x a)) l (b, t) h

theorem RegsKept.readMem {a n : Nat} : RegsKept memWord s (t.readMem a n).2 := by
  unfold State.readMem; dsimp only
  refine h.foldl_snd _ fun x g => ?_
  exact (RegsKept.refl _ x.2).readGran

theorem RegsKept.readSpace {c off n : Nat} : RegsKept memWord s (t.readSpace c off n).2 := by
  unfold State.readSpace; split
  · exact h.readMem
  · dsimp only; exact h.raise memWord_of_range_cause

theorem RegsKept.setByte {a : Nat} {b : Byte} : RegsKept memWord s (t.setByte a b) := h.of_hidden rfl rfl rfl rfl

theorem RegsKept.setSynd {g v : Nat} : RegsKept memWord s (t.setSynd g v) := h.of_hidden rfl rfl rfl rfl

omit h in
theorem RegsKept.setBytes (h : RegsKept memWord s t) {a : Nat} {l : List Byte} : RegsKept memWord s (t.setBytes a l) := by
  induction l generalizing t a with
  | nil => exact h
  | cons b l ih => exact ih h.setByte

theorem RegsKept.storeGran {a : Nat} {l : List Byte} {g : Nat} : RegsKept memWord s (t.storeGran a l g) := by
  have hw := h.bump (a := A.HBM_BYTES_WRITTEN (t.stackOf (16 * g))) (n := 16)
    (memWord_of_pair (k := 0xB0) (stackOf_lt t (16 * g)) (by decide))
  unfold State.storeGran; dsimp only
  refine RegsKept.setBytes ?_
  split
  · exact .ite hw.setSynd hw.setByte.setSynd
  · exact hw.setSynd

theorem RegsKept.writeGran {a : Nat} {l : List Byte} {g : Nat} : RegsKept memWord s (t.writeGran a l g) :=
  .ite h.storeGran (.ite h.readGran.storeGran h.readGran)

theorem RegsKept.writeMem {a : Nat} {l : List Byte} : RegsKept memWord s (t.writeMem a l) :=
  h.foldl _ fun t _ => (RegsKept.refl _ t).writeGran

theorem RegsKept.writeSpace {c off : Nat} {l : List Byte} : RegsKept memWord s (t.writeSpace c off l) := by
  unfold State.writeSpace; split
  · exact h.writeMem
  · exact h.raise memWord_of_range_cause

theorem RegsKept.writeWeights {tw : List Word} {seed step e0 : Nat} {ws : List Nat} :
    RegsKept memWord s (t.writeWeights tw seed step e0 ws) := .ite h.writeSpace.writeSpace h.writeSpace

end

/-! ### States alike in memory -/

/-- Module memory, the assembly and the spaces of R387 are the same. -/
structure MemAlike (s t : State) : Prop where
  mem : t.mem = s.mem
  asm : t.asm = s.asm
  base : ∀ c, c ≤ SP_LOG → t.get (F.WINDOW_SPACE_BASE_BASE c) = s.get (F.WINDOW_SPACE_BASE_BASE c)
  size : ∀ c, c ≤ SP_LOG → t.get (F.WINDOW_SPACE_SIZE_SIZE c) = s.get (F.WINDOW_SPACE_SIZE_SIZE c)

theorem MemAlike.symm (h : MemAlike s t) : MemAlike t s :=
  ⟨h.mem.symm, h.asm.symm, fun c hc => (h.base c hc).symm, fun c hc => (h.size c hc).symm⟩

theorem MemAlike.trans (h : MemAlike s t) (k : MemAlike t u) : MemAlike s u :=
  ⟨k.mem.trans h.mem, k.asm.trans h.asm, fun c hc => (k.base c hc).trans (h.base c hc),
    fun c hc => (k.size c hc).trans (h.size c hc)⟩

/-- The registers of the spaces are none of an access to module memory. -/
theorem RegsKept.memAlike (h : RegsKept memWord s t) (hmem : t.mem = s.mem) : MemAlike s t := by
  refine ⟨hmem, h.asm, fun c hc => h.get ?_ (Nat.le_of_lt (by decide : 17 < 32)),
    fun c hc => h.get ?_ (Nat.le_of_lt (by decide : 17 < 32))⟩ <;>
  · unfold memWord causeWords
    simp only [F.WINDOW_SPACE_BASE_BASE, F.WINDOW_SPACE_SIZE_SIZE, A.WINDOW_SPACE_BASE, A.WINDOW_SPACE_SIZE, A.HBM, A.WINDOW]
    unfold SP_LOG at hc
    omega

theorem MemAlike.granSynd (h : MemAlike s t) (g : Nat) : t.granSynd g = s.granSynd g := by
  unfold State.granSynd; rw [h.mem]

theorem MemAlike.byteAt (h : MemAlike s t) (a : Nat) : t.byteAt a = s.byteAt a := by
  unfold State.byteAt; rw [h.mem]

theorem MemAlike.seenByte (h : MemAlike s t) (a : Nat) : t.seenByte a = s.seenByte a := by
  unfold State.seenByte; rw [h.granSynd, h.byteAt]

theorem MemAlike.stackOf (h : MemAlike s t) (a : Nat) : t.stackOf a = s.stackOf a := by
  unfold State.stackOf; rw [h.asm]

theorem MemAlike.spaceAddr (h : MemAlike s t) (c off n : Nat) : t.spaceAddr c off n = s.spaceAddr c off n := by
  unfold State.spaceAddr spaceSize
  by_cases hc : c ≤ SP_LOG
  · rw [h.base c hc, h.size c hc]
  · simp [hc]

/-! ### Reads -/

theorem readGran_fst (s : State) (g : Nat) : (s.readGran g).1 = (synd (s.granSynd g)).usable := by
  unfold readGran; dsimp only
  split <;> simp_all [Synd.usable]

theorem memAlike_readGran (s : State) (g : Nat) : MemAlike s (s.readGran g).2 :=
  (RegsKept.refl _ s).readGran.memAlike (readGran_mem s g)

/-- Two runs of a fold that carries a value and a state give the same value and states alike, where each step does. -/
theorem MemAlike.foldl_pair {α β : Type} {f : β × State → α → β × State}
    (hf : ∀ x y a, x.1 = y.1 → MemAlike x.2 y.2 → (f x a).1 = (f y a).1 ∧ MemAlike (f x a).2 (f y a).2) (l : List α)
    (x y : β × State) (h1 : x.1 = y.1) (h2 : MemAlike x.2 y.2) :
    (l.foldl f x).1 = (l.foldl f y).1 ∧ MemAlike (l.foldl f x).2 (l.foldl f y).2 := by
  induction l generalizing x y with
  | nil => exact ⟨h1, h2⟩
  | cons a l ih => obtain ⟨k1, k2⟩ := hf x y a h1 h2; exact ih _ _ k1 k2

theorem memAlike_readSpace (s : State) (c off n : Nat) : MemAlike s (s.readSpace c off n).2 := by
  refine (RegsKept.refl _ s).readSpace.memAlike ?_
  unfold readSpace; split <;> simp

/-- A read gives the same bytes in states alike. -/
theorem MemAlike.readSpace_fst (h : MemAlike s t) (c off n : Nat) : (t.readSpace c off n).1 = (s.readSpace c off n).1 := by
  unfold State.readSpace
  rw [h.spaceAddr]
  split
  · next a _ =>
    unfold State.readMem; dsimp only
    have hfold := MemAlike.foldl_pair (f := fun (x : Bool × State) g => let q := x.2.readGran g; (x.1 && q.1, q.2))
      (fun x y g h1 h2 => ⟨by dsimp only; rw [h1, readGran_fst, readGran_fst, h2.granSynd],
        ((memAlike_readGran _ g).symm.trans h2).trans (memAlike_readGran _ g)⟩) (granules a n) (true, s) (true, t) rfl h
    simp only [h.seenByte]
    rw [hfold.1]
  · rfl

theorem MemAlike.readSpace (h : MemAlike s t) (c off n : Nat) : MemAlike (s.readSpace c off n).2 (t.readSpace c off n).2 :=
  ((memAlike_readSpace ..).symm.trans h).trans (memAlike_readSpace ..)

/-! ### Writes -/

theorem MemAlike.bump (h : MemAlike s t) {a n : Nat} (ha : ∀ b, pairWords a b → memWord b) :
    MemAlike (s.bump a n) (t.bump a n) :=
  (((RegsKept.refl _ s).bump ha).memAlike (by simp)).symm.trans (h.trans (((RegsKept.refl _ t).bump ha).memAlike (by simp)))

theorem MemAlike.setByte (h : MemAlike s t) (a : Nat) (b : Byte) : MemAlike (s.setByte a b) (t.setByte a b) :=
  ⟨by unfold State.setByte; rw [h.mem], h.asm, h.base, h.size⟩

theorem MemAlike.setSynd (h : MemAlike s t) (g v : Nat) : MemAlike (s.setSynd g v) (t.setSynd g v) :=
  ⟨by unfold State.setSynd; rw [h.mem], h.asm, h.base, h.size⟩

theorem MemAlike.correct (h : MemAlike s t) (g i : Nat) : MemAlike (s.correct g i) (t.correct g i) := by
  unfold State.correct; dsimp only
  rw [h.byteAt]
  exact (h.setByte _ _).setSynd g 0

theorem MemAlike.setBytes (h : MemAlike s t) (a : Nat) (l : List Byte) : MemAlike (s.setBytes a l) (t.setBytes a l) := by
  induction l generalizing s t a with
  | nil => exact h
  | cons b l ih => exact ih (h.setByte a b) (a + 1)

theorem MemAlike.storeGran (h : MemAlike s t) (a : Nat) (l : List Byte) (g : Nat) :
    MemAlike (s.storeGran a l g) (t.storeGran a l g) := by
  have hw := h.bump (a := A.HBM_BYTES_WRITTEN (s.stackOf (16 * g))) (n := 16)
    (memWord_of_pair (k := 0xB0) (stackOf_lt s (16 * g)) (by decide))
  unfold State.storeGran; dsimp only
  rw [h.stackOf, h.granSynd]
  refine MemAlike.setBytes ?_ _ _
  split
  · split
    · exact hw.setSynd g 0
    · exact hw.correct g _
  · exact hw.setSynd g 0

theorem MemAlike.writeGran (h : MemAlike s t) (a : Nat) (l : List Byte) (g : Nat) :
    MemAlike (s.writeGran a l g) (t.writeGran a l g) := by
  have hr : MemAlike (s.readGran g).2 (t.readGran g).2 := ((memAlike_readGran s g).symm.trans h).trans (memAlike_readGran t g)
  unfold State.writeGran; dsimp only
  rw [readGran_fst, readGran_fst, h.granSynd]
  split
  · exact h.storeGran a l g
  · split
    · exact hr.storeGran a l g
    · exact hr

theorem MemAlike.writeMem (h : MemAlike s t) (a : Nat) (l : List Byte) : MemAlike (s.writeMem a l) (t.writeMem a l) := by
  unfold State.writeMem
  induction granules a l.length generalizing s t with
  | nil => exact h
  | cons g gs ih => exact ih (h.writeGran a l g)

theorem MemAlike.writeSpace (h : MemAlike s t) (c off : Nat) (l : List Byte) :
    MemAlike (s.writeSpace c off l) (t.writeSpace c off l) := by
  unfold State.writeSpace
  rw [h.spaceAddr]
  split
  · exact h.writeMem _ l
  · refine ((RegsKept.refl _ s).raise memWord_of_range_cause |>.memAlike (by simp)).symm.trans (h.trans ?_)
    exact ((RegsKept.refl _ t).raise memWord_of_range_cause).memAlike (by simp)

theorem MemAlike.writeWeights (h : MemAlike s t) (tw : List Word) (seed step e0 : Nat) (ws : List Nat) :
    MemAlike (s.writeWeights tw seed step e0 ws) (t.writeWeights tw seed step e0 ws) := by
  unfold State.writeWeights; dsimp only
  split
  · exact (h.writeSpace _ _ _).writeSpace _ _ _
  · exact h.writeSpace _ _ _

/-! ### The rebuild of a weight vector (R371) -/

/-- Reads the masters of `m` records of slot LIVE, from record `e0` on: one step of a rebuild. -/
def readMasters (s : State) (tw : List Word) (live e0 m : Nat) : Option (List Nat) × State :=
  (List.range m).foldl (fun (a : Option (List Nat) × State) i =>
    let q := a.2.readSpace SP_STATE (slotAddr tw (e0 + i) live) (slotBytes tw)
    (match a.1, q.1 with | some l, some b => some (l ++ [(readSlot tw b).getD 0 0]) | _, _ => none, q.2)) (some [], s)

theorem rebuildFrom_succ (s : State) (tw : List Word) (live seed step n e0 : Nat) :
    s.rebuildFrom tw live seed step (n + 1) e0 =
      let m := min 16384 (tensorElems tw - e0)
      if m = 0 then (true, s)
      else match (s.readMasters tw live e0 m).1 with
        | none => (false, (s.readMasters tw live e0 m).2)
        | some ws => State.rebuildFrom ((s.readMasters tw live e0 m).2.writeWeights tw seed step e0 ws) tw live seed step n
            (e0 + 16384) := rfl

theorem MemAlike.readMasters (h : MemAlike s t) (tw : List Word) (live e0 m : Nat) :
    (t.readMasters tw live e0 m).1 = (s.readMasters tw live e0 m).1 ∧
      MemAlike (s.readMasters tw live e0 m).2 (t.readMasters tw live e0 m).2 := by
  unfold State.readMasters
  have hfold := MemAlike.foldl_pair
    (f := fun (a : Option (List Nat) × State) i =>
      let q := a.2.readSpace SP_STATE (slotAddr tw (e0 + i) live) (slotBytes tw)
      (match a.1, q.1 with | some l, some b => some (l ++ [(readSlot tw b).getD 0 0]) | _, _ => none, q.2))
    (fun x y i h1 h2 => ⟨by dsimp only; rw [h1, h2.readSpace_fst], h2.readSpace ..⟩) (List.range m) (some [], s) (some [], t)
    rfl h
  exact ⟨hfold.1.symm, hfold.2⟩

theorem regsKept_readMasters (s : State) (tw : List Word) (live e0 m : Nat) :
    RegsKept memWord s (s.readMasters tw live e0 m).2 := by
  unfold readMasters
  refine (RegsKept.refl _ s).foldl_snd _ fun x i => ?_
  exact (RegsKept.refl _ x.2).readSpace

/-- A rebuild ends alike in states alike. -/
theorem MemAlike.rebuildFrom (h : MemAlike s t) (tw : List Word) (live seed step n e0 : Nat) :
    (t.rebuildFrom tw live seed step n e0).1 = (s.rebuildFrom tw live seed step n e0).1 ∧
      MemAlike (s.rebuildFrom tw live seed step n e0).2 (t.rebuildFrom tw live seed step n e0).2 := by
  induction n generalizing s t e0 with
  | zero => exact ⟨rfl, h⟩
  | succ n ih =>
    obtain ⟨hread, halike⟩ := h.readMasters tw live e0 (min 16384 (tensorElems tw - e0))
    rw [rebuildFrom_succ, rebuildFrom_succ]; dsimp only
    rw [hread]
    split
    · exact ⟨rfl, h⟩
    · split
      · exact ⟨rfl, halike⟩
      · exact ih (halike.writeWeights ..) _

/-- A rebuild writes the registers of accesses to module memory alone. -/
theorem regsKept_rebuildFrom (s : State) (tw : List Word) (live seed step n e0 : Nat) :
    RegsKept memWord s (s.rebuildFrom tw live seed step n e0).2 := by
  induction n generalizing s e0 with
  | zero => exact .refl _ s
  | succ n ih =>
    have hread := regsKept_readMasters s tw live e0 (min 16384 (tensorElems tw - e0))
    rw [rebuildFrom_succ]; dsimp only
    split
    · exact .refl _ s
    · split
      · exact hread
      · exact hread.writeWeights.trans (ih ..)

end Sys2Proof.Machine.State
end

section
/-! SUPPORT. RETURNs emitted again, weights rebuilt and saved rows that expire (R367, R371, R373). -/

namespace Sys2Proof.Machine.State

variable {s t u : State}

/-! ### RETURNs emitted again (R367) -/

theorem RegsKept.inOrder {W : Nat → Prop} {f : State → State} (h : RegsKept W s t) (hf : RegsKept W t (f t)) :
    RegsKept W s (t.inOrder f) := (h.trans hf).of_hidden rfl rfl rfl rfl

theorem RegsKept.setWork {W : Nat → Prop} {w : Work} (h : RegsKept W s t) : RegsKept W s (t.setWork w) :=
  h.of_hidden rfl rfl rfl rfl

theorem regsKept_emitReturn (s : State) (r : Ret) (p : Nat × Nat) : RegsKept emissionWord s (s.emitReturn r p) := by
  unfold emitReturn; dsimp only
  refine RegsKept.bump (RegsKept.trans (RegsKept.mono (RegsKept.writeSpace ?_) fun a ha => .inr (.inl ha))
    ((RegsKept.originate (.refl _ _)).mono fun a ha => .inl ha)) fun b hb => .inr (.inr hb)
  exact (RegsKept.refl _ s).of_hidden rfl rfl rfl rfl

theorem regsKept_emitWaiting (s : State) (w : Work) : RegsKept emissionWord s (s.emitWaiting w) := by
  refine RegsKept.foldl _ (fun t i => ?_) (.refl _ s)
  split
  · exact .refl _ t
  · split
    · exact .refl _ t
    · split
      · exact .refl _ t
      · split
        · exact .refl _ t
        · exact (RegsKept.refl _ t).setWork.trans (regsKept_emitReturn ..)

theorem regsKept_drainReturns (s : State) : RegsKept emissionWord s s.drainReturns :=
  (RegsKept.refl _ s).inOrder (.foldl _ (fun t w => regsKept_emitWaiting t w) (.refl _ s))

/-- A register word that emission leaves alone, in the second half of the 64 bytes of an account. -/
theorem rd64_returnResends (h : RegsKept emissionWord s t) : t.rd64 A.STATION_RETURN_RESENDS = s.rd64 A.STATION_RETURN_RESENDS :=
  h.rd64 (not_emissionWord_of_station (by decide) (by decide)) (not_emissionWord_of_station (by decide) (by decide))

/-- A RETURN whose acknowledgement has not come RESEND_US after its emission. -/
def lateRet (s : State) (r : Ret) : Bool := r.blk.isSome && decide (r.at_ + s.resendTime ≤ s.clk)

/-- A RETURN as it stands once it is sent again, if it is late. -/
def resentRet (s : State) (r : Ret) : Ret := if s.lateRet r then { r with at_ := s.clk, pkt := r.pkt.again } else r

/-- A RETURN handed to its port once more, and counted. -/
def resend (s : State) (r : Ret) : State := (s.originate (256 + 2 * r.station) r.pkt.again).bump A.STATION_RETURN_RESENDS 1

theorem resendReturns_eq (s : State) (w : Work) :
    s.resendReturns w = (s.setWork { w with rets := w.rets.map s.resentRet }).inOrder fun u =>
      (w.rets.filter s.lateRet).foldl resend u := rfl

theorem kept_resend (s : State) (r : Ret) : Kept s (s.resend r) := (Kept.refl s).originate.bump

theorem rd64_resend (s : State) (r : Ret) :
    (s.resend r).rd64 A.STATION_RETURN_RESENDS = (s.rd64 A.STATION_RETURN_RESENDS + 1) % 2 ^ 64 := by
  unfold resend
  rw [rd64_bump_same, rd64_returnResends (((RegsKept.refl _ s).originate).mono fun a ha => .inl ha)]

theorem rd64_lt (s : State) (a : Nat) : s.rd64 a < 2 ^ 64 := by
  have h0 := rd_lt s a
  have h4 := rd_lt s (a + 4)
  unfold rd64; omega

theorem rd64_foldl_resend (l : List Ret) (s : State) :
    (l.foldl resend s).rd64 A.STATION_RETURN_RESENDS = (s.rd64 A.STATION_RETURN_RESENDS + l.length) % 2 ^ 64 := by
  induction l generalizing s with
  | nil => exact (Nat.mod_eq_of_lt (rd64_lt s _)).symm
  | cons r l ih => rw [List.foldl_cons, ih, rd64_resend, List.length_cons]; omega

/-- Every late RETURN is counted (R367). -/
theorem rd64_resendReturns (s : State) (w : Work) : (s.resendReturns w).rd64 A.STATION_RETURN_RESENDS =
    (s.rd64 A.STATION_RETURN_RESENDS + (w.rets.filter s.lateRet).length) % 2 ^ 64 := by
  rw [resendReturns_eq]
  exact rd64_foldl_resend _ (s.setWork { w with rets := w.rets.map s.resentRet })

/-- The work whose RETURNs are sent again holds them as they were sent. -/
theorem work_resendReturns {w : Work} (hs : w.saved = false) (s : State) :
    (s.resendReturns w).work w.line w.step w.sub w.op =
      some { w with rets := w.rets.map s.resentRet, lastAt := s.clk } := by
  rw [resendReturns_eq]
  rw [((Kept.refl _).inOrder (Kept.foldl _ kept_resend (.refl _))).work]
  exact work_setWork_same (w := { w with rets := w.rets.map s.resentRet }) hs

theorem clk_resendReturns (s : State) (w : Work) : (s.resendReturns w).clk = s.clk := by
  rw [resendReturns_eq]
  exact ((Kept.refl (s.setWork { w with rets := w.rets.map s.resentRet })).inOrder (Kept.foldl _ kept_resend (.refl _))).clk

/-! ### Causes of the STATION page -/

/-- Words of the STATION page that a cause, its capture and the count of free blocks lie in. -/
abbrev stationHead (a : Nat) : Prop := A.STATION ≤ a ∧ a < A.STATION + 0x40

theorem stationHead_of_pair {a : Nat} (h : A.STATION ≤ a ∧ a + 4 < A.STATION + 0x40) : ∀ b, pairWords a b → stationHead b := by
  rintro b (rfl | rfl)
  · exact ⟨h.1, by omega⟩
  · exact ⟨by omega, h.2⟩

theorem stationHead_of_cause (i : Nat) : ∀ b, causeWords (Blk.causePage .STATION i 0) b → stationHead b := by
  suffices ∀ b, causeWords (Blk.causePage .STATION 0 0) b → stationHead b from this
  rintro b (rfl | rfl | rfl) <;> decide

theorem RegsKept.stnCause (h : RegsKept stationHead s t) {n g x step : Nat} : RegsKept stationHead s (t.stnCause n g x step) := by
  unfold State.stnCause
  refine RegsKept.raise (RegsKept.capture h (stationHead_of_pair (by decide)) fun t => ?_) (stationHead_of_cause _)
  have h1 := (RegsKept.refl stationHead t).put (f := F.STATION_CAPTURE_LINE) (v := g) (stationHead_of_pair (by decide))
  have h2 := h1.put (f := F.STATION_CAPTURE_EVENT) (v := n) (stationHead_of_pair (by decide))
  have h3 := h2.put (f := F.STATION_CAPTURE_EXPERT) (v := x) (stationHead_of_pair (by decide))
  exact h3.wr64 (stationHead_of_pair (by decide))

@[simp] theorem stnCause_mem (s : State) (n g x step : Nat) : (s.stnCause n g x step).mem = s.mem := by
  unfold stnCause capture; split <;> simp

@[simp] theorem stnCause_coll (s : State) (n g x step : Nat) : (s.stnCause n g x step).coll = s.coll := by
  unfold stnCause capture; split <;> simp

@[simp] theorem stnCause_stn (s : State) (n g x step : Nat) : (s.stnCause n g x step).stn = s.stn := by
  unfold stnCause capture; split <;> simp

theorem causeBit_stnCause {n : Nat} (hn : n < 32) (s : State) (g x step : Nat) :
    (s.stnCause n g x step).causeBit .STATION 0 0 n = true := by
  unfold stnCause causeBit
  exact cause_raise (b := .STATION) _ _ _ _ _ hn

/-! ### Weights rebuilt (R371) -/

/-- A rebuild that succeeds ends with its expert no longer STALE, its count and its cause. -/
theorem rebuildWeights_read {x : Nat} {e : Entry} {b : List Byte} {u : State}
    (hwaits : s.coll.entries.find? (fun f => f.fam ≠ 0 && f.state = .matched && (s.line f.line).isRoot &&
      (s.lineExperts f.line).contains x) = some e)
    (hstale : s.flag (F.STATION_EXPERT_STALE x) = true) (hidle : x ∉ s.stn.updating)
    (hread : s.readSpace SP_STATE (recordPage (s.tensorWords (s.get (F.STATION_EXPERT_TENSOR x)))) 16 = (some b, u))
    (hfmt : wordField (s.tensorWords (s.get (F.STATION_EXPERT_TENSOR x))) 6 10 4 ≤ 9) {r : Bool × State}
    (hr : u.rebuildFrom (s.tensorWords (s.get (F.STATION_EXPERT_TENSOR x))) (numAt b 8 1 % 2) (s.line e.line).seed
      (numAt b 0 8) (tensorElems (s.tensorWords (s.get (F.STATION_EXPERT_TENSOR x))) / 16384 + 1) 0 = r) (hok : r.1 = true) :
    s.rebuildWeights x = ((r.2.put (F.STATION_EXPERT_STALE x) 0).bump A.STATION_WEIGHT_REBUILDS 1).stnCause
        K.STATION_WEIGHT_REBUILD e.line x e.step := by
  have hwait : s.flag (F.STATION_EXPERT_STALE x) = true ∧ ¬ s.stn.updating.contains x = true ∧
      wordField (s.tensorWords (s.get (F.STATION_EXPERT_TENSOR x))) 6 10 4 ≤ 9 := ⟨hstale, by simpa using hidle, hfmt⟩
  unfold rebuildWeights
  simp only [hwaits, if_pos hwait, hread, hr, hok, if_true]

/-- The weights of a rebuild are those that it writes from the state before the commit word was read: the reads leave memory
as it is. -/
theorem rebuildWeights_done {x : Nat} {e : Entry} {b : List Byte}
    (hwaits : s.coll.entries.find? (fun f => f.fam ≠ 0 && f.state = .matched && (s.line f.line).isRoot &&
      (s.lineExperts f.line).contains x) = some e)
    (hstale : s.flag (F.STATION_EXPERT_STALE x) = true) (hidle : x ∉ s.stn.updating)
    (hread : (s.readSpace SP_STATE (recordPage (s.tensorWords (s.get (F.STATION_EXPERT_TENSOR x)))) 16).1 = some b)
    (hfmt : wordField (s.tensorWords (s.get (F.STATION_EXPERT_TENSOR x))) 6 10 4 ≤ 9) {r : Bool × State}
    (hr : s.rebuildFrom (s.tensorWords (s.get (F.STATION_EXPERT_TENSOR x))) (numAt b 8 1 % 2) (s.line e.line).seed
      (numAt b 0 8) (tensorElems (s.tensorWords (s.get (F.STATION_EXPERT_TENSOR x))) / 16384 + 1) 0 = r) (hok : r.1 = true) :
    ∃ v, s.rebuildWeights x = ((v.put (F.STATION_EXPERT_STALE x) 0).bump A.STATION_WEIGHT_REBUILDS 1).stnCause
        K.STATION_WEIGHT_REBUILD e.line x e.step ∧ v.mem = r.2.mem ∧ RegsKept memWord s v := by
  rcases hp : s.readSpace SP_STATE (recordPage (s.tensorWords (s.get (F.STATION_EXPERT_TENSOR x)))) 16 with ⟨o, u⟩
  have halike := memAlike_readSpace s SP_STATE (recordPage (s.tensorWords (s.get (F.STATION_EXPERT_TENSOR x)))) 16
  have hregs := (RegsKept.refl memWord s).readSpace (c := SP_STATE) (n := 16)
    (off := recordPage (s.tensorWords (s.get (F.STATION_EXPERT_TENSOR x))))
  rw [hp] at hread halike hregs
  obtain rfl : o = some b := hread
  obtain ⟨hfst, hsnd⟩ := halike.rebuildFrom (s.tensorWords (s.get (F.STATION_EXPERT_TENSOR x))) (numAt b 8 1 % 2)
    (s.line e.line).seed (numAt b 0 8) (tensorElems (s.tensorWords (s.get (F.STATION_EXPERT_TENSOR x))) / 16384 + 1) 0
  rw [hr] at hfst hsnd
  exact ⟨_, rebuildWeights_read hwaits hstale hidle hp hfmt rfl (hfst.trans hok), hsnd.mem,
    hregs.trans (regsKept_rebuildFrom ..)⟩

/-- An expert's STALE flag lies in its own table entry, apart from the counters. -/
theorem stale_addr (x : Nat) : A.STATION + 0x10000 ≤ (F.STATION_EXPERT_STALE x).addr := by
  simp only [F.STATION_EXPERT_STALE, A.STATION_EXPERT]; omega

/-- The last three writes of a rebuild: the flag, the count and the cause. -/
theorem rebuild_ends (v : State) (x g step : Nat) :
    let t := ((v.put (F.STATION_EXPERT_STALE x) 0).bump A.STATION_WEIGHT_REBUILDS 1).stnCause K.STATION_WEIGHT_REBUILD g x step
    t.mem = v.mem ∧ t.flag (F.STATION_EXPERT_STALE x) = false ∧
      t.rd64 A.STATION_WEIGHT_REBUILDS = (v.rd64 A.STATION_WEIGHT_REBUILDS + 1) % 2 ^ 64 ∧
      t.causeBit .STATION 0 0 K.STATION_WEIGHT_REBUILD = true := by
  intro t
  have hregs : RegsKept stationHead ((v.put (F.STATION_EXPERT_STALE x) 0).bump A.STATION_WEIGHT_REBUILDS 1) t :=
    (RegsKept.refl _ _).stnCause
  have haddr := stale_addr x
  have hfit : (F.STATION_EXPERT_STALE x).lo + (F.STATION_EXPERT_STALE x).width ≤ 32 := Nat.le_of_lt (by decide : 2 < 32)
  have hrb : A.STATION_WEIGHT_REBUILDS + 4 < A.STATION + 0x10000 := by decide
  refine ⟨by simp [t], ?_, ?_, causeBit_stnCause (by decide) ..⟩
  · have hget : t.get (F.STATION_EXPERT_STALE x) = 0 := by
      rw [hregs.get (by unfold stationHead; omega) hfit, get_bump_other _ _ _ _ hfit (by omega) (by omega),
        get_put_same _ _ _ hfit, Nat.zero_mod]
    simp [flag, hget]
  · have hput : (v.put (F.STATION_EXPERT_STALE x) 0).rd64 A.STATION_WEIGHT_REBUILDS = v.rd64 A.STATION_WEIGHT_REBUILDS := by
      unfold rd64
      rw [rd_put_other _ _ _ hfit (by omega), rd_put_other _ _ _ hfit (by omega)]
    rw [hregs.rd64 (by decide) (by decide), rd64_bump_same, hput]

/-! ### Saved rows that expire (R373) -/

@[simp] theorem arenaLayout_coll (s : State) : s.arenaLayout.coll = s.coll := by
  unfold arenaLayout; split <;> simp

@[simp] theorem arenaLayout_arena (s : State) : s.arenaLayout.stn.arena = s.stn.arena := by
  unfold arenaLayout; split <;> simp

@[simp] theorem dropWorks_coll (s : State) (gone : Work → Bool) : (s.dropWorks gone).coll = s.coll := by
  unfold dropWorks freeBlocks; simp

/-- The blocks of the works dropped leave the arena (R372). -/
theorem arena_dropWorks (s : State) (gone : Work → Bool) : (s.dropWorks gone).stn.arena =
    s.stn.arena.filter fun b => !((s.stn.work.filter gone).flatMap fun x => x.blocks.flatMap id).contains b := by
  unfold dropWorks freeBlocks; simp

theorem RegsKept.arenaLayout (h : RegsKept stationHead s t) : RegsKept stationHead s t.arenaLayout := by
  unfold State.arenaLayout; dsimp only
  refine .ite h (RegsKept.put ?_ (stationHead_of_pair (by decide)))
  exact h.of_hidden rfl rfl rfl rfl

theorem regsKept_dropWorks (s : State) (gone : Work → Bool) : RegsKept stationHead s (s.dropWorks gone) := by
  unfold dropWorks freeBlocks; dsimp only
  refine RegsKept.arenaLayout (RegsKept.put ?_ (stationHead_of_pair (by decide)))
  exact (RegsKept.refl _ s).of_hidden rfl rfl rfl rfl

/-- A DISPATCH of a STEP and SUB that is kept for a COMBINE, and has been for ACT_HOLD_MS. -/
def overdue (s : State) (g step sub : Nat) (d : Work) : Bool :=
  d.of g step sub 9 && d.saved && decide (d.lastAt + ms (max 1 (s.get F.STATION_CFG_ACT_HOLD_MS)) ≤ s.clk)

/-- What ACT_EXPIRED leaves: the works dropped and their blocks gone, the others as they were, the count and the cause. -/
theorem dropWorks_expired (s : State) (gone : Work → Bool) (n g x step : Nat) :
    let t := ((s.dropWorks gone).bump A.STATION_ACT_EXPIRED n).stnCause K.STATION_ACT_EXPIRED g x step
    (∀ d ∈ s.stn.work.filter gone, d ∉ t.stn.work ∧ ∀ b ∈ d.blocks.flatMap id, b ∉ t.stn.arena) ∧
      (∀ d ∈ s.stn.work, d ∉ s.stn.work.filter gone → d ∈ t.stn.work) ∧
      t.causeBit .STATION 0 0 K.STATION_ACT_EXPIRED = true ∧
      t.rd64 A.STATION_ACT_EXPIRED = (s.rd64 A.STATION_ACT_EXPIRED + n) % 2 ^ 64 ∧ t.coll = s.coll := by
  intro t
  have hregs : RegsKept stationHead ((s.dropWorks gone).bump A.STATION_ACT_EXPIRED n) t := (RegsKept.refl _ _).stnCause
  have hstn : t.stn = (s.dropWorks gone).stn := by simp [t]
  have hworks : t.stn.work = s.stn.work.filter fun d => !gone d := hstn ▸ works_dropWorks s gone
  have harena := hstn ▸ arena_dropWorks s gone
  refine ⟨fun d hd => ⟨?_, fun b hb => ?_⟩, fun d hd hn => ?_, causeBit_stnCause (by decide) .., ?_, by simp [t]⟩
  · rw [hworks, List.mem_filter]
    simp [(List.mem_filter.1 hd).2]
  · have hfreed : b ∈ (s.stn.work.filter gone).flatMap fun x => x.blocks.flatMap id := List.mem_flatMap.2 ⟨d, hd, hb⟩
    rw [harena, List.mem_filter]
    simp only [List.contains_iff_mem.2 hfreed, Bool.not_true, Bool.false_eq_true, and_false, not_false_eq_true]
  · rw [hworks, List.mem_filter]
    rw [List.mem_filter, not_and] at hn
    exact ⟨hd, by simpa using hn hd⟩
  · rw [hregs.rd64 (by decide) (by decide), rd64_bump_same,
      (regsKept_dropWorks s gone).rd64 (by decide) (by decide)]

end Sys2Proof.Machine.State
end

section
/-! CERTIFICATE. Tokens are combined and returned, entries end, weights are rebuilt and saved rows expire. -/

namespace Sys2Proof.Machine

variable {s : State} {g step sub op : Nat}

/-- Member, token and packet of a RETURN. -/
abbrev Ret.key (r : Ret) : Nat × Nat × Pkt := (r.member, r.tok, r.pkt)

namespace State

/-! ### What each command leaves where its operands name a line or a port -/

theorem lineOk_of_lt (hg : g < 4096) : lineOk g = true := decide_eq_true hg

theorem exec_tokenCombine {w : Work} (hg : g < 4096) (hw : s.work g step sub op = some w) (m tok : Nat) :
    exec (.tokenCombine g step sub op m tok) s = .next (s.tokenCombine w (s.line g) m tok).reacted.drivePins := by
  change execTokenCombine g step sub op m tok s = _
  unfold execTokenCombine
  rw [finish_ok s _ (lineOk_of_lt hg), hw]

theorem exec_returnAck {o : Nat} {c : Copy} {k : Pkt} {w : Work} (ho : 256 ≤ o ∧ o ≤ 288)
    (hhead : s.headOp o 0x2005 = some (c, k)) (hw : s.work k.group k.step k.sub (k.byte 36 % 16) = some w) :
    exec (.returnAck o) s = .next (((s.consume c k).setWork { w with rets := w.rets.filter fun x => !(x.member = k.member &&
      decide (k.num 40 2 ≤ x.tok ∧ x.tok < k.num 40 2 + k.num 42 2) && x.blk.isSome) }).drainReturns).reacted.drivePins := by
  have hcons : (s.consume c k).work k.group k.step k.sub (k.byte 36 % 16) = some w := ((Kept.refl s).consume.work ..).trans hw
  change execReturnAck o s = _
  unfold execReturnAck
  rw [finish_ok s _ (show inPort o = true from decide_eq_true ho), hhead]; dsimp only
  rw [hcons]

theorem exec_returnResendTimer {w : Work} (hg : g < 4096) (hw : s.work g step sub op = some w) :
    exec (.returnResendTimer g step sub op) s = .next (s.resendReturns w).drainReturns.reacted.drivePins := by
  change execReturnResendTimer g step sub op s = _
  unfold execReturnResendTimer
  rw [finish_ok s _ (lineOk_of_lt hg), hw]

theorem exec_stationChunkEnd {w : Work} (hg : g < 4096) (hw : s.work g step sub op = some w) :
    exec (.stationChunkEnd g step sub op) s = .next (s.stationEnd w).reacted.drivePins := by
  change execStationChunkEnd g step sub op s = _
  unfold execStationChunkEnd
  rw [finish_ok s _ (lineOk_of_lt hg), hw]

theorem exec_weightRebuild {x : Nat} (hx : x < 1024) (hserve : s.stacksServe = true) :
    exec (.weightRebuild x) s = .next (s.rebuildWeights x).reacted.drivePins := by
  change execWeightRebuild x s = _
  unfold execWeightRebuild
  rw [finish_ok s _ (decide_eq_true hx), if_pos hserve]

theorem exec_actExpired (hg : g < 4096) (hold : s.stn.work.filter (s.overdue g step sub) ≠ [])
    (hidle : ∀ w, s.work g step sub 10 = some w → w.granted = false) :
    ∃ x, exec (.actExpired g step sub) s = .next (((s.dropWorks (s.overdue g step sub)).bump A.STATION_ACT_EXPIRED
      (s.stn.work.filter (s.overdue g step sub)).length).stnCause K.STATION_ACT_EXPIRED g x step).reacted.drivePins := by
  obtain ⟨d, l, hlist⟩ := List.exists_cons_of_ne_nil hold
  refine ⟨d.expertIds.headD 0, ?_⟩
  change execActExpired g step sub s = _
  unfold execActExpired
  rw [finish_ok s _ (lineOk_of_lt hg)]; dsimp only
  rw [show s.stn.work.filter (fun d => d.of g step sub 9 && d.saved &&
    decide (d.lastAt + ms (max 1 (s.get F.STATION_CFG_ACT_HOLD_MS)) ≤ s.clk)) = d :: l from hlist, hlist]
  cases hw : s.work g step sub 10 with
  | none => rfl
  | some w => dsimp only; rw [if_neg (by simp [hidle w hw])]; rfl

/-! ### The commands -/

/-- A due token without its slots asks for them (R174). -/
theorem completes_tokenCombine_waits {w : Work} {m tok : Nat} {q : Row} {l : List Row} {r : Nat × Nat × List Nat}
    (hg : g < 4096) (hw : s.work g step sub op = some w) (hrows : s.combineRows w m tok = q :: l) (hrec : w.rec_ m = some r)
    (hserves : s.coachServes (s.physCoach (tokenCombineCoach g m tok step sub)) = true)
    (hslots : s.combineSlots w m tok (tokenCombineCoach g m tok step sub) (w.dim q.k) = none) (hask : w.asking m tok = false) :
    Completes (.tokenCombine g step sub op m tok) s fun t =>
      t.rd64 A.POOL_QUOTA_WAITS = (s.rd64 A.POOL_QUOTA_WAITS + 1) % 2 ^ 64 ∧
      ∃ v, t.work g step sub op = some v ∧
        v.asked = w.asked ++ [(m, tok, tokenCombineCoach g m tok step sub, w.dim q.k)] ∧ v.combined = w.combined := by
  refine ⟨_, exec_tokenCombine hg hw m tok, ?_⟩
  obtain ⟨⟨rfl, rfl, rfl, rfl⟩, hs⟩ := work_some hw
  obtain ⟨hcount, hwork⟩ := askSlots_first (s := s) (L := tokenCombineCoach w.line m tok w.step w.sub) (d := w.dim q.k) hs hask
  rw [tokenCombine_waits hrows hrec hserves hslots]
  exact ⟨hcount, _, hwork, rfl, rfl⟩

/-- A due token with its slots and its turn is combined, and its RETURN packets are kept (R365, R366). -/
theorem completes_tokenCombine_done {u : State} {w : Work} {m tok : Nat} {q : Row} {l : List Row} {r : Nat × Nat × List Nat}
    (hg : g < 4096) (hw : s.work g step sub op = some w) (hrows : s.combineRows w m tok = q :: l) (hrec : w.rec_ m = some r)
    (hserves : s.coachServes (s.physCoach (tokenCombineCoach g m tok step sub)) = true)
    (hslots : s.combineSlots w m tok (tokenCombineCoach g m tok step sub) (w.dim q.k) = some u)
    (hunit : (u.unitServes (tokenCombineCoach g m tok step sub)
      ⟨stationChild (w.sectionOf q.k), 1, combineCost (l.length + 1) (w.dim q.k)⟩).isSome = true) :
    let c := combineToken w (s.line g) (w.dim q.k) m tok (zRows w (q :: l))
    Completes (.tokenCombine g step sub op m tok) s fun t =>
      ∃ v, t.work g step sub op = some v ∧ v.combined = w.combined ++ [(m, tok)] ∧ v.flags = joinFlags w.flags m tok c.2 ∧
        v.rets.map Ret.key = w.rets.map Ret.key ++
          (s.returnPkts w m r.1 r.2.1 tok (returnGates w (q :: l)) c.1).map fun p => (m, tok, p) := by
  refine ⟨_, exec_tokenCombine hg hw m tok, ?_⟩
  obtain ⟨⟨rfl, rfl, rfl, rfl⟩, hs⟩ := work_some hw
  obtain ⟨v, hunit⟩ := Option.isSome_iff_exists.1 hunit
  obtain ⟨x, hx, hem⟩ := tokenCombine_done (y := s.line w.line) hs hrows hrec hserves hslots hunit
  refine ⟨x, hx, ?_, ?_, ?_⟩
  · rw [hem.1]; rfl
  · rw [hem.1]; rfl
  · rw [Ret.Emitted.map_eq hem.2 fun r b n => rfl]
    simp [combinedWork, waitingRet, Function.comp_def]

/-- A RETURN_ACK drops what it acknowledges (R367). -/
theorem completes_returnAck {o : Nat} {c : Copy} {k : Pkt} {w : Work} (ho : 256 ≤ o ∧ o ≤ 288)
    (hhead : s.headOp o 0x2005 = some (c, k)) (hw : s.work k.group k.step k.sub (k.byte 36 % 16) = some w) :
    Completes (.returnAck o) s fun t =>
      (∀ x ∈ t.sw.queue, x.id < s.sw.nextId → x ∈ s.sw.queue ∧ x.id ≠ c.id) ∧
      ∃ v, t.work k.group k.step k.sub (k.byte 36 % 16) = some v ∧
        v.rets.map Ret.key = (w.rets.filter fun x => !(x.member = k.member &&
          decide (k.num 40 2 ≤ x.tok ∧ x.tok < k.num 40 2 + k.num 42 2) && x.blk.isSome)).map Ret.key := by
  refine ⟨_, exec_returnAck ho hhead hw, ?_⟩
  have hcons : Kept s (s.consume c k) := (Kept.refl s).consume
  obtain ⟨⟨h1, h2, h3, h4⟩, hs⟩ := work_some hw
  rw [← h1, ← h2, ← h3, ← h4]
  set w1 : Work := { w with rets := w.rets.filter fun x => !(x.member = k.member &&
    decide (k.num 40 2 ≤ x.tok ∧ x.tok < k.num 40 2 + k.num 42 2) && x.blk.isSome) } with hw1
  have hdrain := emits_drainReturns ((s.consume c k).setWork w1)
  obtain ⟨v, hv, hem⟩ := hdrain.works _ _ _ _ _ (work_setWork_same (w := w1) hs)
  refine ⟨fun x hx hid => ?_, v, hv, Ret.Emitted.map_eq hem.2 fun r b n => rfl⟩
  exact consume_queue (hdrain.queue x hx (hid.trans_le hcons.nextId)) hid

/-- Late RETURNs are emitted again and counted (R367). -/
theorem completes_returnResendTimer {w : Work} (hg : g < 4096) (hw : s.work g step sub op = some w) :
    Completes (.returnResendTimer g step sub op) s fun t =>
      (∃ v : Work, t.work g step sub op = some v ∧ v.rows = w.rows ∧ v.tiles = w.tiles ∧
        v.rets.map Ret.key = w.rets.map (fun r => if s.lateRet r then (r.member, r.tok, r.pkt.again) else r.key) ∧
        ∀ (i : Nat) r, w.rets[i]? = some r → s.lateRet r = true → ∃ z : Ret, v.rets[i]? = some z ∧ z.at_ = s.clk) ∧
      t.rd64 A.STATION_RETURN_RESENDS = (s.rd64 A.STATION_RETURN_RESENDS + (w.rets.filter s.lateRet).length) % 2 ^ 64 := by
  refine ⟨_, exec_returnResendTimer hg hw, ?_⟩
  obtain ⟨⟨rfl, rfl, rfl, rfl⟩, hs⟩ := work_some hw
  obtain ⟨v, hv, hem⟩ := (emits_drainReturns (s.resendReturns w)).works _ _ _ _ _ (work_resendReturns hs s)
  rw [clk_resendReturns] at hem
  refine ⟨⟨v, hv, by rw [hem.1], by rw [hem.1], ?_, fun i r hi hl => ?_⟩, ?_⟩
  · rw [Ret.Emitted.map_eq hem.2 fun r b n => rfl, List.map_map]
    refine List.map_congr_left fun r _ => ?_
    by_cases hl : s.lateRet r = true <;> simp [resentRet, hl]
  · obtain ⟨hlen, hget⟩ := List.forall₂_iff_get.1 hem.2
    obtain ⟨hlt, rfl⟩ := List.getElem?_eq_some_iff.1 hi
    have h1 : i < (w.rets.map s.resentRet).length := by simpa using hlt
    have h2 : i < v.rets.length := hlen ▸ h1
    refine ⟨v.rets[i], List.getElem?_eq_getElem h2, ?_⟩
    obtain ⟨_, hat⟩ := hget i h1 h2
    simpa [resentRet, hl] using hat
  · exact (rd64_returnResends (regsKept_drainReturns _)).trans (rd64_resendReturns s w)

/-- A station entry whose work is done ends (R368, R373). -/
theorem completes_stationChunkEnd {w : Work} {e : Entry} (hg : g < 4096) (hw : s.work g step sub op = some w)
    (hdone : s.workDone w = true) (he : s.entry g step sub op = some e) (hop : op = 9 ∨ op = 10)
    (hroot : (s.line g).isRoot = true) (hcount : (s.line g).shardCount = 1) (hindex : (s.line g).shardIndex = 0)
    (hcursor : e.cursor = 0) (hwait : ∀ x ∈ s.sw.waiting, x.chunk ≠ some ⟨g, step, sub, op, 0⟩) :
    Completes (.stationChunkEnd g step sub op) s fun t => t.entryGone e ∧ (op = 10 → t.work g step sub op = none) := by
  refine ⟨_, exec_stationChunkEnd hg hw, ?_⟩
  obtain ⟨⟨rfl, rfl, rfl, rfl⟩, _⟩ := work_some hw
  exact stationEnd_ends hdone he hop hroot hcount hindex hcursor hwait

/-- The weights of a STALE expert for which an entry waits are rebuilt (R371). -/
theorem completes_weightRebuild {x : Nat} {e : Entry} {b : List Byte} (hx : x < 1024) (hserve : s.stacksServe = true)
    (hwaits : s.coll.entries.find? (fun f => f.fam ≠ 0 && f.state = .matched && (s.line f.line).isRoot &&
      (s.lineExperts f.line).contains x) = some e)
    (hstale : s.flag (F.STATION_EXPERT_STALE x) = true) (hidle : x ∉ s.stn.updating)
    (hread : (s.readSpace SP_STATE (recordPage (s.tensorWords (s.get (F.STATION_EXPERT_TENSOR x)))) 16).1 = some b)
    (hfmt : wordField (s.tensorWords (s.get (F.STATION_EXPERT_TENSOR x))) 6 10 4 ≤ 9) {r : Bool × State}
    (hr : s.rebuildFrom (s.tensorWords (s.get (F.STATION_EXPERT_TENSOR x))) (numAt b 8 1 % 2) (s.line e.line).seed
      (numAt b 0 8) (tensorElems (s.tensorWords (s.get (F.STATION_EXPERT_TENSOR x))) / 16384 + 1) 0 = r) (hok : r.1 = true) :
    Completes (.weightRebuild x) s fun t =>
      t.mem = r.2.mem ∧ t.flag (F.STATION_EXPERT_STALE x) = false ∧
      t.rd64 A.STATION_WEIGHT_REBUILDS = (s.rd64 A.STATION_WEIGHT_REBUILDS + 1) % 2 ^ 64 ∧
      t.causeBit .STATION 0 0 K.STATION_WEIGHT_REBUILD = true := by
  refine ⟨_, exec_weightRebuild hx hserve, ?_⟩
  obtain ⟨v, heq, hmem, hregs⟩ := rebuildWeights_done hwaits hstale hidle hread hfmt hr hok
  obtain ⟨hmem', hflag, hcount, hcause⟩ := rebuild_ends v x e.line e.step
  rw [heq]
  refine ⟨hmem'.trans hmem, hflag, hcount.trans ?_, hcause⟩
  rw [hregs.rd64 (not_memWord_of_station (by decide)) (not_memWord_of_station (by decide))]

/-- Saved rows that no COMBINE came for in time go (R373). -/
theorem completes_actExpired (hg : g < 4096) (hold : s.stn.work.filter (s.overdue g step sub) ≠ [])
    (hidle : ∀ w, s.work g step sub 10 = some w → w.granted = false) :
    Completes (.actExpired g step sub) s fun t =>
      (∀ d ∈ s.stn.work.filter (s.overdue g step sub), d ∉ t.stn.work ∧ ∀ b ∈ d.blocks.flatMap id, b ∉ t.stn.arena) ∧
      (∀ d ∈ s.stn.work, d ∉ s.stn.work.filter (s.overdue g step sub) → d ∈ t.stn.work) ∧
      t.causeBit .STATION 0 0 K.STATION_ACT_EXPIRED = true ∧
      t.rd64 A.STATION_ACT_EXPIRED =
        (s.rd64 A.STATION_ACT_EXPIRED + (s.stn.work.filter (s.overdue g step sub)).length) % 2 ^ 64 ∧ t.coll = s.coll := by
  obtain ⟨x, hexec⟩ := exec_actExpired hg hold hidle
  exact ⟨_, hexec, dropWorks_expired s _ _ g x step⟩

end State

open State

/-- Settles O47: each clause by what its command leaves. A combine, an acknowledgement and a resend pass through emissions, which
keep every work but for the places of its RETURNs; an end passes through the switch core, which keeps works and entries. -/
theorem tokensAreCombinedReturnedAndEnded : Obligations.TokensAreCombinedReturnedAndEnded := by
  unfold Obligations.TokensAreCombinedReturnedAndEnded
  intro s g step sub op hg
  refine ⟨fun w m tok q l r hw hgr hs hheld hrec hc hz hm hserves => ?_, fun o c k w h0 h1 hhead _ hw => ?_, fun w hw _ => ?_,
    fun w e hw _ hdone he hop hroot hcount hindex hcur hwait => ?_, fun x e b hx hserve hwaits hstale hidle hread hok hfmt => ?_,
    fun hold hidle => ?_⟩
  · obtain ⟨⟨_, _, _, hop⟩, _⟩ := work_some hw
    have hrows := combineRows_eq hgr hs hheld hrec hc hz fun h9 => hm (hop ▸ h9)
    refine ⟨fun hslots hask => completes_tokenCombine_waits hg hw hrows hrec hserves hslots hask, fun u hslots hunit => ?_⟩
    have := completes_tokenCombine_done hg hw hrows hrec hserves hslots hunit
    subst hop
    exact this
  · exact completes_returnAck ⟨h0, h1⟩ hhead hw
  · exact completes_returnResendTimer hg hw
  · exact completes_stationChunkEnd hg hw hdone he hop hroot hcount hindex hcur hwait
  · exact completes_weightRebuild hx hserve hwaits hstale hidle hread hfmt rfl hok
  · exact completes_actExpired hg hold hidle

end Sys2Proof.Machine
end

section
/-! SUPPORT. Frames: what a command may change, closed under the named updates of State, and commands by what their body leaves. -/

namespace Sys2Proof.Machine.State

/-! ### The FRU EEPROM under the named updates -/

@[simp] theorem setLane_fru (s : State) (l : Nat) (v : LaneHid) : (s.setLane l v).fru = s.fru := rfl
@[simp] theorem setPort_fru (s : State) (p : Nat) (v : PortHid) : (s.setPort p v).fru = s.fru := rfl
@[simp] theorem setPool_fru (s : State) (k : Nat) (v : PoolHid) : (s.setPool k v).fru = s.fru := rfl
@[simp] theorem setCoach_fru (s : State) (c : Nat) (v : CoachHid) : (s.setCoach c v).fru = s.fru := rfl
@[simp] theorem emit_fru (s : State) (o : Out) : (s.emit o).fru = s.fru := rfl
@[simp] theorem startTimer_fru (s : State) (k : TKey) : (s.startTimer k).fru = s.fru := rfl
@[simp] theorem stopTimer_fru (s : State) (k : TKey) : (s.stopTimer k).fru = s.fru := rfl
@[simp] theorem stopTimers_fru (s : State) (k : TKind) (n : Nat) : (s.stopTimers k n).fru = s.fru := rfl
@[simp] theorem drivePins_fru (s : State) : s.drivePins.fru = s.fru := rfl
@[simp] theorem setWord_fru (s : State) (a : Nat) (w : Word) : (s.setWord a w).fru = s.fru := by
  unfold setWord; split <;> rfl
@[simp] theorem wr_fru (s : State) (a v : Nat) : (s.wr a v).fru = s.fru := setWord_fru ..
@[simp] theorem wr64_fru (s : State) (a v : Nat) : (s.wr64 a v).fru = s.fru := by simp [wr64]
@[simp] theorem put_fru (s : State) (f : Fld) (v : Nat) : (s.put f v).fru = s.fru := by unfold put; split <;> simp
@[simp] theorem bump_fru (s : State) (a n : Nat) : (s.bump a n).fru = s.fru := by unfold bump; split <;> simp
@[simp] theorem bump32_fru (s : State) (a n : Nat) : (s.bump32 a n).fru = s.fru := wr_fru ..
@[simp] theorem setCause_fru (s : State) (pg mask : Nat) : (s.setCause pg mask).fru = s.fru := by
  unfold setCause; simp only; split <;> (try split) <;> simp
@[simp] theorem report_fru (s : State) (n d : Nat) (l : List Nat) : (s.report n d l).fru = s.fru := by
  unfold report; split <;> rfl
@[simp] theorem raise_fru (s : State) (b : Blk) (i j k : Nat) (x : List Nat) : (s.raise b i j k x).fru = s.fru :=
  raise_frame (·.fru) (by simp) (by simp) ..

end Sys2Proof.Machine.State

namespace Sys2Proof.Machine

variable {s t u : State} {P Q : List Part} {W V : Nat → Prop}

/-! ### Parts -/

theorem Part.same_refl (s : State) (p : Part) : p.same s s := by cases p <;> simp [Part.same]

theorem Part.same_trans {p : Part} (h : p.same s t) (g : p.same t u) : p.same s u := by
  cases p
  case inputs => exact ⟨g.1.trans h.1, g.2.1.trans h.2.1, g.2.2.trans h.2.2⟩
  all_goals exact Eq.trans g h

/-! ### Frames -/

theorem Frame.refl (s : State) (P : List Part) (W : Nat → Prop) : Frame s s P W :=
  ⟨fun p _ => p.same_refl s, fun _ _ => rfl⟩

theorem Frame.trans (h : Frame s t P W) (g : Frame t u P W) : Frame s u P W :=
  ⟨fun p hp => Part.same_trans (h.1 p hp) (g.1 p hp), fun a ha => (g.2 a ha).trans (h.2 a ha)⟩

theorem Frame.mono (h : Frame s t P W) (hP : P ⊆ Q) (hW : ∀ a, W a → V a) : Frame s t Q V :=
  ⟨fun p hp => h.1 p fun hm => hp (hP hm), fun a ha => h.2 a fun hw => ha (hW a hw)⟩

/-- A change of one part that may change, the register words as before. -/
theorem Frame.part (h : Frame s t P W) (q : Part) (hq : q ∈ P) (hp : ∀ p : Part, p ≠ q → p.same t u)
    (hr : ∀ a, u.rd a = t.rd a) : Frame s u P W :=
  h.trans ⟨fun p hpP => hp p fun e => hpP (e ▸ hq), fun a _ => hr a⟩

theorem Frame.ite {c : Prop} [Decidable c] {a b : State} (ha : Frame s a P W) (hb : Frame s b P W) :
    Frame s (if c then a else b) P W := by
  split
  · exact ha
  · exact hb

theorem Frame.foldl {α : Type} {f : State → α → State} (l : List α) (hf : ∀ t, ∀ a ∈ l, Frame t (f t a) P W)
    (h : Frame s t P W) : Frame s (l.foldl f t) P W := by
  induction l generalizing t with
  | nil => exact h
  | cons a l ih =>
    exact ih (fun t b hb => hf t b (List.mem_cons_of_mem _ hb)) (h.trans (hf t a List.mem_cons_self))

section
variable (h : Frame s t P W)
include h

theorem Frame.wr {a v : Nat} (ha : W a) : Frame s (t.wr a v) P W :=
  h.trans ⟨fun p _ => by cases p <;> simp [Part.same], fun b hb => State.rd_wr_other t v fun e => hb (e ▸ ha)⟩

theorem Frame.wr64 {a v : Nat} (ha : W a) (h4 : W (a + 4)) : Frame s (t.wr64 a v) P W := (h.wr ha).wr h4

theorem Frame.bump {a n : Nat} (ha : W a) (h4 : W (a + 4)) : Frame s (t.bump a n) P W := by
  unfold State.bump; exact .ite h (h.wr64 ha h4)

theorem Frame.put {f : Fld} {v : Nat} (ha : W f.addr) (hf : f.lo + f.width ≤ 32) : Frame s (t.put f v) P W := by
  unfold State.put; rw [if_pos hf]; exact h.wr ha

theorem Frame.put64 {f : Fld} {v : Nat} (ha : W f.addr) (h4 : W (f.addr + 4)) : Frame s (t.put f v) P W := by
  unfold State.put; exact .ite (h.wr ha) (h.wr64 ha h4)

theorem Frame.raise {b : Blk} {i j k : Nat} {x : List Nat} (hP : .flt ∈ P) (hW : ∀ a, causeWords (b.causePage i j) a → W a) :
    Frame s (t.raise b i j k x) P W :=
  h.trans ⟨fun p hp => by cases p <;> simp_all [Part.same],
    fun a ha => State.rd_raise_other t b i j k x (fun e => ha (hW a (.inl e))) (fun e => ha (hW a (.inr (.inl e))))
      fun e => ha (hW a (.inr (.inr e)))⟩

theorem Frame.report {n d : Nat} {l : List Nat} (hP : .flt ∈ P) : Frame s (t.report n d l) P W :=
  h.part .flt hP (fun p hp => by cases p <;> simp_all [Part.same]) fun a => State.rd_report ..

theorem Frame.startTimer {k : TKey} (hP : .timers ∈ P) : Frame s (t.startTimer k) P W :=
  h.part .timers hP (fun p hp => by cases p <;> simp_all [Part.same]) fun _ => rfl

theorem Frame.stopTimer {k : TKey} (hP : .timers ∈ P) : Frame s (t.stopTimer k) P W :=
  h.part .timers hP (fun p hp => by cases p <;> simp_all [Part.same]) fun _ => rfl

theorem Frame.setPort {p : Nat} {v : PortHid} (hP : .ports ∈ P) : Frame s (t.setPort p v) P W :=
  h.part .ports hP (fun p hp => by cases p <;> simp_all [Part.same]) fun _ => rfl

theorem Frame.setRefused {l : List Mach} (hP : .refused ∈ P) : Frame s { t with refused := l } P W :=
  h.part .refused hP (fun p hp => by cases p <;> simp_all [Part.same]) fun _ => rfl

theorem Frame.setStaging {l : List Staging} (hP : .staging ∈ P) : Frame s { t with staging := l } P W :=
  h.part .staging hP (fun p hp => by cases p <;> simp_all [Part.same]) fun _ => rfl

theorem Frame.setMem {m : Memory} (hP : .mem ∈ P) : Frame s { t with mem := m } P W :=
  h.part .mem hP (fun p hp => by cases p <;> simp_all [Part.same]) fun _ => rfl

/-- The pins are no part of the frame. -/
theorem Frame.drivePins : Frame s t.drivePins P W :=
  h.trans ⟨fun p _ => by cases p <;> simp [Part.same, State.drivePins], fun _ _ => rfl⟩

end

/-! ### Commands by what their body leaves -/

/-- A command that ends as `finish` does completes in the state that its body leaves. -/
theorem completes_of_finish {c : Instr} {ok : Bool} {f : State → State} {R : State → Prop} (hexec : exec c s = s.finish ok f)
    (hok : ok = true) (h : R (f s).drivePins) : Completes c s R :=
  ⟨f s, by rw [hexec, State.finish_ok _ _ hok], h⟩

theorem Completes.mono {c : Instr} {R S : State → Prop} (h : Completes c s R) (hRS : ∀ t, R t → S t) : Completes c s S :=
  h.imp fun _ ⟨he, hR⟩ => ⟨he, hRS _ hR⟩

end Sys2Proof.Machine
end

section
/-! SUPPORT. The register bus: where a located address lies, what a granted write reaches, and the words of the access counters. -/

namespace Sys2Proof.Machine

variable {s t : State} {a : Nat} {l : Loc} {m : Master} {v : Word}

/-! ### Located addresses (R24, R25) -/

theorem findReg_spec {b : Blk} {i j off : Nat} {rs : List Reg} (h : findReg b i j off rs = some l) :
    l.blk = b ∧ l.i = i ∧ l.j = j ∧ l.reg ∈ rs ∧ l.reg.find off = some (l.k1, l.k2, l.w) := by
  induction rs with
  | nil => cases h
  | cons r rs ih =>
    unfold findReg at h
    split at h
    · next hf =>
      split at h
      · cases h
      · cases h; exact ⟨rfl, rfl, rfl, List.mem_cons_self, hf⟩
    · obtain ⟨h1, h2, h3, h4, h5⟩ := ih h
      exact ⟨h1, h2, h3, List.mem_cons_of_mem _ h4, h5⟩

/-- The page, the register and the indices of a located address. -/
theorem locate_spec (h : locate a = some l) : ∃ off, l.blk.find a = some (l.i, l.j, off) ∧
    l.reg ∈ hdrRegs l.blk ++ l.blk.regs ∧ l.reg.find off = some (l.k1, l.k2, l.w) := by
  obtain ⟨b, _, hb⟩ := List.exists_of_findSome?_eq_some h
  split at hb
  · next i j off hf =>
    obtain ⟨rfl, rfl, rfl, hr, hw⟩ := findReg_spec hb
    exact ⟨off, hf, hr, hw⟩
  · cases hb

theorem Blk.find_spec {b : Blk} {i j off : Nat} (h : b.find a = some (i, j, off)) :
    a = b.page i j + off ∧ i < b.info.n1 ∧ j < b.info.n2 ∧ off < b.info.size := by
  unfold Blk.find at h; dsimp only at h
  split at h
  · cases h
  · next hbase =>
    split at h
    · next hin =>
      cases h
      have h1 := Nat.div_add_mod' (a - b.info.base) b.info.s1
      have h2 := Nat.div_add_mod' ((a - b.info.base) % b.info.s1) b.info.s2
      refine ⟨?_, hin⟩
      unfold Blk.page
      omega
    · cases h

/-- An offset splits into an index and a rest by a stride; a stride of 0 leaves it whole. -/
theorem stride_split (d n : Nat) : (if n = 0 then 0 else d / n) * n + (if n = 0 then d else d % n) = d := by
  split
  · omega
  · exact Nat.div_add_mod' d n

theorem Reg.find_spec {r : Reg} {off k1 k2 w : Nat} (h : r.find off = some (k1, k2, w)) :
    k1 < r.n1 ∧ k2 < r.n2 ∧ w < r.words ∧ ∃ x, x < 4 ∧ off = r.off + k1 * r.s1 + k2 * r.s2 + 4 * w + x := by
  unfold Reg.find at h
  simp only [Option.ite_none_left_eq_some, Option.ite_none_right_eq_some, Option.some.injEq, Prod.mk.injEq] at h
  obtain ⟨hoff, ⟨h1, h2, hw⟩, rfl, rfl, rfl⟩ := h
  have e1 := stride_split (off - r.off) r.s1
  have e2 := stride_split (if r.s1 = 0 then off - r.off else (off - r.off) % r.s1) r.s2
  generalize (if r.s2 = 0 then (if r.s1 = 0 then off - r.off else (off - r.off) % r.s1)
    else (if r.s1 = 0 then off - r.off else (off - r.off) % r.s1) % r.s2) = d at e2 hw ⊢
  exact ⟨h1, h2, hw, d % 4, Nat.mod_lt _ (by decide), by omega⟩

/-- Every register and every stride lies on word boundaries. -/
theorem regs_aligned : ∀ b ∈ Blk.all, (hdrRegs b ++ b.regs).all (fun r => r.off % 4 == 0 && r.s1 % 4 == 0 && r.s2 % 4 == 0) = true := by
  decide

theorem pages_aligned : ∀ b ∈ Blk.all, b.info.base % 4 = 0 ∧ b.info.s1 % 4 = 0 ∧ b.info.s2 % 4 = 0 := by decide

theorem Blk.mem_all (b : Blk) : b ∈ Blk.all := by cases b <;> decide

theorem Blk.page_aligned (b : Blk) (i j : Nat) : b.page i j % 4 = 0 := by
  obtain ⟨h0, h1, h2⟩ := pages_aligned b b.mem_all
  unfold Blk.page
  have e1 : i * b.info.s1 % 4 = 0 := by rw [Nat.mul_mod, h1]; simp
  have e2 : j * b.info.s2 % 4 = 0 := by rw [Nat.mul_mod, h2]; simp
  omega

/-- An aligned located address is its word of its entry. -/
theorem addr_of_locate (h : locate a = some l) (ha : a % 4 = 0) : a = l.entry + 4 * l.w ∧ l.w < l.reg.words := by
  obtain ⟨off, hb, hr, hf⟩ := locate_spec h
  obtain ⟨hpage, _⟩ := Blk.find_spec hb
  obtain ⟨_, _, hw, x, hx, hoff⟩ := Reg.find_spec hf
  have hal := List.all_eq_true.1 (regs_aligned l.blk l.blk.mem_all) l.reg hr
  simp only [Bool.and_eq_true, beq_iff_eq] at hal
  obtain ⟨⟨h0, h1⟩, h2⟩ := hal
  have hp := l.blk.page_aligned l.i l.j
  have e1 : l.k1 * l.reg.s1 % 4 = 0 := by rw [Nat.mul_mod, h1]; simp
  have e2 : l.k2 * l.reg.s2 % 4 = 0 := by rw [Nat.mul_mod, h2]; simp
  exact ⟨by unfold Loc.entry; omega, hw⟩

/-- Two registers of a page have one number only where they are one register. -/
theorem regs_id_header : ∀ b ∈ Blk.all, b.regs.all (fun r => decide (8 ≤ r.id)) = true := by decide

/-! ### The access counters -/

/-- Words of the counters of completed accesses. -/
def accessWord (a : Nat) : Prop := pairWords A.TOP_ACCESS_CONSORT a ∨ pairWords A.TOP_ACCESS_SIDING a

theorem topWords_of_accessWord (h : accessWord a) : topWords a := by
  unfold accessWord pairWords at h
  unfold topWords
  simp only [A.TOP_ACCESS_CONSORT, A.TOP_ACCESS_SIDING, A.TOP] at *
  omega

theorem counter_of_accessWord (h : accessWord a) (hl : locate a = some l) : l.reg.ty = .ctr := by
  have key : ∀ b ∈ [A.TOP_ACCESS_CONSORT, A.TOP_ACCESS_CONSORT + 4, A.TOP_ACCESS_SIDING, A.TOP_ACCESS_SIDING + 4],
      (locate b).all (fun l => l.reg.ty == .ctr) = true := by decide
  have ha := key a (by simpa [accessWord, pairWords, or_assoc] using h)
  simpa [hl] using ha

/-- A located word that is no counter is none of the access counters. -/
theorem not_accessWord (hl : locate a = some l) (hty : l.reg.ty ≠ .ctr) : ¬ accessWord a :=
  fun h => hty (counter_of_accessWord h hl)

namespace State

theorem frame_countAccess (s : State) (n : Nat) : Frame s (s.countAccess n) [] accessWord := by
  unfold countAccess
  refine (Frame.refl s _ _).bump ?_ ?_ <;> unfold accessWord pairWords <;> split <;> simp

theorem rd_countAccess (s : State) (n : Nat) (h : ¬ accessWord a) : (s.countAccess n).rd a = s.rd a :=
  (frame_countAccess s n).2 a h

theorem word_countAccess (s : State) (n : Nat) (h : ¬ accessWord a) : (s.countAccess n).word a = s.word a :=
  BitVec.eq_of_toNat_eq (rd_countAccess s n h)

/-! ### Accesses that reach their target (R36, R42) -/

/-- A write that reaches a register has an aligned, located address. -/
theorem target_spec {n : Nat} {w : Bool} (h : s.busCheck m a 32 n w = .target l) : locate a = some l ∧ a % 4 = 0 := by
  unfold busCheck at h
  split at h
  · cases h
  split at h
  · cases h
  split at h
  · split at h <;> cases h
  split at h
  · cases h
  next h4 _ k hk =>
    obtain rfl : k = l := by split_ifs at h <;> simpa using h
    exact ⟨hk, by omega⟩

theorem target_of_grants (h : s.grants m a v = true) :
    s.pow.hotSwap = true ∧ ∃ l, s.busCheck m a 32 v.toNat true = .target l := by
  unfold grants at h
  rw [Bool.and_eq_true] at h
  refine ⟨h.1, ?_⟩
  cases hc : s.busCheck m a 32 v.toNat true with
  | target l => exact ⟨l, rfl⟩
  | absorbed => simp [hc] at h
  | error k => simp [hc] at h

/-- A granted write reaches the register at its address. -/
theorem target_of_grants_locate (h : s.grants m a v = true) (hl : locate a = some l) :
    s.busCheck m a 32 v.toNat true = .target l := by
  obtain ⟨_, k, hk⟩ := target_of_grants h
  obtain rfl : k = l := Option.some.inj ((target_spec hk).1.symm.trans hl)
  exact hk

theorem reach_of_sectionNo (hs : l.sectionNo = none) : s.reach l = s := by unfold reach; rw [hs]

/-- A write that reaches a register outside the sections counts as an access and writes the word (R36, R43). -/
theorem busWrite_reaches {ev : Nat × Nat} (hc : s.busCheck m a 32 v.toNat true = .target l) (hs : l.sectionNo = none) :
    (s.busWrite m a 32 v ev).2 = (s.countAccess (masterCode m)).writeWord m l a v ev := by
  unfold busWrite
  rw [hc]; dsimp only
  rw [reach_of_sectionNo hs]

theorem busCmd_reaches (hon : s.pow.hotSwap = true) (hc : s.busCheck m a 32 v.toNat true = .target l) (hs : l.sectionNo = none) :
    s.busCmd m a v.toNat = (s.countAccess (masterCode m)).writeWord m l a v (0, 0) := by
  unfold busCmd
  rw [if_pos hon, BitVec.ofNat_toNat, BitVec.setWidth_eq, busWrite_reaches hc hs]

end State

/-- A command that is a write of a register outside the sections completes in what the write leaves. -/
theorem completes_busCmd {c : Instr} {ok : Bool} {R : State → Prop} (hexec : exec c s = s.put32 m ok a v.toNat) (hok : ok = true)
    (hon : s.pow.hotSwap = true) (hc : s.busCheck m a 32 v.toNat true = .target l) (hs : l.sectionNo = none)
    (h : R ((s.countAccess (masterCode m)).writeWord m l a v (0, 0)).drivePins) : Completes c s R :=
  completes_of_finish hexec hok (by rw [State.busCmd_reaches hon hc hs]; exact h)

theorem completes_registerWrite {R : State → Prop} (hon : s.pow.hotSwap = true)
    (hc : s.busCheck m a 32 v.toNat true = .target l) (hs : l.sectionNo = none)
    (h : R ((s.countAccess (masterCode m)).writeWord m l a v (0, 0)).drivePins) : Completes (.registerWrite m a 32 v) s R :=
  completes_of_finish rfl rfl (by rw [if_pos hon, State.busWrite_reaches hc hs]; exact h)

theorem completes_w1cWrite {R : State → Prop} {ev : Word × Nat} (hon : s.pow.hotSwap = true)
    (hc : s.busCheck m a 32 v.toNat true = .target l) (hs : l.sectionNo = none)
    (h : R ((s.countAccess (masterCode m)).writeWord m l a v (ev.1.toNat, ev.2)).drivePins) : Completes (.w1cWrite m a v ev) s R :=
  completes_of_finish rfl rfl (by rw [if_pos hon, State.busWrite_reaches hc hs]; exact h)

end Sys2Proof.Machine
end

section
/-! SUPPORT. Writes by access type: what each stores and what it leaves (R29 to R37). -/

namespace Sys2Proof.Machine

variable {s : State} {a : Nat} {l : Loc} {m : Master} {v : Word}

/-! ### Masked bits -/

theorem and_toNat {n : Nat} (x : BitVec n) (m : Nat) : x.toNat &&& m = (x &&& BitVec.ofNat n m).toNat := by
  apply Nat.eq_of_testBit_eq
  intro i
  by_cases hi : i < n
  · simp [Nat.testBit_mod_two_pow, hi]
  · simp [Nat.testBit_lt_two_pow (lt_of_lt_of_le x.isLt (Nat.pow_le_pow_right (by decide) (Nat.le_of_not_lt hi)))]

/-- A word without its bits under a mask. -/
theorem clr_toNat {n : Nat} (x : BitVec n) (m : Nat) : clr x.toNat m = (x &&& ~~~BitVec.ofNat n m).toNat := by
  have hdis : (x &&& BitVec.ofNat n m) &&& (x &&& ~~~BitVec.ofNat n m) = 0#n := by
    ext i hi; simp; tauto
  have hsum : (x &&& BitVec.ofNat n m) + (x &&& ~~~BitVec.ofNat n m) = x := by
    rw [BitVec.add_eq_or_of_and_eq_zero _ _ hdis]
    ext i hi; simp; cases x[i] <;> simp
  have := BitVec.toNat_add_of_and_eq_zero hdis
  rw [hsum] at this
  unfold clr
  rw [and_toNat]
  omega

theorem testBit_clr (x : Word) (m i : Nat) : (clr x.toNat m).testBit i = (x.toNat.testBit i && !m.testBit i) := by
  rw [clr_toNat, BitVec.testBit_toNat, BitVec.testBit_toNat, BitVec.getLsbD_and, BitVec.getLsbD_not, BitVec.getLsbD_ofNat]
  by_cases hi : i < 32
  · simp [hi]
  · simp [BitVec.getLsbD_of_ge x i (by omega)]

/-- A masked write takes the bits under the mask from the value and the others from the old word. -/
theorem merged_toNat (mask : Nat) (x v : Word) :
    merged mask x.toNat v.toNat = ((x &&& ~~~BitVec.ofNat 32 mask) ||| (v &&& BitVec.ofNat 32 mask)).toNat := by
  have hdis : (x &&& ~~~BitVec.ofNat 32 mask) &&& (v &&& BitVec.ofNat 32 mask) = 0#32 := by
    ext i hi; simp; tauto
  unfold merged
  rw [clr_toNat, and_toNat, ← BitVec.toNat_add_of_and_eq_zero hdis, BitVec.add_eq_or_of_and_eq_zero _ _ hdis]

theorem merged_lt (mask : Nat) (x v : Word) : merged mask x.toNat v.toNat < 2 ^ 32 := by
  rw [merged_toNat]; exact BitVec.isLt _

theorem testBit_merged (mask : Nat) (x v : Word) {i : Nat} (hi : i < 32) :
    (merged mask x.toNat v.toNat).testBit i = if mask.testBit i then v.toNat.testBit i else x.toNat.testBit i := by
  simp only [merged_toNat, BitVec.testBit_toNat, BitVec.getLsbD_or, BitVec.getLsbD_and, BitVec.getLsbD_not,
    BitVec.getLsbD_ofNat, hi, decide_true, Bool.true_and]
  split <;> simp [*]

namespace State

theorem writeRw_plain {n : Nat} (h : specialIds.contains l.reg.id = false) :
    s.writeRw l a n = s.wr a (merged (s.storeMask l) (s.rd a) n) := by
  simp only [specialIds, List.contains_cons, List.contains_nil, Bool.or_eq_false_iff, beq_eq_false_iff_ne, ne_eq] at h
  obtain ⟨h1, h2, h3, h4, h5, h6, h7, h8, h9, h10, h11, h12, h13, h14, h15, h16, h17, h18, h19, h20, h21, h22, h23, h24, h25, h26, _⟩ := h
  unfold writeRw
  simp only [h1, h2, h3, h4, h5, h6, h7, h8, h9, h10, h11, h12, h13, h14, h15, h16, h17, h18, h19, h20, h21, h22, h23, h24, h25, h26, if_false, or_self]

/-- A write of a word whose write does nothing else stores its writable bits (R29). -/
theorem write_plain (hl : locate a = some l) (hty : l.reg.ty = .rw)
    (hid : specialIds.contains l.reg.id = false) (n : Nat) :
    let t := (s.countAccess n).writeWord m l a v (0, 0)
    t.rd a = merged (s.storeMask l) (s.rd a) v.toNat ∧ Frame s t [] (fun b => b = a ∨ topWords b) := by
  have hna : ¬ accessWord a := not_accessWord hl (by rw [hty]; decide)
  have hmask : (s.countAccess n).storeMask l = s.storeMask l := by
    unfold storeMask; rw [show (s.countAccess n).asm = s.asm from (frame_countAccess s n).1 .asm (by simp)]
  unfold writeWord
  simp only [hty, writeRw_plain hid, hmask, rd_countAccess s n hna]
  refine ⟨?_, ?_⟩
  · rw [rd_wr_same]; exact Nat.mod_eq_of_lt (merged_lt _ (s.word a) v)
  · exact ((frame_countAccess s n).mono (fun _ h => h) fun b hb => .inr (topWords_of_accessWord hb)).wr (.inl rfl)

end State

/-- Settles O9: the write that passed the bus is a masked store at its address beside the access counter; one to a read-only word
without clearable bits is the access counter alone. -/
theorem plainRegisterWritesStoreTheirWord : Obligations.PlainRegisterWritesStoreTheirWord := by
  unfold Obligations.PlainRegisterWritesStoreTheirWord
  intro s m addr v loc hg hl
  obtain ⟨hon, _⟩ := State.target_of_grants hg
  have hc := State.target_of_grants_locate hg hl
  refine ⟨fun hplain => ?_, fun hty hid hw1c hs => ?_⟩
  · simp only [Loc.plain, Bool.and_eq_true, beq_iff_eq, Bool.not_eq_true', Option.isNone_iff_eq_none] at hplain
    obtain ⟨⟨hty, hid⟩, hs⟩ := hplain
    obtain ⟨hrd, hframe⟩ := State.write_plain (s := s) (m := m) (v := v) hl hty hid (masterCode m)
    exact completes_registerWrite hon hc hs ⟨hrd, hframe.drivePins⟩
  · refine completes_registerWrite hon hc hs (Frame.drivePins ?_)
    unfold State.writeWord State.writeW1c
    simp only [hty, if_neg hid, hw1c, if_true]
    exact (State.frame_countAccess s _).mono (fun _ h => h) fun b hb => topWords_of_accessWord hb

end Sys2Proof.Machine
end

section
/-! CERTIFICATE. Writes that clear bits: W1C bits, CAUSE and SQC words (R29 to R32). -/

namespace Sys2Proof.Machine

variable {s t : State} {a : Nat} {l : Loc} {m : Master} {v : Word} {P : List Part} {W : Nat → Prop}

/-! ### CAUSE of a page (R26, R30, R31) -/

/-- The register with number 4 is CAUSE of its page. -/
theorem cause_of_id (hl : locate a = some l) (h4 : a % 4 = 0) (hid : l.reg.id = 4) :
    a = l.blk.page l.i l.j + 0x10 ∧ l.reg.w1c.getD l.w 0 = l.blk.info.causeMask := by
  obtain ⟨off, _, hr, hf⟩ := locate_spec hl
  obtain ⟨ha, hw⟩ := addr_of_locate hl h4
  have hreg : l.reg ∈ hdrRegs l.blk := by
    refine (List.mem_append.1 hr).resolve_right fun hb => ?_
    have := List.all_eq_true.1 (regs_id_header l.blk l.blk.mem_all) _ hb
    rw [hid] at this
    simp at this
  have hcause : l.reg = ⟨4, 0x10, 0, 1, 0, 1, 1, .ro, [], [l.blk.info.causeMask], [], [], false⟩ := by
    simp only [hdrRegs, List.mem_cons, List.not_mem_nil, or_false] at hreg
    rcases hreg with e | e | e | e | e | e | e | e <;> rw [e] at hid <;> simp at hid
    exact e
  rw [hcause] at hw
  have hw0 : l.w = 0 := Nat.lt_one_iff.1 hw
  unfold Loc.entry at ha
  rw [hcause, hw0] at ha
  refine ⟨by simpa using ha, ?_⟩
  rw [hcause, hw0]
  rfl

namespace State

/-- CAUSE takes a new value, and CAUSE_SEQ counts where it gains a bit (R31). -/
def storeCause (s : State) (pg new : Nat) : State :=
  if clr new (s.rd (pg + 0x10)) = 0 then s.wr (pg + 0x10) new else (s.wr (pg + 0x10) new).bump32 (pg + 0x18) 1

theorem clearCause_eq (s : State) (pg v ev : Nat) : s.clearCause pg v ev =
    let new := clr (s.rd (pg + 0x10)) v ||| ev
    let t := s.storeCause pg new
    if new = 0 then t.wr (pg + 0x1C) (bits (t.rd (pg + 0x1C)) 0 5)
    else if s.rd (pg + 0x10) = 0 then t.wr (pg + 0x1C) (0x80000000 + lowBit new 32 0)
    else t := rfl

theorem rd_storeCause (s : State) (pg : Nat) {new : Nat} (h : new < 2 ^ 32) : (s.storeCause pg new).rd (pg + 0x10) = new := by
  unfold storeCause
  split
  · rw [rd_wr_same, Nat.mod_eq_of_lt h]
  · rw [rd_bump32_other _ _ (by omega), rd_wr_same, Nat.mod_eq_of_lt h]

/-- CAUSE after a W1C write: the bits written clear, but those that an event sets on the edge (R30). -/
theorem rd_clearCause (s : State) (pg : Nat) {v ev : Nat} (hev : ev < 2 ^ 32) :
    (s.clearCause pg v ev).rd (pg + 0x10) = clr (s.rd (pg + 0x10)) v ||| ev := by
  have hnew := rd_storeCause s pg (Nat.or_lt_two_pow (lt_of_le_of_lt (Nat.sub_le (s.rd (pg + 0x10)) (s.rd (pg + 0x10) &&& v))
    (rd_lt s _)) hev)
  rw [clearCause_eq]; dsimp only
  split
  · exact (rd_wr_other _ _ (by omega)).trans hnew
  · split
    · exact (rd_wr_other _ _ (by omega)).trans hnew
    · exact hnew

/-- A CAUSE left 0 clears VALID of CAUSE_FIRST (R31). -/
theorem first_clearCause (s : State) (pg : Nat) {v ev : Nat} (h : clr (s.rd (pg + 0x10)) v ||| ev = 0) :
    ((s.clearCause pg v ev).rd (pg + 0x1C)).testBit 31 = false := by
  rw [clearCause_eq]; dsimp only
  rw [if_pos h, rd_wr_same]
  exact Nat.testBit_lt_two_pow (lt_of_le_of_lt (Nat.mod_le _ _) ((bits_lt _ 0 5).trans (by decide)))

end State

theorem Frame.clearCause (h : Frame s t P W) {pg v ev : Nat} (hW : ∀ b, causeWords pg b → W b) :
    Frame s (t.clearCause pg v ev) P W := by
  have h0 : W (pg + 0x10) := hW _ (.inl rfl)
  have h2 : W (pg + 0x1C) := hW _ (.inr (.inr rfl))
  have hstore : ∀ new, Frame s (t.storeCause pg new) P W := fun new => by
    unfold State.storeCause; exact .ite (h.wr h0) ((h.wr h0).wr (hW _ (.inr (.inl rfl))))
  rw [State.clearCause_eq]
  exact .ite ((hstore _).wr h2) (.ite ((hstore _).wr h2) (hstore _))

/-! ### The three forms -/

namespace State

/-- A write of a word with W1C bits outside CAUSE (R29, R30). -/
theorem write_w1c {ev : Nat × Nat} (hl : locate a = some l) (hty : l.reg.ty = .ro) (hid : l.reg.id ≠ 4)
    (hmask : l.reg.w1c.getD l.w 0 ≠ 0) (hev : ev.1 < 2 ^ 32) (n : Nat) :
    let t := (s.countAccess n).writeWord m l a v ev
    t.rd a = clr (s.rd a) (v.toNat &&& l.reg.w1c.getD l.w 0) ||| (ev.1 &&& l.reg.w1c.getD l.w 0) ∧
      Frame s t [] (fun b => b = a ∨ topWords b) := by
  have hna : ¬ accessWord a := not_accessWord hl (by rw [hty]; decide)
  unfold writeWord writeW1c
  simp only [hty, if_neg hid, if_neg hmask, rd_countAccess s n hna]
  refine ⟨?_, ((frame_countAccess s n).mono (fun _ h => h) fun b hb => .inr (topWords_of_accessWord hb)).wr (.inl rfl)⟩
  rw [rd_wr_same]
  exact Nat.mod_eq_of_lt (Nat.or_lt_two_pow (lt_of_le_of_lt (Nat.sub_le _ _) (rd_lt s a)) (lt_of_le_of_lt Nat.and_le_left hev))

/-- A write of CAUSE outside the ports (R30, R31). -/
theorem write_cause {ev : Nat × Nat} (hl : locate a = some l) (h4 : a % 4 = 0) (hty : l.reg.ty = .ro) (hid : l.reg.id = 4)
    (hport : l.blk ≠ .PORT) (hev : ev.1 < 2 ^ 32) (n : Nat) :
    let t := (s.countAccess n).writeWord m l a v ev
    t.rd a = clr (s.rd a) (v.toNat &&& l.blk.info.causeMask) ||| (ev.1 &&& l.blk.info.causeMask) ∧
      (t.rd a = 0 → (t.rd (a + 12)).testBit 31 = false) ∧
      Frame s t [.flt] (fun b => b = a ∨ b = a + 8 ∨ b = a + 12 ∨ topWords b) := by
  have hna : ¬ accessWord a := not_accessWord hl (by rw [hty]; decide)
  obtain ⟨ha, hmask⟩ := cause_of_id hl h4 hid
  set pg := l.blk.page l.i l.j with hpg
  set c := (s.countAccess n).clearCause pg (v.toNat &&& l.blk.info.causeMask) (ev.1 &&& l.blk.info.causeMask) with hc
  have hevm : ev.1 &&& l.blk.info.causeMask < 2 ^ 32 := lt_of_le_of_lt Nat.and_le_left hev
  have hframe : Frame c ((s.countAccess n).writeWord m l a v ev) [.flt] fun _ => False := by
    unfold writeWord writeW1c
    simp only [hty, if_pos hid, hmask, if_neg hport, ← hpg, ← hc]
    refine .ite (.refl ..) (Frame.foldl _ (fun t k _ => ?_) (.refl ..))
    exact .ite ((Frame.refl ..).report (by simp)) (.refl ..)
  have hrd : ∀ b, ((s.countAccess n).writeWord m l a v ev).rd b = c.rd b := fun b => hframe.2 b id
  have hold : (s.countAccess n).rd (pg + 0x10) = s.rd a := by rw [← ha]; exact rd_countAccess s n hna
  have hnew : c.rd a = clr (s.rd a) (v.toNat &&& l.blk.info.causeMask) ||| (ev.1 &&& l.blk.info.causeMask) := by
    rw [hc, ha, rd_clearCause _ _ hevm, hold, ha]
  have hcount := (frame_countAccess s n).mono (Q := [.flt]) (V := fun b => b = a ∨ b = a + 8 ∨ b = a + 12 ∨ topWords b)
    (by simp) fun b hb => .inr (.inr (.inr (topWords_of_accessWord hb)))
  refine ⟨(hrd a).trans hnew, fun h0 => ?_, (hcount.clearCause fun b hb => ?_).trans (hframe.mono (fun _ h => h) fun _ h => h.elim)⟩
  · rw [hrd, hnew] at h0
    rw [hrd, hc, ha]
    exact first_clearCause _ _ (by rw [hold]; exact h0)
  · unfold causeWords at hb; omega

theorem locHandling_none (hh : s.locHandling l = none) (t : State) : t.locHandling l = none := by
  simp only [locHandling] at hh ⊢
  split_ifs at hh with h1 h2 h3 h4 h5
  rw [if_neg h1, if_neg h2, if_neg h3, if_neg h4, if_neg h5]

/-- A write of an SQC word outside the domain handling (R32). -/
theorem write_sqc (hl : locate a = some l) (hty : l.reg.ty = .sqc) (hh : s.locHandling l = none) (n : Nat) :
    let t := (s.countAccess n).writeWord m l a v (0, 0)
    (bits v.toNat 16 16 = bits (s.rd a) 16 16 → t.rd a = bits (s.rd a) 16 16 * 65536) ∧
      (bits v.toNat 16 16 ≠ bits (s.rd a) 16 16 → t.rd a = s.rd a ∧
        t.rd64 A.TOP_SQC_STALE = (s.rd64 A.TOP_SQC_STALE + 1) % 2 ^ 64) ∧ Frame s t [] (fun b => b = a ∨ topWords b) := by
  have hna : ¬ accessWord a := not_accessWord hl (by rw [hty]; decide)
  have hstale : a ≠ A.TOP_SQC_STALE ∧ a ≠ A.TOP_SQC_STALE + 4 := by
    have hctr : ∀ b ∈ [A.TOP_SQC_STALE, A.TOP_SQC_STALE + 4], (locate b).all (fun l => l.reg.ty == .ctr) = true := by decide
    constructor <;> rintro rfl
    · simpa [hl, hty] using hctr A.TOP_SQC_STALE (by simp)
    · simpa [hl, hty] using hctr (A.TOP_SQC_STALE + 4) (by simp)
  have hcount := (frame_countAccess s n).mono (Q := []) (V := fun b => b = a ∨ topWords b) (fun _ h => h)
    fun b hb => .inr (topWords_of_accessWord hb)
  unfold writeWord writeSqc
  simp only [hty, locHandling_none hh, rd_countAccess s n hna]
  by_cases hseq : bits v.toNat 16 16 = bits (s.rd a) 16 16
  · rw [if_pos hseq]
    refine ⟨fun _ => ?_, fun hne => absurd hseq hne, hcount.wr (.inl rfl)⟩
    have := bits_lt (s.rd a) 16 16
    rw [rd_wr_same]
    omega
  · rw [if_neg hseq]
    refine ⟨fun he => absurd he hseq, fun _ => ⟨?_, ?_⟩, hcount.bump (.inr ?_) (.inr ?_)⟩
    · rw [rd_bump_other _ _ hstale.1 hstale.2, rd_countAccess s n hna]
    · rw [rd64_bump_same]
      unfold rd64
      rw [rd_countAccess s n, rd_countAccess s n] <;> unfold accessWord pairWords <;> decide
    · unfold topWords; decide
    · unfold topWords; decide

end State

/-- Settles O11: each form is the write of its access type, which the access counter does not touch. -/
theorem clearingWritesKeepTheEventsOfTheirEdge : Obligations.ClearingWritesKeepTheEventsOfTheirEdge := by
  unfold Obligations.ClearingWritesKeepTheEventsOfTheirEdge
  intro s m addr v loc hon hc hs
  obtain ⟨hl, h4⟩ := State.target_spec hc
  refine ⟨fun ev hty hid hmask => ?_, fun ev hty hid hport => ?_, fun hty hh => ?_⟩
  · obtain ⟨hrd, hframe⟩ := State.write_w1c (s := s) (m := m) (v := v) (ev := (ev.1.toNat, ev.2)) hl hty hid hmask ev.1.isLt (masterCode m)
    exact completes_w1cWrite hon hc hs ⟨hrd, hframe.drivePins⟩
  · obtain ⟨hrd, hfirst, hframe⟩ := State.write_cause (s := s) (m := m) (v := v) (ev := (ev.1.toNat, ev.2)) hl h4 hty hid hport ev.1.isLt (masterCode m)
    exact completes_w1cWrite hon hc hs ⟨hrd, hfirst, hframe.drivePins⟩
  · obtain ⟨hsame, hother, hframe⟩ := State.write_sqc (s := s) (m := m) (v := v) hl hty hh (masterCode m)
    exact completes_busCmd rfl rfl hon hc hs ⟨hsame, hother, hframe.drivePins⟩

end Sys2Proof.Machine
end

section
/-! CERTIFICATE. Multi-word entries: staging of the lower words and the commit by the highest (R37). -/

namespace Sys2Proof.Machine

variable {s : State} {a : Nat} {l k : Loc} {m n : Master} {v : Word}

namespace State

/-! ### Staging registers -/

theorem staged_unstage_same (s : State) (m : Master) (l : Loc) : (s.unstage m l).staged m l = none := by
  unfold staged unstage
  rw [List.find?_filter, List.find?_eq_none]
  intro x _
  by_cases hx : x.master = m ∧ x.block = l.blk
  · simp [hx.1, hx.2]
  · have : (decide (x.master = m) && decide (x.block = l.blk)) = false := by simpa using hx
    simp [this]

theorem staged_unstage_other (s : State) (h : n ≠ m ∨ k.blk ≠ l.blk) : (s.unstage m l).staged n k = s.staged n k := by
  unfold staged unstage
  rw [List.find?_filter]
  congr 1
  funext x
  by_cases hx : x.master = n ∧ x.block = k.blk
  · have : ¬ (x.master = m ∧ x.block = l.blk) := by rw [hx.1, hx.2]; tauto
    by_cases he : x.entry = k.entry <;> simp [this, he]
  · have : (decide (x.master = n) && decide (x.block = k.blk)) = false := by simpa using hx
    simp [this]

/-- The lower words that a write of a lower word goes into. -/
def lowWords (s : State) (m : Master) (l : Loc) : List Word :=
  match s.staged m l with
  | some x => x.words
  | none => s.lowerWords l

theorem stage_eq (s : State) (m : Master) (l : Loc) (v : Word) : s.stage m l v =
    { s with staging := (s.unstage m l).staging ++ [⟨m, l.blk, l.entry, (s.lowWords m l).set l.w v⟩] } := rfl

/-- A write of a lower word leaves it in its master's staging register. -/
theorem staged_stage_same (s : State) (m : Master) (l : Loc) (v : Word) :
    (s.stage m l v).staged m l = some ⟨m, l.blk, l.entry, (s.lowWords m l).set l.w v⟩ := by
  have h := staged_unstage_same s m l
  unfold staged at h
  rw [stage_eq]
  unfold staged
  rw [List.find?_append, h]
  simp

/-- A write of a lower word leaves the staging registers of the other master and of other blocks. -/
theorem staged_stage_other (s : State) (v : Word) (h : n ≠ m ∨ k.blk ≠ l.blk) : (s.stage m l v).staged n k = s.staged n k := by
  rw [← staged_unstage_other s h, stage_eq]
  unfold staged
  rw [List.find?_append]
  have : ¬ (m = n ∧ l.blk = k.blk) := by tauto
  have hnot : (decide (m = n) && decide (l.blk = k.blk)) = false := by simpa using this
  simp [hnot]

/-- Where the master has staged nothing beyond the words it may, there is room for each lower word of the entry. -/
theorem lt_lowWords (hw : l.w + 1 < l.reg.words) (hst : ∀ x, s.staged m l = some x → l.w < x.words.length) :
    l.w < (s.lowWords m l).length := by
  unfold lowWords
  split
  · next x hx => exact hst x hx
  · simp [lowerWords]; omega

theorem frame_stage (s : State) (m : Master) (l : Loc) (v : Word) : Frame s (s.stage m l v) [.staging] fun _ => False := by
  rw [stage_eq]; exact (Frame.refl ..).setStaging (by simp)

/-- A write of a lower word (R37). -/
theorem write_lower (hty : l.reg.ty = .ent ∨ l.reg.ty = .woe) (hw : l.w + 1 < l.reg.words)
    (hst : ∀ x, s.staged m l = some x → l.w < x.words.length) (c : Nat) :
    let t := (s.countAccess c).writeWord m l a v (0, 0)
    (∃ x, t.staged m l = some x ∧ x.words.getD l.w 0 = v) ∧
      (∀ n k, (n ≠ m ∨ k.blk ≠ l.blk) → t.staged n k = s.staged n k) ∧ Frame s t [.staging] topWords := by
  have hcount := frame_countAccess s c
  have hstaging : (s.countAccess c).staging = s.staging := hcount.1 .staging (by simp)
  have hstaged : ∀ n k, (s.countAccess c).staged n k = s.staged n k := fun n k => by unfold staged; rw [hstaging]
  have heq : (s.countAccess c).writeWord m l a v (0, 0) = (s.countAccess c).stage m l v := by
    unfold writeWord
    rcases hty with hty | hty <;> simp only [hty] <;> rw [if_neg (by omega)]
  simp only [heq]
  refine ⟨⟨_, staged_stage_same .., ?_⟩, fun n k h => (staged_stage_other _ v h).trans (hstaged n k), ?_⟩
  · have hlt := lt_lowWords (s := s.countAccess c) (m := m) hw (by simpa only [hstaged] using hst)
    dsimp only
    rw [List.getD_eq_getElem?_getD, List.getElem?_set_self hlt, Option.getD_some]
  · exact (hcount.mono (by simp) fun _ h => topWords_of_accessWord h).trans
      ((frame_stage _ m l v).mono (fun _ h => h) fun _ h => h.elim)

/-! ### The commit -/

/-- Stores the words of an entry from its first word on, each under its mask. -/
def storeEntry (s : State) (e : Nat) (mask : List Nat) (w : List Word) (n : Nat) : State :=
  (List.range n).foldl (fun u k => u.wr (e + 4 * k) (merged (mask.getD k 0) (u.rd (e + 4 * k)) (w.getD k 0).toNat)) s

theorem storeEntry_succ (s : State) (e : Nat) (mask : List Nat) (w : List Word) (n : Nat) :
    s.storeEntry e mask w (n + 1) = (s.storeEntry e mask w n).wr (e + 4 * n)
      (merged (mask.getD n 0) ((s.storeEntry e mask w n).rd (e + 4 * n)) (w.getD n 0).toNat) := by
  unfold storeEntry; rw [List.range_succ, List.foldl_concat]

theorem frame_storeEntry (s : State) (e : Nat) (mask : List Nat) (w : List Word) (n : Nat) :
    Frame s (s.storeEntry e mask w n) [] fun b => ∃ k, k < n ∧ b = e + 4 * k :=
  Frame.foldl _ (fun _ k hk => (Frame.refl ..).wr ⟨k, List.mem_range.1 hk, rfl⟩) (.refl ..)

/-- Each word of the entry reads as it was stored. -/
theorem rd_storeEntry (s : State) (e : Nat) (mask : List Nat) (w : List Word) {k n : Nat} (hk : k < n) :
    (s.storeEntry e mask w n).rd (e + 4 * k) = merged (mask.getD k 0) (s.rd (e + 4 * k)) (w.getD k 0).toNat := by
  induction n with
  | zero => omega
  | succ n ih =>
    rw [storeEntry_succ]
    by_cases hkn : k = n
    · subst hkn
      have hold : (s.storeEntry e mask w k).rd (e + 4 * k) = s.rd (e + 4 * k) :=
        (frame_storeEntry s e mask w k).2 _ (by rintro ⟨j, hj, h⟩; omega)
      rw [rd_wr_same, hold]
      exact Nat.mod_eq_of_lt (merged_lt _ (s.word _) _)
    · rw [rd_wr_other _ _ (by omega)]
      exact ih (by omega)

theorem commitEntry_plain (hty : l.reg.ty = .ent) (hid : specialEntries.contains l.reg.id = false) :
    s.commitEntry m l v = (s.unstage m l).storeEntry l.entry l.reg.wmask (s.lowWords m l ++ [v]) l.reg.words := by
  simp only [specialEntries, List.contains_cons, List.contains_nil, Bool.or_eq_false_iff, beq_eq_false_iff_ne, ne_eq] at hid
  obtain ⟨h1, h2, h3, h4, h5, _⟩ := hid
  unfold commitEntry committed
  simp only [hty, h1, h2, h3, h4, h5, if_false]
  rfl

/-- No word of a table entry lies in the TOP page. -/
theorem entry_beyond_top (hl : locate a = some l) (hty : l.reg.ty = .ent) : 0x1000 ≤ l.entry := by
  have hbase : ∀ b ∈ Blk.all, b ≠ .TOP → 0x1000 ≤ b.info.base := by decide
  have hnone : (hdrRegs .TOP ++ Blk.TOP.regs).all (fun r => r.ty != .ent) = true := by decide
  obtain ⟨_, _, hr, _⟩ := locate_spec hl
  have hne : l.blk ≠ .TOP := fun h => by
    rw [h] at hr
    simpa [hty] using List.all_eq_true.1 hnone _ hr
  have := hbase l.blk l.blk.mem_all hne
  unfold Loc.entry Blk.page
  omega

/-- A write of the highest word of an entry whose commit does nothing else (R37). -/
theorem write_commit (hl : locate a = some l) (hty : l.reg.ty = .ent) (hw : l.w + 1 = l.reg.words)
    (hid : specialEntries.contains l.reg.id = false) (hst : ∀ x, s.staged m l = some x → x.words.length = l.w) (c : Nat) :
    let t := (s.countAccess c).writeWord m l a v (0, 0)
    (∀ k, k < l.reg.words → t.rd (l.entry + 4 * k) = merged (l.reg.wmask.getD k 0) (s.rd (l.entry + 4 * k))
      (if k = l.w then v else match s.staged m l with
        | some x => x.words.getD k 0
        | none => s.word (l.entry + 4 * k)).toNat) ∧
      t.staged m l = none ∧ Frame s t [.staging] fun b => (∃ k, k < l.reg.words ∧ b = l.entry + 4 * k) ∨ topWords b := by
  have hcount := frame_countAccess s c
  have hstaging : (s.countAccess c).staging = s.staging := hcount.1 .staging (by simp)
  have hstaged : (s.countAccess c).staged m l = s.staged m l := by unfold staged; rw [hstaging]
  have hfar : ∀ k, ¬ accessWord (l.entry + 4 * k) := fun k h => by
    have := entry_beyond_top hl hty
    have := topWords_of_accessWord h
    unfold topWords at this
    simp only [A.TOP] at this
    omega
  have hlow : (s.countAccess c).lowWords m l = match s.staged m l with
      | some x => x.words
      | none => (List.range l.w).map fun k => s.word (l.entry + 4 * k) := by
    unfold lowWords lowerWords
    rw [hstaged]
    cases s.staged m l with
    | some x => rfl
    | none => simp [hty, ← hw, word_countAccess s c (hfar _)]
  have hlen : ((s.countAccess c).lowWords m l).length = l.w := by
    rw [hlow]
    split
    · next x hx => exact hst x hx
    · simp
  have heq : (s.countAccess c).writeWord m l a v (0, 0) =
      ((s.countAccess c).unstage m l).storeEntry l.entry l.reg.wmask ((s.countAccess c).lowWords m l ++ [v]) l.reg.words := by
    unfold writeWord
    simp only [hty, if_pos hw]
    exact commitEntry_plain hty hid
  rw [heq]
  have hunst : Frame (s.countAccess c) ((s.countAccess c).unstage m l) [.staging] fun _ => False :=
    (Frame.refl ..).setStaging (by simp)
  have hstore := frame_storeEntry ((s.countAccess c).unstage m l) l.entry l.reg.wmask ((s.countAccess c).lowWords m l ++ [v]) l.reg.words
  refine ⟨fun k hk => ?_, ?_, ?_⟩
  · rw [rd_storeEntry _ _ _ _ hk, hunst.2 _ id, hcount.2 _ (hfar k)]
    congr 2
    by_cases hkw : k = l.w
    · rw [if_pos hkw, List.getD_append_right _ _ _ _ (by omega)]
      simp [hkw, hlen]
    · rw [if_neg hkw, List.getD_append _ _ _ _ (by omega), hlow]
      split
      · rfl
      · rw [List.getD_eq_getElem?_getD]
        simp [show k < l.w by omega]
  · have := hstore.1 .staging (by simp)
    unfold staged
    rw [this]
    exact staged_unstage_same ..
  · exact ((hcount.mono (by simp) fun b hb => .inr (topWords_of_accessWord hb)).trans
      (hunst.mono (fun _ h => h) fun _ h => h.elim)).trans (hstore.mono (by simp) fun b hb => .inl hb)

end State

/-- Settles O12: a lower word goes to the staging register alone; the highest takes what waits there, or the entry's own words. -/
theorem tableEntriesAreStagedAndCommittedWhole : Obligations.TableEntriesAreStagedAndCommittedWhole := by
  unfold Obligations.TableEntriesAreStagedAndCommittedWhole
  intro s m addr v loc hon hc hs
  refine ⟨fun hty hw hst => ?_, fun hty hw hid hst => ?_⟩
  · obtain ⟨hsame, hother, hframe⟩ := State.write_lower (s := s) (a := addr) (v := v) hty hw hst (masterCode m)
    exact completes_busCmd rfl rfl hon hc hs ⟨hsame, hother, hframe.drivePins⟩
  · obtain ⟨hrd, hst, hframe⟩ := State.write_commit (s := s) (v := v) (State.target_spec hc).1 hty hw hid hst (masterCode m)
    exact completes_busCmd rfl rfl hon hc hs ⟨hrd, hst, hframe.drivePins⟩

end Sys2Proof.Machine
end

section
/-! CERTIFICATE. Words held in three copies: a write stores all three, and the scrub repairs those that differ (R29, R34, R35). -/

namespace Sys2Proof.Machine

variable {s t : State} {a b : Nat} {P : List Part} {W : Nat → Prop}

/-! ### Lists of keys -/

theorem Tab.get_of_not_mem {β : Type} {d : β} {l : List (Nat × β)} {k : Nat} (h : k ∉ l.map (·.1)) : Tab.get d l k = d := by
  induction l with
  | nil => rfl
  | cons e l ih =>
    obtain ⟨j, v⟩ := e
    simp only [List.map_cons, List.mem_cons, not_or] at h
    rw [Tab.get, if_neg h.1, ih h.2]

theorem Tab.mem_keys_insert {β : Type} (l : List (Nat × β)) (k : Nat) (v : β) {j : Nat} (h : j = k ∨ j ∈ l.map (·.1)) :
    j ∈ (Tab.insert l k v).map (·.1) := by
  induction l with
  | nil => simpa [Tab.insert] using h
  | cons e l ih =>
    obtain ⟨i, w⟩ := e
    simp only [List.map_cons, List.mem_cons] at h
    simp only [Tab.insert]
    split
    · simpa using h
    · split
      · next hk => subst hk; simpa using h
      · simp only [List.map_cons, List.mem_cons]
        rcases h with h | h | h
        · exact .inr (ih (.inl h))
        · exact .inl h
        · exact .inr (ih (.inr h))

theorem Tab.mem_keys_inserts (l : List Nat) (r : List (Nat × Unit)) {j : Nat} (h : j ∈ l ∨ j ∈ r.map (·.1)) :
    j ∈ (l.foldl (fun r a => Tab.insert r a ()) r).map (·.1) := by
  induction l generalizing r with
  | nil => exact h.resolve_left (by simp)
  | cons a l ih =>
    refine ih _ ?_
    rcases h with h | h
    · rcases List.mem_cons.1 h with rfl | h
      · exact .inr (Tab.mem_keys_insert _ _ _ (.inl rfl))
      · exact .inl h
    · exact .inr (Tab.mem_keys_insert _ _ _ (.inr h))

namespace State

/-! ### The copies of a word (R34) -/

/-- The three copies of a word. -/
def copies (s : State) (a : Nat) : Word × Word × Word :=
  (Tab.get (resetWord s.asm a) s.regs a, Tab.get (resetWord s.asm a) s.rwv2 a, Tab.get (resetWord s.asm a) s.rwv3 a)

theorem copiesEqual_iff : s.copiesEqual a = true ↔ (s.copies a).1 = (s.copies a).2.1 ∧ (s.copies a).1 = (s.copies a).2.2 := by
  simp [copiesEqual, copies]

theorem word_of_copies (h : isRwv a = true) : s.word a = majority (s.copies a).1 (s.copies a).2.1 (s.copies a).2.2 := by
  unfold word; rw [if_pos h]; rfl

theorem word_congr_copies (ha : isRwv a = true) (h : t.copies a = s.copies a) : t.word a = s.word a := by
  rw [word_of_copies ha, word_of_copies ha, h]

theorem copiesEqual_congr (h : t.copies a = s.copies a) : t.copiesEqual a = s.copiesEqual a := by
  rw [Bool.eq_iff_iff, copiesEqual_iff, copiesEqual_iff, h]

theorem copiesEqual_drivePins (s : State) (a : Nat) : s.drivePins.copiesEqual a = s.copiesEqual a := copiesEqual_congr rfl

/-- A store of an RWV word stores its three copies (R29). -/
theorem copies_setWord_same (s : State) (w : Word) (h : isRwv a = true) : (s.setWord a w).copies a = (w, w, w) := by
  unfold copies
  rw [setWord_asm]
  unfold setWord
  rw [if_pos h]
  simp

theorem copies_setWord_other (s : State) (w : Word) (h : b ≠ a) : (s.setWord a w).copies b = s.copies b := by
  unfold copies
  rw [setWord_asm]
  unfold setWord
  split <;> simp [Tab.get_put_other _ _ _ _ h]

theorem copies_wr_other (s : State) (v : Nat) (h : b ≠ a) : (s.wr a v).copies b = s.copies b := copies_setWord_other s _ h

theorem copies_put_other (s : State) {f : Fld} (v : Nat) (hf : f.lo + f.width ≤ 32) (h : b ≠ f.addr) :
    (s.put f v).copies b = s.copies b := by
  unfold put; rw [if_pos hf]; exact copies_wr_other s _ h

theorem copies_bump_other (s : State) (n : Nat) (h : b ≠ a) (h4 : b ≠ a + 4) : (s.bump a n).copies b = s.copies b := by
  unfold bump; split
  · rfl
  · exact (copies_wr_other _ _ h4).trans (copies_wr_other _ _ h)

theorem copies_setCause_other (s : State) (pg mask : Nat) (h : ¬ causeWords pg b) : (s.setCause pg mask).copies b = s.copies b := by
  simp only [causeWords, not_or] at h
  have h1 : ∀ t : State, (t.bump32 (pg + 0x18) 1).copies b = t.copies b := fun t => copies_wr_other t _ h.2.1
  unfold setCause; dsimp only; split
  · rfl
  · split
    · rw [copies_wr_other _ _ h.2.2, h1, copies_wr_other _ _ h.1]
    · rw [h1, copies_wr_other _ _ h.1]

theorem copies_raise_other (s : State) {B : Blk} {i j k : Nat} {x : List Nat} (h : ¬ causeWords (B.causePage i j) b) :
    (s.raise B i j k x).copies b = s.copies b := by
  have hrep : ∀ (t : State) n d l, (t.report n d l).copies b = t.copies b := fun t n d l => by unfold report; split <;> rfl
  unfold raise raiseAs; dsimp only
  split
  · exact copies_setCause_other s _ _ h
  · rw [foldl_report_frame (·.copies b) hrep, copies_setCause_other s _ _ h]

/-! ### The scrub (R34, R35) -/

/-- The words that tell of a mismatch are held once. -/
theorem vote_words_once (h : isRwv b = true) :
    b ≠ A.TOP_VOTE_ADDR ∧ b ≠ A.TOP_VOTE_MISMATCH ∧ b ≠ A.TOP_VOTE_MISMATCH + 4 ∧ ¬ causeWords (Blk.TOP.causePage 0 0) b := by
  have key : ∀ c ∈ [A.TOP_VOTE_ADDR, A.TOP_VOTE_MISMATCH, A.TOP_VOTE_MISMATCH + 4, Blk.TOP.causePage 0 0 + 0x10,
    Blk.TOP.causePage 0 0 + 0x18, Blk.TOP.causePage 0 0 + 0x1C], isRwv c = false := by decide
  have hne : ∀ c ∈ [A.TOP_VOTE_ADDR, A.TOP_VOTE_MISMATCH, A.TOP_VOTE_MISMATCH + 4, Blk.TOP.causePage 0 0 + 0x10,
    Blk.TOP.causePage 0 0 + 0x18, Blk.TOP.causePage 0 0 + 0x1C], b ≠ c := by
    rintro c hc rfl
    rw [key _ hc] at h
    cases h
  refine ⟨hne _ (by simp), hne _ (by simp), hne _ (by simp), ?_⟩
  unfold causeWords
  rintro (e | e | e)
  · exact hne (Blk.TOP.causePage 0 0 + 0x10) (by simp) e
  · exact hne (Blk.TOP.causePage 0 0 + 0x18) (by simp) e
  · exact hne (Blk.TOP.causePage 0 0 + 0x1C) (by simp) e

theorem repairVote_of_equal (h : s.copiesEqual a = true) : s.repairVote a = s := by
  unfold repairVote; rw [if_neg (by simp [h])]

theorem repairVote_of_once (h : isRwv a = false) : s.repairVote a = s := by
  unfold repairVote; rw [if_neg (by simp [h])]

/-- A repair stores the majority in the copies of its word, and leaves those of every other RWV word (R34). -/
theorem copies_repairVote (hb : isRwv b = true) (h : s.copiesEqual a = false) (ha : isRwv a = true) :
    (s.repairVote a).copies b = if b = a then (s.word a, s.word a, s.word a) else s.copies b := by
  obtain ⟨h1, h2, h3, h4⟩ := vote_words_once hb
  unfold repairVote
  rw [if_pos (by simp [h, ha]), copies_raise_other _ h4, copies_bump_other _ _ h2 h3, copies_put_other _ _ (by decide) h1]
  split
  · next e => subst e; exact copies_setWord_same s _ hb
  · next e => exact copies_setWord_other s _ e

theorem word_repairVote (s : State) (a : Nat) (hb : isRwv b = true) : (s.repairVote a).word b = s.word b := by
  cases ha : isRwv a
  · rw [repairVote_of_once ha]
  cases h : s.copiesEqual a
  · rw [word_of_copies hb, copies_repairVote hb h ha]
    split
    · next e => subst e; simp
    · rw [word_of_copies hb]
  · rw [repairVote_of_equal h]

theorem copiesEqual_repairVote (s : State) (a : Nat) (hb : isRwv b = true) (h : b = a ∨ s.copiesEqual b = true) :
    (s.repairVote a).copiesEqual b = true := by
  cases ha : isRwv a
  · rw [repairVote_of_once ha]
    refine h.resolve_left fun e => ?_
    rw [e, ha] at hb
    cases hb
  cases hq : s.copiesEqual a
  · rw [copiesEqual_iff, copies_repairVote hb hq ha]
    split
    · simp
    · next e => exact copiesEqual_iff.1 (h.resolve_left e)
  · rw [repairVote_of_equal hq]
    rcases h with rfl | h
    · exact hq
    · exact h

@[simp] theorem repairVote_timers (s : State) (a : Nat) : (s.repairVote a).timers = s.timers := by
  unfold repairVote; split <;> simp

theorem copiesEqual_foldl_repairVote (l : List Nat) (s : State) (hb : isRwv b = true) (h : b ∈ l ∨ s.copiesEqual b = true) :
    (l.foldl (fun u a => u.repairVote a) s).copiesEqual b = true ∧ (l.foldl (fun u a => u.repairVote a) s).word b = s.word b := by
  induction l generalizing s with
  | nil => exact ⟨h.resolve_left (by simp), rfl⟩
  | cons a l ih =>
    have := ih (s.repairVote a) ?_
    · exact ⟨this.1, this.2.trans (word_repairVote s a hb)⟩
    · rcases h with h | h
      · rcases List.mem_cons.1 h with rfl | h
        · exact .inr (copiesEqual_repairVote s _ hb (.inl rfl))
        · exact .inl h
      · exact .inr (copiesEqual_repairVote s a hb (.inr h))

/-- An RWV word that no table of copies lists has equal copies. -/
theorem copiesEqual_of_not_listed (hb : isRwv b = true) (h : b ∉ s.rwvAddrs) : s.copiesEqual b = true := by
  have hnot : b ∉ (s.regs ++ s.rwv2 ++ s.rwv3).map (·.1) := fun hm =>
    h (Tab.mem_keys_inserts _ _ (.inl (List.mem_filter.2 ⟨hm, hb⟩)))
  simp only [List.map_append, List.mem_append, not_or] at hnot
  rw [copiesEqual_iff]
  simp [copies, Tab.get_of_not_mem hnot.1.1, Tab.get_of_not_mem hnot.1.2, Tab.get_of_not_mem hnot.2]

/-- What the scrub does. -/
def scrubbed (s : State) : State :=
  s.rwvAddrs.foldl (fun u a => u.repairVote a) (s.startTimer { kind := .scrub, a := 16 })

theorem scrubbed_word (s : State) (hb : isRwv b = true) : s.scrubbed.copiesEqual b = true ∧ s.scrubbed.word b = s.word b := by
  refine copiesEqual_foldl_repairVote s.rwvAddrs (s.startTimer { kind := .scrub, a := 16 }) hb ?_
  by_cases h : b ∈ s.rwvAddrs
  · exact .inl h
  · exact .inr (copiesEqual_of_not_listed hb h)

theorem scrubbed_timer (s : State) : s.scrubbed.timer { kind := .scrub, a := 16 } = some s.clk := by
  have : s.scrubbed.timers = (s.startTimer { kind := .scrub, a := 16 }).timers :=
    foldl_keeps (fun u : State => u.timers = (s.startTimer { kind := .scrub, a := 16 }).timers) _ (fun u a h => by simpa using h) _ _ rfl
  unfold timer
  rw [this]
  exact timer_startTimer_same s _

/-- Where all copies are equal the scrub changes no word. -/
theorem scrubbed_quiet (h : ∀ a, isRwv a = true → s.copiesEqual a = true) : s.scrubbed = s.startTimer { kind := .scrub, a := 16 } := by
  refine foldl_keeps (fun u : State => u = s.startTimer { kind := .scrub, a := 16 }) _ (fun u a hu => ?_) _ _ rfl
  subst hu
  cases ha : isRwv a
  · exact repairVote_of_once ha
  · exact repairVote_of_equal (h a ha)

theorem completes_rwvScrub (hel : s.elapsed { kind := .scrub, a := 16 } (ms 1) = true) :
    Completes .rwvScrub s fun t =>
      (∀ a, isRwv a = true → t.copiesEqual a = true ∧ t.word a = s.word a) ∧ t.timer { kind := .scrub, a := 16 } = some s.clk ∧
        ((∀ a, isRwv a = true → s.copiesEqual a = true) → Frame s t [.timers] fun _ => False) := by
  refine completes_of_finish rfl rfl ?_
  rw [if_pos hel]
  refine ⟨fun a ha => scrubbed_word s ha, scrubbed_timer s, fun h => Frame.drivePins ?_⟩
  change Frame s s.scrubbed _ _
  rw [scrubbed_quiet h]
  exact (Frame.refl s _ _).startTimer (by simp)

/-! ### The caps of the recipients (R29, R465) -/

theorem isRwv_recCap {r : Nat} (hr : r < 34) : isRwv (A.POWER_REC_CAP r) = true := by
  have key : ∀ r < 34, isRwv (A.POWER_REC_CAP r) = true := by decide
  exact key r hr

theorem recipient_lt {r : Nat} (h : (priorityRec r || sharedRec r) = true) : r < 34 := by
  simp [priorityRec, sharedRec] at h; omega

theorem locate_recCap {r : Nat} (hr : r < 34) :
    locate (A.POWER_REC_CAP r) = some ⟨.POWER, 0, 0, ⟨385, 0x100, 0x8, 34, 0x0, 1, 1, .rw, [0xFFF], [], [], [0], false⟩, r, 0, 0⟩ := by
  have key : ∀ r < 34, locate (A.POWER_REC_CAP r) =
      some ⟨.POWER, 0, 0, ⟨385, 0x100, 0x8, 34, 0x0, 1, 1, .rw, [0xFFF], [], [], [0], false⟩, r, 0, 0⟩ := by decide
  exact key r hr

theorem frame_capWritten (s : State) (r : Nat) :
    Frame s (s.capWritten r) [] fun b => b = A.POWER_REC_STATE r ∨ b = A.POWER_FREE := by
  unfold capWritten setHeld setFree
  exact ((Frame.refl ..).put (.inl rfl) (by simp [F.POWER_REC_STATE_HELD])).put (.inr rfl) (by decide)

end State

theorem Frame.get (h : Frame s t P W) {f : Fld} (hf : f.lo + f.width ≤ 32) (hW : ¬ W f.addr) : t.get f = s.get f := by
  unfold State.get; rw [if_pos hf, if_pos hf, h.2 _ hW]

section
variable (h : Frame s t P W) {r : Nat}
include h

theorem Frame.recFloor (ha : .asm ∉ P) (hp : .pow ∉ P) (hW : ¬ W (A.TOP + 12)) : t.recFloor r = s.recFloor r := by
  have h1 : t.asm = s.asm := h.1 .asm ha
  have h2 : t.pow = s.pow := h.1 .pow hp
  have h3 : t.get F.TOP_STATE_SECTION_AWAKE = s.get F.TOP_STATE_SECTION_AWAKE := h.get (by decide) hW
  unfold State.recFloor State.awake
  rw [h1, h2, h3]

theorem Frame.recCap (ha : .asm ∉ P) (hp : .pow ∉ P) (hW : ¬ W (A.TOP + 12)) (hc : ¬ W (A.POWER_REC_CAP r)) :
    t.recCap r = s.recCap r := by
  unfold State.recCap
  rw [h.recFloor ha hp hW, h.get (by simp [F.POWER_REC_CAP_CAP]) hc]

theorem Frame.tokens (hW : ¬ W (A.POWER_REC_STATE r)) : t.tokens r = s.tokens r :=
  h.get (by simp [F.POWER_REC_STATE_HELD]) hW

theorem Frame.freeTokens (hW : ¬ W A.POWER_FREE) : t.freeTokens = s.freeTokens := h.get (by decide) hW

end

/-- The addresses of a recipient's words apart from each other and from those that its floor depends on. -/
theorem recipient_words (r : Nat) : A.POWER_REC_STATE r ≠ A.POWER_FREE ∧ A.POWER_REC_CAP r ≠ A.POWER_FREE ∧
    A.POWER_REC_CAP r ≠ A.POWER_REC_STATE r ∧ A.POWER_REC_CAP r ≠ A.TOP + 12 ∧ A.POWER_REC_STATE r ≠ A.TOP + 12 := by
  simp only [A.POWER_REC_STATE, A.POWER_FREE, A.POWER_REC_CAP, A.TOP, A.POWER]
  omega

namespace State

theorem recCap_drivePins (s : State) (r : Nat) : s.drivePins.recCap r = s.recCap r :=
  (Frame.refl s [] fun _ => False).drivePins.recCap (by simp) (by simp) id id

theorem tokens_drivePins (s : State) (r : Nat) : s.drivePins.tokens r = s.tokens r := get_drivePins ..

theorem freeTokens_drivePins (s : State) : s.drivePins.freeTokens = s.freeTokens := get_drivePins ..

theorem tokens_lt (s : State) (r : Nat) : s.tokens r < 4096 := get_lt s _

theorem recCap_capWritten (s : State) (r : Nat) : (s.capWritten r).recCap r = s.recCap r := by
  obtain ⟨_, h1, h2, h3, h4⟩ := recipient_words r
  exact (frame_capWritten s r).recCap (by simp) (by simp) (by rintro (e | e); exacts [h4 e.symm, absurd e (by decide)])
    (by rintro (e | e); exacts [h2 e, h1 e])

/-- A recipient keeps what it holds up to its CAP. -/
theorem tokens_capWritten (s : State) (r : Nat) : (s.capWritten r).tokens r = min (s.tokens r) (s.recCap r) := by
  have hlt := tokens_lt s r
  have hput : ((s.setHeld r (s.tokens r - (s.tokens r - s.recCap r)))).tokens r = (s.tokens r - (s.tokens r - s.recCap r)) % 4096 :=
    get_put_same s (F.POWER_REC_STATE_HELD r) _ (by simp [F.POWER_REC_STATE_HELD])
  have hfree : ∀ (t : State) v, (t.setFree v).tokens r = t.tokens r := fun t v =>
    get_put_addr t _ _ v (by decide) (by simp [F.POWER_REC_STATE_HELD]) (recipient_words r).1
  unfold capWritten
  dsimp only
  rw [hfree, hput]
  omega

/-- The tokens above the CAP return to FREE (R465). -/
theorem freeTokens_capWritten (s : State) (r : Nat) :
    (s.capWritten r).freeTokens = (s.freeTokens + (s.tokens r - s.recCap r)) % 4096 :=
  get_put_same _ F.POWER_FREE_TOKENS _ (by decide)

theorem copiesEqual_capWritten {r : Nat} (h : s.copiesEqual (A.POWER_REC_CAP r) = true) :
    (s.capWritten r).copiesEqual (A.POWER_REC_CAP r) = true := by
  obtain ⟨_, h1, h2, _⟩ := recipient_words r
  rw [← h]
  apply copiesEqual_congr
  unfold capWritten setHeld setFree
  rw [copies_put_other _ _ (by decide) h1, copies_put_other _ _ (by simp [F.POWER_REC_STATE_HELD]) h2]

theorem copiesEqual_wr (s : State) (v : Nat) (h : isRwv a = true) : (s.wr a v).copiesEqual a = true := by
  rw [copiesEqual_iff]
  unfold wr
  rw [copies_setWord_same s _ h]
  exact ⟨rfl, rfl⟩

/-- A masked write under twelve low bits stores those of the value. -/
theorem merged_low (x v : Word) : merged 0xFFF x.toNat v.toNat % 4096 = v.toNat % 4096 := by
  apply Nat.eq_of_testBit_eq
  intro i
  rw [show (4096 : Nat) = 2 ^ 12 by rfl, Nat.testBit_mod_two_pow, Nat.testBit_mod_two_pow]
  by_cases hi : i < 12
  · rw [testBit_merged _ _ _ (by omega), show (0xFFF : Nat) = 2 ^ 12 - 1 by rfl, Nat.testBit_two_pow_sub_one]
    simp [hi]
  · simp [hi]

/-- A store of a word stores its low field. -/
theorem get_wr_low (s : State) (a n : Nat) {w : Nat} (hw : w ≤ 32) : (s.wr a n).get ⟨a, 0, w⟩ = n % 2 ^ w := by
  unfold get
  rw [if_pos (by simpa using hw)]
  simp only [bits, Nat.shiftRight_zero, rd_wr_same]
  exact Nat.mod_mod_of_dvd _ (Nat.pow_dvd_pow 2 hw)

/-- The location of a recipient's CAP. -/
def capLoc (r : Nat) : Loc := ⟨.POWER, 0, 0, ⟨385, 0x100, 0x8, 34, 0x0, 1, 1, .rw, [0xFFF], [], [], [0], false⟩, r, 0, 0⟩

theorem writeWord_cap {r : Nat} (h : (priorityRec r || sharedRec r) = true) (m : Master) (v : Word) (ev : Nat × Nat) :
    s.writeWord m (capLoc r) (A.POWER_REC_CAP r) v ev =
      (s.wr (A.POWER_REC_CAP r) (merged 0xFFF (s.rd (A.POWER_REC_CAP r)) v.toNat)).capWritten r := by
  have hr : priorityRec r = true ∨ sharedRec r = true := by simpa using h
  unfold writeWord writeRw
  simp [capLoc, hr, storeMask]

end State

/-- A write of a CAP stores its three copies and returns what lies above it to FREE (R29, R465). -/
theorem completes_rwvWrite {m : Master} {r : Nat} {v : Word} (hr : (priorityRec r || sharedRec r) = true)
    (hg : s.grants m (A.POWER_REC_CAP r) v = true) :
    Completes (.rwvWrite m (A.POWER_REC_CAP r) v) s fun t =>
      t.get (F.POWER_REC_CAP_CAP r) = v.toNat % 4096 ∧ t.copiesEqual (A.POWER_REC_CAP r) = true ∧
      t.tokens r = min (s.tokens r) (t.recCap r) ∧
      (s.tokens r + s.freeTokens < 4096 → t.tokens r + t.freeTokens = s.tokens r + s.freeTokens) ∧
      Frame s t [] (fun a => a = A.POWER_REC_CAP r ∨ a = A.POWER_REC_STATE r ∨ a = A.POWER_FREE ∨ topWords a) := by
  have hrlt := State.recipient_lt hr
  have hrwv := State.isRwv_recCap hrlt
  have hl : locate (A.POWER_REC_CAP r) = some (State.capLoc r) := State.locate_recCap hrlt
  obtain ⟨hne1, hne2, hne3, _, _⟩ := recipient_words r
  refine completes_busCmd (ok := true) rfl rfl (State.target_of_grants hg).1 (State.target_of_grants_locate hg hl) rfl ?_
  rw [State.writeWord_cap hr]
  generalize hu : (s.countAccess (masterCode m)).wr _ _ = u
  have hacc : Frame s u [] fun b => b = A.POWER_REC_CAP r ∨ accessWord b :=
    hu ▸ ((State.frame_countAccess s _).mono (fun _ hp => hp) fun _ hb => .inr hb).wr (.inl rfl)
  have hnot : ∀ b ∈ [A.POWER_REC_STATE r, A.POWER_FREE, A.TOP + 12], ¬ accessWord b := by
    simp [accessWord, pairWords, A.TOP_ACCESS_CONSORT, A.TOP_ACCESS_SIDING, A.POWER_REC_STATE, A.POWER_FREE, A.POWER, A.TOP]
    omega
  have htok : u.tokens r = s.tokens r := hacc.tokens (by simp [hne3.symm, hnot])
  have hfree : u.freeTokens = s.freeTokens := hacc.freeTokens (by simp [hne2.symm, hnot])
  have hcopies : u.copiesEqual (A.POWER_REC_CAP r) = true := hu ▸ State.copiesEqual_wr _ _ hrwv
  have hget : u.get (F.POWER_REC_CAP_CAP r) = v.toNat % 4096 := by
    rw [← hu, ← State.merged_low ((s.countAccess (masterCode m)).word (A.POWER_REC_CAP r)) v]
    exact State.get_wr_low _ _ _ (by decide)
  have hcw := State.frame_capWritten u r
  refine ⟨?_, (State.copiesEqual_drivePins ..).trans (State.copiesEqual_capWritten hcopies), ?_, fun hsum => ?_, ?_⟩
  · rw [State.get_drivePins, hcw.get (by simp [F.POWER_REC_CAP_CAP]) (by rintro (e | e); exacts [hne3 e, hne2 e]), hget]
  · rw [State.tokens_drivePins, State.recCap_drivePins, State.tokens_capWritten, State.recCap_capWritten, htok]
  · rw [State.tokens_drivePins, State.freeTokens_drivePins, State.tokens_capWritten, State.freeTokens_capWritten, htok, hfree]
    omega
  · refine ((hacc.mono (fun _ hp => hp) ?_).trans (hcw.mono (fun _ hp => hp) ?_)).drivePins
    · rintro b (hb | hb)
      exacts [.inl hb, .inr (.inr (.inr (topWords_of_accessWord hb)))]
    · rintro b (hb | hb)
      exacts [.inr (.inl hb), .inr (.inr (.inl hb))]

/-- Settles O13: the write of a CAP stores its three copies, and the scrub leaves the majority in those of every RWV word. -/
theorem votedWordsKeepEqualCopies : Obligations.VotedWordsKeepEqualCopies := by
  unfold Obligations.VotedWordsKeepEqualCopies
  exact fun s => ⟨fun m r v hr hg => completes_rwvWrite hr hg, State.completes_rwvScrub⟩

end Sys2Proof.Machine
end

section
/-! SUPPORT. The register at an address that is given as an offset in a page (R24). -/

namespace Sys2Proof.Machine

/-- End of the last page of a block. -/
def Blk.bound (b : Blk) : Nat := b.info.base + (b.info.n1 - 1) * b.info.s1 + (b.info.n2 - 1) * b.info.s2 + b.info.size

theorem Blk.find_bounds {b : Blk} {a i j off : Nat} (h : b.find a = some (i, j, off)) : b.info.base ≤ a ∧ a < b.bound := by
  obtain ⟨rfl, hi, hj, hoff⟩ := Blk.find_spec h
  have h1 : i * b.info.s1 ≤ (b.info.n1 - 1) * b.info.s1 := Nat.mul_le_mul_right _ (by omega)
  have h2 : j * b.info.s2 ≤ (b.info.n2 - 1) * b.info.s2 := Nat.mul_le_mul_right _ (by omega)
  unfold Blk.page Blk.bound
  omega

/-- The pages of a block lie apart from those of every other. -/
def Blk.alone (b : Blk) : Bool :=
  Blk.all.all fun c => c == b || decide (c.bound ≤ b.info.base) || decide (b.bound ≤ c.info.base)

/-- An address in a page of a block that lies alone is looked up in the registers of that block. -/
theorem locate_of_find {b : Blk} {a i j off : Nat} {l : Loc} (hb : b.alone = true) (h : b.find a = some (i, j, off))
    (hl : findReg b i j off (hdrRegs b ++ b.regs) = some l) : locate a = some l := by
  have hother : ∀ c : Blk, c ≠ b → c.find a = none := fun c hc => by
    cases hf : c.find a with
    | none => rfl
    | some x =>
      have h1 := Blk.find_bounds h
      have h2 := Blk.find_bounds hf
      have h3 := List.all_eq_true.1 hb c c.mem_all
      simp [hc] at h3
      omega
  have key : ∀ cs : List Blk, b ∈ cs → cs.findSome? (fun c =>
      match c.find a with
      | some (i, j, off) => findReg c i j off (hdrRegs c ++ c.regs)
      | none => none) = some l := fun cs hm => by
    induction cs with
    | nil => cases hm
    | cons c cs ih =>
      rw [List.findSome?_cons]
      by_cases hc : c = b
      · subst hc; simp [h, hl]
      · rw [hother c hc]
        exact ih ((List.mem_cons.1 hm).resolve_left (Ne.symm hc))
  exact key _ b.mem_all

/-- An address at an offset of a page lies at that offset of that page. -/
theorem Blk.find_page {b : Blk} {i off : Nat} (hi : i < b.info.n1) (hj : 0 < b.info.n2) (hoff : off < b.info.size)
    (h1 : off < b.info.s1) (h2 : off < b.info.s2) : b.find (b.page i 0 + off) = some (i, 0, off) := by
  have hd : b.page i 0 + off - b.info.base = off + b.info.s1 * i := by
    unfold Blk.page
    rw [Nat.mul_comm b.info.s1 i]
    omega
  unfold Blk.find
  dsimp only
  rw [if_neg (by unfold Blk.page; omega), hd, Nat.add_mul_div_left _ _ (by omega), Nat.add_mul_mod_self_left,
    Nat.div_eq_of_lt h1, Nat.mod_eq_of_lt h1, Nat.div_eq_of_lt h2, Nat.mod_eq_of_lt h2, Nat.zero_add, if_pos ⟨hi, hj, hoff⟩]

end Sys2Proof.Machine
end

section
/-! SUPPORT. The machines behind ENABLE: what a move of STATE.MACHINE stores and leaves (R26, R38). -/

namespace Sys2Proof.Machine

variable {s : State} {u : Mach} {v : Nat}

theorem Mach.stateFld_width (u : Mach) : u.stateFld.lo + u.stateFld.width ≤ 32 ∧ u.stateFld.width = 3 := by
  cases u <;> exact ⟨(by decide : 0 + 3 ≤ 32), rfl⟩

namespace State

theorem mach_lt (s : State) (u : Mach) : s.mach u < 8 := by
  have := s.get_lt u.stateFld
  rwa [(Mach.stateFld_width u).2] at this

theorem frame_setMach (s : State) (u : Mach) (v : Nat) : Frame s (s.setMach u v) [.timers] fun a => a = u.stateFld.addr := by
  have hput : Frame s (s.put u.stateFld v) [.timers] fun a => a = u.stateFld.addr :=
    (Frame.refl ..).put rfl (Mach.stateFld_width u).1
  unfold setMach
  exact .ite ((hput.stopTimer (by simp)).startTimer (by simp))
    (.ite (hput.startTimer (by simp)) ((hput.stopTimer (by simp)).stopTimer (by simp)))

theorem mach_setMach (s : State) (u : Mach) (hv : v < 8) : (s.setMach u v).mach u = v := by
  have hput : (s.put u.stateFld v).get u.stateFld = v := by
    rw [get_put_same _ _ _ (Mach.stateFld_width u).1, (Mach.stateFld_width u).2]
    exact Nat.mod_eq_of_lt hv
  unfold setMach mach
  dsimp only
  split
  · rw [get_startTimer, get_stopTimer, hput]
  · split
    · rw [get_startTimer, hput]
    · rw [get_stopTimer, get_stopTimer, hput]

theorem timer_setMach_draining (s : State) (u : Mach) : (s.setMach u DRAINING).timer (u.key .drain) = some s.clk := by
  unfold setMach
  rw [if_neg (by decide), if_pos rfl, timer_startTimer_same]
  simp

end State
end Sys2Proof.Machine
end

section
/-! CERTIFICATE. ENABLE of a port (R38, R525). -/

namespace Sys2Proof.Machine

variable {s : State} {m : Master} {p : Nat} {v : Word}

/-- The location of a port's CTL word. -/
def portCtl (p : Nat) : Loc := ⟨.PORT, p, 0, ⟨2, 0x08, 0, 1, 0, 1, 1, .rw, [0x1], [], [0x0], [], false⟩, 0, 0, 0⟩

theorem locate_portCtl (hp : p < 256) : locate (A.PORT p + 8) = some (portCtl p) := by
  have hfind : Blk.PORT.find (Blk.PORT.page p 0 + 8) = some (p, 0, 8) :=
    Blk.find_page hp (by decide) (by decide) (by decide) (by decide)
  have ha : A.PORT p + 8 = Blk.PORT.page p 0 + 8 := by simp [A.PORT, Blk.page, Blk.info]
  rw [ha]
  exact locate_of_find (by decide) hfind rfl

theorem writeWord_portCtl (s : State) (ev : Nat × Nat) :
    s.writeWord m (portCtl p) (A.PORT p + 8) v ev =
      (s.wr (A.PORT p + 8) (merged 1 (s.rd (A.PORT p + 8)) v.toNat)).enableWritten (.port p) := by
  unfold State.writeWord State.writeRw
  simp [portCtl, Loc.ctlMach, Loc.mach, State.storeMask]

/-- A masked write under the lowest bit stores that bit of the value. -/
theorem merged_one (x v : Word) : (merged 1 x.toNat v.toNat % 2 != 0) = v.getLsbD 0 := by
  have h := testBit_merged 1 x v (i := 0) (by decide)
  rw [BitVec.testBit_toNat] at h
  simp only [Nat.testBit_zero, Nat.one_mod, decide_true, if_true] at h
  rw [← h]
  rcases Nat.mod_two_eq_zero_or_one (merged 1 x.toNat v.toNat) with e | e <;> simp [e]

/-- What a write of ENABLE of a port leaves. -/
theorem enableWritten_port {s t : State} {p : Nat} {W : Nat → Prop} (h : Frame s t [] W) (hW : ¬ W (A.PORT p + 12)) :
    (t.enableWritten (.port p)).enabled (.port p) = t.enabled (.port p) ∧
    .port p ∉ (t.enableWritten (.port p)).refused ∧
    (∀ u, u ≠ .port p → (u ∈ (t.enableWritten (.port p)).refused ↔ u ∈ s.refused)) ∧
    (t.enabled (.port p) = false → s.mach (.port p) = UP → (t.enableWritten (.port p)).mach (.port p) = DRAINING ∧
      (t.enableWritten (.port p)).timer (Mach.key (.port p) .drain) = some s.clk) ∧
    ((t.enabled (.port p) = true ∨ s.mach (.port p) ≠ UP) → (t.enableWritten (.port p)).mach (.port p) = s.mach (.port p)) ∧
    Frame s (t.enableWritten (.port p)) [.refused, .timers] fun a => a = A.PORT p + 12 ∨ W a := by
  have href : t.refused = s.refused := h.1 .refused (by simp)
  have hclk : t.clk = s.clk := h.1 .clk (by simp)
  have hmach : t.mach (.port p) = s.mach (.port p) := h.get (Mach.stateFld_width _).1 hW
  have hctl : A.PORT p + 8 ≠ A.PORT p + 12 := by omega
  generalize ht1 : ({ t with refused := t.refused.filter fun x => x ≠ .port p } : State) = t1
  have hf1 : Frame t t1 [.refused] fun _ => False := ht1 ▸ (Frame.refl ..).setRefused (by simp)
  have hin : ∀ u, u ∈ t1.refused ↔ u ∈ s.refused ∧ u ≠ .port p := by simp [← ht1, href]
  have hen : t1.enabled (.port p) = t.enabled (.port p) := by rw [← ht1]; rfl
  have hm1 : t1.mach (.port p) = s.mach (.port p) := by rw [← hmach, ← ht1]; rfl
  have hc1 : t1.clk = s.clk := by rw [← hclk, ← ht1]
  have hw : t.enableWritten (.port p) = if t1.enabled (.port p) ∨ t1.mach (.port p) ≠ UP then t1 else t1.setMach (.port p) DRAINING := by
    rw [← ht1]; rfl
  have hd := State.frame_setMach t1 (.port p) DRAINING
  rw [hw]
  split
  · next hc => 
    rw [hen, hm1] at hc
    refine ⟨hen, by simp [hin], fun u hu => by simp [hin, hu], fun h0 h1 => ?_, fun _ => hm1, ?_⟩
    · rw [h0, h1] at hc; simp at hc
    · exact (h.mono (by simp) fun _ => .inr).trans (hf1.mono (by simp) fun _ => False.elim)
  · next hc =>
    rw [hen, hm1] at hc
    have hrd : (t1.setMach (.port p) DRAINING).refused = t1.refused := hd.1 .refused (by simp)
    refine ⟨?_, by simp [hrd, hin], fun u hu => by simp [hrd, hin, hu], fun _ _ => ?_, fun h1 => absurd h1 hc, ?_⟩
    · rw [← hen]
      unfold State.enabled State.flag
      rw [hd.get (by simp [Mach.enableFld, F.PORT_CTL_ENABLE]) hctl]
    · exact ⟨State.mach_setMach _ _ (by decide), by rw [State.timer_setMach_draining, hc1]⟩
    · exact ((h.mono (by simp) fun _ => .inr).trans (hf1.mono (by simp) fun _ => False.elim)).trans (hd.mono (by simp) fun _ => .inl)

/-- Settles O14: the write of CTL stores ENABLE, lets go of the refusal and starts the drain of a port in UP. -/
theorem enablesRequestTheirMachines : Obligations.EnablesRequestTheirMachines := by
  unfold Obligations.EnablesRequestTheirMachines
  intro s m p v hp hg
  have hl := locate_portCtl hp
  refine completes_busCmd (ok := true) rfl rfl (State.target_of_grants hg).1 (State.target_of_grants_locate hg hl) rfl ?_
  rw [writeWord_portCtl]
  generalize ht : (s.countAccess (masterCode m)).wr _ _ = t
  have hf : Frame s t [] fun a => a = A.PORT p + 8 ∨ accessWord a :=
    ht ▸ ((State.frame_countAccess s _).mono (fun _ h => h) fun _ => .inr).wr (.inl rfl)
  have hnot : ¬ (A.PORT p + 12 = A.PORT p + 8 ∨ accessWord (A.PORT p + 12)) := by
    simp only [accessWord, pairWords, A.TOP_ACCESS_CONSORT, A.TOP_ACCESS_SIDING, A.PORT, A.TOP]
    omega
  have hen : t.enabled (.port p) = v.getLsbD 0 := by
    rw [← merged_one ((s.countAccess (masterCode m)).word (A.PORT p + 8)) v, ← ht]
    unfold State.enabled State.flag
    rw [show (Mach.port p).enableFld = ⟨A.PORT p + 8, 0, 1⟩ from rfl, State.get_wr_low _ _ _ (by decide)]
    rfl
  obtain ⟨h1, h2, h3, h4, h5, h6⟩ := enableWritten_port hf hnot
  rw [hen] at h1 h4 h5
  refine ⟨h1, h2, h3, h4, h5, (h6.mono (fun _ h => h) ?_).drivePins⟩
  rintro a (ha | ha | ha)
  exacts [.inr (.inl ha), .inl ha, .inr (.inr (topWords_of_accessWord ha))]

end Sys2Proof.Machine
end

section
/-! CERTIFICATE. The core PLL (R44, R474). -/

namespace Sys2Proof.Machine

variable {s : State}

namespace State

/-- Stopping the clock of a section clears its bit of SECTION_AWAKE and leaves the others and the lock. -/
theorem setAwake_off (s : State) (n : Nat) :
    (∀ i, ((s.setAwake n false).get F.TOP_STATE_SECTION_AWAKE).testBit i =
      ((s.get F.TOP_STATE_SECTION_AWAKE).testBit i && decide (i ≠ n))) ∧
    (s.setAwake n false).get F.TOP_STATE_CORE_PLL_LOCK = s.get F.TOP_STATE_CORE_PLL_LOCK ∧
    Frame s (s.setAwake n false) [.timers] fun a => a = A.TOP + 12 ∨ a = A.SECTION n + 12 := by
  have hsec : F.TOP_STATE_SECTION_AWAKE.addr ≠ (F.SECTION_STATE_AWAKE n).addr ∧
      F.TOP_STATE_CORE_PLL_LOCK.addr ≠ (F.SECTION_STATE_AWAKE n).addr := by
    simp only [F.TOP_STATE_SECTION_AWAKE, F.TOP_STATE_CORE_PLL_LOCK, F.SECTION_STATE_AWAKE, A.SECTION, A.TOP]
    omega
  have hw : (F.SECTION_STATE_AWAKE n).lo + (F.SECTION_STATE_AWAKE n).width ≤ 32 := (by decide : 16 + 1 ≤ 32)
  have hlt := s.get_lt F.TOP_STATE_SECTION_AWAKE
  generalize hm : s.get F.TOP_STATE_SECTION_AWAKE = m at hlt
  have hmw : (BitVec.ofNat 32 m).toNat = m := by
    rw [BitVec.toNat_ofNat]; exact Nat.mod_eq_of_lt (lt_trans hlt (by decide))
  have hclr : clr m (2 ^ n) < 2 ^ 16 := lt_of_le_of_lt (Nat.sub_le _ _) hlt
  unfold setAwake
  simp only [hm, b2n, Bool.false_eq_true, if_false, Nat.mul_zero, Nat.add_zero]
  refine ⟨fun i => ?_, ?_, ?_⟩
  · rw [get_startTimer, get_put_addr _ _ _ _ hw (by decide) hsec.1, get_put_same _ _ _ (by decide)]
    rw [show F.TOP_STATE_SECTION_AWAKE.width = 16 from rfl, Nat.mod_eq_of_lt hclr, ← hmw, testBit_clr, Nat.testBit_two_pow]
    by_cases h : i = n
    · simp [h]
    · simp [h, Ne.symm h]
  · rw [get_startTimer, get_put_addr _ _ _ _ hw (by decide) hsec.2, get_put_bits _ F.TOP_STATE_SECTION_AWAKE _ _ (by decide) (by decide) (by decide) (by decide)]
  · exact (((Frame.refl ..).put (.inl rfl) (by decide)).put (.inr rfl) hw).startTimer (by simp)

/-- Stopping the clocks of a list of sections. -/
theorem foldl_setAwake_off (l : List Nat) (s : State) :
    (∀ i, ((l.foldl (fun u n => u.setAwake n false) s).get F.TOP_STATE_SECTION_AWAKE).testBit i =
      ((s.get F.TOP_STATE_SECTION_AWAKE).testBit i && decide (i ∉ l))) ∧
    (l.foldl (fun u n => u.setAwake n false) s).get F.TOP_STATE_CORE_PLL_LOCK = s.get F.TOP_STATE_CORE_PLL_LOCK ∧
    Frame s (l.foldl (fun u n => u.setAwake n false) s) [.timers] fun a => a = A.TOP + 12 ∨ ∃ n ∈ l, a = A.SECTION n + 12 := by
  induction l generalizing s with
  | nil => exact ⟨by simp, rfl, Frame.refl ..⟩
  | cons n l ih =>
    obtain ⟨h1, h2, h3⟩ := setAwake_off s n
    obtain ⟨g1, g2, g3⟩ := ih (s.setAwake n false)
    refine ⟨fun i => ?_, g2.trans h2, ?_⟩
    · rw [List.foldl_cons, g1, h1]
      by_cases h : i = n <;> simp [h]
    · refine (h3.mono (fun _ h => h) fun a ha => ?_).trans (g3.mono (fun _ h => h) fun a ha => ?_)
      · exact ha.imp id fun e => ⟨n, List.mem_cons_self, e⟩
      · exact ha.imp id fun ⟨k, hk, e⟩ => ⟨k, List.mem_cons_of_mem _ hk, e⟩

end State

theorem completes_corePllLocked (hrails : s.pow.mainRails = true) (hlock : s.flag F.TOP_STATE_CORE_PLL_LOCK = false)
    (hneed : s.pllHeld = true ∨ (s.timer { kind := .pll, a := 0 }).isSome = true) :
    Completes .corePllLocked s fun t =>
      t.flag F.TOP_STATE_CORE_PLL_LOCK = true ∧ Frame s t [.timers] (· = A.TOP + 12) := by
  refine completes_of_finish rfl rfl ?_
  rw [if_pos ⟨hrails, by simp [hlock], hneed⟩]
  refine ⟨?_, (((Frame.refl s [.timers] (· = A.TOP + 12)).put rfl (by decide)).startTimer (by simp)).drivePins⟩
  rw [State.flag_drivePins, State.flag_startTimer]
  unfold State.flag
  rw [State.get_put_same _ _ _ (by decide)]
  rfl

theorem completes_corePllStop (hlock : s.flag F.TOP_STATE_CORE_PLL_LOCK = true) (hfree : s.pllHeld = false)
    (hdue : s.due { kind := .pll, a := 0 } (ms 1) = true) :
    Completes .corePllStop s fun t =>
      t.flag F.TOP_STATE_CORE_PLL_LOCK = false ∧ t.get F.TOP_STATE_SECTION_AWAKE = 0 ∧
      Frame s t [.timers] (fun a => a = A.TOP + 12 ∨ ∃ n, n < 16 ∧ a = A.SECTION n + 12) := by
  refine completes_of_finish rfl rfl ?_
  rw [if_pos ⟨hlock, by simp [hfree], hdue⟩]
  generalize ht : (s.put F.TOP_STATE_CORE_PLL_LOCK 0).stopTimer { kind := .pll, a := 0 } = t
  have hf : Frame s t [.timers] (· = A.TOP + 12) := 
    ht ▸ ((Frame.refl s [.timers] (· = A.TOP + 12)).put rfl (by decide)).stopTimer (by simp)
  have hl : t.get F.TOP_STATE_CORE_PLL_LOCK = 0 := by
    rw [← ht, State.get_stopTimer, State.get_put_same _ _ _ (by decide)]
    rfl
  obtain ⟨h1, h2, h3⟩ := State.foldl_setAwake_off (List.range 16) t
  refine ⟨?_, ?_, ((hf.mono (fun _ h => h) fun _ => .inl).trans (h3.mono (fun _ h => h) fun a ha => ?_)).drivePins⟩
  · rw [State.flag_drivePins]
    unfold State.flag
    rw [h2, hl]
    rfl
  · rw [State.get_drivePins]
    refine Nat.eq_of_testBit_eq fun i => ?_
    rw [h1]
    by_cases hi : i < 16
    · simp [hi]
    · rw [Nat.testBit_lt_two_pow (lt_of_lt_of_le (t.get_lt _) (Nat.pow_le_pow_right (by decide) (Nat.le_of_not_lt hi)))]
      simp
  · exact ha.imp id fun ⟨n, hn, e⟩ => ⟨n, List.mem_range.1 hn, e⟩

/-- Settles O16: the lock sets its bit and starts the timer; the stop clears the bit and stops the clock of every section. -/
theorem corePllLocksAndStops : Obligations.CorePllLocksAndStops := by
  unfold Obligations.CorePllLocksAndStops
  exact fun s => ⟨completes_corePllLocked, completes_corePllStop⟩

end Sys2Proof.Machine
end

section
/-! SUPPORT. Reads through frames, and fields of two words. -/

namespace Sys2Proof.Machine

variable {s t : State} {P : List Part} {W : Nat → Prop}

theorem Frame.rd64 (h : Frame s t P W) {a : Nat} (ha : ¬ W a) (h4 : ¬ W (a + 4)) : t.rd64 a = s.rd64 a := by
  unfold State.rd64; rw [h.2 _ ha, h.2 _ h4]

theorem Frame.get64 (h : Frame s t P W) {f : Fld} (ha : ¬ W f.addr) (h4 : ¬ W (f.addr + 4)) : t.get f = s.get f := by
  unfold State.get; rw [h.2 _ ha, h.2 _ h4]

theorem Frame.flag (h : Frame s t P W) {f : Fld} (hf : f.lo + f.width ≤ 32) (hW : ¬ W f.addr) : t.flag f = s.flag f := by
  unfold State.flag; rw [h.get hf hW]

theorem Frame.port (h : Frame s t P W) (hP : .ports ∉ P) (p : Nat) : t.port p = s.port p := by
  have : t.ports = s.ports := h.1 .ports hP
  unfold State.port; rw [this]

namespace State

/-- A field of 64 bits is its two words. -/
theorem get_pair (s : State) (a : Nat) : s.get ⟨a, 0, 64⟩ = s.rd64 a := by
  have := s.rd64_lt a
  unfold get bits
  rw [if_neg (by simp)]
  simpa [rd64] using this

theorem get_put_pair (s : State) (a v : Nat) : (s.put ⟨a, 0, 64⟩ v).get ⟨a, 0, 64⟩ = v % 2 ^ 64 := by
  have hset : setBits (s.rd64 a) 0 64 v = v % 2 ^ 64 := by
    have : s.rd64 a >>> 64 = 0 := by rw [Nat.shiftRight_eq_div_pow]; exact Nat.div_eq_of_lt (s.rd64_lt a)
    simp [setBits, this, Nat.mod_one]
  rw [get_pair]
  unfold put
  rw [if_neg (by simp), rd64_wr64_same]
  change setBits (s.rd64 a) 0 64 v % 2 ^ 64 = v % 2 ^ 64
  rw [hset, Nat.mod_mod]

end State
end Sys2Proof.Machine
end

section
/-! CERTIFICATE. Gate lists (R208 to R213). -/

namespace Sys2Proof.Machine

variable {s t : State} {P : List Part} {W : Nat → Prop} {p c : Nat}

/-! ### What gating depends on -/

/-- The words of a port that hold its gate lists. -/
def gateTable (p a : Nat) : Prop := a = A.SHAPE p + 0x5C ∨ (A.SHAPE p + 0x100 ≤ a ∧ a < A.SHAPE p + 0x300)

/-- Two states agree on what decides a port's gates. -/
structure SameGates (p : Nat) (s t : State) : Prop where
  len : ∀ b, t.gateLen p b = s.gateLen p b
  list : ∀ b, t.gateList p b = s.gateList p b
  bank : t.gateBank p = s.gateBank p
  base : t.get (F.SHAPE_GATE_BASE_BASE p) = s.get (F.SHAPE_GATE_BASE_BASE p)
  en : t.flag (F.SHAPE_GATE_CTL_GATE_EN p) = s.flag (F.SHAPE_GATE_CTL_GATE_EN p)
  gating : (t.port p).gating = (s.port p).gating
  time : t.time = s.time

theorem Frame.gateLen (h : Frame s t P W) (hW : ∀ a, gateTable p a → ¬ W a) (b : Nat) : t.gateLen p b = s.gateLen p b := by
  have h0 : (F.SHAPE_GATE_LEN_LEN0 p).lo + (F.SHAPE_GATE_LEN_LEN0 p).width ≤ 32 := (by decide : 0 + 7 ≤ 32)
  have h1 : (F.SHAPE_GATE_LEN_LEN1 p).lo + (F.SHAPE_GATE_LEN_LEN1 p).width ≤ 32 := (by decide : 8 + 7 ≤ 32)
  unfold State.gateLen
  rw [h.get h0 (hW _ (.inl rfl)), h.get h1 (hW _ (.inl rfl))]

theorem Frame.gateList (h : Frame s t P W) (hW : ∀ a, gateTable p a → ¬ W a) (b : Nat) : t.gateList p b = s.gateList p b := by
  unfold State.gateList
  rw [h.gateLen hW]
  refine List.map_congr_left fun i hi => ?_
  have hi : i < 64 := by have := List.mem_range.1 hi; omega
  have h0 : gateTable p (A.SHAPE_GATE0 p i) := .inr (by simp only [A.SHAPE_GATE0]; omega)
  have h1 : gateTable p (A.SHAPE_GATE1 p i) := .inr (by simp only [A.SHAPE_GATE1]; omega)
  have ho : (0 + 6 ≤ 32) := by decide
  have hd : (8 + 24 ≤ 32) := by decide
  rw [h.get (f := F.SHAPE_GATE0_OPEN p i) ho (hW _ h0), h.get (f := F.SHAPE_GATE0_DURATION p i) hd (hW _ h0),
    h.get (f := F.SHAPE_GATE1_OPEN p i) ho (hW _ h1), h.get (f := F.SHAPE_GATE1_DURATION p i) hd (hW _ h1)]

theorem Frame.gateBank (h : Frame s t P W) (hW : ¬ W (A.SHAPE_GATE_POS p)) : t.gateBank p = s.gateBank p :=
  h.get (f := F.SHAPE_GATE_POS_BANK p) (by decide : 8 + 1 ≤ 32) hW

namespace SameGates

variable (h : SameGates p s t)
include h

theorem bankOk (b : Nat) : t.gateBankOk p b = s.gateBankOk p b := by unfold State.gateBankOk; rw [h.len, h.list]

theorem offset : t.gateOffset p = s.gateOffset p := by unfold State.gateOffset; rw [h.time, h.base, h.bank, h.list]

theorem cycleNo : t.gateCycleNo p = s.gateCycleNo p := by unfold State.gateCycleNo; rw [h.time, h.base, h.bank, h.list]

theorem active : t.gateActive p = s.gateActive p := by
  unfold State.gateActive State.gateArmed State.gateReached
  rw [h.en, h.gating, h.bank, h.list, h.base, h.time]

theorem nofit (hsw : t.sw = s.sw) (hlanes : t.get (F.PORT_MASKS_TX_ACTIVE p) = s.get (F.PORT_MASKS_TX_ACTIVE p))
    (hguard : t.get (F.SHAPE_GATE_GUARD_GUARD p) = s.get (F.SHAPE_GATE_GUARD_GUARD p)) : t.gateNofit p = s.gateNofit p := by
  funext c
  have hbuf : ∀ y, t.copyPkt y = s.copyPkt y := fun y => by unfold State.copyPkt State.bufPkt; rw [hsw]
  unfold State.gateNofit State.head State.gateNeed State.txLanes
  simp only [h.active, h.bank, h.list, hsw, hlanes, hguard, hbuf]

end SameGates

/-! ### The place in the cycle -/

theorem gateFind_lt : ∀ (l : List (Nat × Nat)) (i x : Nat), x < gateCycleNs l → (gateFind l i x).1 < i + l.length
  | [], i, x, h => by simp [gateCycleNs] at h
  | e :: l, i, x, h => by
    unfold gateFind
    split
    · simp
    · have := gateFind_lt l (i + 1) (x - e.2) (by simp only [gateCycleNs, List.map_cons, List.sum_cons] at h ⊢; omega)
      simp only [List.length_cons]
      omega

theorem State.gateList_length (s : State) (p b : Nat) : (s.gateList p b).length ≤ 64 := by
  unfold State.gateList
  rw [List.length_map, List.length_range]
  exact Nat.min_le_right ..

/-- While gating is active the entry in force is one of the 64. -/
theorem State.gateEntry_lt (h : s.gateActive p = true) : (gateFind (s.gateList p (s.gateBank p)) 0 (s.gateOffset p)).1 < 64 := by
  have hcyc : gateCycleNs (s.gateList p (s.gateBank p)) ≠ 0 := by
    unfold State.gateActive State.gateArmed at h
    simp only [Bool.and_eq_true, bne_iff_ne] at h
    exact h.1.2
  have := gateFind_lt (s.gateList p (s.gateBank p)) 0 (s.gateOffset p) (Nat.mod_lt _ (Nat.pos_of_ne_zero hcyc))
  have := s.gateList_length p (s.gateBank p)
  omega

/-- The words that the motion of a port's gates writes. -/
def gateMoveWords (p a : Nat) : Prop :=
  pairWords (A.SHAPE_GATE_CYCLES p) a ∨ pairWords (A.SHAPE_GUARD_HOLDS p) a ∨ causeWords (A.SHAPE p) a

theorem gateTable_of_word {a : Nat} (h : gateTable p a) :
    a ≠ A.SHAPE_GATE_CTL p ∧ a ≠ A.SHAPE_GATE_POS p ∧ ¬ gateMoveWords p a ∧ ¬ pairWords (A.SHAPE_GATE_BASE p) a := by
  simp only [gateTable] at h
  simp only [gateMoveWords, pairWords, causeWords, A.SHAPE_GATE_CTL, A.SHAPE_GATE_POS, A.SHAPE_GATE_CYCLES,
    A.SHAPE_GUARD_HOLDS, A.SHAPE_GATE_BASE]
  omega

namespace State

theorem causePage_shape (p : Nat) : Blk.SHAPE.causePage p 0 = A.SHAPE p := by simp [Blk.causePage, Blk.page, Blk.info, A.SHAPE]

theorem frame_raiseShape (s : State) (p k : Nat) : Frame s (s.raise .SHAPE p 0 k) [.flt] (causeWords (A.SHAPE p)) :=
  (Frame.refl ..).raise (by simp) fun _ ha => causePage_shape p ▸ ha

theorem causeBit_raiseShape (s : State) (p : Nat) {k : Nat} (hk : k < 32) : (s.raise .SHAPE p 0 k).causeBit .SHAPE p 0 k = true :=
  cause_raise s .SHAPE p 0 k [] hk

theorem causeBit_drivePins (s : State) (b : Blk) (i j k : Nat) : s.drivePins.causeBit b i j k = s.causeBit b i j k := by
  unfold causeBit; rw [rd_drivePins]

theorem frame_noteNofit (s : State) (p : Nat) : Frame s (s.noteNofit p) [.flt] (causeWords (A.SHAPE p)) := by
  unfold noteNofit
  exact .ite (frame_raiseShape s p _) (Frame.refl ..)

theorem frame_countCycles (s : State) (p n : Nat) : Frame s (s.countCycles p n) [.flt] (gateMoveWords p) := by
  have h1 : Frame s (s.bump (A.SHAPE_GATE_CYCLES p) n) [.flt] (gateMoveWords p) :=
    (Frame.refl ..).bump (.inl (.inl rfl)) (.inl (.inr rfl))
  unfold countCycles
  exact .ite ((h1.bump (.inr (.inl (.inl rfl))) (.inr (.inl (.inr rfl)))).trans
    ((frame_noteNofit _ p).mono (fun _ h => h) fun a ha => .inr (.inr ha))) h1

/-- The counters of a port's gates lie apart from each other and from its CAUSE words. -/
theorem gateCounters (p : Nat) : (∀ a, pairWords (A.SHAPE_GATE_CYCLES p) a ∨ pairWords (A.SHAPE_GUARD_HOLDS p) a → ¬ causeWords (A.SHAPE p) a) ∧
    (∀ a, pairWords (A.SHAPE_GATE_CYCLES p) a → ¬ pairWords (A.SHAPE_GUARD_HOLDS p) a) := by
  simp only [pairWords, causeWords, A.SHAPE_GATE_CYCLES, A.SHAPE_GUARD_HOLDS]
  exact ⟨fun a => by omega, fun a => by omega⟩

theorem frame_bump (s : State) (a n : Nat) : Frame s (s.bump a n) [] (pairWords a) := (Frame.refl ..).bump (.inl rfl) (.inr rfl)

theorem cycles_countCycles (s : State) (p n : Nat) :
    (s.countCycles p n).rd64 (A.SHAPE_GATE_CYCLES p) = (s.rd64 (A.SHAPE_GATE_CYCLES p) + n) % 2 ^ 64 := by
  obtain ⟨hcause, hpair⟩ := gateCounters p
  rw [← rd64_bump_same]
  unfold countCycles
  dsimp only
  split
  · rw [(frame_noteNofit _ p).rd64 (hcause _ (.inl (.inl rfl))) (hcause _ (.inl (.inr rfl))),
      (frame_bump _ _ n).rd64 (hpair _ (.inl rfl)) (hpair _ (.inr rfl))]
  · rfl

theorem holds_countCycles (s : State) (p n : Nat) :
    (s.countCycles p n).rd64 (A.SHAPE_GUARD_HOLDS p) =
      (s.rd64 (A.SHAPE_GUARD_HOLDS p) + if (List.range 6).any (s.gateNofit p) then n else 0) % 2 ^ 64 := by
  obtain ⟨hcause, hpair⟩ := gateCounters p
  have hlt := s.rd64_lt (A.SHAPE_GUARD_HOLDS p)
  have h1 : (s.bump (A.SHAPE_GATE_CYCLES p) n).rd64 (A.SHAPE_GUARD_HOLDS p) = s.rd64 (A.SHAPE_GUARD_HOLDS p) :=
    (frame_bump ..).rd64 (fun h => hpair _ h (.inl rfl)) fun h => hpair _ h (.inr rfl)
  unfold countCycles
  dsimp only
  split
  · next h =>
    rw [if_pos h.2, (frame_noteNofit _ p).rd64 (hcause _ (.inr (.inl rfl))) (hcause _ (.inr (.inr rfl))), rd64_bump_same, h1]
  · next h =>
    rw [h1]
    split
    · next hany =>
      have : n = 0 := Classical.byContradiction fun hn => h ⟨hn, hany⟩
      rw [this, Nat.add_zero, Nat.mod_eq_of_lt hlt]
    · rw [Nat.add_zero, Nat.mod_eq_of_lt hlt]

/-! ### GATE_POS -/

theorem frame_gatePlace (s : State) (p : Nat) : Frame s (s.gatePlace p) [.ports] (· = A.SHAPE_GATE_POS p) := by
  unfold gatePlace
  exact ((Frame.refl s [.ports] (· = A.SHAPE_GATE_POS p)).put rfl (by simp [F.SHAPE_GATE_POS_ENTRY])).setPort (by simp)

theorem entry_gatePlace (h : s.gateActive p = true) : (s.gatePlace p).get (F.SHAPE_GATE_POS_ENTRY p) =
    (gateFind (s.gateList p (s.gateBank p)) 0 (s.gateOffset p)).1 := by
  unfold gatePlace
  rw [get_setPort, get_put_same _ _ _ (by simp [F.SHAPE_GATE_POS_ENTRY])]
  exact Nat.mod_eq_of_lt (gateEntry_lt h)

/-- The entry in force and the active bank are fields of one word. -/
theorem gateBank_put_entry (s : State) (p v : Nat) : (s.put (F.SHAPE_GATE_POS_ENTRY p) v).gateBank p = s.gateBank p :=
  get_put_bits _ _ _ _ (by simp [F.SHAPE_GATE_POS_ENTRY]) (by simp [F.SHAPE_GATE_POS_BANK]) rfl
    (.inr (by simp [F.SHAPE_GATE_POS_ENTRY, F.SHAPE_GATE_POS_BANK]))

theorem gateBank_gatePlace (s : State) (p : Nat) : (s.gatePlace p).gateBank p = s.gateBank p := by
  rw [← gateBank_put_entry s p (gateFind (s.gateList p (s.gateBank p)) 0 (s.gateOffset p)).1]
  exact get_setPort ..

theorem port_gatePlace (s : State) (p : Nat) : (s.gatePlace p).port p = { s.port p with gateCycle := s.gateCycleNo p } :=
  port_setPort_same ..

theorem gateWords_apart (p : Nat) : A.SHAPE_GATE_BASE p ≠ A.SHAPE_GATE_POS p ∧ A.SHAPE_GATE_BASE p + 4 ≠ A.SHAPE_GATE_POS p ∧
    A.SHAPE_GATE_CTL p ≠ A.SHAPE_GATE_POS p ∧ A.SHAPE_GATE_GUARD p ≠ A.SHAPE_GATE_POS p ∧ ¬ gateMoveWords p (A.SHAPE_GATE_POS p) := by
  simp only [gateMoveWords, pairWords, causeWords, A.SHAPE_GATE_BASE, A.SHAPE_GATE_POS, A.SHAPE_GATE_CTL, A.SHAPE_GATE_GUARD,
    A.SHAPE_GATE_CYCLES, A.SHAPE_GUARD_HOLDS]
  omega

theorem sameGates_gatePlace (s : State) (p : Nat) : SameGates p s (s.gatePlace p) where
  len := (frame_gatePlace s p).gateLen fun _ ha => (gateTable_of_word ha).2.1
  list := (frame_gatePlace s p).gateList fun _ ha => (gateTable_of_word ha).2.1
  bank := gateBank_gatePlace s p
  base := (frame_gatePlace s p).get64 (gateWords_apart p).1 (gateWords_apart p).2.1
  en := (frame_gatePlace s p).flag (by simp [F.SHAPE_GATE_CTL_GATE_EN]) (gateWords_apart p).2.2.1
  gating := by rw [port_gatePlace]
  time := (frame_gatePlace s p).1 .time (by simp)

theorem nofit_gatePlace (s : State) : (s.gatePlace p).gateNofit p = s.gateNofit p := by
  refine (sameGates_gatePlace s p).nofit ((frame_gatePlace s p).1 .sw (by simp)) ?_ ?_
  · refine (frame_gatePlace s p).get (by simp [F.PORT_MASKS_TX_ACTIVE]) ?_
    simp only [F.PORT_MASKS_TX_ACTIVE, A.PORT_MASKS, A.PORT, A.SHAPE_GATE_POS, A.SHAPE]
    omega
  · exact (frame_gatePlace s p).get (by simp [F.SHAPE_GATE_GUARD_GUARD]) (gateWords_apart p).2.2.2.1

/-- What a move of the gates to NOW's place leaves (R209, R213). -/
theorem gateMove_spec (h : s.gateActive p = true) :
    (s.gateMove p).port p = { s.port p with gateCycle := s.gateCycleNo p } ∧
    (s.gateMove p).get (F.SHAPE_GATE_POS_ENTRY p) = (gateFind (s.gateList p (s.gateBank p)) 0 (s.gateOffset p)).1 ∧
    (s.gateMove p).gateBank p = s.gateBank p ∧
    (s.gateMove p).rd64 (A.SHAPE_GATE_CYCLES p) =
      (s.rd64 (A.SHAPE_GATE_CYCLES p) + (s.gateCycleNo p - (s.port p).gateCycle)) % 2 ^ 64 ∧
    (s.gateMove p).rd64 (A.SHAPE_GUARD_HOLDS p) = (s.rd64 (A.SHAPE_GUARD_HOLDS p) +
      if (List.range 6).any (s.gateNofit p) then s.gateCycleNo p - (s.port p).gateCycle else 0) % 2 ^ 64 ∧
    Frame s (s.gateMove p) [.ports, .flt] fun a => a = A.SHAPE_GATE_POS p ∨ gateMoveWords p a := by
  have hplace := frame_gatePlace s p
  have hcount := frame_countCycles (s.gatePlace p) p (s.gateCycleNo p - (s.port p).gateCycle)
  have hpos := (gateWords_apart p).2.2.2.2
  have hcyc : ∀ a, pairWords (A.SHAPE_GATE_CYCLES p) a ∨ pairWords (A.SHAPE_GUARD_HOLDS p) a → a ≠ A.SHAPE_GATE_POS p :=
    fun a ha e => hpos (e ▸ ha.imp id .inl)
  unfold gateMove
  refine ⟨?_, ?_, ?_, ?_, ?_, (hplace.mono (by simp) fun _ => .inl).trans (hcount.mono (by simp) fun _ => .inr)⟩
  · rw [hcount.port (by simp), port_gatePlace]
  · rw [hcount.get (by simp [F.SHAPE_GATE_POS_ENTRY]) hpos, entry_gatePlace h]
  · rw [hcount.gateBank hpos, gateBank_gatePlace]
  · rw [cycles_countCycles, hplace.rd64 (hcyc _ (.inl (.inl rfl))) (hcyc _ (.inl (.inr rfl)))]
  · rw [holds_countCycles, hplace.rd64 (hcyc _ (.inr (.inl rfl))) (hcyc _ (.inr (.inr rfl))), nofit_gatePlace]

theorem drivePins_port (s : State) (p : Nat) : s.drivePins.port p = s.port p := rfl

theorem gateBank_drivePins (s : State) (p : Nat) : s.drivePins.gateBank p = s.gateBank p := get_drivePins ..

/-- Marking the gates as running at their base leaves what decides them. -/
theorem sameGates_setPort (s : State) (p : Nat) {x : PortHid} (hx : x.gating = (s.port p).gating) : SameGates p s (s.setPort p x) where
  len _ := by unfold gateLen; simp
  list _ := by unfold gateList gateLen; simp
  bank := by unfold gateBank; simp
  base := by simp
  en := by simp
  gating := by rw [port_setPort_same, hx]
  time := rfl

/-- The request of a swap shares no bit with GATE_EN. -/
theorem sameGates_clearPending (s : State) (p : Nat) : SameGates p s (s.put (F.SHAPE_GATE_CTL_SWAP_PENDING p) 0) := by
  have hf : Frame s (s.put (F.SHAPE_GATE_CTL_SWAP_PENDING p) 0) [] (· = A.SHAPE_GATE_CTL p) :=
    (Frame.refl ..).put rfl (by decide : 8 + 1 ≤ 32)
  have hbase : A.SHAPE_GATE_BASE p ≠ A.SHAPE_GATE_CTL p ∧ A.SHAPE_GATE_BASE p + 4 ≠ A.SHAPE_GATE_CTL p := by
    simp only [A.SHAPE_GATE_BASE, A.SHAPE_GATE_CTL]; omega
  exact {
    len := hf.gateLen fun _ ha => (gateTable_of_word ha).1
    list := hf.gateList fun _ ha => (gateTable_of_word ha).1
    bank := hf.gateBank (gateWords_apart p).2.2.1.symm
    base := hf.get64 hbase.1 hbase.2
    en := by
      unfold flag
      rw [get_put_bits _ (F.SHAPE_GATE_CTL_SWAP_PENDING p) (F.SHAPE_GATE_CTL_GATE_EN p) _ (by decide : 8 + 1 ≤ 32)
        (by decide : 0 + 1 ≤ 32) rfl (.inl (by decide : 0 + 1 ≤ 8))]
    gating := by rw [hf.port (by simp)]
    time := hf.1 .time (by simp) }

theorem swapWords_apart (p : Nat) : ¬ gateMoveWords p (A.SHAPE_GATE_CTL p) ∧ A.SHAPE_GATE_CTL p ≠ A.SHAPE_GATE_POS p ∧
    ¬ pairWords (A.SHAPE_GATE_BASE p) (A.SHAPE_GATE_CTL p) ∧ ¬ pairWords (A.SHAPE_GATE_BASE p) (A.SHAPE_GATE_POS p) := by
  simp only [gateMoveWords, pairWords, causeWords, A.SHAPE_GATE_CTL, A.SHAPE_GATE_BASE, A.SHAPE_GATE_POS, A.SHAPE_GATE_CYCLES,
    A.SHAPE_GUARD_HOLDS]
  omega

/-- The counter of cycles lies apart from the words that a swap writes. -/
theorem cycles_apart {p a : Nat} (h : pairWords (A.SHAPE_GATE_CYCLES p) a) :
    a ≠ A.SHAPE_GATE_CTL p ∧ a ≠ A.SHAPE_GATE_POS p ∧ ¬ pairWords (A.SHAPE_GATE_BASE p) a := by
  simp only [pairWords, A.SHAPE_GATE_CTL, A.SHAPE_GATE_BASE, A.SHAPE_GATE_POS, A.SHAPE_GATE_CYCLES] at h ⊢
  omega

/-- What a swap of the banks at a cycle start leaves (R211). -/
def swapped (s : State) (p b start n : Nat) : State :=
  ((((((s.put (F.SHAPE_GATE_CTL_SWAP_PENDING p) 0).countCycles p n).put (F.SHAPE_GATE_POS_BANK p) b).put
    (F.SHAPE_GATE_POS_ENTRY p) 0).put (F.SHAPE_GATE_BASE_BASE p) start).setPort p
      { s.port p with gateRunning := true, gateCycle := 0 })

theorem swapped_spec (s : State) (p start n : Nat) {b : Nat} (hb : b < 2) :
    (s.swapped p b start n).flag (F.SHAPE_GATE_CTL_SWAP_PENDING p) = false ∧ (s.swapped p b start n).gateBank p = b ∧
    (s.swapped p b start n).get (F.SHAPE_GATE_POS_ENTRY p) = 0 ∧
    (s.swapped p b start n).get (F.SHAPE_GATE_BASE_BASE p) = start % 2 ^ 64 ∧
    ((s.swapped p b start n).port p).gateRunning = true ∧ ((s.swapped p b start n).port p).gateCycle = 0 ∧
    (s.swapped p b start n).rd64 (A.SHAPE_GATE_CYCLES p) = (s.rd64 (A.SHAPE_GATE_CYCLES p) + n) % 2 ^ 64 := by
  obtain ⟨hctl, hctlPos, hctlBase, hposBase⟩ := swapWords_apart p
  have hcyc : pairWords (A.SHAPE_GATE_CYCLES p) (A.SHAPE_GATE_CYCLES p) ∧ pairWords (A.SHAPE_GATE_CYCLES p) (A.SHAPE_GATE_CYCLES p + 4) :=
    ⟨.inl rfl, .inr rfl⟩
  unfold swapped
  generalize h1 : s.put (F.SHAPE_GATE_CTL_SWAP_PENDING p) 0 = s1
  generalize h2 : s1.countCycles p n = s2
  generalize h3 : s2.put (F.SHAPE_GATE_POS_BANK p) b = s3
  generalize h4 : s3.put (F.SHAPE_GATE_POS_ENTRY p) 0 = s4
  generalize h5 : s4.put (F.SHAPE_GATE_BASE_BASE p) start = s5
  have f1 : Frame s s1 [] (· = A.SHAPE_GATE_CTL p) := h1 ▸ (Frame.refl ..).put rfl (by decide : 8 + 1 ≤ 32)
  have f2 : Frame s1 s2 [.flt] (gateMoveWords p) := h2 ▸ frame_countCycles s1 p n
  have f3 : Frame s2 s3 [] (· = A.SHAPE_GATE_POS p) := h3 ▸ (Frame.refl ..).put rfl (by decide : 8 + 1 ≤ 32)
  have f4 : Frame s3 s4 [] (· = A.SHAPE_GATE_POS p) := h4 ▸ (Frame.refl ..).put rfl (by decide : 0 + 6 ≤ 32)
  have f5 : Frame s4 s5 [] (pairWords (A.SHAPE_GATE_BASE p)) := h5 ▸ (Frame.refl ..).put64 (.inl rfl) (.inr rfl)
  have f34 : Frame s2 s4 [] (· = A.SHAPE_GATE_POS p) := f3.trans f4
  refine ⟨?_, ?_, ?_, ?_, ?_, ?_, ?_⟩
  · have hzero : s1.flag (F.SHAPE_GATE_CTL_SWAP_PENDING p) = false := by
      unfold flag; rw [← h1, get_put_same _ _ _ (by decide : 8 + 1 ≤ 32)]; rfl
    rw [flag_setPort, f5.flag (by decide : 8 + 1 ≤ 32) hctlBase, f34.flag (by decide : 8 + 1 ≤ 32) hctlPos,
      f2.flag (by decide : 8 + 1 ≤ 32) hctl, hzero]
  · have hbank : s3.gateBank p = b := by
      unfold gateBank
      rw [← h3, get_put_same _ _ _ (by decide : 8 + 1 ≤ 32)]
      exact Nat.mod_eq_of_lt hb
    unfold gateBank
    rw [get_setPort]
    change s5.gateBank p = b
    rw [f5.gateBank hposBase, ← h4, gateBank_put_entry, hbank]
  · rw [get_setPort, f5.get (by decide : 0 + 6 ≤ 32) hposBase, ← h4, get_put_same _ _ _ (by decide : 0 + 6 ≤ 32)]
    rfl
  · rw [get_setPort, ← h5]
    exact get_put_pair ..
  · rw [port_setPort_same]
  · rw [port_setPort_same]
  · rw [rd64_setPort, f5.rd64 (cycles_apart hcyc.1).2.2 (cycles_apart hcyc.2).2.2,
      f34.rd64 (cycles_apart hcyc.1).2.1 (cycles_apart hcyc.2).2.1, ← h2, cycles_countCycles,
      f1.rd64 (cycles_apart hcyc.1).1 (cycles_apart hcyc.2).1]

end State

theorem completes_gateBaseReached (hp : p < 256) (hact : s.gateActive p = true) (hrun : (s.port p).gateRunning = false) :
    Completes (.gateBaseReached p) s fun t =>
      (t.port p).gateRunning = true ∧ (t.port p).gateCycle = s.gateCycleNo p ∧
      t.get (F.SHAPE_GATE_POS_ENTRY p) = (gateFind (s.gateList p (s.gateBank p)) 0 (s.gateOffset p)).1 ∧
      t.rd64 (A.SHAPE_GATE_CYCLES p) = (s.rd64 (A.SHAPE_GATE_CYCLES p) + s.gateCycleNo p) % 2 ^ 64 ∧
      t.gateBank p = s.gateBank p := by
  refine completes_of_finish (f := fun t => t.gateBegin p) rfl (decide_eq_true hp) ?_
  unfold State.gateBegin
  rw [if_pos (by simp [hact, hrun])]
  generalize hu : s.setPort p { s.port p with gateRunning := true, gateCycle := 0 } = u
  have hsame : SameGates p s u := hu ▸ State.sameGates_setPort s p rfl
  have hport : u.port p = { s.port p with gateRunning := true, gateCycle := 0 } := hu ▸ State.port_setPort_same ..
  have hrd : u.rd64 (A.SHAPE_GATE_CYCLES p) = s.rd64 (A.SHAPE_GATE_CYCLES p) := hu ▸ State.rd64_setPort ..
  obtain ⟨h1, h2, h3, h4, _, _⟩ := State.gateMove_spec (hsame.active.trans hact)
  refine ⟨?_, ?_, ?_, ?_, ?_⟩
  · rw [State.drivePins_port, h1, hport]
  · rw [State.drivePins_port, h1, hsame.cycleNo]
  · rw [State.get_drivePins, h2, hsame.list, hsame.bank, hsame.offset]
  · rw [State.rd64_drivePins, h4, hport, hsame.cycleNo, hrd, Nat.sub_zero]
  · rw [State.gateBank_drivePins, h3, hsame.bank]

theorem completes_gateEntryAdvance (hp : p < 256) (hact : s.gateActive p = true) (hrun : (s.port p).gateRunning = true) :
    Completes (.gateEntryAdvance p) s fun t =>
      (t.port p).gateCycle = s.gateCycleNo p ∧
      t.get (F.SHAPE_GATE_POS_ENTRY p) = (gateFind (s.gateList p (s.gateBank p)) 0 (s.gateOffset p)).1 ∧
      t.rd64 (A.SHAPE_GATE_CYCLES p) =
        (s.rd64 (A.SHAPE_GATE_CYCLES p) + (s.gateCycleNo p - (s.port p).gateCycle)) % 2 ^ 64 ∧
      t.rd64 (A.SHAPE_GUARD_HOLDS p) = (s.rd64 (A.SHAPE_GUARD_HOLDS p) +
        if (List.range 6).any (s.gateNofit p) then s.gateCycleNo p - (s.port p).gateCycle else 0) % 2 ^ 64 ∧
      Frame s t [.ports, .flt] (fun a => a = A.SHAPE_GATE_POS p ∨ pairWords (A.SHAPE_GATE_CYCLES p) a ∨
        pairWords (A.SHAPE_GUARD_HOLDS p) a ∨ causeWords (A.SHAPE p) a) := by
  refine completes_of_finish (f := fun t => t.gateAdvance p) rfl (decide_eq_true hp) ?_
  unfold State.gateAdvance
  rw [if_pos (by simp [hact, hrun])]
  obtain ⟨h1, h2, _, h4, h5, h6⟩ := State.gateMove_spec hact
  refine ⟨?_, ?_, ?_, ?_, h6.drivePins⟩
  · rw [State.drivePins_port, h1]
  · rw [State.get_drivePins, h2]
  · rw [State.rd64_drivePins, h4]
  · rw [State.rd64_drivePins, h5]

/-- The first start of a cycle at or after the instant from which a pending swap may take place. -/
def State.swapStart (s : State) (p : Nat) : Nat :=
  s.get (F.SHAPE_GATE_BASE_BASE p) + ((s.swapFrom p - s.get (F.SHAPE_GATE_BASE_BASE p) +
    gateCycleNs (s.gateList p (s.gateBank p)) - 1) / gateCycleNs (s.gateList p (s.gateBank p))) *
      gateCycleNs (s.gateList p (s.gateBank p))

section
variable (hpend : s.flag (F.SHAPE_GATE_CTL_SWAP_PENDING p) = true) (hact : s.gateActive p = true) (hdue : s.swapStart p ≤ s.time.ns)
include hpend hact hdue

theorem State.gateSwap_valid (hok : s.gateBankOk p (1 - s.gateBank p) = true) : s.gateSwap p = s.swapped p (1 - s.gateBank p)
    (s.swapStart p) ((s.swapStart p - s.get (F.SHAPE_GATE_BASE_BASE p)) / gateCycleNs (s.gateList p (s.gateBank p)) -
      (s.port p).gateCycle) := by
  unfold State.swapStart at hdue
  unfold State.gateSwap
  rw [if_pos (by simp [hpend, hact])]
  dsimp only
  rw [if_pos hdue, if_pos hok]
  rfl

theorem State.gateSwap_invalid (hbad : s.gateBankOk p (1 - s.gateBank p) = false) :
    s.gateSwap p = (s.put (F.SHAPE_GATE_CTL_SWAP_PENDING p) 0).raise .SHAPE p 0 K.SHAPE_GATE_INVALID := by
  unfold State.swapStart at hdue
  unfold State.gateSwap
  rw [if_pos (by simp [hpend, hact])]
  dsimp only
  rw [if_pos hdue, if_neg (by simp [hbad])]

theorem completes_gateSwap (hp : p < 256) : Completes (.gateSwap p) s fun t =>
    t.flag (F.SHAPE_GATE_CTL_SWAP_PENDING p) = false ∧
    (s.gateBankOk p (1 - s.gateBank p) = true → t.gateBank p = 1 - s.gateBank p ∧
      t.get (F.SHAPE_GATE_POS_ENTRY p) = 0 ∧ t.get (F.SHAPE_GATE_BASE_BASE p) = s.swapStart p % 2 ^ 64 ∧
      (t.port p).gateRunning = true ∧ (t.port p).gateCycle = 0 ∧
      t.rd64 (A.SHAPE_GATE_CYCLES p) =
        (s.rd64 (A.SHAPE_GATE_CYCLES p) + ((s.swapStart p - s.get (F.SHAPE_GATE_BASE_BASE p)) /
          gateCycleNs (s.gateList p (s.gateBank p)) - (s.port p).gateCycle)) % 2 ^ 64) ∧
    (s.gateBankOk p (1 - s.gateBank p) = false → t.gateBank p = s.gateBank p ∧
      t.causeBit .SHAPE p 0 K.SHAPE_GATE_INVALID = true) := by
  refine completes_of_finish (f := fun t => t.gateSwap p) rfl (decide_eq_true hp) ?_
  simp only [State.flag_drivePins, State.gateBank_drivePins, State.get_drivePins, State.drivePins_port, State.rd64_drivePins,
    State.causeBit_drivePins]
  cases hok : s.gateBankOk p (1 - s.gateBank p)
  · have hcause := State.frame_raiseShape (s.put (F.SHAPE_GATE_CTL_SWAP_PENDING p) 0) p K.SHAPE_GATE_INVALID
    rw [State.gateSwap_invalid hpend hact hdue hok]
    refine ⟨?_, fun h => absurd h (by decide), fun _ => ⟨?_, State.causeBit_raiseShape _ p (by decide)⟩⟩
    · rw [hcause.flag (by decide : 8 + 1 ≤ 32) fun h => (State.swapWords_apart p).1 (.inr (.inr h))]
      unfold State.flag
      rw [State.get_put_same _ _ _ (by decide : 8 + 1 ≤ 32)]
      rfl
    · rw [hcause.gateBank fun h => (State.gateWords_apart p).2.2.2.2 (.inr (.inr h)), (State.sameGates_clearPending s p).bank]
  · rw [State.gateSwap_valid hpend hact hdue hok]
    obtain ⟨h1, h2, h3, h4, h5, h6, h7⟩ := State.swapped_spec s p (s.swapStart p)
      ((s.swapStart p - s.get (F.SHAPE_GATE_BASE_BASE p)) / gateCycleNs (s.gateList p (s.gateBank p)) - (s.port p).gateCycle)
      (show 1 - s.gateBank p < 2 by omega)
    exact ⟨h1, fun _ => ⟨h2, h3, h4, h5, h6, h7⟩, fun h => absurd h (by decide)⟩

end

/-! ### GATE_EN and SWAP_AT written (R210, R211) -/

/-- The location of a port's GATE_CTL. -/
def gateCtlLoc (p : Nat) : Loc := ⟨.SHAPE, p, 0, ⟨132, 0x58, 0x0, 1, 0x0, 1, 1, .rw, [0x1], [], [], [], false⟩, 0, 0, 0⟩

/-- The location of a word of a port's SWAP_AT. -/
def swapAtLoc (p w : Nat) : Loc :=
  ⟨.SHAPE, p, 0, ⟨135, 0x68, 0x0, 1, 0x0, 1, 2, .ent, [0xFFFFFFFF, 0xFFFFFFFF], [], [], [], false⟩, 0, 0, w⟩

theorem shape_find (hp : p < 256) {off : Nat} (h : off < 0x1000) : Blk.SHAPE.find (A.SHAPE p + off) = some (p, 0, off) := by
  have ha : A.SHAPE p + off = Blk.SHAPE.page p 0 + off := by simp [A.SHAPE, Blk.page, Blk.info]
  rw [ha]
  exact Blk.find_page hp (by decide) h h h

theorem locate_gateCtl (hp : p < 256) : locate (A.SHAPE_GATE_CTL p) = some (gateCtlLoc p) :=
  locate_of_find (by decide) (shape_find hp (by decide : 0x58 < 0x1000)) rfl

theorem locate_swapAt (hp : p < 256) : locate (A.SHAPE_SWAP_AT p) = some (swapAtLoc p 0) :=
  locate_of_find (by decide) (shape_find hp (by decide : 0x68 < 0x1000)) rfl

theorem locate_swapAt_high (hp : p < 256) : locate (A.SHAPE_SWAP_AT p + 4) = some (swapAtLoc p 1) := by
  have ha : A.SHAPE_SWAP_AT p + 4 = A.SHAPE p + 0x6C := by simp only [A.SHAPE_SWAP_AT]
  rw [ha]
  exact locate_of_find (by decide) (shape_find hp (by decide : 0x6C < 0x1000)) rfl

theorem shape_not_access {a : Nat} (h : A.SHAPE p ≤ a) : ¬ accessWord a := by
  simp only [accessWord, pairWords, A.TOP_ACCESS_CONSORT, A.TOP_ACCESS_SIDING, A.TOP, A.SHAPE] at h ⊢
  omega

/-- What GATE_EN written 1 leaves in a state in which it reads 1. -/
theorem gateCtlWritten_spec (hen : s.flag (F.SHAPE_GATE_CTL_GATE_EN p) = true) :
    ((s.gateCtlWritten p).port p).gating = s.gateBankOk p (s.gateBank p) ∧
    ((s.gateCtlWritten p).port p).gateRunning =
      ((s.port p).gating && s.gateBankOk p (s.gateBank p) && (s.port p).gateRunning) ∧
    (s.gateBankOk p (s.gateBank p) = false → (s.gateCtlWritten p).causeBit .SHAPE p 0 K.SHAPE_GATE_INVALID = true) ∧
    Frame s (s.gateCtlWritten p) [.ports, .flt] (causeWords (A.SHAPE p)) := by
  have hset : ∀ x, Frame s (s.setPort p x) [.ports, .flt] (causeWords (A.SHAPE p)) := fun x => (Frame.refl ..).setPort (by simp)
  unfold State.gateCtlWritten State.gateEnable
  simp only [hen, Bool.not_true, Bool.false_eq_true, if_false]
  cases hok : s.gateBankOk p (s.gateBank p)
  · have hraise := State.frame_raiseShape (s.setPort p { s.port p with gating := false, gateRunning := false }) p K.SHAPE_GATE_INVALID
    simp only [Bool.false_eq_true, and_false, if_false, Bool.and_false, Bool.false_and]
    rw [hraise.port (by simp), State.port_setPort_same]
    exact ⟨rfl, rfl, fun _ => State.causeBit_raiseShape _ p (by decide), (hset _).trans (hraise.mono (by simp) fun _ h => h)⟩
  · cases hg : (s.port p).gating
    · simp [State.port_setPort_same, hset]
    · simp [hg, Frame.refl]

theorem writeWord_gateCtl (s : State) (m : Master) (v : Word) (ev : Nat × Nat) :
    s.writeWord m (gateCtlLoc p) (A.SHAPE_GATE_CTL p) v ev =
      (s.wr (A.SHAPE_GATE_CTL p) (merged 1 (s.rd (A.SHAPE_GATE_CTL p)) v.toNat)).gateCtlWritten p := by
  unfold State.writeWord State.writeRw
  simp [gateCtlLoc, State.storeMask]

theorem completes_gateEnable {m : Master} (hp : p < 256) (hg : s.grants m (A.SHAPE_GATE_CTL p) 1 = true) :
    Completes (.gateEnable m p) s fun t =>
      t.flag (F.SHAPE_GATE_CTL_GATE_EN p) = true ∧ (t.port p).gating = s.gateBankOk p (s.gateBank p) ∧
      (t.port p).gateRunning = ((s.port p).gating && s.gateBankOk p (s.gateBank p) && (s.port p).gateRunning) ∧
      (s.gateBankOk p (s.gateBank p) = false → t.causeBit .SHAPE p 0 K.SHAPE_GATE_INVALID = true) ∧
      Frame s t [.ports, .flt] (fun a => a = A.SHAPE_GATE_CTL p ∨ causeWords (A.SHAPE p) a ∨ topWords a) := by
  have hl := locate_gateCtl hp
  refine completes_busCmd (v := 1) rfl (decide_eq_true hp) (State.target_of_grants hg).1 (State.target_of_grants_locate hg hl) rfl ?_
  rw [writeWord_gateCtl]
  generalize ht : (s.countAccess (masterCode m)).wr _ _ = t
  have hf : Frame s t [] fun a => a = A.SHAPE_GATE_CTL p ∨ accessWord a :=
    ht ▸ ((State.frame_countAccess s _).mono (fun _ h => h) fun _ => .inr).wr (.inl rfl)
  have hen : t.flag (F.SHAPE_GATE_CTL_GATE_EN p) = true := by
    unfold State.flag
    rw [← ht, F.SHAPE_GATE_CTL_GATE_EN, State.get_wr_low _ _ _ (by decide)]
    exact merged_one ((s.countAccess (masterCode m)).word (A.SHAPE_GATE_CTL p)) 1
  have htable : ∀ a, gateTable p a → ¬ (a = A.SHAPE_GATE_CTL p ∨ accessWord a) := fun a ha => by
    rintro (h | h)
    · exact (gateTable_of_word ha).1 h
    · exact shape_not_access (by rcases ha with rfl | h; exacts [Nat.le_add_right .., by omega]) h
  have hbank : t.gateBank p = s.gateBank p := hf.gateBank (by
    rintro (h | h)
    · exact (State.gateWords_apart p).2.2.1 h.symm
    · exact shape_not_access (Nat.le_add_right ..) h)
  have hok : t.gateBankOk p (t.gateBank p) = s.gateBankOk p (s.gateBank p) := by
    unfold State.gateBankOk
    rw [hbank, hf.gateLen htable, hf.gateList htable]
  have hport : t.port p = s.port p := hf.port (by simp) p
  obtain ⟨h1, h2, h3, h4⟩ := gateCtlWritten_spec hen
  rw [hok] at h1 h2 h3
  rw [hport] at h2
  refine ⟨?_, ?_, ?_, fun h => ?_, ((hf.mono (by simp) ?_).trans (h4.mono (fun _ h => h) fun _ h => .inr (.inl h))).drivePins⟩
  · rw [State.flag_drivePins, h4.flag (by decide : 0 + 1 ≤ 32) fun h => (State.swapWords_apart p).1 (.inr (.inr h)), hen]
  · rw [State.drivePins_port, h1]
  · rw [State.drivePins_port, h2]
  · rw [State.causeBit_drivePins, h3 h]
  · rintro a (ha | ha)
    exacts [.inl ha, .inr (.inr (topWords_of_accessWord ha))]

end Sys2Proof.Machine
end

section
/-! CERTIFICATE. The swap of gate lists requested (R37, R211). -/

namespace Sys2Proof.Machine

variable {s t : State} {p : Nat}

/-- The words that the bus itself reads. -/
def busWords (b : Nat) : Prop := b = A.TOP + 12 ∨ (A.PROT ≤ b ∧ b < A.PROT + 0x1000)

theorem not_busWords_of_accessWord {b : Nat} (h : accessWord b) : ¬ busWords b := by
  unfold accessWord pairWords at h
  simp only [A.TOP_ACCESS_CONSORT, A.TOP_ACCESS_SIDING, A.TOP] at h
  simp only [busWords, A.TOP, A.PROT]
  omega

theorem busWords_region {i : Nat} (hi : i < 32) :
    busWords (A.PROT_REGION_RIGHTS i) ∧ busWords (A.PROT_REGION_BASE i) ∧ busWords (A.PROT_REGION_LIMIT i) := by
  simp only [busWords, A.PROT_REGION_RIGHTS, A.PROT_REGION_BASE, A.PROT_REGION_LIMIT]
  omega

/-- What the regions grant depends on their words. -/
theorem State.regionsGrant_congr (h : ∀ b, busWords b → t.rd b = s.rd b) (m : Master) (a : Nat) (w : Bool) :
    t.regionsGrant m a w = s.regionsGrant m a w := by
  unfold State.regionsGrant
  rw [Bool.eq_iff_iff, List.all_eq_true, List.all_eq_true]
  refine forall₂_congr fun i hi => ?_
  obtain ⟨h1, h2, h3⟩ := busWords_region (List.mem_range.1 hi)
  rw [h _ h1, h _ h2, h _ h3]

/-- What the bus decides about an access outside the lane pages and the domains that can be gated depends on the words that it
reads, the siding link and the parts fitted. -/
theorem State.busCheck_congr {m : Master} {a v : Nat} {l : Loc} {P : List Part} {W : Nat → Prop} (hf : Frame s t P W)
    (hP : .asm ∉ P ∧ .sid ∉ P) (hW : ∀ b, W b → ¬ busWords b) (hl : locate a = some l)
    (hdom : l.domain = none) (hlane : l.blk ≠ .LANE) : t.busCheck m a 32 v true = s.busCheck m a 32 v true := by
  have hasm : t.asm = s.asm := hf.1 .asm hP.1
  have hsid : t.sid = s.sid := hf.1 .sid hP.2
  have hrd : ∀ b, busWords b → t.rd b = s.rd b := fun b hb => hf.2 b fun h => hW b h hb
  have hserved : t.sidingServed a v true = s.sidingServed a v true := by unfold State.sidingServed; rw [hsid]
  have habsent : t.absentAt a = s.absentAt a := by unfold State.absentAt; rw [hasm]
  have hgrant : ∀ w, t.regionsGrant m a w = s.regionsGrant m a w := State.regionsGrant_congr hrd m a
  have hlock : t.flag F.PROT_LOCK_LOCKED = s.flag F.PROT_LOCK_LOCKED := by
    unfold State.flag State.get
    rw [if_pos (by decide), if_pos (by decide), hrd _ (by unfold busWords; decide)]
  have hpll : t.flag F.TOP_STATE_CORE_PLL_LOCK = s.flag F.TOP_STATE_CORE_PLL_LOCK :=
    hf.flag (by decide) fun h => hW _ h (.inl rfl)
  have hgated : ∀ u : State, u.locGated l = false := fun u => by unfold State.locGated; simp [hdom, hlane]
  unfold State.busCheck
  rw [hserved, habsent, hgrant, hl]
  simp only [hlock, hpll, hgated]

theorem State.busCmd_target {m : Master} {a n : Nat} {l : Loc} (hon : s.pow.hotSwap = true)
    (hc : s.busCheck m a 32 (BitVec.ofNat 32 n).toNat true = .target l) (hs : l.sectionNo = none) :
    s.busCmd m a n = (s.countAccess (masterCode m)).writeWord m l a (BitVec.ofNat 32 n) (0, 0) := by
  unfold State.busCmd
  rw [if_pos hon, busWrite_reaches hc hs]

/-- A mask of all bits stores the value. -/
theorem merged_all (x v : Word) : merged 0xFFFFFFFF x.toNat v.toNat = v.toNat := by
  rw [merged_toNat]
  congr 1
  simp only [BitVec.reduceNot, BitVec.and_zero, BitVec.zero_or]
  exact BitVec.and_allOnes

theorem entry_swapAt (p w : Nat) : (swapAtLoc p w).entry = A.SHAPE_SWAP_AT p := by
  simp [Loc.entry, swapAtLoc, Blk.page, Blk.info, A.SHAPE_SWAP_AT, A.SHAPE]

theorem State.lowWords_of_staged {l : Loc} {x : Staging} (h : s.staged m l = some x) : s.lowWords m l = x.words := by
  unfold lowWords; rw [h]

/-- Both words of SWAP_AT have one staging register. -/
theorem State.staged_swapAt_congr (s : State) (m : Master) (p : Nat) : s.staged m (swapAtLoc p 0) = s.staged m (swapAtLoc p 1) := by
  unfold staged; rw [entry_swapAt, entry_swapAt]; rfl

theorem State.commit_swapAt (s : State) (m : Master) (p : Nat) (v : Word) (ev : Nat × Nat) (a : Nat) :
    s.writeWord m (swapAtLoc p 1) a v ev = ((s.unstage m (swapAtLoc p 1)).storeEntry (swapAtLoc p 1).entry
      [0xFFFFFFFF, 0xFFFFFFFF] (s.lowWords m (swapAtLoc p 1) ++ [v]) 2).requestSwap p := by
  unfold writeWord commitEntry committed
  simp [swapAtLoc]
  rfl

theorem State.swapFrom_drivePins (s : State) (p : Nat) : s.drivePins.swapFrom p = s.swapFrom p := by
  unfold State.swapFrom; rw [get_drivePins]; rfl

/-- What SWAP_AT stored and the swap requested leave. -/
theorem State.requestSwap_spec (s : State) (p : Nat) (v w : Word) :
    let t := (s.storeEntry (A.SHAPE_SWAP_AT p) [0xFFFFFFFF, 0xFFFFFFFF] [v, w] 2).requestSwap p
    t.get (F.SHAPE_SWAP_AT_AT p) = v.toNat + 2 ^ 32 * w.toNat ∧ t.flag (F.SHAPE_GATE_CTL_SWAP_PENDING p) = true ∧
      t.swapFrom p = max (v.toNat + 2 ^ 32 * w.toNat) s.time.ns ∧
      Frame s t [.ports] fun a => pairWords (A.SHAPE_SWAP_AT p) a ∨ a = A.SHAPE_GATE_CTL p := by
  intro t
  have hstore := frame_storeEntry s (A.SHAPE_SWAP_AT p) [0xFFFFFFFF, 0xFFFFFFFF] [v, w] 2
  have hlow := rd_storeEntry s (A.SHAPE_SWAP_AT p) [0xFFFFFFFF, 0xFFFFFFFF] [v, w] (k := 0) (n := 2) (by decide)
  have hhigh := rd_storeEntry s (A.SHAPE_SWAP_AT p) [0xFFFFFFFF, 0xFFFFFFFF] [v, w] (k := 1) (n := 2) (by decide)
  generalize hu : s.storeEntry (A.SHAPE_SWAP_AT p) [0xFFFFFFFF, 0xFFFFFFFF] [v, w] 2 = u at hstore hlow hhigh
  have ht : t = (u.setPort p { u.port p with swapFrom := u.time.ns }).put (F.SHAPE_GATE_CTL_SWAP_PENDING p) 1 := by rw [← hu]; rfl
  have hreq : Frame u t [.ports] (· = A.SHAPE_GATE_CTL p) :=
    ht ▸ ((Frame.refl u [.ports] (· = A.SHAPE_GATE_CTL p)).setPort (by simp)).put rfl (by decide : 8 + 1 ≤ 32)
  have hne : A.SHAPE_SWAP_AT p ≠ A.SHAPE_GATE_CTL p ∧ A.SHAPE_SWAP_AT p + 4 ≠ A.SHAPE_GATE_CTL p := by
    simp only [A.SHAPE_SWAP_AT, A.SHAPE_GATE_CTL]; omega
  have hat : t.get (F.SHAPE_SWAP_AT_AT p) = v.toNat + 2 ^ 32 * w.toNat := by
    rw [hreq.get64 hne.1 hne.2]
    refine (get_pair ..).trans ?_
    unfold rd64
    rw [Nat.mul_zero, Nat.add_zero] at hlow
    rw [hlow, hhigh]
    change merged 0xFFFFFFFF (s.word _).toNat v.toNat + 2 ^ 32 * merged 0xFFFFFFFF (s.word _).toNat w.toNat = _
    rw [merged_all, merged_all]
  have hport : (t.port p).swapFrom = s.time.ns := by
    rw [← show u.time = s.time from hstore.1 .time (by simp)]
    have hp : t.ports = (u.setPort p { u.port p with swapFrom := u.time.ns }).ports := by rw [ht, put_ports]
    unfold State.port
    rw [hp]
    exact congrArg PortHid.swapFrom (port_setPort_same ..)
  refine ⟨hat, ?_, ?_, ?_⟩
  · unfold flag
    rw [ht, get_put_same _ _ _ (by decide : 8 + 1 ≤ 32)]
    rfl
  · unfold State.swapFrom
    rw [hat, hport]
  · refine (hstore.mono (by simp) ?_).trans (hreq.mono (fun _ h => h) fun _ => .inr)
    rintro a ⟨k, hk, rfl⟩
    have : k = 0 ∨ k = 1 := by omega
    rcases this with rfl | rfl
    exacts [.inl (.inl rfl), .inl (.inr rfl)]

section
variable {m : Master} {lo hi : Nat} (hp : p < 256)
include hp

/-- The lower word of SWAP_AT waits in the staging register (R37). -/
theorem State.busCmd_swapAt_low (hg : s.grants m (A.SHAPE_SWAP_AT p) (BitVec.ofNat 32 lo) = true) :
    s.busCmd m (A.SHAPE_SWAP_AT p) lo = (s.countAccess (masterCode m)).stage m (swapAtLoc p 0) (BitVec.ofNat 32 lo) := by
  rw [busCmd_target (target_of_grants hg).1 (target_of_grants_locate hg (locate_swapAt hp)) rfl]
  rfl

/-- The state after the lower word of SWAP_AT. -/
theorem State.swapAt_staged (hg : s.grants m (A.SHAPE_SWAP_AT p) (BitVec.ofNat 32 lo) = true)
    (hst : ∀ x ∈ s.staging, x.entry = A.SHAPE_SWAP_AT p → x.words.length = 1) :
    (s.busCmd m (A.SHAPE_SWAP_AT p) lo).staged m (swapAtLoc p 1) = some ⟨m, .SHAPE, A.SHAPE_SWAP_AT p, [BitVec.ofNat 32 lo]⟩ ∧
      Frame s (s.busCmd m (A.SHAPE_SWAP_AT p) lo) [.staging] accessWord := by
  have hacc := frame_countAccess s (masterCode m)
  have hstaging : (s.countAccess (masterCode m)).staging = s.staging := hacc.1 .staging (by simp)
  have hlen : ((s.countAccess (masterCode m)).lowWords m (swapAtLoc p 0)).length = 1 := by
    cases hx : (s.countAccess (masterCode m)).staged m (swapAtLoc p 0) with
    | some x =>
      have hmem := List.mem_of_find?_eq_some hx
      have hent := List.find?_some hx
      simp only [Bool.and_eq_true, beq_iff_eq, entry_swapAt] at hent
      rw [lowWords_of_staged hx]
      exact hst x (hstaging ▸ hmem) hent.2
    | none =>
      unfold lowWords
      rw [hx]
      rfl
  obtain ⟨x, hx⟩ := List.length_eq_one_iff.1 hlen
  have hsame := staged_stage_same (s.countAccess (masterCode m)) m (swapAtLoc p 0) (BitVec.ofNat 32 lo)
  rw [hx, entry_swapAt] at hsame
  rw [busCmd_swapAt_low hp hg]
  refine ⟨?_, (hacc.mono (by simp) fun _ h => h).trans ((frame_stage ..).mono (fun _ h => h) fun _ => False.elim)⟩
  rw [← State.staged_swapAt_congr _ m p, hsame]
  rfl

/-- The higher word of SWAP_AT stores both words and requests the swap (R37, R211). -/
theorem State.busCmd_swapAt_high (hf : Frame s t [.staging] accessWord)
    (hg : s.grants m (A.SHAPE_SWAP_AT p + 4) (BitVec.ofNat 32 hi) = true)
    (hlow : t.staged m (swapAtLoc p 1) = some ⟨m, .SHAPE, A.SHAPE_SWAP_AT p, [BitVec.ofNat 32 lo]⟩) :
    t.busCmd m (A.SHAPE_SWAP_AT p + 4) hi = (((t.countAccess (masterCode m)).unstage m (swapAtLoc p 1)).storeEntry
      (A.SHAPE_SWAP_AT p) [0xFFFFFFFF, 0xFFFFFFFF] [BitVec.ofNat 32 lo, BitVec.ofNat 32 hi] 2).requestSwap p := by
  have hl := locate_swapAt_high hp
  have hon : t.pow.hotSwap = true := by
    rw [show t.pow = s.pow from hf.1 .pow (by simp)]
    exact (target_of_grants hg).1
  have hc : t.busCheck m (A.SHAPE_SWAP_AT p + 4) 32 (BitVec.ofNat 32 hi).toNat true = .target (swapAtLoc p 1) := by
    rw [busCheck_congr hf (by simp) (fun _ => not_busWords_of_accessWord) hl rfl (show Blk.SHAPE ≠ .LANE by decide)]
    exact target_of_grants_locate hg hl
  have hlow' : (t.countAccess (masterCode m)).lowWords m (swapAtLoc p 1) = [BitVec.ofNat 32 lo] := by
    have hst : (t.countAccess (masterCode m)).staging = t.staging := (frame_countAccess t _).1 .staging (by simp)
    refine lowWords_of_staged (x := ⟨m, .SHAPE, A.SHAPE_SWAP_AT p, [BitVec.ofNat 32 lo]⟩) ?_
    rw [← hlow]
    unfold staged
    rw [hst]
  rw [busCmd_target hon hc rfl, commit_swapAt, entry_swapAt, hlow']
  rfl

theorem completes_swapAtWrite (hlo : s.grants m (A.SHAPE_SWAP_AT p) (BitVec.ofNat 32 lo) = true)
    (hhi : s.grants m (A.SHAPE_SWAP_AT p + 4) (BitVec.ofNat 32 hi) = true)
    (hst : ∀ x ∈ s.staging, x.entry = A.SHAPE_SWAP_AT p → x.words.length = 1) :
    Completes (.swapAtWrite m p lo hi) s fun t =>
      t.get (F.SHAPE_SWAP_AT_AT p) = lo % 2 ^ 32 + 2 ^ 32 * (hi % 2 ^ 32) ∧
      t.flag (F.SHAPE_GATE_CTL_SWAP_PENDING p) = true ∧
      t.swapFrom p = max (lo % 2 ^ 32 + 2 ^ 32 * (hi % 2 ^ 32)) s.time.ns ∧
      Frame s t [.staging, .ports] (fun a => pairWords (A.SHAPE_SWAP_AT p) a ∨ a = A.SHAPE_GATE_CTL p ∨ topWords a) := by
  refine completes_of_finish (f := fun t => (t.busCmd m (A.SHAPE_SWAP_AT p) lo).busCmd m (A.SHAPE_SWAP_AT p + 4) hi) rfl
    (decide_eq_true hp) ?_
  obtain ⟨hstaged, hf⟩ := State.swapAt_staged hp hlo hst
  rw [State.busCmd_swapAt_high hp hf hhi hstaged]
  generalize s.busCmd m (A.SHAPE_SWAP_AT p) lo = t at hf
  have hunst : Frame t ((t.countAccess (masterCode m)).unstage m (swapAtLoc p 1)) [.staging] accessWord :=
    ((State.frame_countAccess t _).mono (by simp) fun _ h => h).trans ((Frame.refl ..).setStaging (by simp))
  generalize (t.countAccess (masterCode m)).unstage m (swapAtLoc p 1) = u at hunst
  obtain ⟨h1, h2, h3, h4⟩ := State.requestSwap_spec u p (BitVec.ofNat 32 lo) (BitVec.ofNat 32 hi)
  have htime : u.time = s.time := (hunst.1 .time (by simp)).trans (hf.1 .time (by simp))
  rw [BitVec.toNat_ofNat, BitVec.toNat_ofNat] at h1 h3
  rw [htime] at h3
  refine ⟨?_, ?_, ?_, Frame.drivePins ?_⟩
  · rw [State.get_drivePins, h1]
  · rw [State.flag_drivePins, h2]
  · rw [State.swapFrom_drivePins, h3]
  · refine ((hf.trans hunst).mono (by simp) fun a ha => .inr (.inr (topWords_of_accessWord ha))).trans (h4.mono (by simp) ?_)
    exact fun a ha => ha.imp id .inl

end

/-- Settles O36: the four events of a gate list from what each leaves in the words and the record of its port. -/
theorem gatesCycleAndSwap : Obligations.GatesCycleAndSwap := by
  unfold Obligations.GatesCycleAndSwap
  exact fun s p hp => ⟨fun m hg => completes_gateEnable hp hg, fun m lo hi hlo hhi hst => completes_swapAtWrite hp hlo hhi hst,
    completes_gateBaseReached hp, completes_gateEntryAdvance hp,
    fun hpend hact hdue => completes_gateSwap hpend hact hdue hp⟩

end Sys2Proof.Machine
end

section
/-! SUPPORT. Frames of the parts, and the fields of BOOT_STATUS. -/

namespace Sys2Proof.Machine

variable {s t : State} {P : List Part} {W : Nat → Prop}

section
variable (h : Frame s t P W)
include h

theorem Frame.setPow {x : Power} (hP : .pow ∈ P) : Frame s { t with pow := x } P W :=
  h.part .pow hP (fun p hp => by cases p <;> simp_all [Part.same]) fun _ => rfl

theorem Frame.setSid {x : Siding} (hP : .sid ∈ P) : Frame s { t with sid := x } P W :=
  h.part .sid hP (fun p hp => by cases p <;> simp_all [Part.same]) fun _ => rfl

theorem Frame.setCons {x : Consort} (hP : .cons ∈ P) : Frame s { t with cons := x } P W :=
  h.part .cons hP (fun p hp => by cases p <;> simp_all [Part.same]) fun _ => rfl

theorem Frame.setFlt {x : Faults} (hP : .flt ∈ P) : Frame s { t with flt := x } P W :=
  h.part .flt hP (fun p hp => by cases p <;> simp_all [Part.same]) fun _ => State.rd_congr _ rfl rfl rfl rfl

theorem Frame.setPins {x : Pins} (hP : .inputs ∈ P) : Frame s { t with pins := x } P W :=
  h.part .inputs hP (fun p hp => by cases p <;> simp_all [Part.same]) fun _ => rfl

end

namespace State

/-! ### BOOT_STATUS -/

theorem frame_put (s : State) (f : Fld) (v : Nat) (hf : f.lo + f.width ≤ 32) : Frame s (s.put f v) [] (· = f.addr) :=
  (Frame.refl ..).put rfl hf

theorem frame_setBootStep (s : State) (k : Nat) : Frame s (s.setBootStep k) [] (· = A.SIDING_BOOT_STATUS) :=
  frame_put s F.SIDING_BOOT_STATUS_STEP k (by decide)

theorem setBootStep_sid (s : State) (k : Nat) : (s.setBootStep k).sid = s.sid := put_sid ..

theorem bootStep_setBootStep (s : State) {k : Nat} (hk : k < 16) : (s.setBootStep k).bootStep = k := by
  unfold setBootStep bootStep
  rw [get_put_same _ _ _ (by decide)]
  exact Nat.mod_eq_of_lt hk

/-- The step shares no bit with the other fields of BOOT_STATUS. -/
theorem get_setBootStep (s : State) (k : Nat) {f : Fld} (hf : f.lo + f.width ≤ 32) (ha : f.addr = A.SIDING_BOOT_STATUS) (hlo : 4 ≤ f.lo) :
    (s.setBootStep k).get f = s.get f :=
  get_put_bits s F.SIDING_BOOT_STATUS_STEP f k (by decide) hf ha (.inr hlo)

theorem bootStep_put (s : State) (v : Nat) {f : Fld} (hf : f.lo + f.width ≤ 32) (ha : f.addr = A.SIDING_BOOT_STATUS) (hlo : 4 ≤ f.lo) :
    (s.put f v).bootStep = s.bootStep :=
  get_put_bits s f F.SIDING_BOOT_STATUS_STEP v hf (by decide) ha.symm (.inl hlo)

theorem bootStep_drivePins (s : State) : s.drivePins.bootStep = s.bootStep := get_drivePins ..

/-! ### Runs of words -/

theorem frame_wordsFrom (s : State) (a : Nat) (l : List Byte) :
    Frame s (s.wordsFrom a l) [] fun b => a ≤ b ∧ b < a + (l.length + 3) := by
  unfold wordsFrom
  refine Frame.foldl _ (fun t i hi => (Frame.refl ..).wr ?_) (.refl ..)
  have := List.mem_range.1 hi
  exact ⟨by omega, by omega⟩

/-- The words of a page's header that an event of SIDING writes. -/
theorem frame_raiseSiding (s : State) (k : Nat) : Frame s (s.raise .SIDING 0 0 k) [.flt] (causeWords A.SIDING) :=
  (Frame.refl ..).raise (by simp) fun _ ha => ha

theorem causeBit_raiseSiding (s : State) {k : Nat} (hk : k < 32) : (s.raise .SIDING 0 0 k).causeBit .SIDING 0 0 k = true :=
  cause_raise s .SIDING 0 0 k [] hk

end State

theorem Frame.bootStep (h : Frame s t P W) (hW : ¬ W A.SIDING_BOOT_STATUS) : t.bootStep = s.bootStep := h.get (by decide) hW

theorem Frame.causeBit (h : Frame s t P W) {b : Blk} {i j k : Nat} (hW : ¬ W (b.causePage i j + 0x10)) :
    t.causeBit b i j k = s.causeBit b i j k := by
  unfold State.causeBit; rw [h.2 _ hW]

end Sys2Proof.Machine
end

section
/-! CERTIFICATE. Boot (R55, R492 to R500). -/

namespace Sys2Proof.Machine

variable {s t : State} {P : List Part} {W : Nat → Prop} {keyOk : Bool} {slot : Nat}

namespace State

/-! ### The end of the module reset -/

theorem frame_firstTokens (s : State) : Frame s s.firstTokens [] fun b => A.POWER ≤ b ∧ b < A.POWER + 0x10000 := by
  unfold firstTokens
  have hfold := Frame.foldl (s := s) (t := s) (P := []) (W := fun b => A.POWER ≤ b ∧ b < A.POWER + 0x10000) (List.range 34)
    (f := fun t r => t.setHeld r (if s.pow.gated.contains r then 0 else tokenFloor s.asm false r)) (fun t r hr =>
      (Frame.refl ..).put (by
        have := List.mem_range.1 hr
        simp only [F.POWER_REC_STATE_HELD, A.POWER_REC_STATE]
        omega) (by decide : 0 + 12 ≤ 32)) (.refl ..)
  exact (hfold.put (by decide) (by decide)).put (by decide) (by decide)

theorem timer_drivePins (s : State) (k : TKey) : s.drivePins.timer k = s.timer k := rfl

/-- What the end of the module reset leaves. -/
theorem resetEnds_spec (h : s.mayRelease = true) :
    s.resetEnds.pow.released = true ∧ s.resetEnds.get F.TOP_SLOT_ID_SLOT = s.pins.slotId % 2 ^ 6 ∧ s.resetEnds.bootStep = 1 ∧
    s.resetEnds.timer { kind := .deadline, a := dom 0 0 } =
      (if s.get F.RESET_LAST_MODULE_RESET_CAUSE ≤ 2 then some s.clk else s.timer { kind := .deadline, a := dom 0 0 }) := by
  unfold resetEnds
  rw [if_pos h]
  dsimp only
  generalize h1 : ({ s with pow := { s.pow with released := true } } : State).put F.TOP_SLOT_ID_SLOT s.pins.slotId = u
  have hpow : u.pow.released = true := by rw [← h1, put_pow]
  have hslot : u.get F.TOP_SLOT_ID_SLOT = s.pins.slotId % 2 ^ 6 := by rw [← h1, get_put_same _ _ _ (by decide)]; rfl
  have hclk : u.clk = s.clk := by rw [← h1, put_clk]
  have htimers : u.timers = s.timers := by rw [← h1, put_timers]
  have hfirst := frame_firstTokens u
  generalize h2 : u.firstTokens.put F.SIDING_BOOT_STATUS_STEP 1 = v
  have hv : Frame u v [] fun b => b = A.SIDING_BOOT_STATUS ∨ (A.POWER ≤ b ∧ b < A.POWER + 0x10000) :=
    h2 ▸ (hfirst.mono (fun _ h => h) fun _ => .inr).put (.inl rfl) (by decide)
  have hstep : v.bootStep = 1 := h2 ▸ bootStep_setBootStep _ (by decide)
  have hp : v.pow = u.pow := hv.1 .pow (by simp)
  have ht : v.timers = u.timers := hv.1 .timers (by simp)
  have hc : v.clk = u.clk := hv.1 .clk (by simp)
  have hs : v.get F.TOP_SLOT_ID_SLOT = s.pins.slotId % 2 ^ 6 := (hv.get (by decide) (by decide)).trans hslot
  split
  · refine ⟨by rw [startTimer_pow, hp, hpow], by rw [get_startTimer, hs], ?_, ?_⟩
    · unfold bootStep
      rw [get_startTimer]
      exact hstep
    · rw [timer_startTimer_same, hc, hclk]
  · refine ⟨by rw [hp, hpow], hs, hstep, ?_⟩
    unfold timer
    rw [ht, htimers]

end State

theorem exec_bootStep (s : State) (keyOk : Bool) (slot : Nat) :
    exec (.bootStep (keyOk, slot)) s = execBootStep (keyOk, slot) s := rfl

/-- The first step, with nothing that holds the reset (R430, R492, R513). -/
theorem completes_firstBootStep (hslot : slot < 64) (h0 : s.bootStep = 0) (hmay : s.mayRelease = true) :
    Completes (.bootStep (keyOk, slot)) s fun t =>
      t.pow.released = true ∧ t.get F.TOP_SLOT_ID_SLOT = slot ∧ t.bootStep = 1 ∧
      t.timer { kind := .deadline, a := dom 0 0 } =
        (if s.get F.RESET_LAST_MODULE_RESET_CAUSE ≤ 2 then some s.clk else s.timer { kind := .deadline, a := dom 0 0 }) := by
  refine completes_of_finish ((exec_bootStep s keyOk slot).trans rfl) (decide_eq_true hslot) ?_
  rw [if_pos h0]
  generalize hu : ({ s with pins := { s.pins with slotId := slot } } : State) = u
  have hmay' : u.mayRelease = true := hu ▸ hmay
  have hcause : u.get F.RESET_LAST_MODULE_RESET_CAUSE = s.get F.RESET_LAST_MODULE_RESET_CAUSE := hu ▸ rfl
  have hclk : u.clk = s.clk := hu ▸ rfl
  have htimers : u.timers = s.timers := hu ▸ rfl
  have hid : u.pins.slotId = slot := hu ▸ rfl
  obtain ⟨h1, h2, h3, h4⟩ := State.resetEnds_spec hmay'
  refine ⟨h1, ?_, ?_, ?_⟩
  · rw [State.get_drivePins, h2, hid]
    exact Nat.mod_eq_of_lt hslot
  · rw [State.bootStep_drivePins, h3]
  · rw [State.timer_drivePins, h4, hcause, hclk]
    unfold State.timer
    rw [htimers]

/-- While the reset holds, or boot is over, a step changes nothing. -/
theorem completes_bootStep_none (hslot : slot < 64)
    (h : (s.bootStep = 0 ∧ s.mayRelease = false) ∨ (s.bootStep ≠ 0 ∧ s.booting = false)) :
    Completes (.bootStep (keyOk, slot)) s fun t => t.pow = s.pow ∧ Frame s t [.inputs] fun _ => False := by
  refine completes_of_finish ((exec_bootStep s keyOk slot).trans rfl) (decide_eq_true hslot) ?_
  rcases h with ⟨h0, hmay⟩ | ⟨h0, hboot⟩
  · rw [if_pos h0]
    have hmay' : ({ s with pins := { s.pins with slotId := slot } } : State).mayRelease = false := hmay
    unfold State.resetEnds
    rw [hmay', if_neg (by decide)]
    exact ⟨rfl, ((Frame.refl ..).setPins (by simp)).drivePins⟩
  · rw [if_neg h0, if_pos (by simp [hboot])]
    exact ⟨rfl, (Frame.refl ..).drivePins⟩

/-! ### The steps of the boot table -/

/-- The choice of one of six results by a step, and of the last by any other. -/
def choose6 {α : Type} (a b c d e f g : α) : Nat → α
  | 1 => a
  | 2 => b
  | 3 => c
  | 4 => d
  | 5 => e
  | 6 => f
  | _ => g

/-- What a step of the boot table does before the step moves on. -/
def State.bootWork (s : State) (keyOk : Bool) : Nat → State :=
  choose6 (s.put F.SIDING_BOOT_STATUS_ROM_VERSION Config.romVersion) (s.bootKey keyOk) s.bootManifest s.bootBank s.bootGrade s.bootCert s

theorem State.bootWork_rom (s : State) (keyOk : Bool) :
    s.bootWork keyOk 1 = s.put F.SIDING_BOOT_STATUS_ROM_VERSION Config.romVersion := by
  unfold State.bootWork; rw [choose6]

theorem State.bootWork_key (s : State) (keyOk : Bool) : s.bootWork keyOk 2 = s.bootKey keyOk := by
  unfold State.bootWork; rw [choose6]

theorem State.bootWork_manifest (s : State) (keyOk : Bool) : s.bootWork keyOk 3 = s.bootManifest := by
  unfold State.bootWork; rw [choose6]

theorem State.bootWork_bank (s : State) (keyOk : Bool) : s.bootWork keyOk 4 = s.bootBank := by
  unfold State.bootWork; rw [choose6]

theorem State.bootWork_grade (s : State) (keyOk : Bool) : s.bootWork keyOk 5 = s.bootGrade := by
  unfold State.bootWork; rw [choose6]

theorem State.bootWork_cert (s : State) (keyOk : Bool) : s.bootWork keyOk 6 = s.bootCert := by
  unfold State.bootWork; rw [choose6]

theorem completes_bootWork {k : Nat} {R : State → Prop} (hslot : slot < 64) (hb : s.booting = true) (hk : s.bootStep = k) (h0 : k ≠ 0)
    (h : R (if (s.bootWork keyOk k).sid.recovery = true ∨ 7 ≤ (s.bootWork keyOk k).bootStep then s.bootWork keyOk k
      else (s.bootWork keyOk k).setBootStep ((s.bootWork keyOk k).bootStep + 1)).drivePins) :
    Completes (.bootStep (keyOk, slot)) s R := by
  refine completes_of_finish ((exec_bootStep s keyOk slot).trans rfl) (decide_eq_true hslot) ?_
  rw [if_neg (by omega), if_neg (by simp [hb])]
  dsimp only
  rw [hk]
  exact h

/-- A step that does not end in recovery moves on to the next. -/
theorem completes_bootStep {k : Nat} {R : State → Prop} (hslot : slot < 64) (hb : s.booting = true) (hk : s.bootStep = k) (h0 : k ≠ 0)
    (h7 : k < 7) {u : State} (hu : s.bootWork keyOk k = u) (hrec : u.sid.recovery = false) (hstep : u.bootStep = k)
    (h : R (u.setBootStep (k + 1)).drivePins) : Completes (.bootStep (keyOk, slot)) s R := by
  refine completes_bootWork hslot hb hk h0 ?_
  rw [hu, hstep, if_neg (by simp [hrec]; omega)]
  exact h

/-- A step that ends in recovery stays where it is (R495). -/
theorem completes_bootStep_recovery {k : Nat} {R : State → Prop} (hslot : slot < 64) (hb : s.booting = true) (hk : s.bootStep = k)
    (h0 : k ≠ 0) {u : State} (hu : s.bootWork keyOk k = u) (hrec : u.sid.recovery = true) (h : R u.drivePins) :
    Completes (.bootStep (keyOk, slot)) s R := by
  refine completes_bootWork hslot hb hk h0 ?_
  rw [hu, if_pos (.inl hrec)]
  exact h

theorem State.booting_not_recovery (hb : s.booting = true) : s.sid.recovery = false := by
  unfold State.booting at hb
  simp only [Bool.and_eq_true, Bool.not_eq_true'] at hb
  exact hb.1.2

end Sys2Proof.Machine
end

section
/-! CERTIFICATE. The steps of boot before the register bus is released (R492 to R498). -/

namespace Sys2Proof.Machine

variable {s t : State} {P : List Part} {W : Nat → Prop} {keyOk : Bool} {slot : Nat}

theorem ofBytes_lt (l : List Byte) : ofBytes l < 256 ^ l.length := by
  induction l with
  | nil => simp [ofBytes]
  | cons b l ih =>
    have hb := b.isLt
    simp only [ofBytes, List.length_cons, pow_succ]
    omega

theorem numAt_lt (l : List Byte) (o n : Nat) : numAt l o n < 256 ^ n := by
  have := ofBytes_lt (slice l o n)
  rwa [show (slice l o n).length = n by simp [slice]] at this

theorem State.flashNum_lt (s : State) (r o n : Nat) : s.flashNum r o n < 256 ^ n := by
  have := ofBytes_lt (s.flashBytes r o n)
  rwa [show (s.flashBytes r o n).length = n by simp [State.flashBytes]] at this

theorem State.flashWord_lt (s : State) (r o : Nat) : s.flashNum r o 4 < 2 ^ 32 := s.flashNum_lt r o 4

section
variable (hslot : slot < 64) (hb : s.booting = true)
include hslot hb

/-- Step 1 loads the ROM version. -/
theorem completes_bootStep_rom (hk : s.bootStep = 1) : Completes (.bootStep (keyOk, slot)) s fun t =>
    t.bootStep = 2 ∧ t.get F.SIDING_BOOT_STATUS_ROM_VERSION = Config.romVersion % 2 ^ 16 := by
  generalize hu : s.put F.SIDING_BOOT_STATUS_ROM_VERSION Config.romVersion = u
  have hrom : u.get F.SIDING_BOOT_STATUS_ROM_VERSION = Config.romVersion % 2 ^ 16 := by
    rw [← hu, State.get_put_same _ _ _ (by decide)]; rfl
  have hsid : u.sid = s.sid := by rw [← hu, State.put_sid]
  have hstep : u.bootStep = 1 := by
    rw [← hu, State.bootStep_put s _ (f := F.SIDING_BOOT_STATUS_ROM_VERSION) (by decide) rfl (by decide), hk]
  refine completes_bootStep hslot hb hk (by decide) (by decide) ((s.bootWork_rom keyOk).trans hu) (by rw [hsid, State.booting_not_recovery hb]) hstep ⟨?_, ?_⟩
  · rw [State.bootStep_drivePins, State.bootStep_setBootStep _ (by decide)]
  · rw [State.get_drivePins, State.get_setBootStep _ _ (by decide) rfl (by decide), hrom]

end

/-! ### Step 2: the identity key (R497) -/

/-- The words that step 2 writes. -/
def keyWords (b : Nat) : Prop :=
  b = A.SIDING_DEVICE_TAG ∨ b = A.SIDING_ID_INFO ∨ causeWords A.SIDING b ∨ A.SIDING_ID_PUB 0 ≤ b

namespace State

theorem frame_idPub (s : State) (l : List Byte) : Frame s (s.wordsFrom (A.SIDING_ID_PUB 0) l) [] keyWords :=
  (frame_wordsFrom ..).mono (fun _ h => h) fun _ hb => .inr (.inr (.inr hb.1))

/-- With the key: its public key, the device tag and ID_STATUS. -/
theorem bootKey_ok (s : State) : Frame s (s.bootKey true) [.sid] keyWords ∧ (s.bootKey true).sid = { s.sid with keyOk := true } ∧
    (s.bootKey true).get F.SIDING_ID_INFO_ID_STATUS = 0 ∧
    (s.bootKey true).rd A.SIDING_DEVICE_TAG = numAt (sha512 (slice Config.idPub 0 133)) 0 4 := by
  unfold bootKey
  simp only [if_true]
  generalize h1 : ({ s with sid := { s.sid with keyOk := true } } : State) = u
  have hu : Frame s u [.sid] keyWords := h1 ▸ (Frame.refl ..).setSid (by simp)
  have hsid : u.sid = { s.sid with keyOk := true } := h1 ▸ rfl
  have hpub := frame_idPub u (slice Config.idPub 0 133 ++ toBytes 3 0)
  generalize u.wordsFrom (A.SIDING_ID_PUB 0) (slice Config.idPub 0 133 ++ toBytes 3 0) = v at hpub
  have hlt := numAt_lt (sha512 (slice Config.idPub 0 133)) 0 4
  generalize numAt (sha512 (slice Config.idPub 0 133)) 0 4 = tag at hlt
  refine ⟨((hu.trans (hpub.mono (by simp) fun _ h => h)).wr (.inl rfl)).put (.inr (.inl rfl)) (by decide), ?_, ?_, ?_⟩
  · rw [put_sid, wr_sid, show v.sid = u.sid from hpub.1 .sid (by simp), hsid]
  · rw [get_put_same _ _ _ (by decide)]; rfl
  · rw [rd_put_other _ _ _ (by decide) (by decide), rd_wr_same]
    exact Nat.mod_eq_of_lt hlt

/-- Without it: an empty public key and device tag, ID_STATUS 1 and the cause. -/
theorem bootKey_fail (s : State) : Frame s (s.bootKey false) [.sid, .flt] keyWords ∧
    (s.bootKey false).sid = { s.sid with keyOk := false } ∧ (s.bootKey false).get F.SIDING_ID_INFO_ID_STATUS = 1 ∧
    (s.bootKey false).rd A.SIDING_DEVICE_TAG = 0 ∧ (s.bootKey false).causeBit .SIDING 0 0 K.SIDING_ID_FAIL = true := by
  unfold bootKey
  simp only [Bool.false_eq_true, if_false]
  generalize h1 : ({ s with sid := { s.sid with keyOk := false } } : State) = u
  have hu : Frame s u [.sid] keyWords := h1 ▸ (Frame.refl ..).setSid (by simp)
  have hsid : u.sid = { s.sid with keyOk := false } := h1 ▸ rfl
  have hpub := frame_idPub u (toBytes 136 0)
  generalize u.wordsFrom (A.SIDING_ID_PUB 0) (toBytes 136 0) = v at hpub
  generalize h2 : (v.wr A.SIDING_DEVICE_TAG 0).put F.SIDING_ID_INFO_ID_STATUS 1 = w
  have hw : Frame s w [.sid] keyWords :=
    h2 ▸ ((hu.trans (hpub.mono (by simp) fun _ h => h)).wr (.inl rfl)).put (.inr (.inl rfl)) (by decide)
  have hraise := frame_raiseSiding w K.SIDING_ID_FAIL
  refine ⟨(hw.mono (by simp) fun _ h => h).trans (hraise.mono (by simp) fun _ hb => .inr (.inr (.inl hb))), ?_, ?_, ?_,
    causeBit_raiseSiding _ (by decide)⟩
  · rw [raise_sid, ← h2, put_sid, wr_sid, show v.sid = u.sid from hpub.1 .sid (by simp), hsid]
  · rw [hraise.get (by decide) (by unfold causeWords; decide), ← h2, get_put_same _ _ _ (by decide)]
    rfl
  · rw [hraise.2 _ (by unfold causeWords; decide), ← h2, rd_put_other _ _ _ (by decide) (by decide), rd_wr_same]
    rfl

end State

theorem keyWords_bootStatus : ¬ keyWords A.SIDING_BOOT_STATUS := by unfold keyWords causeWords; decide

section
variable (hslot : slot < 64) (hb : s.booting = true)
include hslot hb

/-- Step 2 with a key derived (R497). -/
theorem completes_bootStep_key (hk : s.bootStep = 2) : Completes (.bootStep (true, slot)) s fun t =>
    t.bootStep = 3 ∧ t.sid.keyOk = true ∧ t.get F.SIDING_ID_INFO_ID_STATUS = 0 ∧
      t.rd A.SIDING_DEVICE_TAG = numAt (sha512 (slice Config.idPub 0 133)) 0 4 := by
  obtain ⟨hf, hsid, h1, h2⟩ := State.bootKey_ok s
  generalize hu : s.bootKey true = u at hf hsid h1 h2
  have hset := State.frame_setBootStep u 3
  refine completes_bootStep hslot hb hk (by decide) (by decide) ((s.bootWork_key true).trans hu)
    (by rw [hsid, State.booting_not_recovery hb]) ((hf.bootStep keyWords_bootStatus).trans hk) ⟨?_, ?_, ?_, ?_⟩
  · rw [State.bootStep_drivePins, State.bootStep_setBootStep _ (by decide)]
  · rw [State.drivePins_sid, State.setBootStep_sid, hsid]
  · rw [State.get_drivePins, hset.get (by decide) (by decide), h1]
  · rw [State.rd_drivePins, hset.2 _ (by decide), h2]

/-- Step 2 without one (R497). -/
theorem completes_bootStep_no_key (hk : s.bootStep = 2) : Completes (.bootStep (false, slot)) s fun t =>
    t.bootStep = 3 ∧ t.sid.keyOk = false ∧ t.get F.SIDING_ID_INFO_ID_STATUS = 1 ∧ t.rd A.SIDING_DEVICE_TAG = 0 ∧
      t.causeBit .SIDING 0 0 K.SIDING_ID_FAIL = true := by
  obtain ⟨hf, hsid, h1, h2, h3⟩ := State.bootKey_fail s
  generalize hu : s.bootKey false = u at hf hsid h1 h2 h3
  have hset := State.frame_setBootStep u 3
  refine completes_bootStep hslot hb hk (by decide) (by decide) ((s.bootWork_key false).trans hu)
    (by rw [hsid, State.booting_not_recovery hb]) ((hf.bootStep keyWords_bootStatus).trans hk) ⟨?_, ?_, ?_, ?_, ?_⟩
  · rw [State.bootStep_drivePins, State.bootStep_setBootStep _ (by decide)]
  · rw [State.drivePins_sid, State.setBootStep_sid, hsid]
  · rw [State.get_drivePins, hset.get (by decide) (by decide), h1]
  · rw [State.rd_drivePins, hset.2 _ (by decide), h2]
  · rw [State.causeBit_drivePins, hset.causeBit (by decide), h3]

end

/-! ### Step 3: the manifest (R493, R495) -/

/-- A manifest slot is valid. -/
def State.manOk (s : State) (i : Nat) : Prop := s.slotReason (2 + i) s.sid.keyOk = 0

/-- A manifest slot is taken into use. -/
def State.useManifest (s : State) (i : Nat) : State :=
  ({ s with sid := { s.sid with manifestOk := true } } : State).put F.SIDING_BOOT_STATUS_MAN_SLOT i

theorem State.bootManifest_both (h0 : s.manOk 0) (h1 : s.manOk 1) :
    s.bootManifest = s.useManifest (if s.flashNum 2 8 4 < s.flashNum 3 8 4 then 1 else 0) := by
  unfold State.bootManifest; dsimp only
  rw [if_pos ⟨beq_iff_eq.2 h0, beq_iff_eq.2 h1⟩]
  rfl

theorem State.bootManifest_first (h0 : s.manOk 0) (h1 : ¬ s.manOk 1) : s.bootManifest = s.useManifest 0 := by
  unfold State.bootManifest; dsimp only
  rw [if_neg (fun h => h1 (beq_iff_eq.1 h.2)), if_pos (beq_iff_eq.2 h0)]
  rfl

theorem State.bootManifest_second (h0 : ¬ s.manOk 0) (h1 : s.manOk 1) : s.bootManifest = s.useManifest 1 := by
  unfold State.bootManifest; dsimp only
  rw [if_neg (fun h => h0 (beq_iff_eq.1 h.1)), if_neg (fun h => h0 (beq_iff_eq.1 h)), if_pos (beq_iff_eq.2 h1)]
  rfl

theorem State.bootManifest_none (h0 : ¬ s.manOk 0) (h1 : ¬ s.manOk 1) : s.bootManifest = s.recover 2 := by
  unfold State.bootManifest; dsimp only
  rw [if_neg (fun h => h0 (beq_iff_eq.1 h.1)), if_neg (fun h => h0 (beq_iff_eq.1 h)), if_neg (fun h => h1 (beq_iff_eq.1 h))]

theorem State.recover_spec (s : State) {n : Nat} (hn : n < 16) : (s.recover n).sid.recovery = true ∧
    (s.recover n).get F.SIDING_BOOT_STATUS_RESULT = n ∧ (s.recover n).bootStep = s.bootStep := by
  unfold State.recover
  refine ⟨by rw [State.put_sid], ?_, ?_⟩
  · rw [State.get_put_same _ _ _ (by decide)]
    exact Nat.mod_eq_of_lt hn
  · rw [State.bootStep_put _ _ (f := F.SIDING_BOOT_STATUS_RESULT) (by decide) rfl (by decide)]
    rfl

section
variable (hslot : slot < 64) (hb : s.booting = true)
include hslot hb

theorem completes_bootStep_use {i : Nat} (hi : i < 2) (hk : s.bootStep = 3) (hu : s.bootManifest = s.useManifest i) :
    Completes (.bootStep (keyOk, slot)) s fun t =>
      t.bootStep = 4 ∧ t.sid.manifestOk = true ∧ t.get F.SIDING_BOOT_STATUS_MAN_SLOT = i := by
  have hsid : (s.useManifest i).sid = { s.sid with manifestOk := true } := by unfold State.useManifest; rw [State.put_sid]
  have hstep : (s.useManifest i).bootStep = s.bootStep := by
    unfold State.useManifest
    rw [State.bootStep_put _ _ (f := F.SIDING_BOOT_STATUS_MAN_SLOT) (by decide) rfl (by decide)]
    rfl
  have hman : (s.useManifest i).get F.SIDING_BOOT_STATUS_MAN_SLOT = i := by
    unfold State.useManifest
    rw [State.get_put_same _ _ _ (by decide)]
    exact Nat.mod_eq_of_lt hi
  generalize s.useManifest i = u at hu hsid hstep hman
  have hset := State.frame_setBootStep u 4
  refine completes_bootStep hslot hb hk (by decide) (by decide) ((s.bootWork_manifest keyOk).trans hu)
    (by rw [hsid, State.booting_not_recovery hb]) (hstep.trans hk) ⟨?_, ?_, ?_⟩
  · rw [State.bootStep_drivePins, State.bootStep_setBootStep _ (by decide)]
  · rw [State.drivePins_sid, State.setBootStep_sid, hsid]
  · rw [State.get_drivePins, State.get_setBootStep _ _ (by decide) rfl (by decide), hman]

theorem completes_bootStep_recover {k n : Nat} (hn : n < 16) (hk : s.bootStep = k) (h0 : k ≠ 0) (hu : s.bootWork keyOk k = s.recover n) :
    Completes (.bootStep (keyOk, slot)) s fun t =>
      t.sid.recovery = true ∧ t.get F.SIDING_BOOT_STATUS_RESULT = n ∧ t.bootStep = k := by
  obtain ⟨h1, h2, h3⟩ := State.recover_spec s hn
  generalize s.recover n = u at hu h1 h2 h3
  refine completes_bootStep_recovery hslot hb hk h0 hu h1 ⟨h1, ?_, ?_⟩
  · rw [State.get_drivePins, h2]
  · rw [State.bootStep_drivePins, h3, hk]

/-- Step 3 (R493). -/
theorem completes_bootStep_manifest (hk : s.bootStep = 3) :
    let ok := fun i => s.slotReason (2 + i) s.sid.keyOk = 0
    let uses := fun (i : Nat) => Completes (.bootStep (keyOk, slot)) s fun t =>
      t.bootStep = 4 ∧ t.sid.manifestOk = true ∧ t.get F.SIDING_BOOT_STATUS_MAN_SLOT = i
    (ok 0 → ok 1 → s.flashNum 2 8 4 < s.flashNum 3 8 4 → uses 1) ∧
    (ok 0 → ok 1 → s.flashNum 3 8 4 < s.flashNum 2 8 4 → uses 0) ∧
    (ok 0 → ¬ ok 1 → uses 0) ∧ (¬ ok 0 → ok 1 → uses 1) ∧
    (¬ ok 0 → ¬ ok 1 → Completes (.bootStep (keyOk, slot)) s fun t =>
      t.sid.recovery = true ∧ t.get F.SIDING_BOOT_STATUS_RESULT = 2 ∧ t.bootStep = 3) := by
  refine ⟨fun h0 h1 h => ?_, fun h0 h1 h => ?_, fun h0 h1 => ?_, fun h0 h1 => ?_, fun h0 h1 => ?_⟩
  · exact completes_bootStep_use hslot hb (by decide) hk (by rw [State.bootManifest_both h0 h1, if_pos h])
  · exact completes_bootStep_use hslot hb (by decide) hk (by rw [State.bootManifest_both h0 h1, if_neg (by omega)])
  · exact completes_bootStep_use hslot hb (by decide) hk (State.bootManifest_first h0 h1)
  · exact completes_bootStep_use hslot hb (by decide) hk (State.bootManifest_second h0 h1)
  · exact completes_bootStep_recover hslot hb (by decide) hk (by decide)
      ((s.bootWork_manifest keyOk).trans (State.bootManifest_none h0 h1))

end

/-! ### Step 4: the bank that boots (R495) -/

/-- The words of the running image of a processor. -/
def runWords (p b : Nat) : Prop := b = A.CONSORT_RUN_INFO p ∨ b = A.CONSORT_RUN_VERSION p ∨ b = A.CONSORT_RUN_SVN p

/-- The run words of a processor loaded for a boot. -/
def State.bootRun (s : State) (c p : Nat) : State := (s.loadRun p c).put (F.CONSORT_RUN_INFO_RESTART_KIND p) RS_BOOT

namespace State

theorem frame_bootRun (s : State) (c p : Nat) : Frame s (s.bootRun c p) [] (runWords p) := by
  have hbank : Frame s (s.put (F.CONSORT_RUN_INFO_RUN_BANK p) c) [] (runWords p) :=
    (Frame.refl ..).put (.inl rfl) (by decide : 0 + 1 ≤ 32)
  unfold bootRun loadRun
  split
  · exact (((hbank.put (.inl rfl) (by decide : 16 + 16 ≤ 32)).wr (.inr (.inl rfl))).wr (.inr (.inr rfl))).put (.inl rfl)
      (by decide : 1 + 3 ≤ 32)
  · exact hbank.put (.inl rfl) (by decide : 1 + 3 ≤ 32)

theorem runBank_bootRun (s : State) (p : Nat) {c : Nat} (hc : c < 2) :
    (s.bootRun c p).get (F.CONSORT_RUN_INFO_RUN_BANK p) = c ∧ (s.bootRun c p).get (F.CONSORT_RUN_INFO_RESTART_KIND p) = RS_BOOT := by
  have hne : A.CONSORT_RUN_INFO p ≠ A.CONSORT_RUN_VERSION p ∧ A.CONSORT_RUN_INFO p ≠ A.CONSORT_RUN_SVN p := by
    simp only [A.CONSORT_RUN_INFO, A.CONSORT_RUN_VERSION, A.CONSORT_RUN_SVN]; omega
  have hbank : (s.put (F.CONSORT_RUN_INFO_RUN_BANK p) c).get (F.CONSORT_RUN_INFO_RUN_BANK p) = c := by
    rw [get_put_same _ _ _ (by decide : 0 + 1 ≤ 32)]
    exact Nat.mod_eq_of_lt hc
  have hload : (s.loadRun p c).get (F.CONSORT_RUN_INFO_RUN_BANK p) = c := by
    unfold loadRun
    split
    · rw [get_wr_other _ _ _ _ (by decide : 0 + 1 ≤ 32) hne.2, get_wr_other _ _ _ _ (by decide : 0 + 1 ≤ 32) hne.1,
        get_put_bits _ (F.CONSORT_RUN_INFO_ILEVEL p) (F.CONSORT_RUN_INFO_RUN_BANK p) _ (by decide : 16 + 16 ≤ 32) (by decide : 0 + 1 ≤ 32) rfl
          (.inl (by decide : 0 + 1 ≤ 16)), hbank]
    · exact hbank
  unfold bootRun
  refine ⟨?_, ?_⟩
  · rw [get_put_bits _ (F.CONSORT_RUN_INFO_RESTART_KIND p) (F.CONSORT_RUN_INFO_RUN_BANK p) _ (by decide : 1 + 3 ≤ 32) (by decide : 0 + 1 ≤ 32) rfl
      (.inl (by decide : 0 + 1 ≤ 1)), hload]
  · rw [get_put_same _ _ _ (by decide : 1 + 3 ≤ 32)]
    rfl

/-- The run words of every processor loaded for a boot. -/
def bootRuns (s : State) (c n : Nat) : State := (List.range n).foldl (fun u p => u.bootRun c p) s

theorem bootRuns_succ (s : State) (c n : Nat) : s.bootRuns c (n + 1) = (s.bootRuns c n).bootRun c n := by
  unfold bootRuns; rw [List.range_succ, List.foldl_concat]

theorem frame_bootRuns (s : State) (c n : Nat) : Frame s (s.bootRuns c n) [] fun b => ∃ p, p < n ∧ runWords p b :=
  Frame.foldl _ (fun t p hp => (frame_bootRun t c p).mono (fun _ h => h) fun _ hb => ⟨p, List.mem_range.1 hp, hb⟩) (.refl ..)

theorem runBank_bootRuns (s : State) {c n p : Nat} (hc : c < 2) (hp : p < n) :
    (s.bootRuns c n).get (F.CONSORT_RUN_INFO_RUN_BANK p) = c ∧
      (s.bootRuns c n).get (F.CONSORT_RUN_INFO_RESTART_KIND p) = RS_BOOT := by
  induction n with
  | zero => omega
  | succ n ih =>
    rw [bootRuns_succ]
    by_cases hpn : p = n
    · subst hpn; exact runBank_bootRun _ p hc
    · have hne : ¬ runWords n (A.CONSORT_RUN_INFO p) := by
        simp only [runWords, A.CONSORT_RUN_INFO, A.CONSORT_RUN_VERSION, A.CONSORT_RUN_SVN, A.CONSORT]; omega
      have hf := frame_bootRun (s.bootRuns c n) c n
      rw [hf.get (by decide : 0 + 1 ≤ 32) hne, hf.get (by decide : 1 + 3 ≤ 32) hne]
      exact ih (by omega)

end State

end Sys2Proof.Machine
end

section
/-! CERTIFICATE. Boot: the bank, the grade and the certificate (R55, R494, R495, R498). -/

namespace Sys2Proof.Machine

variable {s t : State} {P : List Part} {W : Nat → Prop} {keyOk : Bool} {slot : Nat}

/-! ### Step 4 (R495) -/

namespace State

theorem bootBank_own (h : s.bankBoots (s.get (F.CONSORT_BANK_STATE_BOOT_BANK 0)) = true) :
    s.bootBank = s.bootRuns (s.get (F.CONSORT_BANK_STATE_BOOT_BANK 0)) 8 := by
  unfold bootBank; dsimp only; rw [if_pos h]; rfl

/-- The other bank taken for boot (R495). -/
def fallBack (s : State) (b : Nat) : State :=
  ((s.put F.SIDING_BOOT_STATUS_FALLBACK 1).put (F.CONSORT_BANK_STATE_BOOT_BANK 0) b).raise .SIDING 0 0 K.SIDING_BOOT_FALLBACK

theorem bootBank_other (h : s.bankBoots (s.get (F.CONSORT_BANK_STATE_BOOT_BANK 0)) = false)
    (hv : s.bank (1 - s.get (F.CONSORT_BANK_STATE_BOOT_BANK 0)) = BK_VERIFIED)
    (hb : s.bankBoots (1 - s.get (F.CONSORT_BANK_STATE_BOOT_BANK 0)) = true) :
    s.bootBank = (s.fallBack (1 - s.get (F.CONSORT_BANK_STATE_BOOT_BANK 0))).bootRuns (1 - s.get (F.CONSORT_BANK_STATE_BOOT_BANK 0)) 8 := by
  unfold bootBank; dsimp only; rw [if_neg (by simp [h]), if_pos ⟨hv, hb⟩]; rfl

theorem bootBank_none (h : s.bankBoots (s.get (F.CONSORT_BANK_STATE_BOOT_BANK 0)) = false)
    (hv : s.bank (1 - s.get (F.CONSORT_BANK_STATE_BOOT_BANK 0)) ≠ BK_VERIFIED ∨
      s.bankBoots (1 - s.get (F.CONSORT_BANK_STATE_BOOT_BANK 0)) = false) : s.bootBank = s.recover 3 := by
  unfold bootBank; dsimp only
  rw [if_neg (by simp [h]), if_neg (by rintro ⟨h1, h2⟩; rcases hv with hv | hv; exacts [hv h1, by simp [hv] at h2])]

theorem fallBack_spec (s : State) {b : Nat} (hb : b < 2) : (s.fallBack b).sid = s.sid ∧ (s.fallBack b).bootStep = s.bootStep ∧
    (s.fallBack b).get (F.CONSORT_BANK_STATE_BOOT_BANK 0) = b ∧ (s.fallBack b).flag F.SIDING_BOOT_STATUS_FALLBACK = true ∧
    (s.fallBack b).causeBit .SIDING 0 0 K.SIDING_BOOT_FALLBACK = true := by
  unfold fallBack
  generalize h1 : s.put F.SIDING_BOOT_STATUS_FALLBACK 1 = u
  have hsid : u.sid = s.sid := h1 ▸ put_sid ..
  have hstep : u.bootStep = s.bootStep := by
    rw [← h1, bootStep_put s _ (f := F.SIDING_BOOT_STATUS_FALLBACK) (by decide) rfl (by decide)]
  have hfall : u.flag F.SIDING_BOOT_STATUS_FALLBACK = true := by
    unfold flag; rw [← h1, get_put_same _ _ _ (by decide)]; rfl
  have hput := frame_put u (F.CONSORT_BANK_STATE_BOOT_BANK 0) b (by decide)
  have hbank : (u.put (F.CONSORT_BANK_STATE_BOOT_BANK 0) b).get (F.CONSORT_BANK_STATE_BOOT_BANK 0) = b := by
    rw [get_put_same _ _ _ (by decide)]; exact Nat.mod_eq_of_lt hb
  have hsid2 : (u.put (F.CONSORT_BANK_STATE_BOOT_BANK 0) b).sid = u.sid := put_sid ..
  generalize u.put (F.CONSORT_BANK_STATE_BOOT_BANK 0) b = v at hput hbank hsid2
  have hraise := frame_raiseSiding v K.SIDING_BOOT_FALLBACK
  refine ⟨?_, ?_, ?_, ?_, causeBit_raiseSiding v (by decide)⟩
  · rw [raise_sid, hsid2, hsid]
  · rw [hraise.bootStep (by unfold causeWords; decide), hput.bootStep (by decide), hstep]
  · rw [hraise.get (by decide) (by unfold causeWords; decide), hbank]
  · rw [hraise.flag (by decide) (by unfold causeWords; decide), hput.flag (by decide) (by decide), hfall]

/-- The run words of the processors lie apart from the words of SIDING and from BANK_STATE. -/
theorem runWords_apart {b : Nat} (h : A.SIDING ≤ b ∨ b = A.CONSORT_BANK_STATE 0) : ¬ ∃ p, p < 8 ∧ runWords p b := by
  rintro ⟨p, hp, hw⟩
  simp only [runWords, A.CONSORT_RUN_INFO, A.CONSORT_RUN_VERSION, A.CONSORT_RUN_SVN, A.CONSORT_BANK_STATE, A.CONSORT, A.SIDING] at *
  omega

/-- What the loaded run words leave. -/
theorem loaded_spec (u : State) {c : Nat} (hc : c < 2) : (((u.bootRuns c 8).setBootStep 5).bootStep = 5 ∧ ∀ p, p < 8 →
      ((u.bootRuns c 8).setBootStep 5).get (F.CONSORT_RUN_INFO_RUN_BANK p) = c ∧
      ((u.bootRuns c 8).setBootStep 5).get (F.CONSORT_RUN_INFO_RESTART_KIND p) = RS_BOOT) ∧
    ((u.bootRuns c 8).setBootStep 5).get (F.CONSORT_BANK_STATE_BOOT_BANK 0) = u.get (F.CONSORT_BANK_STATE_BOOT_BANK 0) ∧
    ((u.bootRuns c 8).setBootStep 5).flag F.SIDING_BOOT_STATUS_FALLBACK = u.flag F.SIDING_BOOT_STATUS_FALLBACK ∧
    ((u.bootRuns c 8).setBootStep 5).causeBit .SIDING 0 0 K.SIDING_BOOT_FALLBACK = u.causeBit .SIDING 0 0 K.SIDING_BOOT_FALLBACK := by
  have hruns := frame_bootRuns u c 8
  have hset := frame_setBootStep (u.bootRuns c 8) 5
  refine ⟨⟨bootStep_setBootStep _ (by decide), fun p hp => ?_⟩, ?_, ?_, ?_⟩
  · have hne : ¬ A.CONSORT_RUN_INFO p = A.SIDING_BOOT_STATUS := by
      simp only [A.CONSORT_RUN_INFO, A.CONSORT, A.SIDING_BOOT_STATUS, A.SIDING]; omega
    rw [hset.get (by decide : 0 + 1 ≤ 32) hne, hset.get (by decide : 1 + 3 ≤ 32) hne]
    exact runBank_bootRuns u hc hp
  · rw [hset.get (by decide) (by decide), hruns.get (by decide) (runWords_apart (.inr rfl))]
  · unfold flag
    rw [get_setBootStep _ _ (by decide) rfl (by decide), hruns.get (by decide) (runWords_apart (.inl (by decide)))]
  · rw [hset.causeBit (by decide), hruns.causeBit (runWords_apart (.inl (by decide)))]

end State

section
variable (hslot : slot < 64) (hb : s.booting = true)
include hslot hb

/-- Step 4 loads every processor from a bank and moves on. -/
theorem completes_bootStep_load {c : Nat} {u : State} (hk : s.bootStep = 4) (hu : s.bootBank = u.bootRuns c 8)
    (hsid : u.sid = s.sid) (hstep : u.bootStep = s.bootStep) :
    Completes (.bootStep (keyOk, slot)) s (· = ((u.bootRuns c 8).setBootStep 5).drivePins) := by
  have hruns := State.frame_bootRuns u c 8
  refine completes_bootStep hslot hb hk (by decide) (by decide) ((s.bootWork_bank keyOk).trans hu) ?_ ?_ rfl
  · rw [show (u.bootRuns c 8).sid = u.sid from hruns.1 .sid (by simp), hsid, State.booting_not_recovery hb]
  · rw [hruns.bootStep (State.runWords_apart (.inl (by decide))), hstep, hk]

/-- Step 4 (R495). -/
theorem completes_bootStep_bank (hk : s.bootStep = 4) :
    let b := s.get (F.CONSORT_BANK_STATE_BOOT_BANK 0)
    let loads := fun (c : Nat) (t : State) => t.bootStep = 5 ∧ ∀ p, p < 8 →
      t.get (F.CONSORT_RUN_INFO_RUN_BANK p) = c ∧ t.get (F.CONSORT_RUN_INFO_RESTART_KIND p) = RS_BOOT
    (s.bankBoots b = true → Completes (.bootStep (keyOk, slot)) s (loads b)) ∧
    (s.bankBoots b = false → s.bank (1 - b) = BK_VERIFIED → s.bankBoots (1 - b) = true →
      Completes (.bootStep (keyOk, slot)) s fun t => loads (1 - b) t ∧
        t.get (F.CONSORT_BANK_STATE_BOOT_BANK 0) = 1 - b ∧ t.flag F.SIDING_BOOT_STATUS_FALLBACK = true ∧
        t.causeBit .SIDING 0 0 K.SIDING_BOOT_FALLBACK = true) ∧
    (s.bankBoots b = false → (s.bank (1 - b) ≠ BK_VERIFIED ∨ s.bankBoots (1 - b) = false) →
      Completes (.bootStep (keyOk, slot)) s fun t =>
        t.sid.recovery = true ∧ t.get F.SIDING_BOOT_STATUS_RESULT = 3 ∧ t.bootStep = 4) := by
  intro b loads
  have hlt : b < 2 := s.get_lt (F.CONSORT_BANK_STATE_BOOT_BANK 0)
  refine ⟨fun h => ?_, fun h hv hboot => ?_, fun h hv => ?_⟩
  · obtain ⟨hload, _⟩ := State.loaded_spec s hlt
    refine (completes_bootStep_load hslot hb hk (State.bootBank_own h) rfl rfl).mono ?_
    rintro _ rfl
    generalize (s.bootRuns b 8).setBootStep 5 = u at hload
    simpa only [loads, State.bootStep_drivePins, State.get_drivePins] using hload
  · obtain ⟨hsid, hstep, hbank, hfall, hcause⟩ := State.fallBack_spec s (show 1 - b < 2 by omega)
    obtain ⟨hload, h1, h2, h3⟩ := State.loaded_spec (s.fallBack (1 - b)) (show 1 - b < 2 by omega)
    refine (completes_bootStep_load hslot hb hk (State.bootBank_other h hv hboot) hsid hstep).mono ?_
    rintro _ rfl
    rw [hbank] at h1
    rw [hfall] at h2
    rw [hcause] at h3
    generalize ((s.fallBack (1 - b)).bootRuns (1 - b) 8).setBootStep 5 = u at hload h1 h2 h3
    simp only [loads, State.bootStep_drivePins, State.get_drivePins, State.flag_drivePins, State.causeBit_drivePins]
    exact ⟨hload, h1, h2, h3⟩
  · exact completes_bootStep_recover hslot hb (by decide) hk (by decide) ((s.bootWork_bank keyOk).trans (State.bootBank_none h hv))

end

/-! ### Step 5: the grade (R55, R494) -/

/-- Words of the section and coach pages. -/
def coachPages (b : Nat) : Prop := 0x3000000 ≤ b

namespace State

theorem coachPages_info (n p : Nat) : coachPages (A.COACH_COACH_INFO n p) := by
  simp only [coachPages, A.COACH_COACH_INFO, A.COACH]; omega

theorem coachPages_state (n p : Nat) : coachPages (A.COACH n p + 12) := by
  simp only [coachPages, A.COACH]; omega

theorem coachPages_section (n : Nat) : coachPages (A.SECTION n + 12) := by
  simp only [coachPages, A.SECTION]; omega

theorem coachPages_remap (n l : Nat) : coachPages (A.SECTION_REMAP n l) := by
  simp only [coachPages, A.SECTION_REMAP, A.SECTION]; omega

theorem frame_showCoaches (s : State) (n : Nat) : Frame s (s.showCoaches n) [] coachPages := by
  unfold showCoaches; dsimp only
  refine Frame.put (Frame.foldl _ (fun t p _ => ?_) (.refl ..)) (coachPages_section n) (by decide : 17 + 1 ≤ 32)
  exact ((((Frame.refl ..).put (coachPages_info n p) (by decide : 5 + 1 ≤ 32)).put (coachPages_info n p) (by decide : 0 + 5 ≤ 32)).put
    (coachPages_info n p) (by decide : 6 + 1 ≤ 32)).put (coachPages_state n p) (by decide : 0 + 3 ≤ 32)

theorem frame_remap (s : State) (n l p : Nat) : Frame s (s.remap n l p) [] coachPages := by
  unfold remap
  exact ((Frame.refl ..).put (coachPages_remap n l) (by decide : 0 + 6 ≤ 32)).trans (frame_showCoaches ..)

/-- The function itself is unfolded, not its value: the kernel would evaluate the list of failed coaches first. -/
theorem frame_bootRemap (s : State) (n : Nat) : Frame s (s.bootRemap n) [] coachPages := by
  have hinfo : Frame s ((List.range 33).foldl (fun t p => t.put (F.COACH_COACH_INFO_ARRAY_OK n p) (t.manArrays n p)) s) [] coachPages :=
    Frame.foldl _ (fun t p _ => (Frame.refl ..).put (coachPages_info n p) (by decide : 16 + 16 ≤ 32)) (.refl ..)
  generalize hf : bootRemap = f
  delta bootRemap at hf
  subst hf
  dsimp only
  split
  · exact hinfo.trans (frame_remap ..)
  · exact hinfo.trans (frame_showCoaches ..)

theorem frame_bootRemaps (s : State) : Frame s ((List.range 16).foldl bootRemap s) [] coachPages :=
  Frame.foldl _ (fun t n _ => frame_bootRemap t n) (.refl ..)

/-- Sections with two failed coaches (R302). -/
def lameSections (s : State) : List Nat := (List.range 16).filter fun n => decide (2 ≤ (s.manFailed n).length)

end State

section
variable (h : Frame s t P W)
include h

theorem Frame.flashBytes (hc : .cons ∉ P) (r o n : Nat) : t.flashBytes r o n = s.flashBytes r o n := by
  unfold State.flashBytes State.flashByte; rw [show t.cons = s.cons from h.1 .cons hc]

theorem Frame.flashNum (hc : .cons ∉ P) (r o n : Nat) : t.flashNum r o n = s.flashNum r o n := by
  unfold State.flashNum; rw [h.flashBytes hc]

theorem Frame.manRegion (hW : ¬ W A.SIDING_BOOT_STATUS) : t.manRegion = s.manRegion := by
  unfold State.manRegion; rw [h.get (by decide) hW]

theorem Frame.manFailed (hc : .cons ∉ P) (hW : ¬ W A.SIDING_BOOT_STATUS) (n : Nat) : t.manFailed n = s.manFailed n := by
  unfold State.manFailed; rw [h.manRegion hW, h.flashNum hc]

theorem Frame.manTrims (hc : .cons ∉ P) (hW : ¬ W A.SIDING_BOOT_STATUS) : t.manTrims = s.manTrims := by
  unfold State.manTrims; rw [h.manRegion hW, show t.cons = s.cons from h.1 .cons hc]

end

namespace State

/-- The words of the grade stored: TOP.GRADE with its arrays, LANE_SLOTS and STACKS. -/
def gradeWords (s : State) (g n l k : Nat) : State :=
  (((s.wr A.TOP_GRADE g).put F.TOP_GRADE_ARRAYS n).wr A.TOP_LANE_SLOTS l).wr A.TOP_STACKS k

theorem frame_gradeWords (s : State) (g n l k : Nat) :
    Frame s (s.gradeWords g n l k) [] fun b => b = A.TOP_GRADE ∨ b = A.TOP_LANE_SLOTS ∨ b = A.TOP_STACKS :=
  ((((Frame.refl ..).wr (.inl rfl)).put (.inl rfl) (by decide)).wr (.inr (.inl rfl))).wr (.inr (.inr rfl))

theorem rd_gradeWords (s : State) (g n l k : Nat) : (s.gradeWords g n l k).rd A.TOP_LANE_SLOTS = l % 2 ^ 32 ∧
    (s.gradeWords g n l k).rd A.TOP_STACKS = k % 2 ^ 32 := by
  unfold gradeWords
  rw [rd_wr_other _ _ (by decide), rd_wr_same, rd_wr_same]
  exact ⟨rfl, rfl⟩

/-- Sections, grade and trims as step 5 leaves them. -/
def graded (s : State) (n : Nat) : State :=
  { ((((((List.range 16).foldl bootRemap s).wr A.TOP_GRADE (s.flashNum s.manRegion 0x40 4)).put F.TOP_GRADE_ARRAYS n).wr
      A.TOP_LANE_SLOTS (s.flashNum s.manRegion 0x44 4)).wr A.TOP_STACKS (s.flashNum s.manRegion 0x48 4)) with
    sid := { s.sid with lame := s.lameSections, trims := s.manTrims } }

/-- Step 5 stores the grade, with RESULT 4 where it does not fit, as where a section has two failed coaches. -/
theorem bootGrade_cases (s : State) : ∃ n, s.bootGrade = (s.graded n).put F.SIDING_BOOT_STATUS_RESULT 4 ∨
    (s.bootGrade = s.graded n ∧ s.lameSections = []) := by
  have hremap := frame_bootRemaps s
  have hnot : ¬ coachPages A.SIDING_BOOT_STATUS := by unfold coachPages; decide
  unfold graded
  rw [bootGrade]
  generalize (List.range 16).foldl bootRemap s = u at hremap
  have hlame : (List.range 16).filter (fun n => decide (2 ≤ (u.manFailed n).length)) = s.lameSections := by
    unfold lameSections
    simp only [hremap.manFailed (by simp) hnot]
  have hsid : u.sid = s.sid := hremap.1 .sid (by simp)
  have htrims : ∀ g n l k, ((((u.wr A.TOP_GRADE g).put F.TOP_GRADE_ARRAYS n).wr A.TOP_LANE_SLOTS l).wr A.TOP_STACKS k).manTrims =
      s.manTrims := fun g n l k =>
    ((frame_gradeWords u g n l k).manTrims (by simp) (by decide)).trans (hremap.manTrims (by simp) hnot)
  rw [hlame]
  simp only [htrims, wr_sid, put_sid, hsid]
  generalize (List.map (fun c : Nat × Nat => if (u.manFailed c.1).contains c.2 = true then 0 else popCount (u.manArrays c.1 c.2) 16)
    ((List.range 16).flatMap fun n => (List.range 32).map fun l => (n, u.get (F.SECTION_REMAP_PHYS n l)))).sum = arrays
  refine ⟨arrays, ?_⟩
  cases hl : s.lameSections with
  | nil => exact (ite_eq_or_eq _ _ _).imp id fun h => ⟨h, rfl⟩
  | cons n l => exact .inl (if_pos (by simp))

theorem remapValid_lame {n : Nat} (h : n ∈ s.sid.lame) : s.remapValid n = false := by
  unfold remapValid
  simp [h]

theorem graded_sid (s : State) (n : Nat) : (s.graded n).sid = { s.sid with lame := s.lameSections, trims := s.manTrims } := by
  rw [graded]

theorem frame_graded (s : State) (n : Nat) : Frame s (s.graded n) [.sid] fun b =>
    coachPages b ∨ b = A.TOP_GRADE ∨ b = A.TOP_LANE_SLOTS ∨ b = A.TOP_STACKS := by
  have hremap := frame_bootRemaps s
  rw [graded]
  generalize (List.range 16).foldl bootRemap s = u at hremap
  have hf := frame_gradeWords u (s.flashNum s.manRegion 0x40 4) n (s.flashNum s.manRegion 0x44 4) (s.flashNum s.manRegion 0x48 4)
  rw [gradeWords] at hf
  exact ((hremap.mono (by simp) fun _ => .inl).trans (hf.mono (by simp) fun _ => .inr)).setSid (by simp)

theorem rd_setSid (s : State) (x : Siding) (b : Nat) : ({ s with sid := x } : State).rd b = s.rd b := rfl

theorem rd_gradeFlash (s u : State) (n : Nat) :
    (u.gradeWords (s.flashNum s.manRegion 0x40 4) n (s.flashNum s.manRegion 0x44 4) (s.flashNum s.manRegion 0x48 4)).rd
      A.TOP_LANE_SLOTS = s.flashNum s.manRegion 0x44 4 ∧
    (u.gradeWords (s.flashNum s.manRegion 0x40 4) n (s.flashNum s.manRegion 0x44 4) (s.flashNum s.manRegion 0x48 4)).rd
      A.TOP_STACKS = s.flashNum s.manRegion 0x48 4 := by
  obtain ⟨h1, h2⟩ := rd_gradeWords u (s.flashNum s.manRegion 0x40 4) n (s.flashNum s.manRegion 0x44 4) (s.flashNum s.manRegion 0x48 4)
  exact ⟨h1.trans (Nat.mod_eq_of_lt (flashWord_lt ..)), h2.trans (Nat.mod_eq_of_lt (flashWord_lt ..))⟩

theorem rd_graded (s : State) (n : Nat) : (s.graded n).rd A.TOP_LANE_SLOTS = s.flashNum s.manRegion 0x44 4 ∧
    (s.graded n).rd A.TOP_STACKS = s.flashNum s.manRegion 0x48 4 := by
  rw [graded]
  generalize (List.range 16).foldl bootRemap s = u
  have h := rd_gradeFlash s u n
  rw [gradeWords] at h
  exact ⟨(rd_setSid ..).trans h.1, (rd_setSid ..).trans h.2⟩

/-- What step 5 leaves. -/
theorem bootGrade_spec (s : State) :
    s.bootGrade.bootStep = s.bootStep ∧ s.bootGrade.sid = { s.sid with lame := s.lameSections, trims := s.manTrims } ∧
    s.bootGrade.rd A.TOP_LANE_SLOTS = s.flashNum s.manRegion 0x44 4 ∧ s.bootGrade.rd A.TOP_STACKS = s.flashNum s.manRegion 0x48 4 ∧
    (s.lameSections ≠ [] → s.bootGrade.get F.SIDING_BOOT_STATUS_RESULT = 4) := by
  obtain ⟨n, hn⟩ := s.bootGrade_cases
  have hsid := s.graded_sid n
  have h1 : (s.graded n).bootStep = s.bootStep := (s.frame_graded n).bootStep (by unfold coachPages; decide)
  obtain ⟨h2, h3⟩ := s.rd_graded n
  generalize s.graded n = g at hn hsid h1 h2 h3
  rcases hn with hn | ⟨hn, hl⟩
  · have hput := frame_put g F.SIDING_BOOT_STATUS_RESULT 4 (by decide)
    rw [hn]
    refine ⟨?_, by rw [put_sid, hsid], by rw [hput.2 _ (by decide), h2], by rw [hput.2 _ (by decide), h3], fun _ => ?_⟩
    · rw [bootStep_put _ _ (f := F.SIDING_BOOT_STATUS_RESULT) (by decide) rfl (by decide), h1]
    · rw [get_put_same _ _ _ (by decide)]
      rfl
  · rw [hn]
    exact ⟨h1, hsid, h2, h3, fun h => absurd hl h⟩

end State

section
variable (hslot : slot < 64) (hb : s.booting = true)
include hslot hb

/-- Step 5 (R55, R494). -/
theorem completes_bootStep_grade (hk : s.bootStep = 5) : Completes (.bootStep (keyOk, slot)) s fun t =>
    t.bootStep = 6 ∧ t.rd A.TOP_LANE_SLOTS = s.flashNum s.manRegion 0x44 4 ∧
    t.rd A.TOP_STACKS = s.flashNum s.manRegion 0x48 4 ∧ t.sid.trims = s.manTrims ∧
    (∀ n, n < 16 → 2 ≤ ((bitList (s.flashNum s.manRegion (0x800 + 8 * n) 8) 33)).length →
      n ∈ t.sid.lame ∧ t.get F.SIDING_BOOT_STATUS_RESULT = 4 ∧ t.remapValid n = false) := by
  obtain ⟨hstep, hsid, h1, h2, h3⟩ := State.bootGrade_spec s
  generalize hu : s.bootGrade = u at hstep hsid h1 h2 h3
  have hset := State.frame_setBootStep u 6
  have htsid : (u.setBootStep 6).drivePins.sid = { s.sid with lame := s.lameSections, trims := s.manTrims } := by
    rw [State.drivePins_sid, State.setBootStep_sid, hsid]
  refine completes_bootStep hslot hb hk (by decide) (by decide) ((s.bootWork_grade keyOk).trans hu)
    (by rw [hsid, State.booting_not_recovery hb]) (hstep.trans hk) ⟨?_, ?_, ?_, by rw [htsid], fun n hn hfail => ?_⟩
  · rw [State.bootStep_drivePins, State.bootStep_setBootStep _ (by decide)]
  · rw [State.rd_drivePins, hset.2 _ (by decide), h1]
  · rw [State.rd_drivePins, hset.2 _ (by decide), h2]
  · have hmem : n ∈ s.lameSections := List.mem_filter.2 ⟨List.mem_range.2 hn, decide_eq_true hfail⟩
    refine ⟨by rw [htsid]; exact hmem, ?_, ?_⟩
    · rw [State.get_drivePins, State.get_setBootStep _ _ (by decide) rfl (by decide), h3 (List.ne_nil_of_mem hmem)]
    · exact State.remapValid_lame (by rw [htsid]; exact hmem)

end

/-! ### Step 6: the certificate (R498) -/

namespace State

/-- What step 6 leaves. -/
theorem bootCert_spec (s : State) :
    s.bootCert.bootStep = s.bootStep ∧ s.bootCert.sid = s.sid ∧
    s.bootCert.get F.SIDING_ID_INFO_CERT_LEN = derLength (s.flashBytes 4 0 4) % 2 ^ 13 ∧
    (s.sid.keyOk = true → Config.certKey (s.flashBytes 4 0 (derLength (s.flashBytes 4 0 4))) ≠ Config.idPub →
      s.bootCert.get F.SIDING_ID_INFO_ID_STATUS = 2 ∧ s.bootCert.causeBit .SIDING 0 0 K.SIDING_ID_FAIL = true) := by
  unfold bootCert
  dsimp only
  generalize derLength (s.flashBytes 4 0 4) = n
  have hput := frame_put s F.SIDING_ID_INFO_CERT_LEN n (by decide)
  have hlen : (s.put F.SIDING_ID_INFO_CERT_LEN n).get F.SIDING_ID_INFO_CERT_LEN = n % 2 ^ 13 := by
    rw [get_put_same _ _ _ (by decide)]; rfl
  generalize s.put F.SIDING_ID_INFO_CERT_LEN n = u at hput hlen
  have hsid : u.sid = s.sid := hput.1 .sid (by simp)
  rw [hsid, hput.flashBytes (by simp)]
  split
  · have hstat := frame_put u F.SIDING_ID_INFO_ID_STATUS 2 (by decide)
    have h2 : (u.put F.SIDING_ID_INFO_ID_STATUS 2).get F.SIDING_ID_INFO_ID_STATUS = 2 := by
      rw [get_put_same _ _ _ (by decide)]; rfl
    have hlen2 : (u.put F.SIDING_ID_INFO_ID_STATUS 2).get F.SIDING_ID_INFO_CERT_LEN = n % 2 ^ 13 := by
      rw [get_put_bits u F.SIDING_ID_INFO_ID_STATUS F.SIDING_ID_INFO_CERT_LEN 2 (by decide) (by decide) rfl (by decide), hlen]
    generalize u.put F.SIDING_ID_INFO_ID_STATUS 2 = v at hstat h2 hlen2
    have hraise := frame_raiseSiding v K.SIDING_ID_FAIL
    refine ⟨?_, ?_, ?_, fun _ _ => ⟨?_, causeBit_raiseSiding v (by decide)⟩⟩
    · rw [hraise.bootStep (by unfold causeWords; decide), hstat.bootStep (by decide), hput.bootStep (by decide)]
    · rw [raise_sid, show v.sid = u.sid from hstat.1 .sid (by simp), hsid]
    · rw [hraise.get (by decide) (by unfold causeWords; decide), hlen2]
    · rw [hraise.get (by decide) (by unfold causeWords; decide), h2]
  · next h => exact ⟨hput.bootStep (by decide), hsid, hlen, fun h1 h2 => absurd ⟨h1, h2⟩ h⟩

end State

/-- Step 6 (R498). -/
theorem completes_bootStep_cert (hslot : slot < 64) (hb : s.booting = true) (hk : s.bootStep = 6) :
    let n := derLength (s.flashBytes 4 0 4)
    Completes (.bootStep (keyOk, slot)) s fun t =>
      t.bootStep = 7 ∧ t.get F.SIDING_ID_INFO_CERT_LEN = n % 2 ^ 13 ∧
      (s.sid.keyOk = true → Config.certKey (s.flashBytes 4 0 n) ≠ Config.idPub →
        t.get F.SIDING_ID_INFO_ID_STATUS = 2 ∧ t.causeBit .SIDING 0 0 K.SIDING_ID_FAIL = true) := by
  intro n
  obtain ⟨hstep, hsid, h1, h2⟩ := State.bootCert_spec s
  generalize hu : s.bootCert = u at hstep hsid h1 h2
  have hset := State.frame_setBootStep u 7
  refine completes_bootStep hslot hb hk (by decide) (by decide) ((s.bootWork_cert keyOk).trans hu)
    (by rw [hsid, State.booting_not_recovery hb]) (hstep.trans hk) ⟨?_, ?_, fun h3 h4 => ⟨?_, ?_⟩⟩
  · rw [State.bootStep_drivePins, State.bootStep_setBootStep _ (by decide)]
  · rw [State.get_drivePins, hset.get (by decide) (by decide), h1]
  · rw [State.get_drivePins, hset.get (by decide) (by decide), (h2 h3 h4).1]
  · rw [State.causeBit_drivePins, hset.causeBit (by decide), (h2 h3 h4).2]

end Sys2Proof.Machine
end

section
/-! CERTIFICATE. The register bus released, and the module ready (R488, R495, R499, R512). -/

namespace Sys2Proof.Machine

variable {s t : State} {P : List Part} {W : Nat → Prop} {keyOk : Bool} {slot : Nat}

/-! ### Step 7: the regions of protection (R488, R499) -/

theorem shaBlocks_length (n : Nat) (l : List Byte) (h : List (BitVec 64)) : (shaBlocks n l h).length ≤ h.length := by
  induction n generalizing l h with
  | zero => exact le_refl _
  | succ n ih =>
    refine (ih _ _).trans ?_
    simp only [shaBlock, List.length_map, List.length_zip]
    exact Nat.min_le_left ..

theorem sha512_length (l : List Byte) : (sha512 l).length ≤ 64 := by
  have h : ∀ ws : List (BitVec 64), (ws.flatMap fun w => beBytes 8 w.toNat).length = 8 * ws.length := fun ws => by
    simp [beBytes, Nat.mul_comm]
  unfold sha512
  rw [h]
  exact Nat.mul_le_mul_left 8 (shaBlocks_length ..)

theorem slice_flashBytes (s : State) (r o : Nat) {k n m : Nat} (h : k + n ≤ m) :
    slice (s.flashBytes r o m) k n = s.flashBytes r (o + k) n := by
  unfold slice State.flashBytes
  refine List.map_congr_left fun i hi => ?_
  have hi := List.mem_range.1 hi
  rw [List.getD_eq_getElem?_getD, List.getElem?_map, List.getElem?_range (by omega)]
  simp [Nat.add_assoc]

namespace State

/-- The words of a region of protection. -/
def regionWords (i b : Nat) : Prop := b = A.PROT_REGION_BASE i ∨ b = A.PROT_REGION_LIMIT i ∨ b = A.PROT_REGION_RIGHTS i

/-- A region of protection stored from the bytes of the manifest. -/
def setRegion (s : State) (l : List Byte) (i : Nat) : State :=
  ((s.put (F.PROT_REGION_BASE_BASE i) (numAt l (12 * i) 4 / 4)).put (F.PROT_REGION_LIMIT_LIMIT i)
    (numAt l (12 * i + 4) 4 / 4)).wr (A.PROT_REGION_RIGHTS i) (numAt l (12 * i + 8) 4 % 32)

theorem frame_setRegion (s : State) (l : List Byte) (i : Nat) : Frame s (s.setRegion l i) [] (regionWords i) :=
  (((Frame.refl ..).put (.inl rfl) (by decide : 2 + 24 ≤ 32)).put (.inr (.inl rfl)) (by decide : 2 + 24 ≤ 32)).wr (.inr (.inr rfl))

theorem rd_setRegion (s : State) (l : List Byte) (i : Nat) :
    (s.setRegion l i).rd (A.PROT_REGION_RIGHTS i) = numAt l (12 * i + 8) 4 % 32 := by
  unfold setRegion
  rw [rd_wr_same]
  exact Nat.mod_eq_of_lt (lt_trans (Nat.mod_lt _ (by decide)) (by decide))

/-- The regions of protection stored. -/
def setRegions (s : State) (l : List Byte) (n : Nat) : State := (List.range n).foldl (fun u i => u.setRegion l i) s

theorem setRegions_succ (s : State) (l : List Byte) (n : Nat) : s.setRegions l (n + 1) = (s.setRegions l n).setRegion l n := by
  unfold setRegions; rw [List.range_succ, List.foldl_concat]

theorem frame_setRegions (s : State) (l : List Byte) (n : Nat) : Frame s (s.setRegions l n) [] fun b => ∃ i, i < n ∧ regionWords i b :=
  Frame.foldl _ (fun t i hi => (frame_setRegion t l i).mono (fun _ h => h) fun _ hb => ⟨i, List.mem_range.1 hi, hb⟩) (.refl ..)

theorem rd_setRegions (s : State) (l : List Byte) {i n : Nat} (hi : i < n) :
    (s.setRegions l n).rd (A.PROT_REGION_RIGHTS i) = numAt l (12 * i + 8) 4 % 32 := by
  induction n with
  | zero => omega
  | succ n ih =>
    rw [setRegions_succ]
    by_cases hin : i = n
    · subst hin; exact rd_setRegion ..
    · rw [(frame_setRegion _ l n).2 _ (by
        simp only [regionWords, A.PROT_REGION_RIGHTS, A.PROT_REGION_BASE, A.PROT_REGION_LIMIT]; omega)]
      exact ih (by omega)

/-- The protection set up from the bytes of the manifest, hashed and locked. -/
def protection (s : State) (l : List Byte) : State :=
  ((s.setRegions l 32).wordsFrom (A.PROT_PROT_HASH 0) (sha512 ((s.setRegions l 32).wordBytes (A.PROT_REGION_BASE 0) 96))).put
    F.PROT_LOCK_LOCKED 1

/-- The words of PROT. -/
def protWords (b : Nat) : Prop := A.PROT ≤ b ∧ b < A.PROT + 0x1000

theorem protWords_region {i b : Nat} (hi : i < 32) (h : regionWords i b) : protWords b := by
  simp only [regionWords, A.PROT_REGION_RIGHTS, A.PROT_REGION_BASE, A.PROT_REGION_LIMIT] at h
  unfold protWords
  omega

/-- The hash lies below the regions. -/
theorem hashWords_below (l : List Byte) {b : Nat} (h : A.PROT_PROT_HASH 0 ≤ b ∧ b < A.PROT_PROT_HASH 0 + ((sha512 l).length + 3)) :
    A.PROT + 0x40 ≤ b ∧ b < A.PROT + 0x100 := by
  have hlen := sha512_length l
  simp only [A.PROT_PROT_HASH] at h
  omega

theorem protection_spec (s : State) (l : List Byte) : Frame s (s.protection l) [] protWords ∧
    (s.protection l).flag F.PROT_LOCK_LOCKED = true ∧
    ∀ i, i < 32 → (s.protection l).rd (A.PROT_REGION_RIGHTS i) = numAt l (12 * i + 8) 4 % 32 := by
  have hregions := s.frame_setRegions l 32
  have hrd := fun i (hi : i < 32) => s.rd_setRegions l hi
  unfold protection
  generalize s.setRegions l 32 = u at hregions hrd
  generalize hm : u.wordBytes (A.PROT_REGION_BASE 0) 96 = m
  have hhash := u.frame_wordsFrom (A.PROT_PROT_HASH 0) (sha512 m)
  generalize u.wordsFrom (A.PROT_PROT_HASH 0) (sha512 m) = v at hhash
  have hlock := frame_put v F.PROT_LOCK_LOCKED 1 (by decide)
  refine ⟨?_, ?_, fun i hi => ?_⟩
  · have h1 : Frame s u [] protWords := hregions.mono (fun _ h => h) fun _ ⟨i, hi, h⟩ => protWords_region hi h
    have h2 : Frame u v [] protWords := hhash.mono (fun _ h => h) fun b hb => by
      have := hashWords_below m hb
      unfold protWords; omega
    exact (h1.trans h2).put (by unfold protWords; decide) (by decide)
  · unfold flag
    rw [get_put_same _ _ _ (by decide)]
    decide
  · have hapart : A.PROT + 0x100 ≤ A.PROT_REGION_RIGHTS i := by simp only [A.PROT_REGION_RIGHTS]; omega
    have hne : A.PROT_REGION_RIGHTS i ≠ F.PROT_LOCK_LOCKED.addr := by
      have : F.PROT_LOCK_LOCKED.addr = A.PROT + 0x20 := rfl
      omega
    rw [hlock.2 _ hne, hhash.2 _ fun hb => by have := hashWords_below m hb; omega, hrd i hi]

/-- The register bus released, the protection set up and locked. -/
def busReleased (s : State) : State :=
  ({ s.protection (s.flashBytes s.manRegion 0x6500 384) with
    sid := { (s.protection (s.flashBytes s.manRegion 0x6500 384)).sid with released := true } } : State).setBootStep 8

end State

theorem exec_registerBusRelease (s : State) : exec .registerBusRelease s =
    s.finish true fun t => if ¬ t.booting ∨ t.bootStep ≠ 7 then t else t.busReleased := rfl

/-- The release of the register bus (R488, R492, R499). -/
theorem completes_registerBusRelease (hb : s.booting = true) (hk : s.bootStep = 7) : Completes .registerBusRelease s fun t =>
    t.sid.released = true ∧ t.bootStep = 8 ∧ t.flag F.PROT_LOCK_LOCKED = true ∧
    ∀ i, i < 32 → t.rd (A.PROT_REGION_RIGHTS i) = s.flashNum s.manRegion (0x6500 + 12 * i + 8) 4 % 32 := by
  refine completes_of_finish (exec_registerBusRelease s) rfl ?_
  rw [if_neg (by simp [hb, hk])]
  obtain ⟨-, hlock, hrights⟩ := s.protection_spec (s.flashBytes s.manRegion 0x6500 384)
  generalize hu : s.protection (s.flashBytes s.manRegion 0x6500 384) = u at hlock hrights
  unfold State.busReleased
  rw [hu]
  generalize hv : ({ u with sid := { u.sid with released := true } } : State) = v
  have hrel : v.sid.released = true := hv ▸ rfl
  have hrd : ∀ b, v.rd b = u.rd b := fun b => hv ▸ State.rd_setSid u _ b
  have hset := v.frame_setBootStep 8
  refine ⟨?_, ?_, ?_, fun i hi => ?_⟩
  · rw [State.drivePins_sid, State.setBootStep_sid, hrel]
  · rw [State.bootStep_drivePins, State.bootStep_setBootStep _ (by decide)]
  · rw [State.flag_drivePins]
    unfold State.flag at hlock ⊢
    rw [hset.get (by decide) (by decide)]
    unfold State.get at hlock ⊢
    rw [if_pos (by decide)] at hlock ⊢
    rw [hrd]
    exact hlock
  · have hne : A.PROT_REGION_RIGHTS i ≠ A.SIDING_BOOT_STATUS := by
      simp only [A.PROT_REGION_RIGHTS, A.PROT, A.SIDING_BOOT_STATUS, A.SIDING]
      omega
    rw [State.rd_drivePins, hset.2 _ hne, hrd, hrights i hi]
    unfold numAt State.flashNum
    rw [slice_flashBytes _ _ _ (by omega), Nat.add_assoc]

end Sys2Proof.Machine
end

section
/-! CERTIFICATE. The module ready (R378, R438, R495, R512), and the boot as a whole. -/

namespace Sys2Proof.Machine

variable {s t : State} {P : List Part} {W : Nat → Prop} {keyOk : Bool} {slot : Nat}

/-! ### Events as a frame -/

theorem Frame.setCause (h : Frame s t P W) {pg m : Nat} (hW : ∀ a, causeWords pg a → W a) : Frame s (t.setCause pg m) P W :=
  h.trans ⟨fun p _ => by cases p <;> simp [Part.same], fun a ha => t.rd_setCause_other pg m (fun e => ha (hW a (.inl e)))
    (fun e => ha (hW a (.inr (.inl e)))) fun e => ha (hW a (.inr (.inr e)))⟩

theorem Frame.raiseAs (h : Frame s t P W) {b : Blk} {i j m d : Nat} {x : List Nat} (hP : .flt ∈ P)
    (hW : ∀ a, causeWords (b.causePage i j) a → W a) : Frame s (t.raiseAs b i j m d x) P W := by
  have hc : Frame s (t.setCause (b.causePage i j) m) P W := h.setCause hW
  unfold State.raiseAs
  dsimp only
  split
  · exact hc
  · refine hc.foldl _ fun u k _ => ?_
    split
    · exact (Frame.refl ..).report hP
    · exact .refl ..

/-! ### The states of the domains -/

/-- The words DFAULT and RECOVERY of a domain. -/
def faultWords (d b : Nat) : Prop := b = dfaultAddr d ∨ b = dfaultAddr d + 4

theorem dfaultAddr_aligned (d : Nat) : dfaultAddr d % 8 = 0 := by
  unfold dfaultAddr
  simp only [A.RESET_DFAULT, A.RESET_COACH_DFAULT, A.RESET_LANE_DFAULT, A.RESET_LINE_DFAULT, A.RESET]
  split <;> omega

theorem dfaultAddr_module : dfaultAddr (dom 0 0) = 0x11000 := by decide

/-- The words of every other domain lie above the module's. -/
theorem dfaultAddr_above {d : Nat} (h : domKind d ≠ 0) : 0x11008 ≤ dfaultAddr d := by
  unfold dfaultAddr
  simp only [A.RESET_DFAULT, A.RESET_COACH_DFAULT, A.RESET_LANE_DFAULT, A.RESET_LINE_DFAULT, A.RESET]
  split <;> omega

/-- A domain under another is not of the module's kind. -/
theorem domKind_of_above {d x n : Nat} (h : (domAbove d n).contains x = true) : domKind d ≠ 0 := by
  intro h0
  have hnone : domParent d = none := by unfold domParent; rw [h0]; rfl
  cases n with
  | zero => simp [domAbove] at h
  | succ n => simp [domAbove, hnone] at h

namespace State

theorem frame_setFault (s : State) (d df rc : Nat) : Frame s (s.setFault d df rc) [.flt] fun b => domKind d ≠ 3 ∧ faultWords d b := by
  unfold setFault
  split
  · exact (Frame.refl ..).setFlt (by simp)
  · next h => exact ((Frame.refl ..).wr ⟨h, .inl rfl⟩).wr ⟨h, .inr rfl⟩

theorem frame_setFstate (s : State) (d v : Nat) : Frame s (s.setFstate d v) [.flt] fun b => domKind d ≠ 3 ∧ faultWords d b :=
  frame_setFault ..

theorem fstate_rd (s : State) {d : Nat} (h : domKind d ≠ 3) : s.fstate d = s.rd (dfaultAddr d) % 4 := by
  unfold fstate dfault; rw [if_neg h]

theorem fstate_module (s : State) : s.fstate (dom 0 0) = s.rd 0x11000 % 4 := by
  rw [fstate_rd s (by decide), dfaultAddr_module]

/-- The module's FSTATE after it is stored. -/
theorem fstate_setFstate_module (s : State) : (s.setFstate (dom 0 0) 0).fstate (dom 0 0) = 0 := by
  have hd : dfaultAddr (dom 0 0) ≠ dfaultAddr (dom 0 0) + 4 := by omega
  rw [fstate_rd _ (by decide)]
  unfold setFstate setFault
  rw [if_neg (by decide), rd_wr_other _ _ hd, rd_wr_same]
  generalize s.dfault (dom 0 0) = x
  unfold setBits
  omega

/-- The words that the children of the module change: those of the domains in CONTAIN. -/
def childWords (s : State) (b : Nat) : Prop := ∃ d, domKind d ≠ 0 ∧ domKind d ≠ 3 ∧ s.rd (dfaultAddr d) % 4 = 1 ∧ faultWords d b

theorem frame_enterQuiet (s : State) (d : Nat) : Frame s (s.enterQuiet d) [.flt, .timers] fun b => domKind d ≠ 3 ∧ faultWords d b := by
  unfold enterQuiet
  exact ((s.frame_setFstate d 2).mono (by simp) fun _ h => h).startTimer (by simp)

theorem frame_childrenQuiet (s : State) (d : Nat) : Frame s (s.childrenQuiet d) [.flt, .timers] s.childWords := by
  unfold childrenQuiet
  refine (Frame.refl ..).foldl _ fun t x hx => ?_
  obtain ⟨-, hx⟩ := List.mem_filter.1 hx
  simp only [Bool.and_eq_true, beq_iff_eq, decide_eq_true_eq] at hx
  obtain ⟨⟨-, habove⟩, hcontain⟩ := hx
  refine (((Frame.refl t ..).setFlt (by simp)).trans ((frame_enterQuiet _ x.domain).mono (fun _ h => h) fun b hb => ?_))
  exact ⟨x.domain, domKind_of_above habove, hb.1, (s.fstate_rd hb.1).symm.trans hcontain, hb.2⟩

/-- The children leave the DFAULT words of domains that are not in CONTAIN. -/
theorem not_childWords {d : Nat} (h : s.rd (dfaultAddr d) % 4 ≠ 1) : ¬ s.childWords (dfaultAddr d) := by
  rintro ⟨x, -, -, hx, e | e⟩
  · exact h (e ▸ hx)
  · have := dfaultAddr_aligned d
    have := dfaultAddr_aligned x
    omega

theorem childWords_above {b : Nat} (h : s.childWords b) : 0x11008 ≤ b := by
  obtain ⟨x, h0, -, -, h | h⟩ := h <;> have := dfaultAddr_above h0 <;> omega

theorem domAbove_proc : ∀ p, p < 8 → domAbove (dom 8 p) 4 = [dom 0 0] := by decide

theorem dom_proc : ∀ p, p < 8 → dom 8 p ≠ dom 0 0 ∧ domKind (dom 8 p) = 8 := by decide

/-- A processor is not fenced while its domain and the module's serve. -/
theorem fenced_proc_of_serving {p : Nat} (hp : p < 8) (h : s.fstate (dom 8 p) = 0) (h0 : s.fstate (dom 0 0) = 0) :
    s.fenced (dom 8 p) = false := by
  unfold fenced fencedSelf
  simp [domAbove_proc p hp, (dom_proc p hp).1, h, h0]

/-- A processor that is not fenced serves. -/
theorem fstate_of_not_fenced {p : Nat} (hp : p < 8) (h : s.fenced (dom 8 p) = false) : s.fstate (dom 8 p) = 0 := by
  unfold fenced fencedSelf at h
  have hne := (dom_proc p hp).1
  simp only [List.any_cons, Bool.or_eq_false_iff, if_neg hne] at h
  simpa [hne] using h.1

/-! ### The processors start -/

/-- The words that the start of a processor's image writes. -/
def imageWords (b : Nat) : Prop := 0x40000 ≤ b

theorem startImage_boot (s : State) (p : Nat) : s.startImage p RS_BOOT =
    (({ s.put (F.CONSORT_RUN_INFO_RESTART_KIND p) RS_BOOT with
      cons := { (s.put (F.CONSORT_RUN_INFO_RESTART_KIND p) RS_BOOT).cons with
        running := (s.put (F.CONSORT_RUN_INFO_RESTART_KIND p) RS_BOOT).cons.running.filter (fun q => q ≠ p) ++ [p] } } : State).put
      (procMach p) UP).startTimer { kind := .procWatch, a := p } := rfl

theorem frame_startImage_boot (s : State) (p : Nat) : Frame s (s.startImage p RS_BOOT) [.cons, .timers] imageWords := by
  rw [startImage_boot]
  have h1 : Frame s (s.put (F.CONSORT_RUN_INFO_RESTART_KIND p) RS_BOOT) [.cons, .timers] imageWords :=
    (Frame.refl ..).put (by
      simp only [imageWords, F.CONSORT_RUN_INFO_RESTART_KIND, A.CONSORT_RUN_INFO, A.CONSORT]; omega) (by decide : 1 + 3 ≤ 32)
  exact ((h1.setCons (by simp)).put (by simp only [imageWords, procMach, A.CONSORT]; omega) (by decide : 0 + 3 ≤ 32)).startTimer
    (by simp)

theorem running_startImage_boot (s : State) (p : Nat) :
    (s.startImage p RS_BOOT).cons.running = s.cons.running.filter (fun q => q ≠ p) ++ [p] := by
  rw [startImage_boot, startTimer_cons, put_cons, put_cons]

/-- The processors of a list start. -/
def startImages (s : State) (l : List Nat) : State := l.foldl (fun u p => u.startImage p RS_BOOT) s

theorem frame_startImages (s : State) (l : List Nat) : Frame s (s.startImages l) [.cons, .timers] imageWords :=
  (Frame.refl ..).foldl _ fun t p _ => frame_startImage_boot t p

theorem running_startImages (l : List Nat) (s : State) {p : Nat} (h : p ∈ l ∨ p ∈ s.cons.running) :
    p ∈ (s.startImages l).cons.running := by
  induction l generalizing s with
  | nil => exact h.resolve_left (by simp)
  | cons q l ih =>
    refine ih (s.startImage q RS_BOOT) ?_
    by_cases hq : p = q
    · subst hq
      right
      rw [running_startImage_boot]
      simp
    · refine h.imp (fun h => (List.mem_cons.1 h).resolve_left hq) fun h => ?_
      rw [running_startImage_boot]
      simp [h, hq]

/-! ### The module ready -/

/-- The module serves: the processors that are not fenced start, and the state reads READY. -/
def serving (s : State) : State :=
  let t0 := (s.setFstate (dom 0 0) 0).childrenQuiet (dom 0 0)
  ((t0.startImages ((List.range 8).filter fun p => !t0.fenced (dom 8 p))).put F.TOP_STATE_MODULE 1)

/-- The trips that ended the last reset. -/
def trips (s : State) : Nat :=
  (if s.flag F.POWER_TRIP_LOG_THERM_TRIP then 2 ^ K.POWER_THERM_TRIP else 0) +
    (if s.flag F.POWER_TRIP_LOG_OC_TRIP then 2 ^ K.POWER_OC_TRIP else 0)

/-- The timers of a module that has become READY, and the trips reported. -/
def announced (s : State) : State :=
  let t2 := (s.stopTimer { kind := .deadline, a := dom 0 0 }).startTimer { kind := .heartbeat, a := 0 }
  if t2.trips ≠ 0 ∧ t2.get F.RESET_LAST_MODULE_RESET_CAUSE = MR_MOD_EN then t2.raiseAs .POWER 0 0 t2.trips (dom 0 0) [] else t2

/-- The children in QUIET, before the processors start. -/
def parted (s : State) : State := (s.setFstate (dom 0 0) 0).childrenQuiet (dom 0 0)

theorem serving_eq (s : State) : s.serving =
    (s.parted.startImages ((List.range 8).filter fun p => !s.parted.fenced (dom 8 p))).put F.TOP_STATE_MODULE 1 := rfl

theorem fstate_parted_module (s : State) : s.parted.fstate (dom 0 0) = 0 := by
  unfold parted
  have h0 := fstate_setFstate_module s
  generalize s.setFstate (dom 0 0) 0 = u at h0 ⊢
  have hapart : ¬ u.childWords 0x11000 := fun h => absurd (childWords_above h) (by decide)
  rw [fstate_module] at h0 ⊢
  rw [(u.frame_childrenQuiet (dom 0 0)).2 _ hapart, h0]

/-- A processor whose domain serves goes on serving. -/
theorem fstate_parted_proc {p : Nat} (hp : p < 8) (h : s.fstate (dom 8 p) = 0) : s.parted.fstate (dom 8 p) = 0 := by
  have h8 := (dom_proc p hp).2
  have hk : domKind (dom 8 p) ≠ 3 := by omega
  have habove := dfaultAddr_above (d := dom 8 p) (by omega)
  rw [fstate_rd _ hk] at h ⊢
  unfold parted
  have hset := s.frame_setFstate (dom 0 0) 0
  generalize s.setFstate (dom 0 0) 0 = u at hset ⊢
  have hu : u.rd (dfaultAddr (dom 8 p)) = s.rd (dfaultAddr (dom 8 p)) := hset.2 _ fun ⟨_, hw⟩ => by
    unfold faultWords at hw
    rw [dfaultAddr_module] at hw
    omega
  rw [(u.frame_childrenQuiet (dom 0 0)).2 _ (not_childWords (by omega)), hu, h]

/-- The words that the start of service changes lie in RESET or above it. -/
theorem frame_parted (s : State) : Frame s s.parted [.flt, .timers] fun b => 0x11000 ≤ b := by
  refine ((s.frame_setFstate (dom 0 0) 0).mono (by simp) fun b hb => ?_).trans
    ((frame_childrenQuiet _ _).mono (fun _ h => h) fun b hb => ?_)
  · obtain ⟨-, hb⟩ := hb
    unfold faultWords at hb
    rw [dfaultAddr_module] at hb
    omega
  · have := childWords_above hb
    omega

theorem serving_spec (s : State) : Frame s s.serving [.flt, .timers, .cons] (fun b => b = 12 ∨ 0x11000 ≤ b) ∧
    s.serving.get F.TOP_STATE_MODULE = 1 ∧ s.serving.fstate (dom 0 0) = 0 ∧
    ∀ p, p < 8 → s.fenced (dom 8 p) = false → p ∈ s.serving.cons.running := by
  have hframe := s.frame_parted
  have h0 := s.fstate_parted_module
  have hproc := fun p (hp : p < 8) (h : s.fenced (dom 8 p) = false) =>
    fenced_proc_of_serving hp (fstate_parted_proc hp (fstate_of_not_fenced hp h)) h0
  rw [serving_eq]
  generalize s.parted = u at hframe h0 hproc ⊢
  generalize hl : ((List.range 8).filter fun p => !u.fenced (dom 8 p)) = l
  have himages := u.frame_startImages l
  have hrun := fun p (h : p ∈ l) => running_startImages l u (.inl h)
  generalize u.startImages l = v at himages hrun ⊢
  refine ⟨?_, ?_, ?_, fun p hp h => ?_⟩
  · exact ((hframe.mono (by simp) fun _ => .inr).trans
      (himages.mono (by simp) fun b hb => .inr (by unfold imageWords at hb; omega))).put (.inl rfl) (by decide)
  · rw [get_put_same _ _ _ (by decide)]; rfl
  · rw [fstate_module] at h0 ⊢
    rw [(frame_put v F.TOP_STATE_MODULE 1 (by decide)).2 _ (by decide), himages.2 _ (by unfold imageWords; decide), h0]
  · rw [put_cons]
    exact hrun p (hl ▸ List.mem_filter.2 ⟨List.mem_range.2 hp, by simp [hproc p hp h]⟩)

theorem announced_spec (s : State) : Frame s s.announced [.flt, .timers] (causeWords A.POWER) ∧
    s.announced.timer { kind := .deadline, a := dom 0 0 } = none ∧
    s.announced.timer { kind := .heartbeat, a := 0 } = some s.clk := by
  unfold announced
  dsimp only
  generalize hu : (s.stopTimer { kind := .deadline, a := dom 0 0 }).startTimer { kind := .heartbeat, a := 0 } = u
  have hframe : Frame s u [.flt, .timers] (causeWords A.POWER) :=
    hu ▸ ((Frame.refl ..).stopTimer (by simp)).startTimer (by simp)
  have hdeadline : u.timer { kind := .deadline, a := dom 0 0 } = none := by
    rw [← hu, timer_startTimer_other _ (by decide), timer_stopTimer_same]
  have hheart : u.timer { kind := .heartbeat, a := 0 } = some s.clk := by
    rw [← hu, timer_startTimer_same, stopTimer_clk]
  split
  · have hraise : Frame u (u.raiseAs .POWER 0 0 u.trips (dom 0 0) []) [.flt] (causeWords A.POWER) :=
      (Frame.refl ..).raiseAs (by simp) fun _ h => h
    have htimers : (u.raiseAs .POWER 0 0 u.trips (dom 0 0) []).timers = u.timers := hraise.1 .timers (by simp)
    unfold timer at hdeadline hheart ⊢
    rw [htimers]
    exact ⟨hframe.trans (hraise.mono (by simp) fun _ h => h), hdeadline, hheart⟩
  · exact ⟨hframe, hdeadline, hheart⟩

/-- READY follows the state of the module while the power and the reset allow it (R512). -/
theorem ready_drivePins (s : State) (h : s.get F.TOP_STATE_MODULE = 1) :
    s.drivePins.pins.ready = (s.pow.hotSwap && s.pins.modEn && s.pins.resetN) := by
  have hready : s.drivePins.pins.ready = s.pinLevels.2.2 := rfl
  rw [hready]
  unfold pinLevels
  cases s.pow.hotSwap && s.pins.modEn && s.pins.resetN
  · rfl
  · simp [h]

end State

theorem exec_moduleReady (s : State) : exec .moduleReady s = s.finish true fun t =>
    if t.sid.released ∧ t.pow.released ∧ ¬ t.sid.recovery ∧ t.get F.SIDING_BOOT_STATUS_RESULT = 0 ∧
        t.get F.TOP_STATE_MODULE = 0 ∧ t.stacksTrained ∧ t.fstate (dom 0 0) ≠ 3 then t.serving.announced
    else t := rfl

/-- The module ready (R495, R512). -/
theorem completes_moduleReady (hbus : s.sid.released = true) (hreset : s.pow.released = true) (hrec : s.sid.recovery = false)
    (hresult : s.get F.SIDING_BOOT_STATUS_RESULT = 0) (hmodule : s.get F.TOP_STATE_MODULE = 0) (hstacks : s.stacksTrained = true)
    (hstop : s.fstate (dom 0 0) ≠ 3) : Completes .moduleReady s fun t =>
      t.get F.TOP_STATE_MODULE = 1 ∧ t.fstate (dom 0 0) = 0 ∧ (∀ p, p < 8 → s.fenced (dom 8 p) = false → p ∈ t.cons.running) ∧
      t.pins.ready = (s.pow.hotSwap && s.pins.modEn && s.pins.resetN) ∧ t.timer { kind := .deadline, a := dom 0 0 } = none ∧
      t.timer { kind := .heartbeat, a := 0 } = some s.clk := by
  refine completes_of_finish (exec_moduleReady s) rfl ?_
  rw [if_pos ⟨hbus, hreset, by simp [hrec], hresult, hmodule, hstacks, hstop⟩]
  obtain ⟨hserve, hready, hserves, hrun⟩ := s.serving_spec
  generalize s.serving = u at hserve hready hserves hrun ⊢
  obtain ⟨hann, hdeadline, hheart⟩ := u.announced_spec
  generalize u.announced = v at hann hdeadline hheart ⊢
  have hmod : v.get F.TOP_STATE_MODULE = 1 := (hann.get (by decide) (by unfold causeWords; decide)).trans hready
  have hpins := hann.1 .inputs (by simp)
  have hpins' := hserve.1 .inputs (by simp)
  have hpow : v.pow = s.pow := (hann.1 .pow (by simp)).trans (hserve.1 .pow (by simp))
  refine ⟨?_, ?_, fun p hp h => ?_, ?_, ?_, ?_⟩
  · rw [State.get_drivePins, hmod]
  · rw [State.fstate_module] at hserves ⊢
    rw [State.rd_drivePins, hann.2 _ (by unfold causeWords; decide), hserves]
  · rw [State.drivePins_cons, show v.cons = u.cons from hann.1 .cons (by simp)]
    exact hrun p hp h
  · rw [v.ready_drivePins hmod, hpow, hpins.1, hpins.2.1, hpins'.1, hpins'.2.1]
  · rw [State.timer_drivePins, hdeadline]
  · rw [State.timer_drivePins, hheart, show u.clk = s.clk from hserve.1 .clk (by simp)]

/-! ### The boot as a whole -/

/-- Step 2 (R497). -/
theorem completes_bootStep_identity (hslot : slot < 64) (hb : s.booting = true) (hk : s.bootStep = 2) :
    Completes (.bootStep (keyOk, slot)) s fun t => t.bootStep = 3 ∧ t.sid.keyOk = keyOk ∧
      (keyOk = true → t.get F.SIDING_ID_INFO_ID_STATUS = 0 ∧
        t.rd A.SIDING_DEVICE_TAG = numAt (sha512 (slice Config.idPub 0 133)) 0 4) ∧
      (keyOk = false → t.get F.SIDING_ID_INFO_ID_STATUS = 1 ∧ t.rd A.SIDING_DEVICE_TAG = 0 ∧
        t.causeBit .SIDING 0 0 K.SIDING_ID_FAIL = true) := by
  cases keyOk
  case true => exact (completes_bootStep_key hslot hb hk).mono fun t h => by simpa using h
  case false => exact (completes_bootStep_no_key hslot hb hk).mono fun t h => by simpa using h

/-- Settles O54: every step of the boot by the state it leaves. -/
theorem bootStepsRunReleaseTheBusAndReachReady : Obligations.BootStepsRunReleaseTheBusAndReachReady := by
  unfold Obligations.BootStepsRunReleaseTheBusAndReachReady
  intro s keyOk slot hslot
  refine ⟨completes_firstBootStep hslot, completes_bootStep_none hslot, fun hb => ⟨completes_bootStep_rom hslot hb,
    completes_bootStep_identity hslot hb, completes_bootStep_manifest hslot hb, completes_bootStep_bank hslot hb,
    completes_bootStep_grade hslot hb, completes_bootStep_cert hslot hb, completes_registerBusRelease hb⟩, completes_moduleReady⟩

end Sys2Proof.Machine
end

section
/-! SUPPORT. A granule read, corrected and upset: what each does to the memory and to the registers of its stack. -/

namespace Sys2Proof.Machine

variable {s t u : State} {P : List Part} {W : Nat → Prop} {n g : Nat}

/-- The words of a stack that a read of a granule may write: its counters, UE_ADDR and its causes. -/
def readWords (n b : Nat) : Prop :=
  (A.HBM n + 0x80 ≤ b ∧ b < A.HBM n + 0xB0) ∨ pairWords (A.HBM_UE_ADDR n) b ∨ causeWords (A.HBM n) b

theorem causePage_hbm (n : Nat) : Blk.causePage .HBM n 0 = A.HBM n := by
  simp [Blk.causePage, Blk.page, Blk.info, A.HBM]

/-- A counter of a stack among those that reads count in. -/
theorem readWords_counter {k b : Nat} (hk : 0x80 ≤ k ∧ k + 8 ≤ 0xB0) (h : pairWords (A.HBM n + k) b) : readWords n b := by
  unfold pairWords at h
  exact .inl (by omega)

theorem readWords_cause {b : Nat} (h : causeWords (Blk.causePage .HBM n 0) b) : readWords n b :=
  .inr (.inr (causePage_hbm n ▸ h))

theorem Frame.capture (h : Frame s t P W) {f : Fld} {g : State → State} (ha : W f.addr) (h4 : W (f.addr + 4))
    (hg : ∀ u, Frame u (g u) P W) : Frame s (t.capture f g) P W := by
  unfold State.capture
  split
  · exact h
  · exact (h.trans (hg t)).put64 ha h4

section
variable (h : Frame s t P W)
include h

theorem Frame.stackOf (ha : .asm ∉ P) (a : Nat) : t.stackOf a = s.stackOf a := by
  unfold State.stackOf; rw [h.1 .asm ha]

theorem Frame.inRow (ha : .asm ∉ P) (n pc bank row g : Nat) : t.inRow n pc bank row g = s.inRow n pc bank row g := by
  unfold State.inRow State.channelOf; rw [h.stackOf ha, h.1 .asm ha]

theorem Frame.setSynd (hP : .mem ∈ P) {v : Nat} : Frame s (t.setSynd g v) P W := h.setMem hP
theorem Frame.setByte (hP : .mem ∈ P) {a : Nat} {b : Byte} : Frame s (t.setByte a b) P W := h.setMem hP
theorem Frame.correct (hP : .mem ∈ P) {i : Nat} : Frame s (t.correct g i) P W := (h.setByte hP).setSynd hP

end

namespace State

/-! ### What the memory alone decides -/

theorem granSynd_congr (h : t.mem = s.mem) (g : Nat) : t.granSynd g = s.granSynd g := by unfold granSynd; rw [h]

theorem byteAt_congr (h : t.mem = s.mem) (a : Nat) : t.byteAt a = s.byteAt a := by unfold byteAt; rw [h]

theorem setByte_mem_congr (h : t.mem = s.mem) (a : Nat) (b : Byte) : (t.setByte a b).mem = (s.setByte a b).mem :=
  congrArg (fun m : Memory => { m with bytes := Tab.put 0 m.bytes a b }) h

theorem setSynd_mem_congr (h : t.mem = s.mem) (g v : Nat) : (t.setSynd g v).mem = (s.setSynd g v).mem :=
  congrArg (fun m : Memory => { m with synd := Tab.put 0 m.synd g (BitVec.ofNat 16 v) }) h

/-! ### What a read finds -/

theorem readGran_good (s : State) (h : synd (s.granSynd g) = .good) :
    (s.readGran g).2 = s.bump (A.HBM_BYTES_READ (s.stackOf (16 * g))) 16 := by
  unfold readGran; dsimp only; rw [h]

theorem readGran_check (s : State) (h : synd (s.granSynd g) = .check) :
    (s.readGran g).2 = (s.bump (A.HBM_BYTES_READ (s.stackOf (16 * g))) 16).corrected (s.stackOf (16 * g)) := by
  unfold readGran; dsimp only; rw [h]

theorem readGran_bit (s : State) {i : Nat} (h : synd (s.granSynd g) = .bit i) :
    (s.readGran g).2 = (s.bump (A.HBM_BYTES_READ (s.stackOf (16 * g))) 16).corrected (s.stackOf (16 * g)) := by
  unfold readGran; dsimp only; rw [h]

theorem readGran_ue (s : State) (h : synd (s.granSynd g) = .ue) :
    (s.readGran g).2 = (((s.bump (A.HBM_BYTES_READ (s.stackOf (16 * g))) 16).bump (A.HBM_UE (s.stackOf (16 * g))) 1).captureUe
      (s.stackOf (16 * g)) (16 * g)).raise .HBM (s.stackOf (16 * g)) 0 K.HBM_UE := by
  unfold readGran; dsimp only; rw [h]

theorem readGran_addr (s : State) (h : synd (s.granSynd g) = .addr) :
    (s.readGran g).2 = (((s.bump (A.HBM_BYTES_READ (s.stackOf (16 * g))) 16).bump (A.HBM_ADDR_ERRS (s.stackOf (16 * g))) 1).captureUe
      (s.stackOf (16 * g)) (16 * g)).raise .HBM (s.stackOf (16 * g)) 0 K.HBM_ADDR_ERR := by
  unfold readGran; dsimp only; rw [h]

theorem frame_captureUe (s : State) (n a : Nat) : Frame s (s.captureUe n a) [.flt] (pairWords (A.HBM_UE_ADDR n)) :=
  (Frame.refl ..).capture (.inl rfl) (.inr rfl) fun u => (Frame.refl u ..).put64 (.inl rfl) (.inr rfl)

theorem frame_corrected (s : State) (n : Nat) : Frame s (s.corrected n) [.flt] (pairWords (A.HBM_CE n)) :=
  ((Frame.refl ..).bump (.inl rfl) (.inr rfl)).report (by simp)

theorem frame_readGran (s : State) (g : Nat) : Frame s (s.readGran g).2 [.flt] (readWords (s.stackOf (16 * g))) := by
  have hread : Frame s (s.bump (A.HBM_BYTES_READ (s.stackOf (16 * g))) 16) [.flt] (readWords (s.stackOf (16 * g))) :=
    (Frame.refl ..).bump (readWords_counter (k := 0xA8) (by decide) (.inl rfl)) (readWords_counter (k := 0xA8) (by decide) (.inr rfl))
  have hcounts (k : Nat) (hk : 0x80 ≤ k ∧ k + 8 ≤ 0xB0) (t : State) (ht : Frame s t [.flt] (readWords (s.stackOf (16 * g)))) :
      Frame s (t.bump (A.HBM (s.stackOf (16 * g)) + k) 1) [.flt] (readWords (s.stackOf (16 * g))) :=
    ht.bump (readWords_counter hk (.inl rfl)) (readWords_counter hk (.inr rfl))
  have hbad (t : State) (k : Nat) (ht : Frame s t [.flt] (readWords (s.stackOf (16 * g)))) :
      Frame s ((t.captureUe (s.stackOf (16 * g)) (16 * g)).raise .HBM (s.stackOf (16 * g)) 0 k) [.flt] (readWords (s.stackOf (16 * g))) :=
    (ht.trans ((frame_captureUe t _ _).mono (fun _ h => h) fun _ h => .inr (.inl h))).raise (by simp) fun _ => readWords_cause
  unfold readGran; dsimp only
  split
  · exact hread
  · exact (hcounts 0x80 (by decide) _ hread).report (by simp)
  · exact (hcounts 0x80 (by decide) _ hread).report (by simp)
  · exact hbad _ _ (hcounts 0x90 (by decide) _ hread)
  · exact hcounts 0x98 (by decide) _ hread
  · exact hbad _ _ (hcounts 0x88 (by decide) _ hread)

/-- A field of a pair of words reads as it was stored. -/
theorem get_put_wide (s : State) (f : Fld) (v : Nat) (hlo : 32 < f.lo + f.width) (hhi : f.lo + f.width ≤ 64) :
    (s.put f v).get f = v % 2 ^ f.width := by
  unfold get put
  rw [if_neg (by omega), if_neg (by omega)]
  change bits (State.rd64 _ _) _ _ = _
  rw [rd64_wr64_same, Nat.mod_eq_of_lt (setBits_lt _ _ _ _ 64 hhi (rd64_lt ..)),
    bits_setBits_same]

/-- An uncorrectable granule is captured (R381). -/
theorem valid_captureUe (s : State) (n a : Nat) : (s.captureUe n a).flag (F.HBM_UE_ADDR_VALID n) = true := by
  unfold captureUe capture
  split
  · next h => exact h
  · unfold flag
    rw [get_put_wide _ _ _ (by decide : 32 < 63 + 1) (by decide : 63 + 1 ≤ 64)]
    exact (by decide : (1 % 2 ^ 1 != 0) = true)

/-! ### The scrub of a granule -/

theorem scrubGran_keep (s : State) (h : synd (s.granSynd g) = .good ∨ synd (s.granSynd g) = .poisoned) : s.scrubGran g = s := by
  unfold scrubGran; rcases h with h | h <;> rw [h]

theorem scrubGran_check (s : State) (h : synd (s.granSynd g) = .check) : s.scrubGran g = s.setSynd g 0 := by
  unfold scrubGran; rw [h]

theorem scrubGran_bit (s : State) {i : Nat} (h : synd (s.granSynd g) = .bit i) : s.scrubGran g = s.correct g i := by
  unfold scrubGran; rw [h]

theorem scrubGran_bad (s : State) (h : synd (s.granSynd g) = .addr ∨ synd (s.granSynd g) = .ue) : s.scrubGran g = s.poison g := by
  unfold scrubGran; rcases h with h | h <;> rw [h]

theorem frame_scrubGran (s : State) (g : Nat) : Frame s (s.scrubGran g) [.mem] fun _ => False := by
  have hsynd (v : Nat) : Frame s (s.setSynd g v) [.mem] fun _ => False := (Frame.refl ..).setSynd (by simp)
  unfold scrubGran
  split
  · exact .refl ..
  · exact hsynd 0
  · exact (Frame.refl ..).correct (by simp)
  · exact hsynd 0xFFFF
  · exact hsynd 0xFFFF
  · exact .refl ..

theorem granSynd_correct (s : State) (g i : Nat) : (s.correct g i).granSynd g = 0 := granSynd_setSynd_same ..

/-- A data bit that a syndrome names is one of the granule's 128. -/
theorem synd_bit_lt {x i : Nat} (h : synd x = .bit i) : i < 128 := by
  have hfind : (weight3.take 128).findIdx? (· == x) = some i := by
    unfold synd at h
    dsimp only at h
    split at h
    · exact absurd h (by simp)
    · split at h
      · exact absurd h (by simp)
      · split at h
        · next j hj => rw [hj]; simpa using h
        · split at h
          · exact absurd h (by simp)
          · split at h <;> exact absurd h (by simp)
  obtain ⟨hi, -⟩ := List.findIdx?_eq_some_iff_getElem.1 hfind
  exact hi.trans_le (List.length_take_le ..)

/-- The scrub of a granule leaves the others. -/
theorem scrubGran_other (s : State) {k : Nat} (h : k ≠ g) : (s.scrubGran g).granSynd k = s.granSynd k ∧
    ∀ a, a / 16 = k → (s.scrubGran g).byteAt a = s.byteAt a := by
  have hsynd (v : Nat) : (s.setSynd g v).granSynd k = s.granSynd k ∧ ∀ a, a / 16 = k → (s.setSynd g v).byteAt a = s.byteAt a :=
    ⟨s.granSynd_setSynd_other v h, fun a _ => byteAt_setSynd ..⟩
  unfold scrubGran
  split
  · exact ⟨rfl, fun _ _ => rfl⟩
  · exact hsynd 0
  · next i hi =>
    have := synd_bit_lt hi
    refine ⟨(granSynd_setSynd_other _ _ h).trans (granSynd_setByte ..), fun a ha => ?_⟩
    unfold correct
    rw [byteAt_setSynd, byteAt_setByte_other _ _ (by omega)]
  · exact hsynd 0xFFFF
  · exact hsynd 0xFFFF
  · exact ⟨rfl, fun _ _ => rfl⟩

/-! ### Flipped bits -/

/-- The bytes of a granule with the data bits of a list flipped. -/
def flipBits (s : State) (g : Nat) (l : List Nat) : State := l.foldl (fun t i => t.setByte (16 * g + i / 8)
  (t.byteAt (16 * g + i / 8) ^^^ BitVec.ofNat 8 (2 ^ (i % 8)))) s

theorem upset_eq (s : State) (g data check : Nat) : s.upset g data check = (s.flipBits g (bitList data 128)).setSynd g
    ((s.flipBits g (bitList data 128)).granSynd g ^^^ checkWord data 0 ^^^ (check % 65536)) := rfl

theorem frame_flipBits (s : State) (g : Nat) (l : List Nat) : Frame s (s.flipBits g l) [.mem] fun _ => False :=
  (Frame.refl ..).foldl _ fun t _ _ => (Frame.refl t ..).setByte (by simp)

theorem frame_upset (s : State) (g data check : Nat) : Frame s (s.upset g data check) [.mem] fun _ => False := by
  rw [upset_eq]
  exact (s.frame_flipBits g _).setSynd (by simp)

/-- A table of bytes with the data bits of a granule flipped. -/
def flippedBytes (b : List (Nat × Byte)) (g : Nat) (l : List Nat) : List (Nat × Byte) :=
  l.foldl (fun b i => Tab.put 0 b (16 * g + i / 8) (Tab.get 0 b (16 * g + i / 8) ^^^ BitVec.ofNat 8 (2 ^ (i % 8)))) b

theorem flipBits_mem (l : List Nat) (s : State) (g : Nat) :
    (s.flipBits g l).mem = { s.mem with bytes := flippedBytes s.mem.bytes g l } := by
  induction l generalizing s with
  | nil => rfl
  | cons i l ih => exact ih _

theorem upset_mem (s : State) (g data check : Nat) : (s.upset g data check).mem =
    { s.mem with
      bytes := flippedBytes s.mem.bytes g (bitList data 128)
      synd := Tab.put 0 s.mem.synd g (BitVec.ofNat 16 (s.granSynd g ^^^ checkWord data 0 ^^^ (check % 65536))) } := by
  rw [upset_eq]
  unfold setSynd granSynd
  rw [flipBits_mem]

/-- What flips depends on the memory alone. -/
theorem upset_mem_congr (h : t.mem = s.mem) (g data check : Nat) : (t.upset g data check).mem = (s.upset g data check).mem := by
  rw [upset_mem, upset_mem, granSynd_congr h, h]

/-- Flips of a granule leave the bytes of the others. -/
theorem flipBits_other (l : List Nat) (hl : ∀ i ∈ l, i < 128) (s : State) {a : Nat} (h : a / 16 ≠ g) :
    (s.flipBits g l).byteAt a = s.byteAt a := by
  induction l generalizing s with
  | nil => rfl
  | cons i l ih =>
    have hi := hl i List.mem_cons_self
    exact (ih (fun j hj => hl j (List.mem_cons_of_mem _ hj)) _).trans (byteAt_setByte_other _ _ (by omega))

theorem granSynd_flipBits (l : List Nat) (s : State) (g k : Nat) : (s.flipBits g l).granSynd k = s.granSynd k := by
  induction l generalizing s with
  | nil => rfl
  | cons i l ih => exact (ih _).trans (granSynd_setByte ..)

theorem upset_other (s : State) (data check : Nat) {k : Nat} (h : k ≠ g) : (s.upset g data check).granSynd k = s.granSynd k ∧
    ∀ a, a / 16 = k → (s.upset g data check).byteAt a = s.byteAt a := by
  rw [upset_eq]
  refine ⟨(granSynd_setSynd_other _ _ h).trans (granSynd_flipBits ..), fun a ha => ?_⟩
  rw [byteAt_setSynd]
  exact flipBits_other _ (fun i hi => List.mem_range.1 (List.mem_filter.1 hi).1) s (ha ▸ h)

end State
end Sys2Proof.Machine
end

section
/-! CERTIFICATE. The patrol scrub and the refresh (R380 to R383). -/

namespace Sys2Proof.Machine

variable {s t u v : State} {P : List Part} {W : Nat → Prop} {n g : Nat}

namespace State

theorem setSynd_bytes (s : State) (g v : Nat) : (s.setSynd g v).mem.bytes = s.mem.bytes := rfl

/-! ### What a read of a granule counts -/

theorem rd64_corrected (s : State) (n : Nat) : (s.corrected n).rd64 (A.HBM_CE n) = (s.rd64 (A.HBM_CE n) + 1) % 2 ^ 64 := by
  have hreport (u : State) : (u.report 355 (dom 7 n) []).rd64 (A.HBM_CE n) = u.rd64 (A.HBM_CE n) := by
    unfold rd64; rw [rd_report, rd_report]
  exact (hreport _).trans (rd64_bump_same ..)

theorem frame_bytesRead (s : State) (n : Nat) : Frame s (s.bump (A.HBM_BYTES_READ n) 16) [] (pairWords (A.HBM_BYTES_READ n)) :=
  (Frame.refl ..).bump (.inl rfl) (.inr rfl)

/-- The counters of a stack lie apart. -/
theorem counters_apart (n : Nat) {j k : Nat} (h : j + 8 ≤ k ∨ k + 8 ≤ j) :
    ¬ pairWords (A.HBM n + j) (A.HBM n + k) ∧ ¬ pairWords (A.HBM n + j) (A.HBM n + k + 4) := by
  unfold pairWords; omega

/-- A corrected error is counted (R380). -/
theorem rd64_ce_readGran (s : State) (h : synd (s.granSynd g) = .check ∨ ∃ i, synd (s.granSynd g) = .bit i) :
    (s.readGran g).2.rd64 (A.HBM_CE (s.stackOf (16 * g))) = (s.rd64 (A.HBM_CE (s.stackOf (16 * g))) + 1) % 2 ^ 64 := by
  have hapart := counters_apart (s.stackOf (16 * g)) (j := 0xA8) (k := 0x80) (by decide)
  have hread : (s.readGran g).2 = (s.bump (A.HBM_BYTES_READ (s.stackOf (16 * g))) 16).corrected (s.stackOf (16 * g)) := by
    rcases h with h | ⟨i, h⟩
    · exact s.readGran_check h
    · exact s.readGran_bit h
  rw [hread, rd64_corrected, (s.frame_bytesRead _).rd64 (a := A.HBM_CE _) hapart.1 hapart.2]

/-- What the capture of an uncorrectable granule and its event leave. -/
theorem bad_spec (s : State) (n a k : Nat) (hk : k < 32) :
    ((s.captureUe n a).raise .HBM n 0 k).causeBit .HBM n 0 k = true ∧
    ((s.captureUe n a).raise .HBM n 0 k).flag (F.HBM_UE_ADDR_VALID n) = true ∧
    ((s.captureUe n a).raise .HBM n 0 k).rd64 (A.HBM_UE n) = s.rd64 (A.HBM_UE n) := by
  have hcapture := s.frame_captureUe n a
  have hvalid := s.valid_captureUe n a
  generalize s.captureUe n a = t at hcapture hvalid ⊢
  have hraise : Frame t (t.raise .HBM n 0 k) [.flt] (causeWords (A.HBM n)) :=
    (Frame.refl ..).raise (by simp) fun b hb => causePage_hbm n ▸ hb
  have hapart := counters_apart n (j := 0x38) (k := 0x88) (by decide)
  refine ⟨cause_raise t .HBM n 0 k [] hk, ?_, ?_⟩
  · unfold flag at hvalid ⊢
    rw [hraise.get64 (by simp only [causeWords, F.HBM_UE_ADDR_VALID, A.HBM_UE_ADDR]; omega)
      (by simp only [causeWords, F.HBM_UE_ADDR_VALID, A.HBM_UE_ADDR]; omega)]
    exact hvalid
  · rw [hraise.rd64 (by simp only [causeWords, A.HBM_UE]; omega) (by simp only [causeWords, A.HBM_UE]; omega),
      hcapture.rd64 (a := A.HBM_UE n) hapart.1 hapart.2]

/-- An uncorrectable granule is counted, captured and raised (R381). -/
theorem readGran_ue_spec (s : State) (h : synd (s.granSynd g) = .ue) :
    (s.readGran g).2.causeBit .HBM (s.stackOf (16 * g)) 0 K.HBM_UE = true ∧
    (s.readGran g).2.flag (F.HBM_UE_ADDR_VALID (s.stackOf (16 * g))) = true ∧
    (s.readGran g).2.rd64 (A.HBM_UE (s.stackOf (16 * g))) = (s.rd64 (A.HBM_UE (s.stackOf (16 * g))) + 1) % 2 ^ 64 := by
  have hapart := counters_apart (s.stackOf (16 * g)) (j := 0xA8) (k := 0x88) (by decide)
  rw [s.readGran_ue h]
  obtain ⟨h1, h2, h3⟩ := bad_spec ((s.bump (A.HBM_BYTES_READ (s.stackOf (16 * g))) 16).bump (A.HBM_UE (s.stackOf (16 * g))) 1)
    (s.stackOf (16 * g)) (16 * g) K.HBM_UE (by decide)
  refine ⟨h1, h2, h3.trans ?_⟩
  rw [rd64_bump_same, (s.frame_bytesRead _).rd64 (a := A.HBM_UE _) hapart.1 hapart.2]

/-- A granule of another address is raised (R380). -/
theorem readGran_addr_spec (s : State) (h : synd (s.granSynd g) = .addr) :
    (s.readGran g).2.causeBit .HBM (s.stackOf (16 * g)) 0 K.HBM_ADDR_ERR = true := by
  rw [s.readGran_addr h]
  exact (bad_spec _ _ _ _ (by decide)).1

end State

/-! ### The patrol scrub (R382) -/

section
variable {data check : Nat} {race : Bool}

/-- The scrub of a granule that is due reads it after its bits have flipped, and acts on what it finds. -/
theorem completes_patrolScrub (hn : n < stackCount s.asm) (hg : s.stackOf (16 * g) = n) (hmax : g < stackCount s.asm * 3221225472)
    (hserves : s.stackServes n = true)
    (hdue : (s.timer (patrolKey g)).isNone = true ∨ s.due (patrolKey g) (ms (3600000 * max 1 (s.get (F.HBM_CFG_SCRUB_H n)))) = true)
    {R : State → Prop} (h : ∀ v, v.mem = (s.upset g data check).mem → Frame s v [.mem, .timers] (fun _ => False) →
      v.timer (patrolKey g) = some s.clk →
      R (if race then (v.readGran g).2 else (v.readGran g).2.scrubGran g).drivePins) :
    Completes (.patrolScrub n g data check race) s R := by
  have hexec : exec (.patrolScrub n g data check race) s = execPatrolScrub n g data check race s := rfl
  refine completes_of_finish (hexec.trans rfl) (by simp [hn, hg, hmax]) ?_
  rw [if_pos ⟨hserves, hdue⟩]
  have htimer : (s.startTimer (patrolKey g)).timer (patrolKey g) = some s.clk := State.timer_startTimer_same ..
  have hstart : Frame s (s.startTimer (patrolKey g)) [.mem, .timers] fun _ => False := (Frame.refl ..).startTimer (by simp)
  have hmem : (s.startTimer (patrolKey g)).mem = s.mem := State.startTimer_mem ..
  generalize s.startTimer (patrolKey g) = x at htimer hstart hmem ⊢
  have hflip := x.frame_upset g data check
  refine h _ (State.upset_mem_congr hmem ..) (hstart.trans (hflip.mono (by simp) fun _ h => h)) ?_
  unfold State.timer at htimer ⊢
  rw [show (x.upset g data check).timers = x.timers from hflip.1 .timers (by simp)]
  exact htimer

variable (hn : n < stackCount s.asm) (hg : s.stackOf (16 * g) = n) (hmax : g < stackCount s.asm * 3221225472)
  (hserves : s.stackServes n = true)
  (hdue : (s.timer (patrolKey g)).isNone = true ∨ s.due (patrolKey g) (ms (3600000 * max 1 (s.get (F.HBM_CFG_SCRUB_H n)))) = true)
include hn hg hmax hserves hdue

/-- A granule that was written meanwhile stays as it is. -/
theorem completes_patrolScrub_race :
    Completes (.patrolScrub n g data check true) s fun t => t.mem = (s.upset g data check).mem := by
  refine completes_patrolScrub hn hg hmax hserves hdue fun v hv _ _ => ?_
  rw [if_pos rfl, State.drivePins_mem, State.readGran_mem, hv]

theorem completes_patrolScrub_good (h : synd ((s.upset g data check).granSynd g) = .good) :
    Completes (.patrolScrub n g data check false) s fun t => t.mem = (s.upset g data check).mem ∧
      t.timer (patrolKey g) = some s.clk ∧ Frame s t [.mem, .timers] (pairWords (A.HBM_BYTES_READ n)) ∧
      t.rd64 (A.HBM_BYTES_READ n) = (s.rd64 (A.HBM_BYTES_READ n) + 16) % 2 ^ 64 := by
  refine completes_patrolScrub hn hg hmax hserves hdue fun v hv hframe htimer => ?_
  have hsynd : synd (v.granSynd g) = .good := by rw [State.granSynd_congr hv, h]
  have hstack : v.stackOf (16 * g) = n := (hframe.stackOf (by simp) _).trans hg
  have hread := v.readGran_good hsynd
  rw [hstack] at hread
  rw [if_neg (by decide), State.scrubGran_keep _ (.inl (by rw [State.granSynd_congr (v.readGran_mem g), hsynd])), hread]
  refine ⟨?_, ?_, ?_, ?_⟩
  · rw [State.drivePins_mem, State.bump_mem, hv]
  · rw [State.timer_drivePins]
    unfold State.timer at htimer ⊢
    rw [State.bump_timers, htimer]
  · exact ((hframe.mono (fun _ h => h) fun _ h => h.elim).bump (.inl rfl) (.inr rfl)).drivePins
  · rw [State.rd64_drivePins, State.rd64_bump_same, hframe.rd64 id id]

theorem completes_patrolScrub_check (h : synd ((s.upset g data check).granSynd g) = .check) :
    Completes (.patrolScrub n g data check false) s fun t => t.mem.bytes = (s.upset g data check).mem.bytes ∧ t.granSynd g = 0 ∧
      t.rd64 (A.HBM_CE n) = (s.rd64 (A.HBM_CE n) + 1) % 2 ^ 64 := by
  refine completes_patrolScrub hn hg hmax hserves hdue fun v hv hframe _ => ?_
  have hsynd : synd (v.granSynd g) = .check := by rw [State.granSynd_congr hv, h]
  have hstack : v.stackOf (16 * g) = n := (hframe.stackOf (by simp) _).trans hg
  have hce := v.rd64_ce_readGran (.inl hsynd)
  have hmem : (v.readGran g).2.mem = v.mem := v.readGran_mem g
  have hfound : synd ((v.readGran g).2.granSynd g) = .check := by rw [State.granSynd_congr hmem, hsynd]
  rw [if_neg (by decide)]
  rw [hstack, hframe.rd64 id id] at hce
  generalize (v.readGran g).2 = w at hce hmem hfound ⊢
  have hrd := (w.frame_scrubGran g).rd64 (a := A.HBM_CE n) id id
  rw [w.scrubGran_check hfound] at hrd ⊢
  refine ⟨?_, ?_, ?_⟩
  · rw [State.drivePins_mem, State.setSynd_bytes, hmem, hv]
  · exact w.granSynd_setSynd_same g 0
  · rw [State.rd64_drivePins, hrd, hce]

theorem completes_patrolScrub_bit {i : Nat} (h : synd ((s.upset g data check).granSynd g) = .bit i) :
    Completes (.patrolScrub n g data check false) s fun t =>
      t.byteAt (16 * g + i / 8) = (s.upset g data check).byteAt (16 * g + i / 8) ^^^ BitVec.ofNat 8 (2 ^ (i % 8)) ∧
      (∀ a, a ≠ 16 * g + i / 8 → t.byteAt a = (s.upset g data check).byteAt a) ∧ t.granSynd g = 0 ∧
      t.rd64 (A.HBM_CE n) = (s.rd64 (A.HBM_CE n) + 1) % 2 ^ 64 := by
  refine completes_patrolScrub hn hg hmax hserves hdue fun v hv hframe _ => ?_
  have hsynd : synd (v.granSynd g) = .bit i := by rw [State.granSynd_congr hv, h]
  have hstack : v.stackOf (16 * g) = n := (hframe.stackOf (by simp) _).trans hg
  have hce := v.rd64_ce_readGran (.inr ⟨i, hsynd⟩)
  have hmem : (v.readGran g).2.mem = v.mem := v.readGran_mem g
  have hfound : synd ((v.readGran g).2.granSynd g) = .bit i := by rw [State.granSynd_congr hmem, hsynd]
  rw [if_neg (by decide)]
  rw [hstack, hframe.rd64 id id] at hce
  generalize (v.readGran g).2 = w at hce hmem hfound ⊢
  have hrd := (w.frame_scrubGran g).rd64 (a := A.HBM_CE n) id id
  have hbytes := State.byteAt_congr (hmem.trans hv)
  rw [w.scrubGran_bit hfound] at hrd ⊢
  refine ⟨?_, fun a ha => ?_, w.granSynd_correct g i, ?_⟩
  · rw [State.byteAt_congr (State.drivePins_mem _), ← hbytes]
    unfold State.correct
    rw [State.byteAt_setSynd, State.byteAt_setByte_same]
  · rw [State.byteAt_congr (State.drivePins_mem _), ← hbytes]
    unfold State.correct
    rw [State.byteAt_setSynd, State.byteAt_setByte_other _ _ ha]
  · rw [State.rd64_drivePins, hrd, hce]

/-- A granule that no correction restores is poisoned, its bytes as they were. -/
theorem completes_patrolScrub_bad {R : State → Prop}
    (h : synd ((s.upset g data check).granSynd g) = .addr ∨ synd ((s.upset g data check).granSynd g) = .ue)
    (hR : ∀ v t, v.mem = (s.upset g data check).mem → Frame s v [.mem, .timers] (fun _ => False) →
      Frame (v.readGran g).2 t [.mem] (fun _ => False) → R t) :
    Completes (.patrolScrub n g data check false) s fun t => t.mem.bytes = (s.upset g data check).mem.bytes ∧
      t.granSynd g = 0xFFFF ∧ R t := by
  refine completes_patrolScrub hn hg hmax hserves hdue fun v hv hframe _ => ?_
  have hmem : (v.readGran g).2.mem = v.mem := v.readGran_mem g
  have hR := fun t ht => hR v t hv hframe ht
  have hfound : synd ((v.readGran g).2.granSynd g) = .addr ∨ synd ((v.readGran g).2.granSynd g) = .ue := by
    rw [State.granSynd_congr (hmem.trans hv)]
    exact h
  rw [if_neg (by decide)]
  generalize (v.readGran g).2 = w at hmem hfound hR ⊢
  have hscrub := w.frame_scrubGran g
  rw [w.scrubGran_bad hfound] at hscrub ⊢
  refine ⟨?_, w.granSynd_setSynd_same g 0xFFFF, hR _ hscrub.drivePins⟩
  rw [State.drivePins_mem, State.poison, State.setSynd_bytes, hmem, hv]

theorem completes_patrolScrub_ue (h : synd ((s.upset g data check).granSynd g) = .ue) :
    Completes (.patrolScrub n g data check false) s fun t => t.mem.bytes = (s.upset g data check).mem.bytes ∧
      t.granSynd g = 0xFFFF ∧ t.causeBit .HBM n 0 K.HBM_UE = true ∧ t.flag (F.HBM_UE_ADDR_VALID n) = true ∧
      t.rd64 (A.HBM_UE n) = (s.rd64 (A.HBM_UE n) + 1) % 2 ^ 64 := by
  refine completes_patrolScrub_bad hn hg hmax hserves hdue (.inr h) fun v t hv hframe ht => ?_
  have hsynd : synd (v.granSynd g) = .ue := by rw [State.granSynd_congr hv, h]
  have hstack : v.stackOf (16 * g) = n := (hframe.stackOf (by simp) _).trans hg
  obtain ⟨hcause, hvalid, hue⟩ := v.readGran_ue_spec hsynd
  rw [hstack] at hcause hvalid hue
  refine ⟨(ht.causeBit id).trans hcause, ?_, ?_⟩
  · unfold State.flag at hvalid ⊢
    rw [ht.get64 id id]
    exact hvalid
  · rw [ht.rd64 id id, hue, hframe.rd64 id id]

theorem completes_patrolScrub_addr (h : synd ((s.upset g data check).granSynd g) = .addr) :
    Completes (.patrolScrub n g data check false) s fun t => t.mem.bytes = (s.upset g data check).mem.bytes ∧
      t.granSynd g = 0xFFFF ∧ t.causeBit .HBM n 0 K.HBM_ADDR_ERR = true := by
  refine completes_patrolScrub_bad hn hg hmax hserves hdue (.inl h) fun v t hv hframe ht => ?_
  have hsynd : synd (v.granSynd g) = .addr := by rw [State.granSynd_congr hv, h]
  have hstack : v.stackOf (16 * g) = n := (hframe.stackOf (by simp) _).trans hg
  have hcause := v.readGran_addr_spec hsynd
  rw [hstack] at hcause
  exact (ht.causeBit id).trans hcause

end

/-! ### The refresh (R383) -/

/-- A refresh that is due. -/
theorem completes_refresh {pc bank waits : Nat} (hn : n < stackCount s.asm) (hpc : pc < 32) (hbank : bank < 64)
    (hserves : s.stackServes n = true)
    (hdue : (s.timer { kind := .bankRefresh, a := n, b := pc, c := bank }).isNone = true ∨
      s.due { kind := .bankRefresh, a := n, b := pc, c := bank } (s.refreshPace n) = true) :
    Completes (.refresh n pc bank waits) s fun t =>
      t.rd64 (A.HBM_REFRESH_WAITS n) = (s.rd64 (A.HBM_REFRESH_WAITS n) + waits) % 2 ^ 64 ∧
      t.timer { kind := .bankRefresh, a := n, b := pc, c := bank } = some s.clk ∧
      Frame s t [.timers] (pairWords (A.HBM_REFRESH_WAITS n)) := by
  have hexec : exec (.refresh n pc bank waits) s = execRefresh n pc bank waits s := rfl
  refine completes_of_finish (hexec.trans rfl) (by simp [hn, hpc, hbank]) ?_
  rw [if_pos ⟨hserves, hdue⟩]
  refine ⟨?_, ?_, ?_⟩
  · rw [State.rd64_drivePins, State.rd64_startTimer, State.rd64_bump_same]
  · rw [State.timer_drivePins, State.timer_startTimer_same, State.bump_clk]
  · exact (((Frame.refl ..).bump (.inl rfl) (.inr rfl)).startTimer (by simp)).drivePins

/-- A refresh that is not due, or of a stack that does not serve. -/
theorem completes_refresh_none {pc bank waits : Nat} (hn : n < stackCount s.asm) (hpc : pc < 32) (hbank : bank < 64)
    (h : s.stackServes n = false ∨ (s.timer { kind := .bankRefresh, a := n, b := pc, c := bank }).isNone = false ∧
      s.due { kind := .bankRefresh, a := n, b := pc, c := bank } (s.refreshPace n) = false) :
    Completes (.refresh n pc bank waits) s fun t => Frame s t [] fun _ => False := by
  have hexec : exec (.refresh n pc bank waits) s = execRefresh n pc bank waits s := rfl
  refine completes_of_finish (hexec.trans rfl) (by simp [hn, hpc, hbank]) ?_
  rw [if_neg ?_]
  · exact (Frame.refl ..).drivePins
  · rintro ⟨hserves, hdue⟩
    rcases h with h | ⟨h1, h2⟩
    · exact absurd (h.symm.trans hserves) (by decide)
    · rcases hdue with hdue | hdue
      · exact absurd (h1.symm.trans hdue) (by decide)
      · exact absurd (h2.symm.trans hdue) (by decide)

end Sys2Proof.Machine
end

section
/-! CERTIFICATE. Row repair (R384 to R386). -/

namespace Sys2Proof.Machine

variable {s t u : State} {P : List Part} {W : Nat → Prop} {n g : Nat}

namespace State

/-! ### Runs of granules read and scrubbed -/

/-- A granule read and scrubbed. -/
def visit (s : State) (g : Nat) : State := (s.readGran g).2.scrubGran g

/-- Granules read and scrubbed one after the other. -/
def visits (s : State) (l : List Nat) : State := l.foldl visit s

/-- Granules of which bits have flipped. -/
def upsets (s : State) (l : List (Nat × Nat × Nat)) : State := l.foldl (fun t f => t.upset f.1 f.2.1 f.2.2) s

/-- The words that visits may write. -/
def visitWords (b : Nat) : Prop := ∃ m, readWords m b

theorem frame_visit (s : State) (g : Nat) : Frame s (s.visit g) [.flt, .mem] visitWords :=
  ((s.frame_readGran g).mono (by simp) fun _ h => ⟨_, h⟩).trans ((frame_scrubGran _ g).mono (by simp) fun _ h => h.elim)

theorem frame_visits (l : List Nat) (s : State) : Frame s (s.visits l) [.flt, .mem] visitWords :=
  (Frame.refl ..).foldl _ fun t g _ => frame_visit t g

theorem frame_upsets (l : List (Nat × Nat × Nat)) (s : State) : Frame s (s.upsets l) [.mem] fun _ => False :=
  (Frame.refl ..).foldl _ fun t _ _ => frame_upset t ..

theorem scrubGran_congr (h : t.mem = s.mem) (g : Nat) : (t.scrubGran g).mem = (s.scrubGran g).mem := by
  unfold scrubGran
  rw [granSynd_congr h]
  split
  · exact h
  · exact setSynd_mem_congr h ..
  · unfold correct
    dsimp only
    rw [byteAt_congr h]
    exact setSynd_mem_congr (setByte_mem_congr h ..) ..
  · exact setSynd_mem_congr h ..
  · exact setSynd_mem_congr h ..
  · exact h

/-- A visit changes the memory as the scrub does. -/
theorem visit_mem (s : State) (g : Nat) : (s.visit g).mem = (s.scrubGran g).mem := scrubGran_congr (s.readGran_mem g) g

theorem shelter_visit (s : State) (g : Nat) : (s.visit g).mem.shelter = s.mem.shelter := by
  rw [visit_mem]
  unfold scrubGran
  split <;> rfl

theorem shelter_visits (l : List Nat) (s : State) : (s.visits l).mem.shelter = s.mem.shelter := by
  induction l generalizing s with
  | nil => rfl
  | cons g l ih => exact (ih _).trans (s.shelter_visit g)

theorem shelter_upset (s : State) (g data check : Nat) : (s.upset g data check).mem.shelter = s.mem.shelter := by
  rw [upset_mem]

theorem shelter_upsets (l : List (Nat × Nat × Nat)) (s : State) : (s.upsets l).mem.shelter = s.mem.shelter := by
  induction l generalizing s with
  | nil => rfl
  | cons f l ih => exact (ih _).trans (s.shelter_upset ..)

/-- Two states hold the same bytes with the same syndromes. -/
def SameStore (s t : State) : Prop := t.mem.bytes = s.mem.bytes ∧ t.mem.synd = s.mem.synd

theorem SameStore.upset (h : SameStore s t) (g data check : Nat) : SameStore (s.upset g data check) (t.upset g data check) := by
  unfold SameStore at *
  rw [upset_mem, upset_mem]
  unfold granSynd
  dsimp only
  rw [h.1, h.2]
  exact ⟨rfl, rfl⟩

theorem SameStore.upsets (l : List (Nat × Nat × Nat)) (h : SameStore s t) : SameStore (s.upsets l) (t.upsets l) := by
  induction l generalizing s t with
  | nil => exact h
  | cons f l ih => exact ih (h.upset ..)

theorem SameStore.granSynd (h : SameStore s t) (g : Nat) : t.granSynd g = s.granSynd g := by unfold State.granSynd; rw [h.2]

theorem SameStore.byteAt (h : SameStore s t) (a : Nat) : t.byteAt a = s.byteAt a := by unfold State.byteAt; rw [h.1]

/-! ### What visits and flips leave of a granule -/

/-- The stored syndrome of a granule and its bytes are as before. -/
def SameGran (s t : State) (g : Nat) : Prop := t.granSynd g = s.granSynd g ∧ ∀ a, a / 16 = g → t.byteAt a = s.byteAt a

theorem SameGran.trans (h : SameGran s t g) (k : SameGran t u g) : SameGran s u g :=
  ⟨k.1.trans h.1, fun a ha => (k.2 a ha).trans (h.2 a ha)⟩

theorem SameGran.of_mem (h : t.mem = s.mem) : SameGran s t g := ⟨granSynd_congr h g, fun a _ => byteAt_congr h a⟩

theorem sameGran_visit (s : State) {k : Nat} (h : g ≠ k) : SameGran s (s.visit k) g :=
  .trans (.of_mem (s.readGran_mem k)) (scrubGran_other _ h)

theorem sameGran_visits (l : List Nat) (s : State) (h : g ∉ l) : SameGran s (s.visits l) g := by
  induction l generalizing s with
  | nil => exact ⟨rfl, fun _ _ => rfl⟩
  | cons k l ih =>
    rw [List.mem_cons, not_or] at h
    exact (s.sameGran_visit h.1).trans (ih _ h.2)

theorem sameGran_upsets (l : List (Nat × Nat × Nat)) (s : State) (h : ∀ f ∈ l, g ≠ f.1) : SameGran s (s.upsets l) g := by
  induction l generalizing s with
  | nil => exact ⟨rfl, fun _ _ => rfl⟩
  | cons f l ih =>
    exact SameGran.trans (s.upset_other _ _ (h f List.mem_cons_self)) (ih _ fun x hx => h x (List.mem_cons_of_mem _ hx))

theorem granSynd_visit_keep (s : State) (h : synd (s.granSynd g) = .good ∨ synd (s.granSynd g) = .poisoned) :
    (s.visit g).granSynd g = s.granSynd g := by
  rw [granSynd_congr (s.visit_mem g), s.scrubGran_keep h]

theorem granSynd_visit_corrected (s : State) (h : synd (s.granSynd g) = .check ∨ ∃ i, synd (s.granSynd g) = .bit i) :
    (s.visit g).granSynd g = 0 := by
  rw [granSynd_congr (s.visit_mem g)]
  rcases h with h | ⟨i, h⟩
  · rw [s.scrubGran_check h]
    exact granSynd_setSynd_same ..
  · rw [s.scrubGran_bit h, granSynd_correct]

theorem granSynd_visit_poisoned (s : State) (h : synd (s.granSynd g) = .addr ∨ synd (s.granSynd g) = .ue) :
    (s.visit g).granSynd g = 0xFFFF := by
  rw [granSynd_congr (s.visit_mem g), s.scrubGran_bad h]
  exact granSynd_setSynd_same ..

/-- Visits leave a granule that is good or poisoned. -/
theorem granSynd_visits_keep (l : List Nat) (s : State) (h : synd (s.granSynd g) = .good ∨ synd (s.granSynd g) = .poisoned) :
    (s.visits l).granSynd g = s.granSynd g := by
  induction l generalizing s with
  | nil => rfl
  | cons k l ih =>
    have hstep : (s.visit k).granSynd g = s.granSynd g := by
      by_cases hk : g = k
      · exact hk ▸ s.granSynd_visit_keep h
      · exact (s.sameGran_visit hk).1
    exact (ih (s.visit k) (by rw [hstep]; exact h)).trans hstep

/-- The first visit of a granule settles it. -/
theorem granSynd_visits {x v : Nat} (hvisit : ∀ t : State, t.granSynd g = x → (t.visit g).granSynd g = v)
    (hv : synd v = .good ∨ synd v = .poisoned) (l : List Nat) (s : State) (hg : g ∈ l) (hx : s.granSynd g = x) :
    (s.visits l).granSynd g = v := by
  induction l generalizing s with
  | nil => simp at hg
  | cons k l ih =>
    by_cases hk : g = k
    · subst hk
      have hfirst := hvisit s hx
      exact (granSynd_visits_keep l (s.visit g) (by rw [hfirst]; exact hv)).trans hfirst
    · exact ih (s.visit k) ((List.mem_cons.1 hg).resolve_left hk) ((s.sameGran_visit hk).1.trans hx)

theorem synd_poison : synd 0xFFFF = .poisoned := by decide

/-- A granule with an error is listed. -/
theorem mem_keys_of_granSynd (h : s.granSynd g ≠ 0) : g ∈ s.mem.synd.map (·.1) := by
  by_contra hg
  exact h (by unfold granSynd; rw [Tab.get_of_not_mem hg]; rfl)

/-! ### START of a repair (R384, R385) -/

theorem setShelters_mem (s : State) (n : Nat) (l : List Shelter) : (s.setShelters n l).mem = { s.mem with shelter := l } :=
  (put_mem ..).trans (put_mem ..)

theorem frame_setShelters (s : State) (n : Nat) (l : List Shelter) :
    Frame s (s.setShelters n l) [.mem] fun b => b = A.HBM_INFO n := by
  unfold setShelters
  have hmem : Frame s ({ s with mem := { s.mem with shelter := l } } : State) [.mem] fun b => b = A.HBM_INFO n :=
    (Frame.refl ..).setMem (by simp)
  exact (hmem.put (f := F.HBM_INFO_SHELTER_USED n) rfl (by decide : 16 + 8 ≤ 32)).put (f := F.HBM_INFO_RETIRED n) rfl
    (by decide : 24 + 8 ≤ 32)

/-- A granule lies in the row that REPAIR_ADDR of a stack names. -/
def namedRow (s : State) (n g : Nat) : Bool :=
  s.inRow n (s.get (F.HBM_REPAIR_ADDR_PC n)) (s.get (F.HBM_REPAIR_ADDR_BANK n)) (s.get (F.HBM_REPAIR_ADDR_ROW n)) g

/-- The shelter entry of the row that REPAIR_ADDR of a stack names. -/
def namedEntry (s : State) (n : Nat) : Shelter :=
  { stack := n, pc := s.get (F.HBM_REPAIR_ADDR_PC n), bank := s.get (F.HBM_REPAIR_ADDR_BANK n)
    row := s.get (F.HBM_REPAIR_ADDR_ROW n), step := 2 }

/-- A repair under way, its row not yet copied. -/
def repairMarked (s : State) (n : Nat) : State :=
  (s.put (F.HBM_REPAIR_STATE_BUSY n) 1).setShelters n (s.mem.shelter ++ [s.namedEntry n])

/-- The row as the copy finds it. -/
def repairFound (s : State) (n : Nat) (flips : List (Nat × Nat × Nat)) : State :=
  (s.repairMarked n).upsets (flips.filter fun f => s.namedRow n f.1)

theorem repairStart_run (s : State) (flips : List (Nat × Nat × Nat)) (hup : s.mach (.stack n) = UP)
    (hbusy : s.flag (F.HBM_REPAIR_STATE_BUSY n) = false) (hfree : (s.shelters n).length < 8) :
    s.repairStart n flips = (s.repairFound n flips).visits (((s.repairFound n flips).mem.synd.map (·.1)).filter (s.namedRow n)) := by
  unfold repairStart
  rw [if_pos ⟨hup, by simp [hbusy], hfree⟩]
  rfl

theorem repairStart_refused (s : State) (flips : List (Nat × Nat × Nat))
    (h : s.mach (.stack n) ≠ UP ∨ s.flag (F.HBM_REPAIR_STATE_BUSY n) = true ∨ 8 ≤ (s.shelters n).length) :
    s.repairStart n flips = s.raise .HBM n 0 K.HBM_REPAIR_REFUSED := by
  unfold repairStart
  rw [if_neg ?_]
  rintro ⟨hup, hbusy, hfree⟩
  rcases h with h | h | h
  · exact h hup
  · exact hbusy h
  · omega

/-- The row as the copy finds it holds what its granules held, and their flips. -/
theorem repairFound_spec (s : State) (n : Nat) (flips : List (Nat × Nat × Nat)) :
    (s.repairFound n flips).mem.shelter = s.mem.shelter ++ [s.namedEntry n] ∧
    (s.repairFound n flips).flag (F.HBM_REPAIR_STATE_BUSY n) = true ∧
    SameStore (s.upsets (flips.filter fun f => s.namedRow n f.1)) (s.repairFound n flips) := by
  unfold repairFound repairMarked
  have hbusy : (s.put (F.HBM_REPAIR_STATE_BUSY n) 1).flag (F.HBM_REPAIR_STATE_BUSY n) = true := by
    unfold flag
    rw [get_put_same _ _ _ (by decide : 0 + 1 ≤ 32)]
    exact (by decide : (1 % 2 ^ 1 != 0) = true)
  have hmem : (s.put (F.HBM_REPAIR_STATE_BUSY n) 1).mem = s.mem := put_mem ..
  generalize s.put (F.HBM_REPAIR_STATE_BUSY n) 1 = t at hbusy hmem ⊢
  have hshelter := t.setShelters_mem n (s.mem.shelter ++ [s.namedEntry n])
  have hframe := t.frame_setShelters n (s.mem.shelter ++ [s.namedEntry n])
  generalize t.setShelters n (s.mem.shelter ++ [s.namedEntry n]) = u at hshelter hframe ⊢
  have hstore : SameStore s u := by
    unfold SameStore
    rw [hshelter, hmem]
    exact ⟨rfl, rfl⟩
  refine ⟨?_, ?_, hstore.upsets _⟩
  · rw [shelter_upsets, hshelter]
  · rw [(frame_upsets _ u).flag (by decide : 0 + 1 ≤ 32) id, hframe.flag (by decide : 0 + 1 ≤ 32) (by
      simp only [F.HBM_REPAIR_STATE_BUSY, A.HBM_REPAIR_STATE, A.HBM_INFO]; omega), hbusy]

theorem repairState_not_visited (n : Nat) : ¬ visitWords (A.HBM_REPAIR_STATE n) := by
  rintro ⟨m, h⟩
  simp only [readWords, pairWords, causeWords, A.HBM_REPAIR_STATE, A.HBM_UE_ADDR, A.HBM] at h
  omega

theorem repairStart_spec (s : State) (flips : List (Nat × Nat × Nat)) (hup : s.mach (.stack n) = UP)
    (hbusy : s.flag (F.HBM_REPAIR_STATE_BUSY n) = false) (hfree : (s.shelters n).length < 8) :
    let u := s.upsets (flips.filter fun f => s.namedRow n f.1)
    let t := s.repairStart n flips
    t.flag (F.HBM_REPAIR_STATE_BUSY n) = true ∧ t.mem.shelter = s.mem.shelter ++ [s.namedEntry n] ∧
    (∀ g, s.namedRow n g = true → (synd (u.granSynd g) = .addr ∨ synd (u.granSynd g) = .ue) → t.granSynd g = 0xFFFF) ∧
    (∀ g, s.namedRow n g = true → (synd (u.granSynd g) = .check ∨ ∃ i, synd (u.granSynd g) = .bit i) → t.granSynd g = 0) ∧
    (∀ g, s.namedRow n g = false → SameGran s t g) := by
  intro u t
  obtain ⟨hshelter, hmarked, hstore⟩ := s.repairFound_spec n flips
  have hrun : t = (s.repairFound n flips).visits _ := s.repairStart_run flips hup hbusy hfree
  generalize s.repairFound n flips = v at hshelter hmarked hstore hrun
  have hvisits := frame_visits ((v.mem.synd.map (·.1)).filter (s.namedRow n)) v
  have hkept := shelter_visits ((v.mem.synd.map (·.1)).filter (s.namedRow n)) v
  rw [← hrun] at hvisits hkept
  have hlisted (g : Nat) (hrow : s.namedRow n g = true) (h : v.granSynd g ≠ 0) :
      g ∈ (v.mem.synd.map (·.1)).filter (s.namedRow n) := List.mem_filter.2 ⟨mem_keys_of_granSynd h, hrow⟩
  refine ⟨?_, hkept.trans hshelter, fun g hrow h => ?_, fun g hrow h => ?_, fun g hrow => ?_⟩
  · rw [hvisits.flag (by decide : 0 + 1 ≤ 32) (repairState_not_visited n), hmarked]
  · rw [← hstore.granSynd] at h
    have hne : v.granSynd g ≠ 0 := fun h0 => by rw [h0] at h; exact absurd h (by decide)
    rw [hrun]
    exact granSynd_visits (x := v.granSynd g) (fun w hw => w.granSynd_visit_poisoned (by rw [hw]; exact h)) (.inr synd_poison) _ v
      (hlisted g hrow hne) rfl
  · rw [← hstore.granSynd] at h
    have hne : v.granSynd g ≠ 0 := fun h0 => by
      rw [h0] at h
      rcases h with h | ⟨i, h⟩
      · exact absurd h (by decide)
      · exact absurd ((by decide : synd 0 = .good).symm.trans h) (by simp)
    rw [hrun]
    exact granSynd_visits (x := v.granSynd g) (fun w hw => w.granSynd_visit_corrected (by rw [hw]; exact h)) (.inl (by decide)) _ v
      (hlisted g hrow hne) rfl
  · have hflips : SameGran s u g := sameGran_upsets _ s fun f hf hg => by
      have := (List.mem_filter.1 hf).2
      rw [← hg, hrow] at this
      exact absurd this (by decide)
    rw [hrun]
    refine (hflips.trans ⟨hstore.granSynd g, fun a _ => hstore.byteAt a⟩).trans (sameGran_visits _ v fun hg => ?_)
    exact absurd (List.mem_filter.1 hg).2 (by rw [hrow]; decide)

end State
end Sys2Proof.Machine
end

section
/-! CERTIFICATE. The commands of row repair (R384 to R386). -/

namespace Sys2Proof.Machine

variable {s t u : State} {P : List Part} {W : Nat → Prop} {n g : Nat} {m : Master}

/-- A word of a stack is none of those that count accesses. -/
theorem accessWord_hbm {k : Nat} : ¬ accessWord (A.HBM n + k) := by
  intro h
  unfold accessWord pairWords at h
  simp only [A.TOP_ACCESS_CONSORT, A.TOP_ACCESS_SIDING, A.HBM, A.TOP] at h
  omega

theorem Frame.shelters (h : Frame s t P W) (hP : .mem ∉ P) (n : Nat) : t.shelters n = s.shelters n := by
  unfold State.shelters; rw [show t.mem = s.mem from h.1 .mem hP]

theorem Frame.mach (h : Frame s t P W) {u : Mach} (hW : ¬ W u.stateFld.addr) : t.mach u = s.mach u :=
  h.get (Mach.stateFld_width u).1 hW

section
variable (h : Frame s t P W) (hasm : .asm ∉ P) (hW : ¬ W (A.HBM_REPAIR_ADDR n))
include h hW

theorem Frame.namedEntry : t.namedEntry n = s.namedEntry n := by
  unfold State.namedEntry
  rw [h.get (f := F.HBM_REPAIR_ADDR_PC n) (by decide : 0 + 5 ≤ 32) hW,
    h.get (f := F.HBM_REPAIR_ADDR_BANK n) (by decide : 8 + 6 ≤ 32) hW,
    h.get (f := F.HBM_REPAIR_ADDR_ROW n) (by decide : 16 + 15 ≤ 32) hW]

include hasm

theorem Frame.namedRow : t.namedRow n = s.namedRow n := by
  funext g
  unfold State.namedRow
  rw [h.inRow hasm, h.get (f := F.HBM_REPAIR_ADDR_PC n) (by decide : 0 + 5 ≤ 32) hW,
    h.get (f := F.HBM_REPAIR_ADDR_BANK n) (by decide : 8 + 6 ≤ 32) hW,
    h.get (f := F.HBM_REPAIR_ADDR_ROW n) (by decide : 16 + 15 ≤ 32) hW]

end

/-! ### START -/

section
variable {flips : List (Nat × Nat × Nat)} (hn : n < 8) (hgrants : s.grants m (A.HBM_REPAIR_CMD n) 1 = true)
include hn hgrants

theorem completes_startRepair {R : State → Prop} (h : R ((s.countAccess (masterCode m)).repairStart n flips).drivePins) :
    Completes (.startRepair m n flips) s R := by
  obtain ⟨hon, l, hl⟩ := State.target_of_grants hgrants
  have hl : s.busCheck m (A.HBM_REPAIR_CMD n) 32 1 true = .target l := hl
  have hexec : exec (.startRepair m n flips) s = execStartRepair m n flips s := rfl
  refine completes_of_finish (hexec.trans rfl) (decide_eq_true hn) ?_
  rw [if_neg (by simp [hon]), hl]
  exact h

theorem completes_startRepair_run (hup : s.mach (.stack n) = UP) (hbusy : s.flag (F.HBM_REPAIR_STATE_BUSY n) = false)
    (hfree : (s.shelters n).length < 8) : Completes (.startRepair m n flips) s fun t =>
      let u := s.upsets (flips.filter fun f => s.namedRow n f.1)
      t.flag (F.HBM_REPAIR_STATE_BUSY n) = true ∧ t.mem.shelter = s.mem.shelter ++ [s.namedEntry n] ∧
      (∀ g, s.namedRow n g = true → (synd (u.granSynd g) = .addr ∨ synd (u.granSynd g) = .ue) → t.granSynd g = 0xFFFF) ∧
      (∀ g, s.namedRow n g = true → (synd (u.granSynd g) = .check ∨ ∃ i, synd (u.granSynd g) = .bit i) → t.granSynd g = 0) ∧
      (∀ g, s.namedRow n g = false → t.granSynd g = s.granSynd g ∧ ∀ a, a / 16 = g → t.byteAt a = s.byteAt a) := by
  refine completes_startRepair hn hgrants ?_
  have hcount := State.frame_countAccess s (masterCode m)
  generalize s.countAccess (masterCode m) = c at hcount ⊢
  have hmem : c.mem = s.mem := hcount.1 .mem (by simp)
  have hrow := hcount.namedRow (n := n) (by simp) accessWord_hbm
  have hentry := hcount.namedEntry (n := n) accessWord_hbm
  have hstore : State.SameStore s c := ⟨by rw [hmem], by rw [hmem]⟩
  obtain ⟨h1, h2, h3, h4, h5⟩ := c.repairStart_spec (n := n) flips ((hcount.mach (u := .stack n) (accessWord_hbm (k := 12))).trans hup)
    ((hcount.flag (by decide : 0 + 1 ≤ 32) accessWord_hbm).trans hbusy) (by rw [hcount.shelters (by simp)]; exact hfree)
  rw [hrow] at h3 h4 h5
  rw [hentry, hmem] at h2
  have hfound := fun g => (hstore.upsets (flips.filter fun f => s.namedRow n f.1)).granSynd g
  generalize c.repairStart n flips = w at h1 h2 h3 h4 h5 ⊢
  have hdrive : w.drivePins.mem = w.mem := State.drivePins_mem w
  refine ⟨?_, ?_, fun g hg h => ?_, fun g hg h => ?_, fun g hg => ⟨?_, fun a ha => ?_⟩⟩
  · rw [State.flag_drivePins, h1]
  · rw [hdrive, h2]
  · rw [State.granSynd_congr hdrive]
    exact h3 g hg (by rw [hfound]; exact h)
  · rw [State.granSynd_congr hdrive]
    exact h4 g hg (by rw [hfound]; exact h)
  · rw [State.granSynd_congr hdrive, (h5 g hg).1, State.granSynd_congr hmem]
  · rw [State.byteAt_congr hdrive, (h5 g hg).2 a ha, State.byteAt_congr hmem]

theorem completes_startRepair_refused
    (h : s.mach (.stack n) ≠ UP ∨ s.flag (F.HBM_REPAIR_STATE_BUSY n) = true ∨ 8 ≤ (s.shelters n).length) :
    Completes (.startRepair m n flips) s fun t => t.causeBit .HBM n 0 K.HBM_REPAIR_REFUSED = true ∧
      Frame s t [.flt] fun a => causeWords (A.HBM n) a ∨ topWords a := by
  refine completes_startRepair hn hgrants ?_
  have hcount := State.frame_countAccess s (masterCode m)
  generalize s.countAccess (masterCode m) = c at hcount ⊢
  rw [c.repairStart_refused flips (by
    rwa [hcount.mach (u := .stack n) (accessWord_hbm (k := 12)), hcount.flag (by decide : 0 + 1 ≤ 32) accessWord_hbm, hcount.shelters (by simp)])]
  refine ⟨(State.causeBit_drivePins ..).trans (State.cause_raise c .HBM n 0 _ [] (by decide)), ?_⟩
  have hraise : Frame c (c.raise .HBM n 0 K.HBM_REPAIR_REFUSED) [.flt] (causeWords (A.HBM n)) :=
    (Frame.refl ..).raise (by simp) fun b hb => causePage_hbm n ▸ hb
  exact ((hcount.mono (by simp) fun b hb => .inr (topWords_of_accessWord hb)).trans
    (hraise.mono (fun _ h => h) fun _ => .inl)).drivePins

end

/-! ### The third and the fifth step -/

theorem mem_shelters {e : Shelter} {c : Shelter → Bool} (h : (s.shelters n).find? c = some e) : e.stack = n := by
  have := List.mem_of_find?_eq_some h
  simpa using (List.mem_filter.1 this).2

namespace State

/-- REPAIR_STATE and the causes of a stack lie apart from its INFO. -/
theorem flag_busy_put (s : State) (n : Nat) : (s.put (F.HBM_REPAIR_STATE_BUSY n) 0).flag (F.HBM_REPAIR_STATE_BUSY n) = false := by
  unfold flag
  rw [get_put_same _ _ _ (by decide : 0 + 1 ≤ 32)]
  exact (by decide : (0 % 2 ^ 1 != 0) = false)

theorem flag_busy_raise (s : State) (n k : Nat) :
    (s.raise .HBM n 0 k).flag (F.HBM_REPAIR_STATE_BUSY n) = s.flag (F.HBM_REPAIR_STATE_BUSY n) := by
  have hraise : Frame s (s.raise .HBM n 0 k) [.flt] (causeWords (A.HBM n)) :=
    (Frame.refl ..).raise (by simp) fun b hb => causePage_hbm n ▸ hb
  exact hraise.flag (by decide : 0 + 1 ≤ 32) (by
    simp only [causeWords, F.HBM_REPAIR_STATE_BUSY, A.HBM_REPAIR_STATE]; omega)

theorem get_left_put (s : State) (n left : Nat) :
    (s.put (F.HBM_REPAIR_STATE_LEFT n) (min 255 left)).get (F.HBM_REPAIR_STATE_LEFT n) = min 255 left := by
  rw [get_put_same _ _ _ (by decide : 8 + 8 ≤ 32)]
  exact Nat.mod_eq_of_lt (lt_of_le_of_lt (Nat.min_le_left ..) (by decide : 255 < 2 ^ 8))

end State

section
variable {left : Nat} {e : Shelter} (hn : n < stackCount s.asm)
include hn

/-- The row repaired and written back. -/
theorem completes_repairPprDone (h : (s.shelters n).find? (fun x => x.step = 2) = some e) :
    Completes (.repairPprDone n left false) s fun t => t.get (F.HBM_REPAIR_STATE_LEFT n) = min 255 left ∧ t.mem.bytes = s.mem.bytes ∧
      t.mem.shelter = s.mem.shelter.map (fun x => if x = e then { x with step := 4 } else x) := by
  have hexec : exec (.repairPprDone n left false) s = execRepairPprDone n left false s := rfl
  refine completes_of_finish (hexec.trans rfl) (decide_eq_true hn) ?_
  rw [h]
  dsimp only
  rw [if_neg (by decide)]
  have hleft := s.get_left_put n left
  have hmem : (s.put (F.HBM_REPAIR_STATE_LEFT n) (min 255 left)).mem = s.mem := State.put_mem ..
  generalize s.put (F.HBM_REPAIR_STATE_LEFT n) (min 255 left) = u at hleft hmem ⊢
  rw [hmem]
  refine ⟨?_, ?_, ?_⟩
  · rw [State.get_drivePins, (u.frame_setShelters n _).get (by decide : 8 + 8 ≤ 32) (by
      simp only [F.HBM_REPAIR_STATE_LEFT, A.HBM_REPAIR_STATE, A.HBM_INFO]; omega), hleft]
  · rw [State.drivePins_mem, State.setShelters_mem, hmem]
  · rw [State.drivePins_mem, State.setShelters_mem]

/-- No resource left: the row stays in its entry (R386). -/
theorem completes_repairPprDone_exhausted (h : (s.shelters n).find? (fun x => x.step = 2) = some e) :
    Completes (.repairPprDone n left true) s fun t => t.flag (F.HBM_REPAIR_STATE_BUSY n) = false ∧
      t.causeBit .HBM n 0 K.HBM_REPAIR_EXHAUSTED = true ∧
      t.mem.shelter = s.mem.shelter.map (fun x => if x = e then { x with step := 0 } else x) := by
  have hexec : exec (.repairPprDone n left true) s = execRepairPprDone n left true s := rfl
  refine completes_of_finish (hexec.trans rfl) (decide_eq_true hn) ?_
  rw [h]
  dsimp only
  rw [if_pos rfl]
  have hmem : (s.put (F.HBM_REPAIR_STATE_LEFT n) (min 255 left)).mem = s.mem := State.put_mem ..
  generalize s.put (F.HBM_REPAIR_STATE_LEFT n) (min 255 left) = u at hmem ⊢
  rw [hmem]
  refine ⟨?_, ?_, ?_⟩
  · rw [State.flag_drivePins, State.flag_busy_raise, State.flag_busy_put]
  · exact (State.causeBit_drivePins ..).trans (State.cause_raise _ .HBM n 0 _ [] (by decide))
  · rw [State.drivePins_mem, State.raise_mem, State.put_mem, State.setShelters_mem]

/-- The entry freed and the repair listed (R384). -/
theorem completes_repairDone (h : (s.shelters n).find? (fun x => x.step = 4) = some e) :
    Completes (.repairDone n) s fun t => t.mem.shelter = s.mem.shelter.filter (fun x => x ≠ e) ∧ t.mem.bytes = s.mem.bytes ∧
      t.mem.repairs = s.mem.repairs ++ [(n, e.pc, e.bank, e.row)] ∧ t.flag (F.HBM_REPAIR_STATE_BUSY n) = false ∧
      t.causeBit .HBM n 0 K.HBM_REPAIR_DONE = true ∧ t.rd64 (A.HBM_REPAIRS n) = (s.rd64 (A.HBM_REPAIRS n) + 1) % 2 ^ 64 := by
  have hexec : exec (.repairDone n) s = execRepairDone n s := rfl
  refine completes_of_finish (hexec.trans rfl) (decide_eq_true hn) ?_
  rw [h]
  dsimp only
  rw [mem_shelters h]
  have hshelter := s.setShelters_mem n (s.mem.shelter.filter fun x => x ≠ e)
  have hframe := s.frame_setShelters n (s.mem.shelter.filter fun x => x ≠ e)
  generalize s.setShelters n (s.mem.shelter.filter fun x => x ≠ e) = u at hshelter hframe ⊢
  generalize hv : ({ u with mem := { u.mem with repairs := u.mem.repairs ++ [(n, e.pc, e.bank, e.row)] } } : State) = v
  have hmem : v.mem = { u.mem with repairs := u.mem.repairs ++ [(n, e.pc, e.bank, e.row)] } := hv ▸ rfl
  have hrd : ∀ b, v.rd b = u.rd b := fun b => hv ▸ rfl
  have hput := v.frame_put (F.HBM_REPAIR_STATE_BUSY n) 0 (by decide : 0 + 1 ≤ 32)
  have hbusy := v.flag_busy_put n
  have hput_mem : (v.put (F.HBM_REPAIR_STATE_BUSY n) 0).mem = v.mem := State.put_mem ..
  generalize v.put (F.HBM_REPAIR_STATE_BUSY n) 0 = w at hput hbusy hput_mem ⊢
  have hcount : Frame w (w.bump (A.HBM_REPAIRS n) 1) [] (pairWords (A.HBM_REPAIRS n)) := (Frame.refl ..).bump (.inl rfl) (.inr rfl)
  have hraise : Frame (w.bump (A.HBM_REPAIRS n) 1) ((w.bump (A.HBM_REPAIRS n) 1).raise .HBM n 0 K.HBM_REPAIR_DONE) [.flt]
      (causeWords (A.HBM n)) := (Frame.refl ..).raise (by simp) fun b hb => causePage_hbm n ▸ hb
  have hend : (((w.bump (A.HBM_REPAIRS n) 1).raise .HBM n 0 K.HBM_REPAIR_DONE).drivePins).mem = v.mem := by
    rw [State.drivePins_mem, State.raise_mem, State.bump_mem, hput_mem]
  have hrepairs : v.rd64 (A.HBM_REPAIRS n) = s.rd64 (A.HBM_REPAIRS n) := by
    have : v.rd64 (A.HBM_REPAIRS n) = u.rd64 (A.HBM_REPAIRS n) := by unfold State.rd64; rw [hrd, hrd]
    rw [this, hframe.rd64 (by simp only [A.HBM_REPAIRS, A.HBM_INFO]; omega) (by simp only [A.HBM_REPAIRS, A.HBM_INFO]; omega)]
  refine ⟨?_, ?_, ?_, ?_, ?_, ?_⟩
  · rw [hend, hmem, hshelter]
  · rw [hend, hmem, hshelter]
  · rw [hend, hmem, hshelter]
  · rw [State.flag_drivePins, State.flag_busy_raise, hcount.flag (by decide : 0 + 1 ≤ 32) (by
      simp only [pairWords, F.HBM_REPAIR_STATE_BUSY, A.HBM_REPAIR_STATE, A.HBM_REPAIRS]; omega), hbusy]
  · exact (State.causeBit_drivePins ..).trans (State.cause_raise _ .HBM n 0 _ [] (by decide))
  · rw [State.rd64_drivePins, hraise.rd64 (by simp only [causeWords, A.HBM_REPAIRS]; omega)
      (by simp only [causeWords, A.HBM_REPAIRS]; omega), State.rd64_bump_same, hput.rd64
      (by simp only [F.HBM_REPAIR_STATE_BUSY, A.HBM_REPAIR_STATE, A.HBM_REPAIRS]; omega)
      (by simp only [F.HBM_REPAIR_STATE_BUSY, A.HBM_REPAIR_STATE, A.HBM_REPAIRS]; omega), hrepairs]

end

end Sys2Proof.Machine
end

section
/-! CERTIFICATE. The initialisation of a stack (R378, R474). -/

namespace Sys2Proof.Machine

variable {s t u : State} {P : List Part} {W : Nat → Prop} {n left : Nat}

namespace Tab

variable {β : Type}

/-- The entries kept by a test of their keys read as before. -/
theorem get_filter_kept (d : β) (q : Nat → Bool) (l : List (Nat × β)) {k : Nat} (h : q k = true) :
    get d (l.filter fun e => q e.1) k = get d l k := by
  induction l with
  | nil => rfl
  | cons e l ih =>
    by_cases hk : k = e.1
    · subst hk
      simp [h, get]
    · cases hq : q e.1 <;> simp [hq, get, hk, ih]

/-- A key that a test drops reads as unlisted. -/
theorem get_filter_dropped (d : β) (q : Nat → Bool) (l : List (Nat × β)) {k : Nat} (h : q k = false) :
    get d (l.filter fun e => q e.1) k = d := by
  refine Tab.get_of_not_mem fun hk => ?_
  obtain ⟨e, he, rfl⟩ := List.mem_map.1 hk
  exact absurd (h.symm.trans (List.mem_filter.1 he).2) (by decide)

end Tab

namespace State

/-! ### The parts of a step -/

theorem initAt_setInit (s : State) {k : Nat} (hn : n < 8) (hlen : s.mem.initStep.length = 8) : (s.setInit n k).initAt n = k := by
  unfold setInit initAt
  rw [List.getD_eq_getElem?_getD, List.getElem?_set_self (by omega)]
  rfl

theorem frame_setInit (s : State) (n k : Nat) : Frame s (s.setInit n k) [.mem] fun _ => False := (Frame.refl ..).setMem (by simp)

theorem initAt_congr (h : t.mem = s.mem) (n : Nat) : t.initAt n = s.initAt n := by unfold initAt; rw [h]

/-- The bytes of a stack that is filled read 0 with good check words. -/
theorem fillStack_own (s : State) {a : Nat} (h : s.stackOf a = n) : (s.fillStack n).byteAt a = 0 ∧
    (a % 16 = 0 → (s.fillStack n).granSynd (a / 16) = 0) := by
  unfold fillStack byteAt granSynd
  refine ⟨Tab.get_filter_dropped 0 (fun k => decide (s.stackOf k ≠ n)) _ (by simp [h]), fun ha => ?_⟩
  have ha : 16 * (a / 16) = a := by omega
  rw [Tab.get_filter_dropped 0 (fun k => decide (s.stackOf (16 * k) ≠ n)) _ (by simp [ha, h])]
  rfl

/-- The bytes of the other stacks are left. -/
theorem fillStack_other (s : State) {a : Nat} (h : s.stackOf a ≠ n) : (s.fillStack n).byteAt a = s.byteAt a := by
  unfold fillStack byteAt
  exact Tab.get_filter_kept 0 (fun k => decide (s.stackOf k ≠ n)) _ (by simp [h])

/-- The repairs of a stack that stay soft. -/
theorem filter_hardRepairs (n : Nat) (l : List (Nat × Nat × Nat × Nat)) :
    (hardRepairs n l).filter (fun e => e.1 = n) = (l.filter fun e => e.1 = n).drop 8 := by
  unfold hardRepairs
  have h1 : ((l.filter fun e => e.1 ≠ n).filter fun e => e.1 = n) = [] := by
    rw [List.filter_filter, List.filter_eq_nil_iff]
    simp
  have h2 : ((l.filter fun e => e.1 = n).drop 8).filter (fun e => e.1 = n) = (l.filter fun e => e.1 = n).drop 8 := by
    refine List.filter_eq_self.2 fun e he => ?_
    exact (List.mem_filter.1 (List.mem_of_mem_drop he)).2
  rw [List.filter_append, h1, h2, List.nil_append]

theorem flag_put_one (s : State) {f : Fld} (hf : f.lo + f.width ≤ 32) (hw : f.width = 1) : (s.put f 1).flag f = true := by
  unfold flag
  rw [get_put_same _ _ _ hf, hw]
  rfl

end State

/-! ### The steps -/

/-- What a step that ends well leaves, by its number. -/
def State.initDone (s : State) (n k left : Nat) : State :=
  let t1 := s.setInit n k
  if k = 2 then t1.put (F.HBM_REPAIR_STATE_LEFT n) (min 255 left)
  else if k = 6 then
    ({ t1 with mem := { t1.mem with repairs := hardRepairs n t1.mem.repairs } } : State).put (F.HBM_STATE_TRAINED n) 1
  else if k = 7 then (t1.fillStack n).put (F.HBM_STATE_FILLED n) 1
  else t1

section
variable (hn : n < stackCount s.asm) (hstart : s.mach (.stack n) = STARTING) (hlen : s.mem.initStep.length = 8)
  (hlock : s.flag F.TOP_STATE_CORE_PLL_LOCK = true)
include hn hstart hlock

/-- A step in its order that ends well. -/
theorem completes_initDone {k : Nat} {R : State → Prop} (hk : 1 ≤ k ∧ k ≤ 7) (hat : s.initAt n + 1 = k)
    (hfill : k = 7 → s.flag (F.HBM_STATE_FILLED n) = false) (h : R (s.initDone n k left).drivePins) :
    Completes (.stackInitStep n k true left) s R := by
  have hexec : exec (.stackInitStep n k true left) s = execStackInitStep n k true left s := rfl
  refine completes_of_finish (hexec.trans rfl) (by simp [hn, hk]) ?_
  rw [if_neg ?_, if_neg (by simp [hlock]), if_neg (by simp)]
  · exact h
  · rintro (⟨h1, -⟩ | h1 | ⟨h1, h2⟩)
    · exact h1 hstart
    · exact h1 hat
    · exact absurd ((hfill h1).symm.trans h2) (by decide)

include hlen

/-- Steps 1 to 5. -/
theorem completes_initStep {k : Nat} (h1 : 1 ≤ k) (h5 : k ≤ 5) (hat : s.initAt n + 1 = k) :
    Completes (.stackInitStep n k true left) s fun t => t.initAt n = k ∧ t.mem.bytes = s.mem.bytes ∧ t.mem.synd = s.mem.synd ∧
      t.mach (.stack n) = STARTING ∧ (k = 2 → t.get (F.HBM_REPAIR_STATE_LEFT n) = min 255 left) := by
  have hn8 : n < 8 := hn.trans_le (by unfold stackCount; split <;> decide)
  refine completes_initDone hn hstart hlock ⟨h1, by omega⟩ hat (fun h => by omega) ?_
  have hinit := s.initAt_setInit (k := k) hn8 hlen
  have hmach : (s.setInit n k).mach (.stack n) = STARTING := ((s.frame_setInit n k).mach id).trans hstart
  have hbytes : (s.setInit n k).mem.bytes = s.mem.bytes ∧ (s.setInit n k).mem.synd = s.mem.synd := ⟨rfl, rfl⟩
  unfold State.initDone
  dsimp only
  generalize s.setInit n k = u at hinit hmach hbytes ⊢
  by_cases h2 : k = 2
  · rw [if_pos h2]
    have hput := u.frame_put (F.HBM_REPAIR_STATE_LEFT n) (min 255 left) (by decide : 8 + 8 ≤ 32)
    have hleft := u.get_left_put n left
    have hmem : (u.put (F.HBM_REPAIR_STATE_LEFT n) (min 255 left)).mem = u.mem := State.put_mem ..
    generalize u.put (F.HBM_REPAIR_STATE_LEFT n) (min 255 left) = w at hput hleft hmem ⊢
    refine ⟨?_, ?_, ?_, ?_, fun _ => ?_⟩
    · rw [State.initAt_congr (State.drivePins_mem w), State.initAt_congr hmem, hinit]
    · rw [State.drivePins_mem, hmem, hbytes.1]
    · rw [State.drivePins_mem, hmem, hbytes.2]
    · rw [State.mach_drivePins, hput.mach (u := .stack n) (by
        simp only [Mach.stateFld, F.HBM_REPAIR_STATE_LEFT, A.HBM_REPAIR_STATE]; omega), hmach]
    · rw [State.get_drivePins, hleft]
  · rw [if_neg h2, if_neg (by omega), if_neg (by omega)]
    refine ⟨?_, ?_, ?_, ?_, fun h => absurd h h2⟩
    · rw [State.initAt_congr (State.drivePins_mem u), hinit]
    · rw [State.drivePins_mem, hbytes.1]
    · rw [State.drivePins_mem, hbytes.2]
    · rw [State.mach_drivePins, hmach]

/-- Step 6 trains, and makes the first repairs of the list hard. -/
theorem completes_initTrained (hat : s.initAt n = 5) :
    Completes (.stackInitStep n 6 true left) s fun t => t.initAt n = 6 ∧ t.flag (F.HBM_STATE_TRAINED n) = true ∧
      t.mem.bytes = s.mem.bytes ∧
      (t.mem.repairs.filter fun e => e.1 = n) = (s.mem.repairs.filter fun e => e.1 = n).drop 8 := by
  have hn8 : n < 8 := hn.trans_le (by unfold stackCount; split <;> decide)
  refine completes_initDone hn hstart hlock (by decide) (by rw [hat]) (fun h => absurd h (by decide)) ?_
  have hinit := s.initAt_setInit (k := 6) hn8 hlen
  have hsame : (s.setInit n 6).mem.bytes = s.mem.bytes ∧ (s.setInit n 6).mem.repairs = s.mem.repairs := ⟨rfl, rfl⟩
  unfold State.initDone
  dsimp only
  rw [if_neg (by decide), if_pos rfl]
  generalize s.setInit n 6 = u at hinit hsame ⊢
  generalize hv : ({ u with mem := { u.mem with repairs := hardRepairs n u.mem.repairs } } : State) = v
  have hvmem : v.mem = { u.mem with repairs := hardRepairs n u.mem.repairs } := hv ▸ rfl
  have hvinit : v.initAt n = 6 := hv ▸ hinit
  have hflag := v.flag_put_one (f := F.HBM_STATE_TRAINED n) (by decide : 16 + 1 ≤ 32) rfl
  have hmem : (v.put (F.HBM_STATE_TRAINED n) 1).mem = v.mem := State.put_mem ..
  generalize v.put (F.HBM_STATE_TRAINED n) 1 = w at hflag hmem ⊢
  refine ⟨?_, ?_, ?_, ?_⟩
  · rw [State.initAt_congr (State.drivePins_mem w), State.initAt_congr hmem, hvinit]
  · rw [State.flag_drivePins, hflag]
  · rw [State.drivePins_mem, hmem, hvmem]
    exact hsame.1
  · rw [State.drivePins_mem, hmem, hvmem, ← hsame.2]
    exact State.filter_hardRepairs ..

omit hlen

/-- Step 7 fills the stack with zeros. -/
theorem completes_initFilled (hat : s.initAt n = 6) (hfill : s.flag (F.HBM_STATE_FILLED n) = false) :
    Completes (.stackInitStep n 7 true left) s fun t => t.flag (F.HBM_STATE_FILLED n) = true ∧
      (∀ a, s.stackOf a = n → t.byteAt a = 0 ∧ (a % 16 = 0 → t.granSynd (a / 16) = 0)) ∧
      ∀ a, s.stackOf a ≠ n → t.byteAt a = s.byteAt a := by
  refine completes_initDone hn hstart hlock (by decide) (by rw [hat]) (fun _ => hfill) ?_
  have hinit := s.frame_setInit n 7
  have hbytes : (s.setInit n 7).byteAt = s.byteAt := rfl
  unfold State.initDone
  dsimp only
  rw [if_neg (by decide), if_neg (by decide), if_pos rfl]
  generalize s.setInit n 7 = u at hinit hbytes ⊢
  have hstack := hinit.stackOf (by simp)
  have hown := fun a (ha : s.stackOf a = n) => u.fillStack_own (a := a) ((hstack a).trans ha)
  have hother := fun a (ha : s.stackOf a ≠ n) => u.fillStack_other (n := n) (a := a) (by rw [hstack]; exact ha)
  generalize u.fillStack n = v at hown hother ⊢
  have hflag := v.flag_put_one (f := F.HBM_STATE_FILLED n) (by decide : 17 + 1 ≤ 32) rfl
  have hmem : (v.put (F.HBM_STATE_FILLED n) 1).mem = v.mem := State.put_mem ..
  generalize v.put (F.HBM_STATE_FILLED n) 1 = w at hflag hmem ⊢
  have hend : w.drivePins.mem = v.mem := (State.drivePins_mem w).trans hmem
  refine ⟨?_, fun a ha => ⟨?_, fun h16 => ?_⟩, fun a ha => ?_⟩
  · rw [State.flag_drivePins, hflag]
  · rw [State.byteAt_congr hend, (hown a ha).1]
  · rw [State.granSynd_congr hend, (hown a ha).2 h16]
  · rw [State.byteAt_congr hend, hother a ha, hbytes]

include hlen

/-- Step 5 fails: the training. -/
theorem completes_initFailed (hat : s.initAt n = 4) :
    Completes (.stackInitStep n 5 false left) s fun t => t.mach (.stack n) = DOWN ∧ .stack n ∈ t.refused ∧ t.initAt n = 0 ∧
      t.causeBit .HBM n 0 K.HBM_TRAIN_FAIL = true ∧ t.mem.bytes = s.mem.bytes := by
  have hn8 : n < 8 := hn.trans_le (by unfold stackCount; split <;> decide)
  have hexec : exec (.stackInitStep n 5 false left) s = execStackInitStep n 5 false left s := rfl
  refine completes_of_finish (hexec.trans rfl) (by simp [hn]) ?_
  rw [if_neg ?_, if_neg (by simp [hlock]), if_pos ⟨.inr rfl, by decide⟩]
  · dsimp only
    generalize hu : ({ s with refused := s.refused ++ [.stack n] } : State) = u
    have hrefused : .stack n ∈ u.refused := by rw [← hu]; simp
    have hmach : u.mach (.stack n) = STARTING := hu ▸ hstart
    have hulen : u.mem.initStep.length = 8 := hu ▸ hlen
    have hbytes : u.mem.bytes = s.mem.bytes := hu ▸ rfl
    have hinit := u.initAt_setInit (k := 0) hn8 hulen
    have hset := u.frame_setInit n 0
    have hsame : (u.setInit n 0).mem.bytes = u.mem.bytes := rfl
    generalize u.setInit n 0 = v at hinit hset hsame ⊢
    unfold State.trainFailed
    rw [if_pos ((hset.mach id).trans hmach)]
    have hdown := v.mach_setMach (.stack n) (v := DOWN) (by decide)
    have hmove := v.frame_setMach (.stack n) DOWN
    generalize v.setMach (.stack n) DOWN = w at hdown hmove ⊢
    have hraise : Frame w (w.raise .HBM n 0 K.HBM_TRAIN_FAIL) [.flt] (causeWords (A.HBM n)) :=
      (Frame.refl ..).raise (by simp) fun b hb => causePage_hbm n ▸ hb
    have hmem : (w.raise .HBM n 0 K.HBM_TRAIN_FAIL).drivePins.mem = v.mem := by
      rw [State.drivePins_mem, State.raise_mem, show w.mem = v.mem from hmove.1 .mem (by simp)]
    refine ⟨?_, ?_, ?_, ?_, ?_⟩
    · rw [State.mach_drivePins, hraise.mach (u := .stack n) (by simp only [causeWords, Mach.stateFld]; omega), hdown]
    · rw [State.drivePins_refused, State.raise_refused, show w.refused = v.refused from hmove.1 .refused (by simp),
        show v.refused = u.refused from hset.1 .refused (by simp)]
      exact hrefused
    · rw [State.initAt_congr hmem, hinit]
    · exact (State.causeBit_drivePins ..).trans (State.cause_raise _ .HBM n 0 _ [] (by decide))
    · rw [hmem, hsame, hbytes]
  · rintro (⟨h1, -⟩ | h1 | ⟨h1, -⟩)
    · exact h1 hstart
    · exact h1 (by rw [hat])
    · exact absurd h1 (by decide)

end

end Sys2Proof.Machine
end

section
/-! CERTIFICATE. The layout of the spaces (R36, R387), and the stacks as a whole. -/

namespace Sys2Proof.Machine

variable {s t u : State} {P : List Part} {W : Nat → Prop} {m : Master} {i : Nat}

/-! ### The words of the layout -/

/-- The locations of SPACE_BASE and SPACE_SIZE of a space. -/
def spaceBaseLoc (i : Nat) : Loc := ⟨.WINDOW, 0, 0, ⟨281, 0x20, 0x8, 5, 0x0, 1, 1, .rw, [0x1FFFF], [], [], [], false⟩, i, 0, 0⟩
def spaceSizeLoc (i : Nat) : Loc := ⟨.WINDOW, 0, 0, ⟨282, 0x24, 0x8, 5, 0x0, 1, 1, .rw, [0x1FFFF], [], [], [], false⟩, i, 0, 0⟩

theorem locate_space : ∀ i, i < 5 → locate (A.WINDOW_SPACE_BASE i) = some (spaceBaseLoc i) ∧
    locate (A.WINDOW_SPACE_SIZE i) = some (spaceSizeLoc i) := by decide

/-- A write of 17 bits over a word of 17 bits stores the value. -/
theorem merged_17 {x v : Nat} (hx : x < 2 ^ 17) (hv : v < 2 ^ 17) : merged 0x1FFFF x v = v := by
  have hmask (y : Nat) (hy : y < 2 ^ 17) : y &&& 0x1FFFF = y := by
    rw [show (0x1FFFF : Nat) = 2 ^ 17 - 1 by decide, Nat.and_two_pow_sub_one_eq_mod]
    exact Nat.mod_eq_of_lt hy
  unfold merged clr
  rw [hmask x hx, hmask v hv, Nat.sub_self, Nat.zero_add]

namespace State

/-- Words at or above the layout's lie apart from those that count accesses, from TOP and from the causes of WINDOW. -/
def AboveAlike (s t : State) : Prop := t.asm = s.asm ∧ ∀ b, A.WINDOW + 0x20 ≤ b → t.rd b = s.rd b

theorem aboveAlike_of_frame (h : Frame s t P W) (ha : .asm ∉ P) (hW : ∀ b, W b → b < A.WINDOW + 0x20) : AboveAlike s t :=
  ⟨h.1 .asm ha, fun b hb => h.2 b fun hw => by have := hW b hw; omega⟩

theorem AboveAlike.trans (h : AboveAlike s t) (k : AboveAlike t u) : AboveAlike s u :=
  ⟨k.1.trans h.1, fun b hb => (k.2 b hb).trans (h.2 b hb)⟩

theorem AboveAlike.wr (h : AboveAlike s t) (a v : Nat) : AboveAlike (s.wr a v) (t.wr a v) := by
  refine ⟨by rw [wr_asm, wr_asm, h.1], fun b hb => ?_⟩
  by_cases hab : b = a
  · subst hab; rw [rd_wr_same, rd_wr_same]
  · rw [rd_wr_other _ _ hab, rd_wr_other _ _ hab, h.2 b hb]

theorem AboveAlike.layoutFits (h : AboveAlike s t) : t.layoutFits = s.layoutFits := by
  have hbase (n : Nat) : t.rd (A.WINDOW_SPACE_BASE n) = s.rd (A.WINDOW_SPACE_BASE n) :=
    h.2 _ (by simp only [A.WINDOW_SPACE_BASE]; omega)
  have hsize (n : Nat) : t.rd (A.WINDOW_SPACE_SIZE n) = s.rd (A.WINDOW_SPACE_SIZE n) :=
    h.2 _ (by simp only [A.WINDOW_SPACE_SIZE]; omega)
  unfold State.layoutFits State.memUnits
  simp only [hbase, hsize, h.1]

/-- A field of the lowest 17 bits of a word of 17 bits is the word. -/
theorem put_17 (s : State) {a v : Nat} (ha : s.rd a < 2 ^ 17) (hv : v < 2 ^ 17) : s.put ⟨a, 0, 17⟩ v = s.wr a v := by
  unfold put
  rw [if_pos (by decide : 0 + 17 ≤ 32)]
  have hset : setBits (s.rd a) 0 17 v = v := by
    unfold setBits
    rw [Nat.zero_add, Nat.shiftRight_eq_div_pow, Nat.div_eq_of_lt ha, Nat.mod_eq_of_lt hv]
    omega
  exact congrArg (s.wr a) hset

/-! ### A write of the layout -/

theorem writeWord_space (s : State) (n : Nat) (ev : Nat × Nat) (v : Word) :
    s.writeWord m (spaceBaseLoc i) n v ev = s.spaceWrite i n (merged 0x1FFFF (s.rd n) v.toNat) ∧
    s.writeWord m (spaceSizeLoc i) n v ev = s.spaceWrite i n (merged 0x1FFFF (s.rd n) v.toNat) := by
  unfold writeWord writeRw
  simp [spaceBaseLoc, spaceSizeLoc, storeMask]

/-- A granted write of a base or size in a state that the bus sees as `s`. -/
theorem busCmd_space {a v : Nat} {l : Loc} (hl : locate a = some l) (hspace : l = spaceBaseLoc i ∨ l = spaceSizeLoc i)
    (hg : s.grants m a (BitVec.ofNat 32 v) = true) (hf : Frame s t P W) (hP : .asm ∉ P ∧ .sid ∉ P) (hpow : .pow ∉ P)
    (hW : ∀ b, W b → ¬ busWords b) (ha : t.rd a < 2 ^ 17) (hlow : A.WINDOW + 0x20 ≤ a) (hv : v < 2 ^ 17) :
    t.busCmd m a v = (t.countAccess (masterCode m)).spaceWrite i a v := by
  have hdom : l.domain = none ∧ l.blk ≠ .LANE ∧ l.sectionNo = none := by
    rcases hspace with rfl | rfl <;> exact ⟨rfl, by simp [spaceBaseLoc, spaceSizeLoc], rfl⟩
  have hon : t.pow.hotSwap = true := by
    rw [show t.pow = s.pow from hf.1 .pow hpow]
    exact (target_of_grants hg).1
  have hc : t.busCheck m a 32 (BitVec.ofNat 32 v).toNat true = .target l := by
    rw [busCheck_congr hf hP hW hl hdom.1 hdom.2.1]
    exact target_of_grants_locate hg hl
  have hcount : (t.countAccess (masterCode m)).rd a = t.rd a := rd_countAccess _ _ fun h => by
    have := topWords_of_accessWord h
    simp only [topWords, A.TOP, A.WINDOW] at this hlow
    omega
  have hvn : (BitVec.ofNat 32 v).toNat = v := by
    rw [BitVec.toNat_ofNat]
    exact Nat.mod_eq_of_lt (hv.trans (by decide))
  rw [busCmd_target hon hc hdom.2.2]
  rcases hspace with rfl | rfl
  · rw [(writeWord_space ..).1, hvn, hcount, merged_17 ha hv]
  · rw [(writeWord_space ..).2, hvn, hcount, merged_17 ha hv]

/-- A layout that does not fit is refused. -/
theorem spaceWrite_refused (s : State) {n a v : Nat} (h : (s.wr a v).layoutFits = false) :
    s.spaceWrite n a v = s.raise .WINDOW 0 0 K.WINDOW_LAYOUT_INVALID := by
  unfold spaceWrite
  dsimp only
  rw [h, if_pos (by decide)]

/-- The words that the staging pool takes with the layout of its space. -/
def poolWords (b : Nat) : Prop := A.POOL ≤ b ∧ b < A.POOL + 0x10000

theorem frame_layStage (s : State) : Frame s s.layStage [.pools, .flt] poolWords := by
  have hsize : poolWords (A.POOL_SIZE 1) ∧ poolWords (A.POOL_FREE 1) := by unfold poolWords; decide
  have hcause : ∀ b, causeWords (Blk.causePage .POOL 0 0) b → poolWords b := by
    have hpage : Blk.causePage .POOL 0 0 = A.POOL := by decide
    rw [hpage]
    intro b hb
    unfold causeWords at hb
    unfold poolWords
    omega
  unfold layStage
  dsimp only
  refine .ite (.refl ..) (.ite (.refl ..) ?_)
  have hset (x : PoolHid) : Frame s (s.setPool 1 x) [.pools, .flt] poolWords :=
    (Frame.refl ..).part .pools (by simp) (fun p hp => by cases p <;> simp_all [Part.same]) fun _ => rfl
  have hpool (x : PoolHid) : Frame s (((s.setPool 1 x).wr (A.POOL_SIZE 1) (s.rd (A.WINDOW_SPACE_SIZE 2))).wr (A.POOL_FREE 1)
      (s.rd (A.WINDOW_SPACE_SIZE 2))) [.pools, .flt] poolWords := ((hset x).wr hsize.1).wr hsize.2
  unfold quotaCheck
  exact .ite ((hpool _).raise (by simp) hcause) (hpool _)

/-- A layout that fits is stored; the staging pool follows its space. -/
theorem spaceWrite_fits (s : State) {n a v : Nat} (h : (s.wr a v).layoutFits = true) :
    Frame (s.wr a v) (s.spaceWrite n a v) [.pools, .flt] poolWords ∧ (n ≠ 2 → s.spaceWrite n a v = s.wr a v) := by
  unfold spaceWrite
  dsimp only
  rw [if_neg (by simp [h])]
  by_cases hn : n = 2
  · rw [if_pos hn]
    exact ⟨frame_layStage _, fun h => absurd hn h⟩
  · rw [if_neg hn]
    exact ⟨.refl .., fun _ => rfl⟩

theorem poolWords_below {b : Nat} (h : poolWords b) : b < A.WINDOW + 0x20 ∧ ¬ busWords b := by
  simp only [poolWords, busWords, A.POOL, A.WINDOW, A.TOP, A.PROT] at h ⊢
  omega

theorem accessWord_below {b : Nat} (h : accessWord b) : b < A.WINDOW + 0x20 ∧ ¬ busWords b := by
  refine ⟨?_, not_busWords_of_accessWord h⟩
  have := topWords_of_accessWord h
  simp only [topWords, A.TOP, A.WINDOW] at this ⊢
  omega

end State
end Sys2Proof.Machine
end

section
/-! CERTIFICATE. The layout of the spaces written, and the stacks as a whole (R36, R377 to R387, R474). -/

namespace Sys2Proof.Machine

variable {s t u : State} {P : List Part} {W : Nat → Prop} {m : Master} {i base size : Nat}

namespace State

/-! ### One write of the layout -/

theorem aboveAlike_countAccess (s : State) (k : Nat) : AboveAlike s (s.countAccess k) :=
  aboveAlike_of_frame (s.frame_countAccess k) (by simp) fun _ h => (accessWord_below h).1

/-- A write that leaves a layout that fits. -/
theorem spaceWrite_stored (s : State) (k : Nat) {n a v : Nat} (h : (s.wr a v).layoutFits = true) :
    AboveAlike (s.wr a v) ((s.countAccess k).spaceWrite n a v) ∧
    Frame s ((s.countAccess k).spaceWrite n a v) [.pools, .flt] (fun b => b = a ∨ accessWord b ∨ poolWords b) ∧
    (n ≠ 2 → Frame s ((s.countAccess k).spaceWrite n a v) [] (fun b => b = a ∨ accessWord b)) := by
  have hcount := s.frame_countAccess k
  have halike := (s.aboveAlike_countAccess k).wr a v
  generalize s.countAccess k = c at hcount halike ⊢
  obtain ⟨hpool, hplain⟩ := c.spaceWrite_fits (n := n) (halike.layoutFits.trans h)
  have hstored : Frame s (c.wr a v) [] (fun b => b = a ∨ accessWord b) := (hcount.mono (fun _ h => h) fun _ => .inr).wr (.inl rfl)
  refine ⟨halike.trans (aboveAlike_of_frame hpool (by simp) fun _ h => (poolWords_below h).1), ?_, fun hn => ?_⟩
  · exact (hstored.mono (by simp) fun b hb => hb.imp_right .inl).trans (hpool.mono (fun _ h => h) fun _ hb => .inr (.inr hb))
  · rw [hplain hn]
    exact hstored

/-- A write that leaves a layout that does not fit. -/
theorem spaceWrite_kept (s : State) (k : Nat) {n a v : Nat} (h : (s.wr a v).layoutFits = false) :
    Frame s ((s.countAccess k).spaceWrite n a v) [.flt] (fun b => causeWords A.WINDOW b ∨ accessWord b) ∧
    ((s.countAccess k).spaceWrite n a v).causeBit .WINDOW 0 0 K.WINDOW_LAYOUT_INVALID = true := by
  have hcount := s.frame_countAccess k
  have halike := (s.aboveAlike_countAccess k).wr a v
  generalize s.countAccess k = c at hcount halike ⊢
  rw [c.spaceWrite_refused (halike.layoutFits.trans h)]
  refine ⟨?_, cause_raise c .WINDOW 0 0 _ [] (by decide)⟩
  have hraise : Frame c (c.raise .WINDOW 0 0 K.WINDOW_LAYOUT_INVALID) [.flt] (causeWords A.WINDOW) :=
    (Frame.refl ..).raise (by simp) fun _ hb => hb
  exact (hcount.mono (by simp) fun _ => .inr).trans (hraise.mono (fun _ h => h) fun _ => .inl)

end State

/-! ### Both writes -/

theorem exec_spaceLayoutWrite (s : State) (m : Master) (i base size : Nat) : exec (.spaceLayoutWrite m i base size) s =
    s.finish (decide (i < 5)) fun t => (t.busCmd m (A.WINDOW_SPACE_BASE i) base).busCmd m (A.WINDOW_SPACE_SIZE i) size := rfl

theorem spaceWords_apart (i : Nat) : A.WINDOW_SPACE_BASE i ≠ A.WINDOW_SPACE_SIZE i ∧
    ¬ busWords (A.WINDOW_SPACE_BASE i) ∧ A.WINDOW + 0x20 ≤ A.WINDOW_SPACE_SIZE i := by
  simp only [busWords, A.WINDOW_SPACE_BASE, A.WINDOW_SPACE_SIZE, A.WINDOW, A.TOP, A.PROT]
  omega

section
variable (hi : i < 5) (hb : base < 2 ^ 17) (hz : size < 2 ^ 17)
  (hgb : s.grants m (A.WINDOW_SPACE_BASE i) (BitVec.ofNat 32 base) = true)
  (hgz : s.grants m (A.WINDOW_SPACE_SIZE i) (BitVec.ofNat 32 size) = true)
  (hold : s.rd (A.WINDOW_SPACE_BASE i) < 2 ^ 17 ∧ s.rd (A.WINDOW_SPACE_SIZE i) < 2 ^ 17)
include hi hb hz hgb hgz hold

/-- Base and size of a space are written one after the other, each as the bus lets it through. -/
theorem spaceLayout_run (hf : Frame s (((s.countAccess (masterCode m)).spaceWrite i (A.WINDOW_SPACE_BASE i) base)) P W)
    (hP : .asm ∉ P ∧ .sid ∉ P) (hpow : .pow ∉ P) (hW : ∀ b, W b → ¬ busWords b) (hsize : ¬ W (A.WINDOW_SPACE_SIZE i)) :
    (s.busCmd m (A.WINDOW_SPACE_BASE i) base).busCmd m (A.WINDOW_SPACE_SIZE i) size =
      ((((s.countAccess (masterCode m)).spaceWrite i (A.WINDOW_SPACE_BASE i) base)).countAccess (masterCode m)).spaceWrite i
        (A.WINDOW_SPACE_SIZE i) size := by
  have hlow : A.WINDOW + 0x20 ≤ A.WINDOW_SPACE_BASE i ∧ A.WINDOW + 0x20 ≤ A.WINDOW_SPACE_SIZE i := by
    simp only [A.WINDOW_SPACE_BASE, A.WINDOW_SPACE_SIZE]; omega
  obtain ⟨hlb, hlz⟩ := locate_space i hi
  rw [State.busCmd_space hlb (.inl rfl) hgb (Frame.refl s [] fun _ => False) (by simp) (by simp) (fun _ h => h.elim) hold.1 hlow.1 hb]
  exact State.busCmd_space hlz (.inr rfl) hgz hf hP hpow hW (by rw [hf.2 _ hsize]; exact hold.2) hlow.2 hz

/-- A layout that fits after each write is stored (R387). -/
theorem completes_spaceLayout (h1 : (s.put (F.WINDOW_SPACE_BASE_BASE i) base).layoutFits = true)
    (h2 : ((s.put (F.WINDOW_SPACE_BASE_BASE i) base).put (F.WINDOW_SPACE_SIZE_SIZE i) size).layoutFits = true) :
    Completes (.spaceLayoutWrite m i base size) s fun t => t.rd (A.WINDOW_SPACE_BASE i) = base ∧ t.rd (A.WINDOW_SPACE_SIZE i) = size ∧
      (i ≠ 2 → Frame s t [] fun a => a = A.WINDOW_SPACE_BASE i ∨ a = A.WINDOW_SPACE_SIZE i ∨ topWords a) := by
  obtain ⟨hne, hbus, hlow⟩ := spaceWords_apart i
  have hput1 : s.put (F.WINDOW_SPACE_BASE_BASE i) base = s.wr (A.WINDOW_SPACE_BASE i) base := s.put_17 hold.1 hb
  have hkeep : (s.wr (A.WINDOW_SPACE_BASE i) base).rd (A.WINDOW_SPACE_SIZE i) < 2 ^ 17 := by
    rw [State.rd_wr_other _ _ hne.symm]
    exact hold.2
  have hput2 := (s.wr (A.WINDOW_SPACE_BASE i) base).put_17 hkeep hz
  rw [hput1] at h1 h2
  have h2 : ((s.wr (A.WINDOW_SPACE_BASE i) base).wr (A.WINDOW_SPACE_SIZE i) size).layoutFits = true := hput2 ▸ h2
  obtain ⟨halike, hframe, hplain⟩ := s.spaceWrite_stored (masterCode m) (n := i) h1
  refine completes_of_finish (exec_spaceLayoutWrite ..) (decide_eq_true hi) ?_
  have hrun := spaceLayout_run hi hb hz hgb hgz hold hframe (by simp) (by simp) (fun b hb => by
    rcases hb with rfl | hb | hb
    exacts [hbus, (State.accessWord_below hb).2, (State.poolWords_below hb).2]) (by
    rintro (h | h | h)
    · exact hne h.symm
    · exact absurd hlow (by have := (State.accessWord_below h).1; omega)
    · exact absurd hlow (by have := (State.poolWords_below h).1; omega))
  rw [hrun]
  generalize ((s.countAccess (masterCode m)).spaceWrite i (A.WINDOW_SPACE_BASE i) base) = t1 at halike hframe hplain ⊢
  obtain ⟨halike2, -, hplain2⟩ := t1.spaceWrite_stored (masterCode m) (n := i)
    ((halike.wr (A.WINDOW_SPACE_SIZE i) size).layoutFits.trans h2)
  have hend := (halike.wr (A.WINDOW_SPACE_SIZE i) size).trans halike2
  generalize (t1.countAccess (masterCode m)).spaceWrite i (A.WINDOW_SPACE_SIZE i) size = t2 at hend hplain2 ⊢
  have hmod (v : Nat) (hv : v < 2 ^ 17) : v % 2 ^ 32 = v := Nat.mod_eq_of_lt (hv.trans (by decide))
  refine ⟨?_, ?_, fun h => ?_⟩
  · rw [State.rd_drivePins, hend.2 _ (by simp only [A.WINDOW_SPACE_BASE]; omega), State.rd_wr_other _ _ hne, State.rd_wr_same, hmod _ hb]
  · rw [State.rd_drivePins, hend.2 _ hlow, State.rd_wr_same, hmod _ hz]
  · refine (((hplain h).mono (fun _ h => h) fun b hb => ?_).trans ((hplain2 h).mono (fun _ h => h) fun b hb => ?_)).drivePins
    · exact hb.imp_right fun hb => .inr (topWords_of_accessWord hb)
    · exact .inr (hb.imp_right topWords_of_accessWord)

/-- A layout that fits after neither write is refused (R36, R387). -/
theorem completes_spaceLayout_refused (h1 : (s.put (F.WINDOW_SPACE_BASE_BASE i) base).layoutFits = false)
    (h2 : (s.put (F.WINDOW_SPACE_SIZE_SIZE i) size).layoutFits = false) :
    Completes (.spaceLayoutWrite m i base size) s fun t => t.causeBit .WINDOW 0 0 K.WINDOW_LAYOUT_INVALID = true ∧
      Frame s t [.flt] fun a => causeWords A.WINDOW a ∨ topWords a := by
  obtain ⟨-, -, hlow⟩ := spaceWords_apart i
  have h1 : (s.wr (A.WINDOW_SPACE_BASE i) base).layoutFits = false := s.put_17 hold.1 hb ▸ h1
  have h2 : (s.wr (A.WINDOW_SPACE_SIZE i) size).layoutFits = false := s.put_17 hold.2 hz ▸ h2
  obtain ⟨hframe, -⟩ := s.spaceWrite_kept (masterCode m) (n := i) h1
  have hcause {b : Nat} (hb : causeWords A.WINDOW b) : b < A.WINDOW + 0x20 ∧ ¬ busWords b := by
    simp only [causeWords, busWords, A.WINDOW, A.TOP, A.PROT] at hb ⊢
    omega
  have hbelow : ∀ b, causeWords A.WINDOW b ∨ accessWord b → b < A.WINDOW + 0x20 ∧ ¬ busWords b := fun b hb =>
    hb.elim hcause State.accessWord_below
  refine completes_of_finish (exec_spaceLayoutWrite ..) (decide_eq_true hi) ?_
  have hrun := spaceLayout_run hi hb hz hgb hgz hold hframe (by simp) (by simp) (fun b hb => (hbelow b hb).2)
    fun h => absurd hlow (by have := (hbelow _ h).1; omega)
  rw [hrun]
  generalize ((s.countAccess (masterCode m)).spaceWrite i (A.WINDOW_SPACE_BASE i) base) = t1 at hframe ⊢
  have halike := State.aboveAlike_of_frame hframe (by simp) fun b hb => (hbelow b hb).1
  obtain ⟨hframe2, hset⟩ := t1.spaceWrite_kept (masterCode m) (n := i)
    ((halike.wr (A.WINDOW_SPACE_SIZE i) size).layoutFits.trans h2)
  exact ⟨(State.causeBit_drivePins ..).trans hset, ((hframe.trans hframe2).mono (fun _ h => h) fun b hb =>
    hb.imp_right topWords_of_accessWord).drivePins⟩

end

/-! ### The stacks as a whole -/

/-- Settles O49: each clause by the command's lemma, the copy of a row by one visit of each of its granules with an error. -/
theorem stacksAreLaidOutScrubbedRepairedAndInitialised : Obligations.StacksAreLaidOutScrubbedRepairedAndInitialised := by
  unfold Obligations.StacksAreLaidOutScrubbedRepairedAndInitialised
  intro s
  refine ⟨fun m i base size hi hb hz hgb hgz hold => ?_, fun n g data check hn hg hmax hserves hdue => ?_,
    fun n pc bank waits hn hpc hbank => ?_, fun m n flips hn hgrants => ?_, fun n left e hn he => ?_, fun n e hn he => ?_,
    fun n left hn hstart hlen hlock => ?_⟩
  · exact ⟨completes_spaceLayout hi hb hz hgb hgz hold, completes_spaceLayout_refused hi hb hz hgb hgz hold⟩
  · exact ⟨completes_patrolScrub_race hn hg hmax hserves hdue, completes_patrolScrub_good hn hg hmax hserves hdue,
      completes_patrolScrub_check hn hg hmax hserves hdue, fun _ => completes_patrolScrub_bit hn hg hmax hserves hdue,
      completes_patrolScrub_ue hn hg hmax hserves hdue, completes_patrolScrub_addr hn hg hmax hserves hdue⟩
  · exact ⟨completes_refresh hn hpc hbank, completes_refresh_none hn hpc hbank⟩
  · exact ⟨completes_startRepair_run hn hgrants, completes_startRepair_refused hn hgrants⟩
  · exact ⟨completes_repairPprDone hn he, completes_repairPprDone_exhausted hn he⟩
  · exact completes_repairDone hn he
  · exact ⟨completes_initFailed hn hstart hlen hlock, fun k h1 h5 => completes_initStep hn hstart hlen hlock h1 h5,
      completes_initTrained hn hstart hlen hlock, fun hat hfill =>
        (completes_initFilled hn hstart hlock hat hfill).mono fun _ ⟨h1, h2, h3⟩ => ⟨h1, h2, fun _ => h3⟩⟩

end Sys2Proof.Machine
end

section
/-! SUPPORT. What the parts of a slow cycle leave as it is (R43, R169): the queue, the slow clock, the parts fitted, the EEPROM,
the staging registers, the refusals, the lanes, the consort, the sampled pins, and the words of the TOP page. -/

namespace Sys2Proof.Machine

/-- Parts of a state that a slow cycle may change beside the slow clock. -/
def cycleParts : List Part :=
  [.timers, .time, .free, .ports, .sw, .pools, .coll, .coaches, .upd, .stn, .mem, .flt, .pow, .sid, .out]

/-- The other parts of a state. -/
def State.bystanders (s : State) :
    List Instr × Nat × Assembly × Fru × List Staging × List Mach × List (Nat × LaneHid) × Consort × Pins :=
  (s.pending, s.clk, s.asm, s.fru, s.staging, s.refused, s.lanes, s.cons, s.pins)

/-- Words past the TOP page. -/
def pastTop (a : Nat) : Prop := 0x1000 ≤ a

/-- The rest of the parts and the words of the TOP page are as they were. -/
def Idles (s t : State) : Prop := Frame s t cycleParts pastTop

variable {s t u : State}

namespace Idles

theorem refl (s : State) : Idles s s := Frame.refl ..

theorem trans (h : Idles s t) (g : Idles t u) : Idles s u := Frame.trans h g

theorem foldl {α : Type} {f : State → α → State} (l : List α) (hf : ∀ t a, Idles t (f t a)) (h : Idles s t) :
    Idles s (l.foldl f t) := Frame.foldl l (fun t a _ => hf t a) h

/-- A fold that carries a state beside a value keeps what each of its steps keeps. -/
theorem foldl_snd {α β : Type} {f : β × State → α → β × State} (l : List α) {b : β}
    (hf : ∀ x a, Idles x.2 (f x a).2) (h : Idles s t) : Idles s (l.foldl f (b, t)).2 :=
  foldl_keeps (fun x : β × State => Idles s x.2) f (fun x a hx => hx.trans (hf x a)) l (b, t) h

theorem ite {c : Prop} [Decidable c] {a b : State} (ha : Idles s a) (hb : Idles s b) : Idles s (if c then a else b) :=
  Frame.ite ha hb

section
variable (h : Idles s t)
include h

/-! ### Parts -/

/-- An update of parts that may change. -/
theorem set (hu : u.bystanders = t.bystanders) (hr : ∀ a, u.rd a = t.rd a) : Idles s u := by
  simp only [State.bystanders, Prod.mk.injEq] at hu
  obtain ⟨h1, h2, h3, h4, h5, h6, h7, h8, h9⟩ := hu
  refine h.trans ⟨fun p hp => ?_, fun a _ => hr a⟩
  cases p <;> simp_all [Part.same, cycleParts]

theorem setTimers {x : List (TKey × Nat)} : Idles s { t with timers := x } := h.set rfl fun _ => rfl
theorem setTime {x : NetTime} : Idles s { t with time := x } := h.set rfl fun _ => rfl
theorem setNext {x : Nat} : Idles s { t with free := x } := h.set rfl fun _ => rfl
theorem setPorts {x : List (Nat × PortHid)} : Idles s { t with ports := x } := h.set rfl fun _ => rfl
theorem setSw {x : Switch} : Idles s { t with sw := x } := h.set rfl fun _ => rfl
theorem setPools {x : List (Nat × PoolHid)} : Idles s { t with pools := x } := h.set rfl fun _ => rfl
theorem setColl {x : Colls} : Idles s { t with coll := x } := h.set rfl fun _ => rfl
theorem setCoaches {x : List (Nat × CoachHid)} : Idles s { t with coaches := x } := h.set rfl fun _ => rfl
theorem setUpd {x : Update} : Idles s { t with upd := x } := h.set rfl fun _ => rfl
theorem setStn {x : Stations} : Idles s { t with stn := x } := h.set rfl fun _ => rfl
theorem setMem {x : Memory} : Idles s { t with mem := x } := h.set rfl fun _ => rfl
theorem setFlt {x : Faults} : Idles s { t with flt := x } := h.set rfl fun _ => rfl
theorem setPow {x : Power} : Idles s { t with pow := x } := h.set rfl fun _ => rfl
theorem setSid {x : Siding} : Idles s { t with sid := x } := h.set rfl fun _ => rfl
theorem setOut {x : List Out} : Idles s { t with out := x } := h.set rfl fun _ => rfl

theorem setPort {p : Nat} {v : PortHid} : Idles s (t.setPort p v) := h.setPorts
theorem setPool {k : Nat} {q : PoolHid} : Idles s (t.setPool k q) := h.setPools
theorem setCoach {c : Nat} {v : CoachHid} : Idles s (t.setCoach c v) := h.setCoaches
theorem emit {o : Out} : Idles s (t.emit o) := h.setOut
theorem fresh : Idles s t.fresh.2 := h.setNext
theorem startTimer {k : TKey} : Idles s (t.startTimer k) := h.setTimers
theorem stopTimer {k : TKey} : Idles s (t.stopTimer k) := h.setTimers

/-! ### Register words past the TOP page, causes and captures -/

omit h in
/-- An address lies past the TOP page where its base does. -/
theorem far {a : Nat} (h : Nat.ble 0x1000 a = true) : 0x1000 ≤ a := Nat.le_of_ble_eq_true h

omit h in
theorem far1 {a x : Nat} (h : Nat.ble 0x1000 a = true) : 0x1000 ≤ a + x := Nat.le_add_right_of_le (far h)

omit h in
theorem far2 {a x y : Nat} (h : Nat.ble 0x1000 a = true) : 0x1000 ≤ a + x + y := Nat.le_add_right_of_le (far1 h)

omit h in
theorem far3 {a x y z : Nat} (h : Nat.ble 0x1000 a = true) : 0x1000 ≤ a + x + y + z := Nat.le_add_right_of_le (far2 h)

theorem wr {a v : Nat} (ha : 0x1000 ≤ a) : Idles s (t.wr a v) :=
  Frame.wr h ha

theorem wr64 {a v : Nat} (ha : 0x1000 ≤ a) : Idles s (t.wr64 a v) :=
  Frame.wr64 h ha (Nat.le_add_right_of_le ha)

theorem put {f : Fld} {v : Nat} (ha : 0x1000 ≤ f.addr) :
    Idles s (t.put f v) :=
  Frame.put64 h ha (Nat.le_add_right_of_le ha)

theorem bump {a n : Nat} (ha : 0x1000 ≤ a) : Idles s (t.bump a n) :=
  Frame.bump h ha (Nat.le_add_right_of_le ha)

theorem report {n d : Nat} {l : List Nat} : Idles s (t.report n d l) := Frame.report h (by simp [cycleParts])

omit h in
/-- Every page but TOP lies past it (R24). -/
theorem le_causePage {b : Blk} (hb : b ≠ .TOP) (i j : Nat) : 0x1000 ≤ b.causePage i j := by
  have hbase : 0x1000 ≤ b.info.base := by
    cases b
    case TOP => exact absurd rfl hb
    all_goals exact Nat.le_of_ble_eq_true rfl
  have hpage (i j : Nat) : 0x1000 ≤ b.page i j := Nat.le_add_right_of_le (Nat.le_add_right_of_le hbase)
  unfold Blk.causePage; split
  all_goals exact hpage ..

/-- An event of another block than TOP. -/
theorem raise {b : Blk} {i j k : Nat} {x : List Nat} (hb : b ≠ .TOP) : Idles s (t.raise b i j k x) := by
  have hpage := le_causePage hb i j
  refine Frame.raise h (by simp [cycleParts]) fun a ha => ?_
  unfold causeWords at ha
  unfold pastTop
  omega

theorem capture {f : Fld} {g : State → State} (hg : ∀ t, Idles t (g t))
    (ha : 0x1000 ≤ f.addr) : Idles s (t.capture f g) := by
  unfold State.capture
  exact .ite h ((h.trans (hg t)).put ha)

/-! ### Accounts, pools and cells (R159, R173, R175) -/

theorem account {p c : Nat} {f : State → State} (hf : ∀ t, Idles t (f t)) : Idles s (t.account p c f) :=
  (((h.trans (hf t)).put (by exact far rfl)).put (by exact far rfl))

theorem charge {p c n : Nat} : Idles s (t.charge p c n) := h.account fun t => ((Idles.refl t).put (by exact far2 rfl))

theorem uncharge {p c n : Nat} : Idles s (t.uncharge p c n) := h.account fun t => ((Idles.refl t).put (by exact far2 rfl))

theorem noteRelinks {l : List Nat} : Idles s (t.noteRelinks l) :=
  .foldl l (fun t _ => (((Idles.refl t).bump (by exact far rfl)).raise (by nofun))) h

theorem poolTake {k n owner : Nat} : Idles s (t.poolTake k n owner).2 :=
  (((h.fresh.setPool.wr (by exact far1 rfl)).wr (by exact far1 rfl)).wr (by exact far2 rfl)).noteRelinks

theorem poolFree {k e req : Nat} : Idles s (t.poolFree k e req) := by
  unfold State.poolFree; simp only; split
  · exact .ite (((h.setPool.wr (by exact far1 rfl)).wr (by exact far1 rfl)).wr (by exact far2 rfl)).uncharge (((h.setPool.wr
      (by exact far1 rfl)).wr (by exact far1 rfl)).wr (by exact far2 rfl))
  · exact ((h.bump (by exact far rfl)).raise (by nofun)).capture (fun t => ((((Idles.refl t).put (by exact far rfl)).put
      (by exact far rfl)).put (by exact far rfl))) (by exact far rfl)

theorem poolFrees {k req : Nat} {l : List Nat} : Idles s (t.poolFrees k req l) :=
  .foldl l (fun t _ => (Idles.refl t).poolFree) h

theorem returnCredit {p c n : Nat} : Idles s (t.returnCredit p c n) := by
  unfold State.returnCredit; exact .ite (h.put (by exact far3 rfl)) h

theorem freeCells {b : BufPkt} {l : List Nat} : Idles s (t.freeCells b l) := h.poolFrees

/-! ### Packets in the buffer and copies (R165, R168) -/

theorem settle {o : Nat} : Idles s (t.settle o) := h.setSw

theorem discard {id : Nat} : Idles s (t.discard id) := by
  unfold State.discard; split
  · exact h
  · exact (Idles.foldl _ (fun t _ => (Idles.refl t).settle) h.freeCells.setSw.setSw).returnCredit

theorem allocate {p f pay : Nat} {k : Pkt} {whole : Bool} {chosen : Option Nat} :
    Idles s (t.allocate p k f whole chosen pay).2 := h.poolTake.setSw.setSw.charge

theorem inOrder {f : State → State} (hf : Idles t (f t)) : Idles s (t.inOrder f) := (h.trans hf).setSw

/-! ### Origination (R164 to R167) -/

theorem placeAt {p out : Nat} {k : Pkt} : Idles s (t.placeAt p k out) := (h.allocate.bump (by exact far rfl)).setSw.setSw

theorem noteAsked {id : Nat} : Idles s (t.noteAsked id) := h.setSw.bump (by exact far rfl)

theorem wait {p : Nat} {k : Pkt} {link : Option Nat} {chunk : Option CKey} : Idles s (t.wait p k link chunk) := by
  unfold State.wait; simp only
  exact .ite (Idles.noteAsked h.setSw.setSw) h.setSw.setSw

theorem answerOwn {k : Pkt} {code : Nat} : Idles s (t.answerOwn k code) := by
  unfold State.answerOwn
  exact .ite (Idles.ite (h.bump (by exact far rfl)) h).placeAt (Idles.ite (h.bump (by exact far rfl)) h).wait

theorem lookup {src dst tc flow : Nat} {spray : Bool} : Idles s (t.lookup src dst tc spray flow).2 := by
  unfold State.lookup; simp only; split
  · exact (h.bump (by exact far rfl)).bump (by exact far rfl)
  · split
    · exact (((h.bump (by exact far rfl)).bump (by exact far rfl)).raise (by nofun)).capture (fun t => ((Idles.refl t).put
        (by exact far rfl))) (by exact far rfl)
    · split
      · exact ((h.bump (by exact far rfl)).bump (by exact far rfl)).put (by exact far2 rfl)
      · exact (h.bump (by exact far rfl)).bump (by exact far rfl)

theorem resolve {k : Pkt} {dst : Nat} : Idles s (t.resolve k dst).2 := by
  unfold State.resolve; split
  · exact h
  · simp only; split
    · exact h
    · exact h.lookup

theorem placeUnicast {p : Nat} {k : Pkt} {link : Option Nat} : Idles s (t.placeUnicast p k link) := by
  have hr := h.resolve (k := k) (dst := k.dst)
  unfold State.placeUnicast; split
  · exact .ite h.placeAt h
  · split
    · next e => rw [e] at hr; exact hr.placeAt
    · next e => rw [e] at hr; exact hr.answerOwn
    · next e => rw [e] at hr; exact hr

theorem originate {p : Nat} {k : Pkt} {link : Option Nat} : Idles s (t.originate p k link) := by
  unfold State.originate; split
  · exact h.placeUnicast
  · exact h.wait

end

end Idles

end Sys2Proof.Machine
end

section
/-! SUPPORT. What module memory, the collectives and the stations leave as it is within a slow cycle (R43, R169). -/

namespace Sys2Proof.Machine

/-- A line counts and captures the mismatch or the timeout that ends an entry (R262, R264). -/
def State.noteEnd (s : State) (e : Entry) (status : Nat) (missing : List Nat) (parent : Bool) : State :=
  if status = 0x10 then
    (((s.bump A.COLL_MISMATCHES 1).bump (A.COLL_LINE_MISMATCHES e.line) 1).captureMaps e status missing parent).lineRaise e.line
      K.COLL_COLL_MISMATCH
  else if status = 0x11 then
    (((s.bump A.COLL_TIMEOUTS 1).bump (A.COLL_LINE_TIMEOUTS e.line) 1).captureMaps e status missing parent).lineRaise e.line
      K.COLL_COLL_TIMEOUT
  else s

namespace Idles

variable {s t u : State}

/-! ### Module memory (R380, R390) -/

section
variable (h : Idles s t)
include h

theorem corrected {n : Nat} : Idles s (t.corrected n) := (h.bump (by exact far2 rfl)).report

theorem captureUe {n a : Nat} : Idles s (t.captureUe n a) :=
  h.capture (fun t => ((refl t).put (by exact far2 rfl))) (by exact far2 rfl)

theorem readGran {g : Nat} : Idles s (t.readGran g).2 := by
  unfold State.readGran; dsimp only; split
  · exact h.bump (by exact far2 rfl)
  · exact (h.bump (by exact far2 rfl)).corrected
  · exact (h.bump (by exact far2 rfl)).corrected
  · exact ((h.bump (by exact far2 rfl)).bump (by exact far2 rfl)).captureUe.raise (by nofun)
  · exact (h.bump (by exact far2 rfl)).bump (by exact far2 rfl)
  · exact ((h.bump (by exact far2 rfl)).bump (by exact far2 rfl)).captureUe.raise (by nofun)

theorem readMem {a n : Nat} : Idles s (t.readMem a n).2 := by
  unfold State.readMem; dsimp only
  exact foldl_snd _ (fun x g => (refl x.2).readGran) h

theorem readSpace {c off n : Nat} : Idles s (t.readSpace c off n).2 := by
  unfold State.readSpace; split
  · exact h.readMem
  · exact h.raise (by nofun)

theorem of_readSpace {c off n : Nat} {b : Option (List Byte)} (e : t.readSpace c off n = (b, u)) : Idles s u := by
  have := h.readSpace (c := c) (off := off) (n := n)
  rwa [e] at this

omit h in
theorem setBytes (h : Idles s t) {a : Nat} {l : List Byte} : Idles s (t.setBytes a l) := by
  induction l generalizing t a with
  | nil => exact h
  | cons b l ih => exact ih h.setMem

theorem storeGran {a : Nat} {l : List Byte} {g : Nat} : Idles s (t.storeGran a l g) := by
  unfold State.storeGran; dsimp only
  refine setBytes ?_
  split
  · exact .ite (h.bump (by exact far2 rfl)).setMem (h.bump (by exact far2 rfl)).setMem.setMem
  · exact (h.bump (by exact far2 rfl)).setMem

theorem writeGran {a : Nat} {l : List Byte} {g : Nat} : Idles s (t.writeGran a l g) :=
  .ite h.storeGran (.ite h.readGran.storeGran h.readGran)

theorem writeMem {a : Nat} {l : List Byte} : Idles s (t.writeMem a l) := .foldl _ (fun t _ => (refl t).writeGran) h

theorem writeSpace {c off : Nat} {l : List Byte} : Idles s (t.writeSpace c off l) := by
  unfold State.writeSpace; split
  · exact h.writeMem
  · exact h.raise (by nofun)

theorem writeFabric {a : Nat} {l : List Byte} : Idles s (t.writeFabric a l) := h.writeSpace

/-! ### Chunks and what they hold (R272, R279, R291) -/

theorem setChunk {c : Chunk} : Idles s (t.setChunk c) := h.setColl

theorem setEntry {e : Entry} : Idles s (t.setEntry e) := h.setColl

theorem delChunk {k : CKey} : Idles s (t.delChunk k) := h.setColl

theorem coachBump {L n : Nat} {a : Nat → Nat → Nat} (ha : ∀ i j, 0x1000 ≤ a i j) : Idles s (t.coachBump L a n) :=
  h.bump (ha ..)

theorem freeRecords {k : CKey} : Idles s (t.freeRecords k) := by
  unfold State.freeRecords; split
  · exact h
  · exact (Idles.ite h (h.put (by exact far3 rfl))).poolFrees.setChunk

theorem freeSlots {k : CKey} {n : Nat} : Idles s (t.freeSlots k n) := by
  unfold State.freeSlots; split
  · exact h
  · exact h.poolFrees.setChunk

theorem dropParked {test : CKey → Bool} : Idles s (t.dropParked test) :=
  .foldl _ (fun t _ => (refl t).discard) h.setColl

theorem dropResults {k : CKey} : Idles s (t.dropResults k) := by
  unfold State.dropResults; dsimp only; split
  · exact h.setSw
  · exact .foldl _ (fun t _ => (refl t).discard) h.setSw.setChunk

theorem releaseChunk {k : CKey} : Idles s (t.releaseChunk k) := h.dropParked.dropResults.freeRecords.freeSlots

theorem releaseChunks {l : List CKey} : Idles s (l.foldl (fun t k => t.releaseChunk k) t) :=
  .foldl l (fun t _ => (refl t).releaseChunk) h

theorem lineSend {g : Nat} {k : Pkt} : Idles s (t.lineSend g k) := h.originate

theorem sendAbortUp {e : Entry} {y : LineCopy} : Idles s (t.sendAbortUp e y) :=
  .foldl _ (fun t _ => ((refl t).lineSend.bump (by exact far rfl))) h

theorem sendDones {e : Entry} {y : LineCopy} {status chunk detail : Nat} {r : FlagRec} {last : Bool} :
    Idles s (t.sendDones e y status chunk r last detail) := .foldl _ (fun t _ => (refl t).lineSend) h

theorem lineRaise {g k : Nat} : Idles s (t.lineRaise g k) := h.raise (by nofun)

/-! ### Works, blocks and replicas of the stations (R370, R372 to R374) -/

theorem arenaLayout : Idles s t.arenaLayout := by
  unfold State.arenaLayout
  exact .ite h (h.setStn.put (by exact far rfl))

theorem freeBlocks {l : List Nat} : Idles s (t.freeBlocks l) := (h.setStn.put (by exact far rfl)).arenaLayout

theorem dropWorks {gone : Work → Bool} : Idles s (t.dropWorks gone) := h.setStn.freeBlocks

theorem dropWork {w : Work} : Idles s (t.dropWork w) := h.dropWorks

theorem dropSaved {g step sub : Nat} : Idles s (t.dropSaved g step sub) := .ite h.dropWorks h

theorem setWork {w : Work} : Idles s (t.setWork w) := h.setStn

theorem saveWork {w : Work} : Idles s (t.saveWork w) := h.setStn

theorem setUpdStn {x : Update} {y : Stations} : Idles s { t with upd := x, stn := y } := (h.setUpd (x := x)).setStn

theorem setCollStn {x : Colls} {y : Stations} : Idles s { t with coll := x, stn := y } := (h.setColl (x := x)).setStn

theorem requestLocal {x tensor step seed : Nat} : Idles s (t.requestLocal x tensor step seed) := h.setUpdStn

theorem startReplica {x line member sect tensor step seed : Nat} :
    Idles s (t.startReplica x line member sect tensor step seed) := by
  unfold State.startReplica; dsimp only
  split
  · next e => exact h.of_readSpace e
  · next e => exact .foldl _ (fun t _ => (refl t).originate) (h.of_readSpace e).setCollStn

theorem combineOk {w : Work} {last : Bool} {nmb seed : Nat} : Idles s (t.combineOk w last nmb seed) := by
  unfold State.combineOk; dsimp only
  refine .ite (inOrder h.setStn (.foldl _ (fun t k => ?_) (refl _))) h.setStn
  exact .ite (refl t).startReplica (refl t).requestLocal

theorem combineLost {w : Work} : Idles s (t.combineLost w) := h.setStn

theorem workEnded {e : Entry} {y : LineCopy} {status : Nat} : Idles s (t.workEnded e y status) := by
  unfold State.workEnded; dsimp only
  split
  · split
    · exact h
    · exact .ite h.saveWork h.dropWork
  · split
    · split
      · exact .ite h.dropWork.dropSaved.combineOk h.dropWork.dropSaved.combineLost
      · exact h.dropSaved
    · exact h

/-! ### Entries of the lines (R247, R256, R257, R264) -/

theorem closeShard {e : Entry} : Idles s (t.closeShard e) := h.setUpd

theorem leaveEntry {e : Entry} {y : LineCopy} {status : Nat} : Idles s (t.leaveEntry e y status) := by
  unfold State.leaveEntry; dsimp only
  have hvaries : Idles s ((t.bump (A.COLL_LINE_VARIES e.line) 1).bump A.COLL_VARIES 1) := (h.bump (by exact far1 rfl)).bump
      (by exact far rfl)
  have hcounted := (Idles.ite (c := e.state = .active ∧ e.varies y = true ∧ e.combined = true ∧ e.fam = 0) hvaries h).put
    (f := F.COLL_LINE_INFO_LAST_STATUS e.line) (v := if 0x10 ≤ status ∧ status < 0x20 then status else 0) (by exact far1 rfl)
  refine workEnded (closeShard (dropParked (.ite (bump ?_ (by exact far rfl)) ?_)))
  · exact hcounted.setColl
  · exact hcounted.setColl

theorem setMap {base : Nat} {l : List Nat} (hbase : 0x1000 ≤ base) : Idles s (t.setMap base l) :=
  .foldl _ (fun t _ => (refl t).wr (Nat.le_add_right_of_le hbase)) h

theorem captureMaps {e : Entry} {status : Nat} {missing : List Nat} {parent : Bool} :
    Idles s (t.captureMaps e status missing parent) := by
  unfold State.captureMaps; dsimp only
  refine .ite h (.ite ?_ ?_)
  · exact ((((h.wr64 (by exact far1 rfl)).put (by exact far1 rfl)).put (by exact far1 rfl)).setMap (by exact far2 rfl)).put
      (by exact far1 rfl)
  · exact ((((h.wr64 (by exact far1 rfl)).put (by exact far1 rfl)).put (by exact far1 rfl)).setMap (by exact far2 rfl)).put
      (by exact far1 rfl)

theorem countChunks {g n : Nat} : Idles s (t.countChunks g n) := (h.bump (by exact far rfl)).bump (by exact far1 rfl)

theorem endCollective {e : Entry} {status : Nat} {missing : List Nat} {parent abort : Bool} :
    Idles s (t.endCollective e status missing parent abort) := by
  unfold State.endCollective; dsimp only
  have hnoted : Idles s (t.noteEnd e status missing parent) :=
    .ite ((h.bump (by exact far rfl)).bump (by exact far1 rfl)).captureMaps.lineRaise (.ite ((h.bump (by exact far rfl)).bump
        (by exact far1 rfl)).captureMaps.lineRaise h)
  exact leaveEntry (.ite hnoted.dropParked.releaseChunks.countChunks.sendDones.sendAbortUp
    hnoted.dropParked.releaseChunks.countChunks.sendDones)

end

/-- DONE records leave, and the entry may end (R256, R257). -/
theorem flushDones {n : Nat} {k : CKey} (h : Idles s t) : Idles s (State.flushDones n k t) := by
  induction n generalizing t with
  | zero => exact h
  | succ n ih =>
    unfold State.flushDones; split
    · exact h
    · dsimp only
      refine .ite h ?_
      split
      · exact h
      · refine .ite (.ite ?_ (ih ?_)) h
        · exact h.countChunks.sendDones.delChunk.setUpd.leaveEntry
        · exact h.countChunks.sendDones.delChunk.setUpd.setEntry

theorem chunkEnd {k : CKey} {status detail : Nat} {flags : FlagRec} (h : Idles s t) :
    Idles s (t.chunkEnd k status detail flags) := by
  unfold State.chunkEnd; split
  · exact h
  · exact .ite h h.releaseChunk.setChunk.flushDones

end Idles

end Sys2Proof.Machine
end

section
/-! SUPPORT. What the cycle's own parts leave as it is: shaping, the collector, the clocks, the runs of the coaches, power and the
siding (R43, R169, R202, R320, R463). -/

namespace Sys2Proof.Machine

variable {s t u : State} {P : List Part}

/-! ### Shaping and the collector (R208, R416) -/

theorem Frame.setSw {W : Nat → Prop} (h : Frame s t P W) (hP : .sw ∈ P) {x : Switch} : Frame s { t with sw := x } P W :=
  h.part .sw hP (fun p hp => by cases p <;> simp_all [Part.same]) fun _ => rfl

/-- A 64-bit counter past the TOP page counts. -/
theorem Frame.bumpPast (h : Frame s t P pastTop) {a n : Nat}
    (ha : 0x1000 ≤ a) : Frame s (t.bump a n) P pastTop :=
  h.bump ha (Nat.le_add_right_of_le ha)

section
variable (h : Frame s t P pastTop) (hP : .flt ∈ P)
include h hP

theorem Frame.faultStatus {n : Nat} : Frame s (t.faultStatus n) P pastTop :=
  .ite (h.wr (Idles.far rfl : 0x1000 ≤ _)) (((h.wr (Idles.far rfl : 0x1000 ≤ _)).put64 (Idles.far rfl : 0x1000 ≤ _)
      (Idles.far rfl : 0x1000 ≤ _)).setFlt hP)

theorem Frame.offer {r : FRec} : Frame s (t.offer r) P pastTop := by
  have hwr : 0x1000 ≤ A.FAULT_RING_WR := Idles.far rfl
  unfold State.offer; dsimp only
  refine .ite (faultStatus (.ite (bumpPast ?_ (by exact Idles.far rfl)) ?_) hP) (faultStatus (.ite (bumpPast (bumpPast ?_
      (by exact Idles.far rfl)) (by exact Idles.far rfl)) (bumpPast ?_ (by exact Idles.far rfl))) hP)
  · exact (h.setFlt hP).wr hwr
  · exact (h.setFlt hP).wr hwr
  · exact h.setFlt hP
  · exact h.setFlt hP

theorem Frame.collectCycle : Frame s t.collectCycle P pastTop := by
  refine .ite h ?_
  unfold State.collect; dsimp only; split
  · exact h.setFlt hP
  · exact (h.setFlt hP).offer hP

end

section
variable (h : Frame s t P pastTop) (hP : .ports ∈ P)
include h hP

theorem Frame.bucketTick {p c : Nat} : Frame s (t.bucketTick p c) P pastTop := .ite (h.setPort hP) h

theorem Frame.portBuckets {p : Nat} : Frame s (t.portBuckets p) P pastTop :=
  .foldl _ (fun _ _ _ => bucketTick (.ite (bumpPast (.refl ..) (by exact Idles.far3 rfl)) (.refl ..)) hP) (h.setPort hP)

theorem Frame.bucketRefill (hsw : .sw ∈ P) : Frame s t.bucketRefill P pastTop :=
  .ite h (.foldl _ (fun _ _ _ => .ite (portBuckets (.refl ..) hP) (.refl ..)) (h.setSw hsw))

end

namespace Idles

section
variable (h : Idles s t)
include h

theorem faultStatus {n : Nat} : Idles s (t.faultStatus n) := Frame.faultStatus h (by simp [cycleParts])

theorem offer {r : FRec} : Idles s (t.offer r) := Frame.offer h (by simp [cycleParts])

/-! ### Time and power (R202, R463, R467) -/

theorem timeCycle : Idles s t.timeCycle := h.setTime

theorem idleTick {n : Nat} : Idles s (t.idleTick n) := .ite h.startTimer h

theorem setFree {v : Nat} : Idles s (t.setFree v) := h.put (by exact far rfl)

theorem setHeld {r v : Nat} : Idles s (t.setHeld r v) := h.put (by exact far1 rfl)

theorem setShort {r : Nat} {short : Bool} : Idles s (t.setShort r short) :=
  .ite ((h.put (by exact far1 rfl)).raise (by nofun)) (h.put (by exact far1 rfl))

theorem grant {r : Nat} : Idles s (t.grant r) :=
  .ite h (.ite (h.setFree.setHeld.bump (by exact far rfl)).setShort (h.setFree.setHeld.bump (by exact far rfl)))

theorem grantRequests : Idles s t.grantRequests := setPow (.foldl _ (fun t _ => (refl t).grant) h)

theorem endRealloc : Idles s t.endRealloc := .ite (h.put (by exact far rfl)) h

theorem sampleInput : Idles s t.sampleInput := by
  unfold State.sampleInput; split
  · exact h
  · exact ((((h.put (by exact far rfl)).put (by exact far rfl)).put (by exact far rfl)).bump (by exact far rfl)).setPow

theorem watch {k : TKey} {holds : Bool} : Idles s (t.watch k holds) := .ite (.ite h h.startTimer) h.stopTimer

theorem comparators : Idles s t.comparators :=
  .foldl _ (fun t _ => (refl t).watch) h.watch.watch.watch.watch.watch

/-! ### The runs of the coaches (R320 to R325) -/

theorem countEnd {c status : Nat} : Idles s (t.countEnd c status) := by
  unfold State.countEnd; dsimp only; split
  · exact ((h.bump (by exact far3 rfl)).bump (by exact far3 rfl)).raise (by nofun)
  · exact ((h.bump (by exact far3 rfl)).bump (by exact far3 rfl)).raise (by nofun)
  · exact (h.bump (by exact far3 rfl)).raise (by nofun)
  · exact h.bump (by exact far3 rfl)

theorem recordRun {c status err : Nat} {x : Running} : Idles s (t.recordRun c x status err) :=
  .ite (h.writeFabric.setCoach.put (by exact far3 rfl)) h.writeFabric.setCoach

theorem closeRun {c status err : Nat} {x : Running} : Idles s (t.closeRun c x status err) :=
  countEnd (.ite h.setStn (.ite h.recordRun h.setCoach))

theorem lateRecords : Idles s t.lateRecords :=
  .ite h (.foldl _ (fun t _ => .foldl _ (fun t _ => (refl t).recordRun) (refl t).setCoach) h)

theorem submitRun {c : Nat} {r : Run} : Idles s (t.submitRun c r) := .ite h.closeRun (.ite (h.raise (by nofun)) h.setCoach)

theorem stnCause {k g x step : Nat} : Idles s (t.stnCause k g x step) :=
  raise (h.capture (fun t => (((((refl t).put (by exact far rfl)).put (by exact far rfl)).put (by exact far rfl)).wr64
      (by exact far rfl))) (by exact far rfl)) (by nofun)

theorem tileEnded {w : Work} {p : TileRuns} {pass : Nat} : Idles s (t.tileEnded w p pass) := by
  unfold State.tileEnded; dsimp only
  exact .ite (h.bump (by exact far1 rfl)).setWork (bump (setWork (.ite (h.bump (by exact far1 rfl)).setStn (h.bump
      (by exact far1 rfl)))) (by exact far1 rfl))

theorem tileAgain {r : Run} {w : Work} {p : TileRuns} {pass done : Nat} : Idles s (t.tileAgain r w p pass done) :=
  .ite h.stnCause.chunkEnd (h.setWork.submitRun.bump (by exact far rfl))

theorem endRefresh {r : Refresh} {bad : Bool} : Idles s (t.endRefresh r bad) := bump h.setUpd.setUpd (by exact far rfl)

theorem of_runEnded {r : Run} {status done : Nat} (hu : t.runEnded r status done = some u) : Idles s u := by
  unfold State.runEnded at hu
  split at hu
  · exact Option.some.inj hu ▸ h
  · split at hu
    · split at hu
      · split at hu
        · exact Option.some.inj hu ▸ h.tileEnded
        · split at hu
          · exact Option.some.inj hu ▸ h
          · split at hu
            · exact Option.some.inj hu ▸ h.tileAgain
            · exact absurd hu (by simp)
      · exact Option.some.inj hu ▸ h
    · exact Option.some.inj hu ▸ h
  · split at hu
    · exact Option.some.inj hu ▸ h.setChunk
    · exact Option.some.inj hu ▸ h
  · split at hu
    · split at hu
      · exact Option.some.inj hu ▸ h.endRefresh
      · exact Option.some.inj hu ▸ h.setUpd
    · exact Option.some.inj hu ▸ h

theorem takeEndings : Idles s t.takeEndings := by
  refine .foldl _ (fun t e => ?_) h.setStn
  split
  · next hu => exact (refl t).of_runEnded hu
  · exact (refl t).setStn

theorem submitRefreshes : Idles s t.submitRefreshes := by
  refine .foldl _ (fun t r => ?_) h
  dsimp only
  exact .ite (refl t).setUpd.submitRun (refl t)

theorem runCycle : Idles s t.runCycle := h.lateRecords.takeEndings.submitRefreshes

theorem watchEntries : Idles s t.watchEntries := h.setColl

/-! ### The siding (R490) -/

theorem sidCycle : Idles s t.sidCycle := h.setSid.emit

end

end Idles

end Sys2Proof.Machine
end

section
/-! SUPPORT. What the reactions to events leave as it is: the queue, the parts fitted and the EEPROM (R416, R424 to R438, R514). -/

namespace Sys2Proof.Machine

/-- What no reaction touches: the queue, the parts fitted and the EEPROM. -/
def State.given (s : State) : List Instr × Assembly × Fru := (s.pending, s.asm, s.fru)

/-- The queue, the parts fitted and the EEPROM are as they were. -/
def Stands (s t : State) : Prop := t.given = s.given

variable {s t u : State}

theorem Idles.stands (h : Idles s t) : Stands s t := by
  have hpending : t.pending = s.pending := h.1 .pending (by decide)
  have hasm : t.asm = s.asm := h.1 .asm (by decide)
  have hfru : t.fru = s.fru := h.1 .fru (by decide)
  simp only [Stands, State.given, hpending, hasm, hfru]

namespace Stands

theorem refl (s : State) : Stands s s := rfl

theorem trans (h : Stands s t) (g : Stands t u) : Stands s u := Eq.trans g h

theorem foldl {α : Type} {f : State → α → State} (l : List α) (hf : ∀ t a, Stands t (f t a)) (h : Stands s t) :
    Stands s (l.foldl f t) := foldl_keeps (Stands s) f (fun x a hx => hx.trans (hf x a)) l t h

theorem ite {c : Prop} [Decidable c] {a b : State} (ha : Stands s a) (hb : Stands s b) : Stands s (if c then a else b) := by
  split
  · exact ha
  · exact hb

section
variable (h : Stands s t)
include h

/-- An update of other fields. -/
theorem set (hu : u.given = t.given) : Stands s u := Eq.trans hu h

theorem setSw {x : Switch} : Stands s { t with sw := x } := h.set rfl
theorem setColl {x : Colls} : Stands s { t with coll := x } := h.set rfl
theorem setMem {x : Memory} : Stands s { t with mem := x } := h.set rfl
theorem setFlt {x : Faults} : Stands s { t with flt := x } := h.set rfl
theorem setCons {x : Consort} : Stands s { t with cons := x } := h.set rfl
theorem setPow {x : Power} : Stands s { t with pow := x } := h.set rfl
theorem setRefused {x : List Mach} : Stands s { t with refused := x } := h.set rfl
theorem wr {a v : Nat} : Stands s (t.wr a v) := h.set (by simp [State.given])
theorem wr64 {a v : Nat} : Stands s (t.wr64 a v) := h.set (by simp [State.given])
theorem put {f : Fld} {v : Nat} : Stands s (t.put f v) := h.set (by simp [State.given])
theorem bump {a n : Nat} : Stands s (t.bump a n) := h.set (by simp [State.given])
theorem bump32 {a n : Nat} : Stands s (t.bump32 a n) := h.wr
theorem raise {b : Blk} {i j k : Nat} {x : List Nat} : Stands s (t.raise b i j k x) := h.set (by simp [State.given])
theorem setPort {p : Nat} {v : PortHid} : Stands s (t.setPort p v) := h.set rfl
theorem setLane {l : Nat} {v : LaneHid} : Stands s (t.setLane l v) := h.set rfl
theorem setCoach {c : Nat} {v : CoachHid} : Stands s (t.setCoach c v) := h.set rfl
theorem emit {o : Out} : Stands s (t.emit o) := h.set rfl
theorem startTimer {k : TKey} : Stands s (t.startTimer k) := h.set rfl
theorem stopTimer {k : TKey} : Stands s (t.stopTimer k) := h.set rfl
theorem stopTimers {k : TKind} {a : Nat} : Stands s (t.stopTimers k a) := h.set rfl
theorem discard {id : Nat} : Stands s (t.discard id) := h.trans (Idles.refl t).discard.stands
theorem inOrder {f : State → State} (hf : Stands t (f t)) : Stands s (t.inOrder f) := (h.trans hf).set rfl
theorem setChunk {c : Chunk} : Stands s (t.setChunk c) := h.set rfl
theorem originate {p : Nat} {k : Pkt} {link : Option Nat} : Stands s (t.originate p k link) := h.trans (Idles.refl t).originate.stands
theorem lineSend {g : Nat} {k : Pkt} : Stands s (t.lineSend g k) := h.originate
theorem closeRun {c status err : Nat} {x : Running} : Stands s (t.closeRun c x status err) :=
  h.trans (Idles.refl t).closeRun.stands
theorem endCollective {e : Entry} {status : Nat} {missing : List Nat} {parent abort : Bool} :
    Stands s (t.endCollective e status missing parent abort) := h.trans (Idles.refl t).endCollective.stands

/-! ### Ports, links and lanes (R107 to R110, R120, R174) -/

theorem account {p c : Nat} {f : State → State} (hf : ∀ t, Stands t (f t)) : Stands s (t.account p c f) :=
  (h.trans (hf t)).put.put

theorem dropOldLimit {p c : Nat} : Stands s (t.dropOldLimit p c) := (h.account fun t => (refl t).setSw.put).stopTimer

theorem dropOldLimits {p : Nat} : Stands s (t.dropOldLimits p) := .foldl _ (fun t _ => (refl t).dropOldLimit) h

theorem startFlush {p : Nat} : Stands s (t.startFlush p) := by
  have hrx : Stands s (match (t.port p).rx with | some id => t.discard id | none => t) := by
    split
    · exact h.discard
    · exact h
  unfold State.startFlush; dsimp only
  exact .ite hrx.setPort (.ite hrx.setPort.setPort.put.startTimer hrx.setPort.setPort)

theorem sendHello {p : Nat} : Stands s (t.sendHello p) :=
  .ite h.setPort.startTimer.originate h

theorem reTopo {p : Nat} : Stands s (t.reTopo p) := .ite h.put.put h.put.put.bump.raise.sendHello

theorem sendPairs {l : List Nat} {type content : Nat} : Stands s (t.sendPairs l type content) :=
  .foldl l (fun t _ => (refl t).emit) h

theorem setMasks {p rx tx : Nat} : Stands s (t.setMasks p rx tx) := by
  unfold State.setMasks; dsimp only
  refine .ite (.foldl _ (fun t _ => (refl t).put.put) h.put.put) (.ite (raise (.ite (raise (bump (put ?_))) (bump (put ?_))))
    (.ite (raise (bump (put ?_))) (bump (put ?_))))
  all_goals exact .foldl _ (fun t _ => (refl t).put.put) h.put.put

theorem nextUnit {p : Nat} : Stands s (t.nextUnit p).2 := by
  unfold State.nextUnit; dsimp only; split
  · exact h.set rfl
  · exact h

theorem switchTx {p mask : Nat} : Stands s (t.switchTx p mask) := .ite h h.nextUnit.setPort.sendPairs.bump.setMasks

theorem idleLane {l : Nat} : Stands s (t.idleLane l) := h.put.put.put.stopTimer.setLane.stopTimers

theorem loseLane {l : Nat} : Stands s (t.loseLane l) := by
  unfold State.loseLane; split
  · exact .ite h.setMasks.setPort.sendPairs.switchTx.idleLane h.switchTx.idleLane
  · exact h.switchTx.idleLane
  · exact h.idleLane

theorem setMach {m : Mach} {v : Nat} : Stands s (t.setMach m v) :=
  .ite h.put.stopTimer.startTimer (.ite h.put.startTimer h.put.stopTimer.stopTimer)

/-- Every lane of a port that goes down is idle, and trains again where it was UP (R107). -/
theorem restartLane {l : Nat} :
    Stands s (if (t.idleLane l).mach (.lane l) = UP then (t.idleLane l).setMach (.lane l) STARTING else t.idleLane l) :=
  .ite h.idleLane.setMach h.idleLane

theorem linkDown {p : Nat} : Stands s (t.linkDown p) := by
  unfold State.linkDown; dsimp only
  refine reTopo (dropOldLimits (.ite (startFlush (put ?_)) (put ?_)))
  all_goals
    refine .foldl _ (fun t _ => (refl t).restartLane) (stopTimer (setPort ?_))
    exact .ite h.setMasks.put.bump.raise h.setMasks.put

theorem idleLanes {l : List Nat} : Stands s (l.foldl (fun t l => t.idleLane l) t) := .foldl l (fun t _ => (refl t).idleLane) h

/-! ### Sections, coaches and lines (R304, R306, R318, R351) -/

theorem endRun {c status err : Nat} {x : Running} : Stands s (t.endRun c x status err) := h.setCoach.closeRun

theorem endQueued {c status : Nat} : Stands s (t.endQueued c status) := .foldl _ (fun t _ => (refl t).closeRun) h.setCoach

theorem endRunning {c status : Nat} : Stands s (t.endRunning c status) := .foldl _ (fun t _ => (refl t).endRun) h

theorem showCoaches {n : Nat} : Stands s (t.showCoaches n) := put (.foldl _ (fun t _ => (refl t).put.put.put.put) h)

theorem releaseChunk {k : CKey} : Stands s (t.releaseChunk k) := h.trans (Idles.refl t).releaseChunk.stands

theorem chunkEnd {k : CKey} {status detail : Nat} {flags : FlagRec} : Stands s (t.chunkEnd k status detail flags) :=
  h.trans (Idles.refl t).chunkEnd.stands

theorem coachBump {L n : Nat} {a : Nat → Nat → Nat} : Stands s (t.coachBump L a n) := h.bump

/-- A chunk is withdrawn: its members and its parent are told, and it ends (R279). -/
theorem withdraw {k : CKey} {reason : Nat} {o : Option Nat} : Stands s (t.withdraw k reason o) := by
  unfold State.withdraw; split
  · exact h
  · refine chunkEnd (.ite ?_ (coachBump (lineSend ?_)))
    all_goals exact .foldl _ (fun t j => .ite (refl t) (coachBump (lineSend (refl t)))) h.releaseChunk

theorem freeChunk {k : CKey} {n : Nat} : Stands s ((t.freeRecords k).freeSlots k n) :=
  h.trans (Idles.refl t).freeRecords.freeSlots.stands

theorem restartChunk {c : Chunk} : Stands s (t.restartChunk c) := by
  unfold State.restartChunk; split
  · exact h
  · refine .foldl _ (fun t j => ?_) (setChunk (freeChunk (.foldl _ (fun t _ => (refl t).discard) h.setColl)))
    exact .ite (bump (lineSend (bump (lineSend (refl t))))) (bump (lineSend (refl t)))

theorem substitute {n l : Nat} : Stands s (t.substitute n l) := by
  refine raise (bump (showCoaches (put (stopTimer (put (inOrder (endRunning (endQueued h)) (.foldl _ (fun t c => ?_) (refl _))))))))
  split
  · exact .ite (refl t).restartChunk (refl t)
  · exact (refl t).restartChunk
  · exact (refl t).restartChunk
  · exact .ite (refl t).withdraw (refl t)

theorem abortStation {n : Nat} : Stands s (t.abortStation n) := .foldl _ (fun t _ => (refl t).endCollective) h

theorem abortAt {n : Nat} : Stands s (t.abortAt n) := .foldl _ (fun t _ => (refl t).endCollective) h

theorem endSection {n queued : Nat} : Stands s (t.endSection n queued) :=
  .foldl _ (fun t _ => (refl t).endQueued.endRunning) (h.inOrder (refl t).abortAt.abortStation)

theorem flushStation {n : Nat} : Stands s (t.flushStation n) := h.startFlush.startFlush

end

end Stands

end Sys2Proof.Machine
end

section
/-! SUPPORT. What fences, resets and stops of the domains leave as it is: the queue, the parts fitted and the EEPROM (R416, R424
to R438, R456, R514). -/

namespace Sys2Proof.Machine

variable {s t u : State}

namespace Stands

section
variable (h : Stands s t)
include h

/-! ### The images of the processors (R455, R456) -/

theorem pushHost {kind proc : Nat} {data : List Byte} : Stands s (t.pushHost kind proc data) :=
  .ite (setCons (wr h.setCons)) (raise (bump h.setCons))

theorem pushAct {p : Nat} : Stands s (t.pushAct p) := h.pushHost

theorem setAstate {p v : Nat} : Stands s (t.setAstate p v) := pushAct (.ite h.put (.ite h.put.put h.put))

theorem loadRun {p b : Nat} : Stands s (t.loadRun p b) := by
  unfold State.loadRun; split
  · exact h.put.put.wr.wr
  · exact h.put

theorem startImage {p kind : Nat} : Stands s (t.startImage p kind) := by
  unfold State.startImage; dsimp only
  refine .ite (startTimer (put (.ite ?_ (pushHost (bump ?_))))) (startTimer (put (.ite ?_ (pushHost (bump ?_)))))
  all_goals exact h.put.setCons

theorem stopImage {p : Nat} : Stands s (t.stopImage p) := h.setCons.stopTimer.stopTimer.stopTimer

theorem setHandling {x : Handling} : Stands s (t.setHandling x) := h.setFlt

theorem setFault {d a b : Nat} : Stands s (t.setFault d a b) := .ite h.setFlt h.wr.wr

theorem setFstate {d v : Nat} : Stands s (t.setFstate d v) := h.setFault

theorem noteDomain {d kind : Nat} : Stands s (t.noteDomain d kind) := h.trans (Idles.refl t).offer.stands

theorem showFence {d v : Nat} : Stands s (t.showFence d v) := by
  have hmachs : Stands s ((t.domMachs d).foldl (fun t m => if t.mach m = STOP then t else t.setMach m v) t) :=
    .foldl _ (fun t m => .ite (refl t) (refl t).setMach) h
  unfold State.showFence; dsimp only; split
  · exact hmachs.showCoaches
  · exact hmachs.showCoaches
  · exact hmachs.put
  · exact hmachs

theorem markStop {d : Nat} {rec : Bool} : Stands s (t.markStop d rec) := by
  unfold State.markStop; dsimp only
  have hstop := h.setFstate.stopTimer.stopTimer.bump (t := ((t.setFstate d 3).stopTimer { kind := .quiet, a := d }).stopTimer
    { kind := .deadline, a := d }) (a := A.FAULT_STOPS) (n := 1)
  exact .ite (.ite hstop.noteDomain hstop) (showFence (.ite hstop.noteDomain hstop))

theorem revertFailed {p : Nat} : Stands s (t.revertFailed p) := h.stopImage.setCons.put.setAstate.raise.setHandling.markStop

theorem startRevert {p : Nat} : Stands s (t.startRevert p) := h.loadRun.setCons.startImage

theorem revert {p : Nat} : Stands s (t.revert p) := by
  unfold State.revert; dsimp only
  refine .ite h.revertFailed (.ite (revertFailed ?_) (.ite (setAstate ?_) (startRevert (setAstate ?_))))
  all_goals exact h.stopImage.setCons.bump.put.raise

/-! ### Fences (R426, R428) -/

/-- The function itself is unfolded, not its value: the kernel would evaluate the map of the section first. -/
theorem fenceCoach {c : Nat} : Stands s (t.fenceCoach c) := by
  generalize hf : State.fenceCoach = f
  delta State.fenceCoach at hf
  subst hf
  beta_reduce
  generalize t.logicalOf c = o
  cases o with
  | none => exact h.endQueued.endRunning
  | some l =>
    exact .ite h.substitute
      (h.endQueued.endRunning.inOrder (.foldl _ (fun t _ => .ite (refl t).withdraw (refl t)) (refl _)))

theorem fenceCore {i : Nat} : Stands s (t.fenceCore i) := .foldl _ (fun t _ => (refl t).endRun) h

theorem fenceProc {p : Nat} : Stands s (t.fenceProc p) := .ite h.stopImage.revert h.stopImage

theorem fenceLine {g : Nat} : Stands s (t.fenceLine g) := .foldl _ (fun t _ => (refl t).endCollective) h

theorem fenceStack {n : Nat} : Stands s (t.fenceStack n) := h.setMem.put.put.put

theorem fenceWork {d : Nat} : Stands s (t.fenceWork d) := by
  unfold State.fenceWork; dsimp only; split
  · exact h.endSection.flushStation
  · exact h.fenceCoach
  · exact h.fenceCore
  · exact h.fenceLine
  · exact (Stands.foldl _ (fun t _ => (refl t).linkDown) h).idleLanes
  · exact h.loseLane
  · exact h.fenceStack
  · exact h.fenceProc
  · exact h

theorem fenceTokens {d : Nat} : Stands s (t.fenceTokens d) := by
  unfold State.fenceTokens; dsimp only; split
  · exact h.put.put
  · exact h

/-! ### Resets and stops (R424 to R427, R436, R438) -/

theorem coverChildren {d : Nat} : Stands s (t.coverChildren d) := .foldl _ (fun t _ => (refl t).setHandling.stopTimer) h

theorem ungate {d : Nat} : Stands s (t.ungate d) := by
  unfold State.ungate; dsimp only
  exact .ite h (.ite (setPow (put (put h.setFlt))) h.setFlt)

theorem startReset {d source severity : Nat} {how : How} : Stands s (t.startReset d how source severity) := by
  unfold State.startReset; dsimp only
  refine .ite (setRefused ?_) (startTimer (showFence (setRefused ?_)))
  all_goals exact h.setHandling.ungate.setFstate.stopTimer.bump.coverChildren.fenceWork.fenceTokens

theorem stopModule : Stands s t.stopModule :=
  put (.foldl _ (fun t _ => (refl t).fenceTokens) h.markStop.idleLanes)

theorem stopDomain {d source severity : Nat} : Stands s (t.stopDomain d source severity) :=
  .ite h (.ite h.setHandling.stopModule (markStop (.ite h.setHandling (.ite h.setHandling.setFstate.stopImage
    h.setHandling.setFstate.fenceWork.fenceTokens))))

theorem showShelters : Stands s t.showShelters := .foldl _ (fun t _ => (refl t).put.put) h

theorem keepEmergency (v : State) : Stands s (t.keepEmergency v) := by
  have hflags : Stands s (emergFlds.foldl (fun u f => if v.flag f then u.put f 1 else u) t) :=
    .foldl _ (fun t _ => .ite (refl t).put (refl t)) h
  exact .ite hflags hflags.startTimer

theorem restoreChildren (v : State) : Stands s (t.restoreChildren v) := by
  have hkept : Stands s ((v.keptChildren.map (·.domain)).foldl (fun u d =>
      (domFields d).foldl (fun w f => w.put f (v.get f)) (u.setFault d (v.dfault d) (v.recovery d))) t) :=
    .foldl _ (fun t d => .foldl _ (fun t f => (refl t).put) (refl t).setFault) h
  exact hkept.set rfl

end

/-- The reset of the module keeps the queue, the parts fitted and the EEPROM (R437, R514). -/
theorem clearModule (s : State) : Stands s s.clearModule := by
  unfold State.clearModule; dsimp only
  refine keepEmergency (startTimer (setFstate (wr64 (restoreChildren (showShelters (.foldl _ (fun t n => ?_) (put (wr ?_)))) _)))) _
  · exact .ite (refl t).put (refl t)
  · exact rfl

theorem moduleReset {cause d source : Nat} (h : Stands s t) : Stands s (t.moduleReset cause d source) :=
  (h.trans (clearModule t)).put.put.put

/-! ### Reactions (R414 to R416) -/

theorem pendEvent {r : Report} (h : Stands s t) : Stands s (t.pendEvent r) := by
  unfold State.pendEvent; dsimp only; split
  · exact h.setFlt.bump
  · exact .ite h.setFlt.bump h.setFlt

theorem faultStatus {n : Nat} (h : Stands s t) : Stands s (t.faultStatus n) := h.trans (Idles.refl t).faultStatus.stands

theorem countEvent {r : Report} (h : Stands s t) : Stands s (t.countEvent r) := by
  have hcounted : Stands s (if r.severity = 0 then t else t.bump32 (A.FAULT_SRC_COUNT r.source) 1) := .ite h h.bump32
  exact .ite (.ite hcounted hcounted.bump.bump.faultStatus) (.ite hcounted.bump.pendEvent hcounted)

theorem react {r : Report} (h : Stands s t) : Stands s (t.react r) := by
  unfold State.react; dsimp only
  have hquiet (c : Prop) [Decidable c] (l : List Nat) : Stands s (if c then
      l.foldl (fun t x => t.startTimer { kind := .quiet, a := x }) (t.countEvent r) else t.countEvent r) :=
    .ite (.foldl _ (fun t _ => (refl t).startTimer) h.countEvent) h.countEvent
  refine .ite h.countEvent (.ite (.ite (moduleReset ?_) (.ite (startReset ?_) ?_)) (.ite (stopDomain ?_) ?_))
  all_goals exact hquiet ..

theorem reactN {n : Nat} (h : Stands s t) : Stands s (State.reactN n t) := by
  induction n generalizing t with
  | zero => exact h
  | succ n ih =>
    unfold State.reactN; split
    · exact h
    · exact ih h.setFlt.react

theorem reacted (h : Stands s t) : Stands s t.reacted := h.reactN

end Stands

end Sys2Proof.Machine
end

section
/-! CERTIFICATE. A step with no command waiting (R43, R169, R202, R463). -/

namespace Sys2Proof.Machine

variable {s t u : State}

namespace State

/-- The slow clock a cycle on, and UPTIME with it once the module reset has ended (R43). -/
def ticked (s : State) : State :=
  let t : State := { s with clk := s.clk + 1 }
  if t.pow.released then t.bump A.TOP_UPTIME 1 else t

/-- What a slow cycle does once its clock has advanced, up to the siding's part of it. -/
def cycled (s1 : State) : State :=
  let s2 := s1.put F.SWITCH_ORDER_PTR_PTR ((s1.get F.SWITCH_ORDER_PTR_PTR + 21) % 289)
  let s3 := if s2.flag F.POWER_STATE_THROTTLE then s2.bump A.POWER_THROTTLE_CYCLES 1 else s2
  let s4 := if s3.pow.released then
      sectionNos.foldl (fun t n => if t.awake n then t.idleTick n else t.bump (A.SECTION_GATED_CYCLES n) 1) s3
    else s3
  let s5 := if s4.flag F.TOP_STATE_CORE_PLL_LOCK ∧ s4.pllHeld then s4.startTimer { kind := .pll, a := 0 } else s4
  (s5.grantRequests.endRealloc.sampleInput.comparators).runCycle.watchEntries

theorem slowCycle_on (h : s.pow.hotSwap = true) :
    s.slowCycle = s.bucketRefill.collectCycle.ticked.timeCycle.cycled.sidCycle.reacted.drivePins := by
  rw [slowCycle, h]; rfl

theorem slowCycle_off (h : s.pow.hotSwap = false) : s.slowCycle = s := by
  rw [slowCycle, h]; rfl

/-- The eight lanes of the siding send last in a cycle (R490). -/
theorem getLast?_sidCycle (s : State) : ∃ w, s.sidCycle.out.getLast? = some (.siding w) ∧ w.length = 8 :=
  ⟨_, List.getLast?_concat .., by simp⟩

end State

theorem Idles.cycled (h : Idles s t) : Idles s t.cycled := by
  unfold State.cycled
  extract_lets s2 s3 s4 s5
  have h2 : Idles s s2 := h.put (far rfl)
  have h3 : Idles s s3 := .ite (h2.bump (far rfl)) h2
  have h4 : Idles s s4 := .ite (.foldl _ (fun t n => .ite (refl t).idleTick ((refl t).bump (far2 rfl))) h3) h3
  have h5 : Idles s s5 := .ite h4.startTimer h4
  exact h5.grantRequests.endRealloc.sampleInput.comparators.runCycle.watchEntries

/-- Before the clock advances, shaping and the collector run. -/
theorem frame_beforeTick (s : State) : Frame s s.bucketRefill.collectCycle [.ports, .sw, .flt] pastTop :=
  Frame.collectCycle (Frame.bucketRefill (.refl ..) (by simp) (by simp)) (by simp)

namespace State

/-! ### The clock and UPTIME (R43) -/

theorem ticked_clk (s : State) : s.ticked.clk = s.clk + 1 := by
  unfold ticked; dsimp only; split <;> simp

theorem ticked_rd64 (s : State) : s.ticked.rd64 A.TOP_UPTIME =
    if s.pow.released then (s.rd64 A.TOP_UPTIME + 1) % 2 ^ 64 else s.rd64 A.TOP_UPTIME := by
  unfold ticked; dsimp only; split
  · rw [rd64_bump_same]; rfl
  · rfl

end State

/-- A cycle's clock and UPTIME change beside what the cycle changes. -/
theorem frame_ticked (s : State) : Frame s s.ticked [.clk] (pairWords A.TOP_UPTIME) := by
  have hclk : Frame s { s with clk := s.clk + 1 } [.clk] (pairWords A.TOP_UPTIME) :=
    (Frame.refl ..).part .clk (by simp) (fun p hp => by cases p <;> simp_all [Part.same]) fun _ => rfl
  exact .ite (hclk.bump (.inl rfl) (.inr rfl)) hclk

theorem Idles.rd64_uptime (h : Idles s t) : t.rd64 A.TOP_UPTIME = s.rd64 A.TOP_UPTIME :=
  Frame.rd64 h (a := A.TOP_UPTIME) (by unfold pastTop; decide) (by unfold pastTop; decide)

/-- Settles O2: each part of a slow cycle keeps the parts that are not its own and the words of the TOP page, and the reactions
to the cycle's events leave the queue empty. -/
theorem emptyQueueRunsOneSlowCycle : Obligations.EmptyQueueRunsOneSlowCycle := by
  unfold Obligations.EmptyQueueRunsOneSlowCycle
  intro s hs
  have hstep : step s = .next s.slowCycle := by rw [step, hs]
  refine ⟨s.slowCycle, hstep, ?_⟩
  cases hon : s.pow.hotSwap with
  | false => exact ⟨by rw [State.slowCycle_off hon, hs], fun h => absurd h (by decide), fun _ => State.slowCycle_off hon⟩
  | true =>
    rw [State.slowCycle_on hon]
    generalize hv : s.bucketRefill.collectCycle = v
    have hrefill : Frame s v [.ports, .sw, .flt] pastTop := hv ▸ frame_beforeTick s
    have hpow : v.pow = s.pow := hrefill.1 .pow (by simp)
    have hbefore : Idles s v := hrefill.mono (by decide) fun _ h => h
    have hafter : Idles v.ticked v.ticked.timeCycle.cycled.sidCycle := (Idles.refl _).timeCycle.cycled.sidCycle
    have hout := State.getLast?_sidCycle v.ticked.timeCycle.cycled
    generalize v.ticked.timeCycle.cycled.sidCycle = u at hafter hout
    have hclk : u.clk = s.clk + 1 := by
      rw [show u.clk = v.ticked.clk from hafter.1 .clk (by decide), State.ticked_clk, show v.clk = s.clk from hbefore.1 .clk
          (by decide)]
    have huptime : u.rd64 A.TOP_UPTIME =
        if s.pow.released then (s.rd64 A.TOP_UPTIME + 1) % 2 ^ 64 else s.rd64 A.TOP_UPTIME := by
      rw [hafter.rd64_uptime, State.ticked_rd64, hbefore.rd64_uptime, hpow]
    have hframe : Frame s u (.clk :: cycleParts) fun _ => True :=
      ((hbefore.mono (by simp) fun _ _ => trivial).trans ((frame_ticked v).mono (by simp) fun _ _ => trivial)).trans
        (hafter.mono (by simp) fun _ _ => trivial)
    have hpending : u.reacted.drivePins.pending = [] := by
      have hreacted := congrArg Prod.fst (Stands.refl u).reacted
      exact hreacted.trans ((hframe.1 .pending (by decide)).trans hs)
    have hcons : u.cons = s.cons := hframe.1 .cons (by decide)
    refine ⟨hpending, fun _ => ⟨u, rfl, hclk, huptime, hout, by rw [hcons], hframe.mono (by decide) fun _ h => h⟩, fun h => ?_⟩
    exact absurd h (by decide)

end Sys2Proof.Machine
end
